-- ==== Sys2Proof/Word.lean ====
section
/-! DEFINITION. Bytes and the one representation of sparse tables. -/

namespace Sys2Proof

/-- A byte: of a message body, of a settings record, of memory. -/
abbrev Byte := BitVec 8

/-- A sparse table: (key, value) pairs with keys strictly rising. A key that is not listed holds the table's unlisted value,
which each table names where it is read. -/
abbrev Tbl (α : Type) := List (Nat × α)

end Sys2Proof
end

