-- ==== Sys2Proof/Syntax.lean ====
section
/-! DEFINITION. The commands that the module takes, whole: one constructor for each row of the opcode table, and the types of
their operands. -/

namespace Sys2Proof

/-- The picture format of a source or an output (R277 coding): width, height, scan, sampling, depth, rate code. -/
structure Format where
  width : Nat
  height : Nat
  scan : Nat
  sampling : Nat
  depth : Nat
  rate : Nat
  deriving DecidableEq, Repr

/-- What the origin of a crossing route and the devices on its path return for one remote take (R406): whether the source is an
ST 2110-22 flow, its nominal rate, whether its mode is `LINE`, whether it lies in the line window of the domain, whether the
origin has a read-out engine and an export stream for it, whether the other devices have made their reservations and the origin's conditions of R405
hold, the splice port the stream arrives on, its reservation in units of 0.1 Gb/s (R407), its stream number, the latency of its path in ns (R404), the links of
the path as pairs of a device and the port by which it leaves, and the source's format. -/
structure Remote where
  is22 : Bool
  rate : Option Nat
  lineMode : Bool
  inWindow : Bool
  readout : Bool
  granted : Bool
  port : Nat
  reserve : Nat
  stream : Nat
  latency : Nat
  path : List (Nat × Nat)
  format : Option Format
  deriving DecidableEq, Repr

/-- One source as measured at a tick against the ticking domain (R66): source index, whether it is frequency-locked, and its
lead in 1/16 line of the source format; with two paths up, that of the later path, and beside it that of the earlier one (R258: equal with one
path). -/
structure LeadFact where
  src : Nat
  locked : Bool
  lead : Int
  early : Int
  deriving DecidableEq, Repr

/-- An uncorrectable frame store error that a read has found (R133): the tile's column and the address of the error. -/
structure TileError where
  col : Nat
  addr : Nat
  deriving DecidableEq, Repr

/-- A tile of a layer: layer number, tile column and row at the level in use (R190). -/
structure LayerTile where
  layer : Nat
  col : Nat
  row : Nat
  deriving DecidableEq, Repr

/-- An uncorrectable frame store error that a composer's read has found (R133): the layer and its tile, and the error's address. -/
structure LayerError where
  layer : Nat
  col : Nat
  row : Nat
  addr : Nat
  deriving DecidableEq, Repr

/-- How a send's transmit time is inserted (R305): the position in the template, whether the field is a 10-byte PTP timestamp (else an
8-byte correctionField), and the ingress time in units of 2^−16 ns. -/
structure OneStep where
  pos : Nat
  timestamp : Bool
  ingress : Nat
  deriving DecidableEq, Repr

/-- A send that an engine hands to a MAC (R293), with the tag under which its completion is returned. -/
structure SendReq where
  tag : Nat
  template : List Byte
  segLen : Nat
  payload : List Byte
  segment : Bool
  seqPos : Nat
  seqSize : Nat
  offPos : Nat
  offSize : Nat
  launch : Option (Nat × Nat)
  queue : Fin 8
  tsTag : Option Nat
  oneStep : Option OneStep
  deriving DecidableEq, Repr

/-- A frame of a launch queue (R296): of a transmit flow, of an injection channel, or of a send that a host port's launch queue holds. -/
inductive Launch where
  | flow (id : Fin 4096)
  | injected (channel : Fin 8)
  | queued (port : Fin 18) (breakout : Fin 8)
  deriving DecidableEq, Repr

/-- A sample set extracted from the embedded audio of an SDI source (R233): one word for each embedded channel. -/
structure SdiAudio where
  src : Nat
  words : List Nat
  deriving DecidableEq, Repr

/-- What a measurement finds of a reference entry (R350, R362): its offset against LO_CLK over the preceding second in 0.01 ppb, and its phase after the
DPLL output in 1/27 ns when a valid comparison was made. -/
structure RefFact where
  entry : Fin 8
  offset : Int
  phase : Option Int
  deriving DecidableEq, Repr

/-- The header of a PTP message that arrives (R384): whether on `PORT_B`, domain, sourcePortIdentity (clockIdentity × 65536 + port number), sequenceId,
logMessageInterval, correctionField in 2^-16 ns. -/
structure PtpMsg where
  portB : Bool
  domain : Nat
  source : Nat
  seq : Nat
  log : Int
  correction : Int
  deriving DecidableEq, Repr

/-- The data set of an Announce (R384): priority1, clockClass, clockAccuracy, offsetScaledLogVariance, priority2, grandmaster clockIdentity, stepsRemoved,
currentUtcOffset. -/
structure Announce where
  prio1 : Nat
  cls : Nat
  accuracy : Nat
  variance : Nat
  prio2 : Nat
  gm : Nat
  steps : Nat
  utc : Int
  deriving DecidableEq, Repr

/-- A splice port that is up, as a link-state cell names it (R395): port, neighbour, step, cable delay in ns. -/
structure LinkPort where
  port : Nat
  neighbour : Nat
  step : Nat
  delay : Nat
  deriving DecidableEq, Repr

/-- What a link-state cell says of a device (R395): device ID, rank, `TICK_MASTER_EN`, alignment epoch, ports that are up. -/
structure LinkState where
  id : Nat
  rank : Nat
  eligible : Bool
  epoch : Nat
  ports : List LinkPort
  deriving DecidableEq, Repr

/-- A route that a mirror carries (R421): destination, level, source and origin device (none: no route). -/
structure MirrorRoute where
  dst : Nat
  level : Nat
  src : Option (Nat × Option Nat)
  deriving DecidableEq, Repr

/-- What a control, link-state or mirror cell says (R395, R406, R412, R418, R421, R422); the layout of these payloads is the splice protocol's own (R400).
`ticks`: the device time of the master's tick of each domain, seconds and nanoseconds. `exportAsk`: an importer asks the origin for source `src` in domain `td`,
with its rate code, budget and epoch, over the origin's port `out`; `exportRelease` ends it. `relayAsk`: a stream of `origin` is to pass from one port to
another; `relayRelease` ends it. `mirrored`: a request that the active device has accepted, named by its session slot and number. `mirrorAck`: the acknowledgement of one.
`mirrorState`: the routes, highest take identifier, and the settings, layouts and queued takes as the messages that made them. `mirrorDone`: the standby has taken
that state. `handover`: a planned handover is asked for. -/
inductive CellNews where
  | nothing
  | linkState (s : LinkState)
  | ticks (l : List (Fin 4 × Nat × Nat))
  | rejoin
  | exportAsk (importer src : Nat) (td : Fin 4) (rate budget epoch out : Nat)
  | exportRelease (importer src : Nat) (td : Fin 4)
  | relayAsk (origin stream inPort outPort reserve : Nat)
  | relayRelease (origin stream : Nat)
  | mirrored (slot seq msgType : Nat) (body : List Byte)
  | mirrorAck (slot seq : Nat)
  | mirrorState (routes : List MirrorRoute) (takeId : Nat) (messages : List (Nat × List Byte))
  | mirrorDone
  | handover
  deriving DecidableEq, Repr

/-- A message of the splice PTP channel (R387, R388): Sync and Delay_Req (event messages) and the rest, with sequence number, origin or receive time and
correctionField in 2^-16 ns. `delay` is the outcome of the delay exchange with the neighbour in ns (R401). -/
inductive SplicePtp where
  | sync (seq sec ns : Nat) (correction : Int)
  | delayReq (dev seq : Nat) (correction : Int)
  | followUp (seq sec ns : Nat) (correction : Int)
  | delayResp (dev seq sec ns : Nat) (correction : Int)
  | pdelay
  | delay (ns : Nat)
  deriving DecidableEq, Repr

/-- What flow watch has measured of a source in an interval at the physical layer (R442): the peaks of CINST and VRX over both paths and their verdict (0 narrow, 1
narrow-linear, 2 wide, 3 none), SDI line CRC errors, TRS errors, EDH errors, ST 352 mismatches, ancillary checksum errors. -/
structure WatchFact where
  src : Fin 1024
  cinst : Nat
  vrx : Nat
  verdict : Fin 4
  lineCrc : Nat
  trs : Nat
  edh : Nat
  st352 : Nat
  anc : Nat
  deriving DecidableEq, Repr

/-- What the replay domain has computed of a watched output in a frame (R479): its index, its video check value (of a composer: a destination's follows from
its record), its audio check value, and whether a composer's layers are all recorded on the same path. -/
structure ReplayFact where
  index : Nat
  video : Nat
  audio : Nat
  covered : Bool
  deriving DecidableEq, Repr

/-- A drive link as the device finds it when the store starts (R457 to R459): link, whether its drive meets the limits, the store of its label, the whole extents
that its drive gives, negotiated width and generation. -/
structure DriveFact where
  link : Nat
  meets : Bool
  label : Option Nat
  extents : Nat
  width : Nat
  gen : Nat
  deriving DecidableEq, Repr

/-- How the trial of an activation ends (R605 to R608): whether every image that is started passes R38; of a new firmware that converts the settings, the converted body and
whether it could be written; a section, with its code, that the new firmware fails though this device's own checks pass; whether a step has run past its limit; and the
program of the journal commit that fails (1 or 2; 0 for none). -/
structure Trial where
  images : Bool
  converted : Option (List Byte × Bool)
  refuses : Option (Nat × Nat)
  late : Bool
  journalFails : Fin 3
  deriving DecidableEq, Repr

/-- What an uncorrectable error has struck (R135, R560, R561).
`lineShare`: the share of a bank in a line of a slot: source, domain, line, the samples it holds. `layerPixels`: pixels of a layer in an output line: composer, layer, line,
first pixel, number. `occlusionMap`: that of a composer. `rxPacket`: a received packet, before it is matched. `ringPacket`: a packet in the ring of a receive flow, by number.
`txFrame`: a frame queued on a breakout, by place. `audioRx`: a sample of a receive flow: timestamp, channel. `audioFifo`: a sample of an SDI source's FIFO: frame, channel.
`watch`: the accumulator of a source. `flowEntry`, `audioEntry`: one or both copies of a flow (transmit or receive) or position (destination or source). `route`, `queueEntry`: a
word of the route table or take queue, with or without two copies that agree. `records`: records of the event ring or the commit buffer, by number. `core`: code or
data of M1 to M4, or of the micro-sequencer of a block (0x80 + block ID). `lamplighter`: its code or data. `storeSystem`: a system region of the frame store outside tile
metadata, at an address. -/
inductive SramHit where
  | lineShare (src td line : Nat) (cols : List Nat)
  | layerPixels (cmp layer line x n : Nat)
  | occlusionMap (cmp : Nat)
  | rxPacket
  | ringPacket (flow idx : Nat)
  | txFrame (port breakout place : Nat)
  | audioRx (flow ts ch : Nat)
  | audioFifo (src frame ch : Nat)
  | watch (src : Nat)
  | flowEntry (tx : Bool) (flow : Nat) (both : Bool)
  | audioEntry (dst : Bool) (pos : Nat) (both : Bool)
  | route (dst lvl : Nat) (lost : Bool)
  | queueEntry (id dst : Nat) (lost : Bool)
  | records (seqs : List Nat)
  | core (processor : Nat)
  | lamplighter
  | storeSystem (addr : Nat)
  deriving DecidableEq, Repr

/-- How the archive batch that M6 writes ends (R584, R586): written; its program fails; the erasure that keeps the next sector erased fails; or
the supply hold cuts it off after a number of its pages. -/
inductive BatchEnd where
  | written
  | programFailed
  | eraseFailed
  | cut (pages : Nat)
  deriving DecidableEq, Repr

/-- What a counter of the silicon has gained by the time a register of its block is read: single errors that the ECC of an on-chip SRAM partition has corrected (R22, class 0 of
R558), or that of the frame store (R133); or the bits that the PRBS checker of a lane has compared and found in error, and its restarts (R337). -/
inductive Gain where
  | corrected (part : Fin 5) (n : Nat)
  | store (n : Nat)
  | prbs (lane : Fin 216) (bits errors resyncs : Nat)
  deriving DecidableEq, Repr

/-- What the bus shows at one entry of the register window, or at one transaction: the target answers with an error (R632, R633); it does not complete
in time (R624), and whether a write then took effect all the same; the word read of a PCIe target, or of the frame store where a surface of the device
stands, whose code is internal to the device (R116); and what counters of the silicon have gained by the time a register is read. -/
structure BusFact where
  fails : Bool
  late : Bool
  tookEffect : Bool
  data : Option Nat
  gains : List Gain
  deriving DecidableEq, Repr
/-- The commands of the module: one constructor for each row of the table of operations and events. The first operand `t`
is the instant at which the command comes about, in units of 1/27 ns since power was applied. -/
inductive Instr where
  /-- REGISTER_WRITE (R7). The fabric master that writes, the session slot for which M7 does, the register's address and the word written. -/
  | registerWrite (t : Nat) (master : Fin 9) (slot : Fin 16) (reg value : BitVec 32)
  /-- POWER_ON (R489). Power has been absent; the reset cause ends when every rail has been within its limits for 10 ms. -/
  | powerOn (t : Nat)
  /-- RESET_PIN (R489). Whether RESET_N falls (and stays low for at least 10 µs) or rises. -/
  | resetPin (t : Nat) (low : Bool)
  /-- COLD_RESET (R517). The key written with `BOOT.CTRL.COLD_RESET`. -/
  | coldReset (t : Nat) (key : Fin 65536)
  /-- RESET_RELEASE (R489). Whether RECOVERY_N is low, whether LO_CLK is found, and the settings banks (0 A, 1 B) of which a flash read does not complete. -/
  | resetRelease (t : Nat) (recoveryLow lo : Bool) (fails : List (Fin 2))
  /-- LO_CLK_PRESENT (R510). The settings banks of which a flash read does not complete. -/
  | loClkPresent (t : Nat) (fails : List (Fin 2))
  /-- PILOT_SERVICE_START (R507). The firmware banks (0 A, 1 B) of which a flash read does not complete. -/
  | pilotServiceStart (t : Nat) (fails : List (Fin 2))
  /-- FRAME_STORE_TRAINING_DONE (R137). The channels that failed training, one bit each; 0 when every channel is trained. -/
  | frameStoreTrainingDone (t : Nat) (fail : Nat)
  /-- FULL_SERVICE_START (R508). Instant F. -/
  | fullServiceStart (t : Nat)
  /-- FIRST_TICK_OF_FULL_SERVICE (R508). Domain, what the reservation exchanges of its held remote takes have returned, in acceptance order, and for TD0 the drives found. -/
  | firstTickOfFullService (t : Nat) (td : Fin 4) (facts : List Remote) (drives : List DriveFact)
  /-- BOOT_LATE (R509). F has not come 4 s after reset release. -/
  | bootLate (t : Nat)
  /-- PILOT_ONLY_SERVICE (R509). The frame store has failed training, or F has not come 10 s after reset release. -/
  | pilotOnlyService (t : Nat)
  /-- FRAME_TICK (R673). Domain, sources as measured against it (R66), the tick minus the origin of a pulse, SDI or PTP entry in 1/27 ns, players whose frame is not in staging (R476), and whether the SYNC and CMP jobs finish by their deadlines (R60). -/
  | frameTick (t : Nat) (td : Fin 4) (leads : List LeadFact) (origin : Option Int) (late : List (Fin 32)) (syncInTime cmpInTime : Bool)
  /-- DOMAIN_ALIGNMENT (R50). Domain, and the sequence position of the frame that begins at the aligned tick, as a REFP entry with FIVE or the master's TD0 marks it (R53). -/
  | domainAlignment (t : Nat) (td : Fin 4) (mark : Fin 5)
  /-- TAKE_JOB_OPEN (R60). Domain. -/
  | takeJobOpen (t : Nat) (td : Fin 4)
  /-- JOB_DEADLINE (R62). Domain, class code of the job (R60), and its lateness past the deadline in ns. -/
  | jobDeadline (t : Nat) (td : Fin 4) (job : Fin 6) (late : Nat)
  /-- OCCL_JOB (R190). Domain. -/
  | occlJob (t : Nat) (td : Fin 4)
  /-- COMPOSE_FRAME (R179). Composer, the layer tiles that have not arrived in time, the errors corrected and the uncorrectable ones that its reads have found, and the stored bytes fetched. -/
  | composeFrame (t : Nat) (cmp : Fin 32) (late : List LayerTile) (corrected : Nat) (errors : List LayerError) (stored : Nat)
  /-- SWITCH_POINT (R90). The destination whose switch point it is, and the domain whose timing it is a switch point of: its own, or the one a change gives it (R675). -/
  | switchPoint (t : Nat) (dst : Fin 1568) (td : Fin 4)
  /-- SOURCE_LOST (R98). Source. -/
  | sourceLost (t : Nat) (src : Fin 1120)
  /-- HOUSE_SAMPLE_TICK (R53). Sample sets that SDI sources have delivered since the tick before, and the words of the source positions that the device's own clocks sample (master ports, PDM). -/
  | houseSampleTick (t : Nat) (sdi : List SdiAudio) (given : List (Fin 16384 × Nat))
  /-- SLOT_FRAME_BOUNDARY (R55). The owner codes whose work of the slot frame is not finished, how late in ns, and the records that abandoned work of `STAGE` loses, by capture channel. -/
  | slotFrameBoundary (t : Nat) (late : List (Fin 5)) (lateNs : Nat) (lost : List (Fin 32 × Nat))
  /-- TABLE_SWAP (R152). The first boundary gap after a request. -/
  | tableSwap (t : Nat)
  /-- ARB_SWAP (R152). A write of 1 to `ARB.CTRL.SWAP`. -/
  | arbSwap (t : Nat)
  /-- ARB_HOST_TBL (R157). The value written to `ARB.CTRL.HOST_TBL`. -/
  | arbHostTbl (t : Nat) (value : Bool)
  /-- ARB_CLR_CNT (R172). A write of 1 to `ARB.CTRL.CLR_CNT`. -/
  | arbClrCnt (t : Nat)
  /-- ARB_QUAR_CLEAR (R166). The bits written as 1 to `ARB.QUAR`. -/
  | arbQuarClear (t : Nat) (mask : Fin 64)
  /-- BE_REQUEST (R160). Channel, client, leaf, beats asked for, whether as a locked sequence, whether a write. -/
  | beRequest (t : Nat) (ch : Fin 64) (client : Fin 6) (leaf : Fin 32) (beats : Nat) (lock write : Bool)
  /-- ARBITER_DECISION (R162). Channel, slot of the slot frame, and the real-time owners with work ready. -/
  | arbiterDecision (t : Nat) (ch : Fin 64) (slot : Fin 18304) (ready : List (Fin 5))
  /-- BACKOFF_EXPIRY (R163). Channel and client. -/
  | backoffExpiry (t : Nat) (ch : Fin 64) (client : Fin 6)
  /-- CREDIT_REFILL (R161). The start of an arbitration window. -/
  | creditRefill (t : Nat)
  /-- HOG_CUT (R166). The channel whose grant reaches the hog limit. -/
  | hogCut (t : Nat) (ch : Fin 64)
  /-- LINE_WRITE (R253). Source, line number of its raster, the line's active samples (none for a line of vertical blanking), its ancillary packets, and whether the RTP marker ends the frame or field with it. -/
  | lineWrite (t : Nat) (src : Fin 1024) (line : Nat) (samples : List Nat) (anc : List (List Nat)) (marker : Bool)
  /-- READOUT_LINE (R131). Pair, line, the single-bit errors corrected and the uncorrectable errors that the read has found, and whether the line's side data came late. -/
  | readoutLine (t : Nat) (src : Fin 1120) (td : Fin 4) (line : Nat) (corrected : Nat) (errors : List TileError) (sideLate : Bool)
  /-- LINE_SLOT_READ (R33). Destination, and the line of its raster that it sends. -/
  | lineSlotRead (t : Nat) (dst : Fin 1568) (line : Nat)
  /-- SCRUB_PASS (R136). The errors that the pass has corrected and found. -/
  | scrubPass (t : Nat) (corrected : Nat) (errors : List TileError)
  /-- FST_CLR_CNT (R141). A write of 1 to `FST.CTRL.CLR_CNT`. -/
  | fstClrCnt (t : Nat)
  /-- XPT_CLR_CNT (R108). A write of 1 to `XPT.CTRL.CLR_CNT`. -/
  | xptClrCnt (t : Nat)
  /-- TICK_CLR_OVR (R70). -/
  | tickClrOvr (t : Nat)
  /-- CMP_CLR_CNT (R212). A write of 1 to `CMP.CTRL.CLR_CNT`. -/
  | cmpClrCnt (t : Nat)
  /-- SURFACE_SWAP (R205). Surface whose buffers swap at a CMP job of its composer. -/
  | surfaceSwap (t : Nat) (surface : Fin 1024)
  /-- PORT_CLOCK_STOP (R239). Port of R243. -/
  | portClockStop (t : Nat) (port : Fin 12)
  /-- PORT_CLOCK_WINDOW (R239). Port of R243 and the sample rate of the 10 ms window in 0.1 Hz. -/
  | portClockWindow (t : Nat) (port : Fin 12) (rate : Nat)
  /-- PORT_RATE_MEASUREMENT (R238). Port of R243 and the rate measured over 1 s in 0.1 Hz. -/
  | portRateMeasurement (t : Nat) (port : Fin 12) (rate : Nat)
  /-- AUD_CLR_CNT (R245). A write of 1 to `AUD.CTRL.CLR_CNT`. -/
  | audClrCnt (t : Nat)
  /-- RECEIVE_FRAME (R291). Port, breakout, the frame from its destination address to its FCS, whether the FCS is right, whether the receive buffer has no room for it, the bytes that a host port's receive buffer holds, the format that a kind 5 flow's reassembled stream tells, and the deep analysers whose record buffers are full. -/
  | receiveFrame (t : Nat) (port : Fin 18) (breakout : Fin 8) (bytes : List Byte) (fcsOk : Bool) (bufferFull : Bool) (fill : Nat) (learnt : Option Format) (deepFull : List (Fin 8))
  /-- SSRC_ADOPTION (R251). Receive flow. -/
  | ssrcAdoption (t : Nat) (flow : Fin 4096)
  /-- PATH_DOWN (R257). Receive flow, and whether it is path B. -/
  | pathDown (t : Nat) (flow : Fin 4096) (pathB : Bool)
  /-- SKEW_MEASUREMENT (R259). Receive flow. -/
  | skewMeasurement (t : Nat) (flow : Fin 4096)
  /-- PACKET_LAUNCH (R263). Whose frame starts. -/
  | packetLaunch (t : Nat) (what : Launch)
  /-- PASS_THROUGH_FORWARD (R268). Transmit flow. -/
  | passThroughForward (t : Nat) (flow : Fin 4096)
  /-- MEMBERSHIP_REPORT (R274). The media breakout whose waiting reports are sent. -/
  | membershipReport (t : Nat) (port : Fin 16) (breakout : Fin 8)
  /-- PMI_CLR_CNT (R280). A write of 1 to `PMI.CTRL.CLR_CNT`. -/
  | pmiClrCnt (t : Nat)
  /-- PMO_CLR_CNT (R282). A write of 1 to `PMO.CTRL.CLR_CNT`. -/
  | pmoClrCnt (t : Nat)
  /-- SEND (R293). Port, breakout and the send of R293. -/
  | send (t : Nat) (port : Fin 18) (breakout : Fin 8) (req : SendReq)
  /-- TRANSMIT_FRAME_START (R297). Port and breakout that are free, and the launch time (in units) of the first packet of a flow or injection channel that waits there. -/
  | transmitFrameStart (t : Nat) (port : Fin 18) (breakout : Fin 8) (first : Option Nat)
  /-- SEND_COMPLETION (R295). Port and breakout. -/
  | sendCompletion (t : Nat) (port : Fin 18) (breakout : Fin 8)
  /-- MAC_TX_UNDERRUN (R303). Port and breakout whose frame in progress runs dry. -/
  | macTxUnderrun (t : Nat) (port : Fin 18) (breakout : Fin 8)
  /-- LINK_DOWN (R285). Port and breakout. -/
  | linkDown (t : Nat) (port : Fin 18) (breakout : Fin 8)
  /-- LINK_UP (R326). Port and breakout. -/
  | linkUp (t : Nat) (port : Fin 18) (breakout : Fin 8)
  /-- PAUSE_EXPIRY (R302). Port, breakout, and the pause kind: 0 to 7 a priority, 8 802.3x. -/
  | pauseExpiry (t : Nat) (port : Fin 18) (breakout : Fin 8) (kind : Fin 9)
  /-- PAUSE_WATCHDOG (R302). Host port and pause kind. -/
  | pauseWatchdog (t : Nat) (port : Fin 18) (kind : Fin 9)
  /-- PAUSE_IGNORE_END (R302). Host port and pause kind. -/
  | pauseIgnoreEnd (t : Nat) (port : Fin 18) (kind : Fin 9)
  /-- PAUSE_REPEAT (R301). Host port and the bytes in its receive buffer. -/
  | pauseRepeat (t : Nat) (port : Fin 18) (fill : Nat)
  /-- GCL_SWAP (R299). A write of 1 to `MAC.CTRL.GCL_SWAP`. -/
  | gclSwap (t : Nat)
  /-- GATE_SCHEDULE_SWAP (R299). Media port and breakout at a slot frame boundary. -/
  | gateScheduleSwap (t : Nat) (port : Fin 16) (breakout : Fin 8)
  /-- TS_CAP_TAG_READ (R304). A read of `MAC.TS_CAP_TAG`. -/
  | tsCapTagRead (t : Nat)
  /-- MAC_CLR_CNT (R310). A write of 1 to `MAC.CTRL.CLR_CNT`. -/
  | macClrCnt (t : Nat)
  /-- SIGNAL_DETECT (R317). Lane whose signal detection changes, and whether the signal rises. -/
  | signalDetect (t : Nat) (lane : Fin 216) (rise : Bool)
  /-- SDI_SEARCH_STEP (R317). SDI lane. -/
  | sdiSearchStep (t : Nat) (lane : Fin 64)
  /-- SDI_EAV (R318). SDI lane, words since the EAV sequence before, the ST 352 identifier read since then (format, link number minus 1), the format that the raster tells, and on the first lane of a group the skew in ns measured over the frame that ends. -/
  | sdiEav (t : Nat) (lane : Fin 64) (words : Nat) (ident : Option (Format × Fin 4)) (raster : Option Format) (skew : Option Nat)
  /-- SDI_RATE_MEASURE (R318). SDI lane and its offset from the family's integer rate in 0.01 ppm. -/
  | sdiRateMeasure (t : Nat) (lane : Fin 64) (offset : Int)
  /-- SDI_LOCK_LOST (R319). SDI lane, and whether its clock and data recovery has lost lock (else eight EAV sequences are missing). -/
  | sdiLockLost (t : Nat) (lane : Fin 64) (cdr : Bool)
  /-- LANE_START (R326). A lane that leaves DEEP; the lanes of its breakout or splice port start with it. -/
  | laneStart (t : Nat) (lane : Fin 216)
  /-- TRAINING_TIMEOUT (R325). Lane whose far end takes no part in training. -/
  | trainingTimeout (t : Nat) (lane : Fin 152)
  /-- LINK_START_TIMEOUT (R327). Port and breakout. -/
  | linkStartTimeout (t : Nat) (port : Fin 18) (breakout : Fin 8)
  /-- ALIGNMENT_LOSS (R327). Port and breakout whose PCS loses alignment. -/
  | alignmentLoss (t : Nat) (port : Fin 18) (breakout : Fin 8)
  /-- RETRAIN_TIMEOUT (R327). Port and breakout. -/
  | retrainTimeout (t : Nat) (port : Fin 18) (breakout : Fin 8)
  /-- RETRAIN (R327). A write of 1 to `LNE.L_CTRL.RETRAIN`. -/
  | retrain (t : Nat)
  /-- WORD_BOUNDARY_TIMEOUT (R329). Splice port and lane of it. -/
  | wordBoundaryTimeout (t : Nat) (port : Fin 8) (k : Fin 2)
  /-- STEP_CHANGE (R330). Splice port. -/
  | stepChange (t : Nat) (port : Fin 8)
  /-- LANE_STEP_CHECK (R330). Splice port, and whether the lane that changes has passed. -/
  | laneStepCheck (t : Nat) (port : Fin 8) (pass : Bool)
  /-- STEP_BAR_EXPIRY (R330). Splice port. -/
  | stepBarExpiry (t : Nat) (port : Fin 8)
  /-- LANE_STATE_TRANSITION_DONE (R333). Lane. -/
  | laneStateTransitionDone (t : Nat) (lane : Fin 216)
  /-- SLIP (R336). A write of 1 to `LNE.L_CTRL.SLIP`. -/
  | slip (t : Nat)
  /-- RAW_CAP (R335). A write of 1 to `LNE.L_CTRL.RAW_CAP`. -/
  | rawCap (t : Nat)
  /-- RAW_CAPTURE_DONE (R335). Lane and the 4,096 words received, before the inversion of R313. -/
  | rawCaptureDone (t : Nat) (lane : Fin 216) (words : List (BitVec 32))
  /-- RAW_DATA_READ (R343). A read of `LNE.L_RAW_DATA`. -/
  | rawDataRead (t : Nat)
  /-- ERR_INJ (R337). A write of 1 to `LNE.L_CTRL.ERR_INJ`. -/
  | errInj (t : Nat)
  /-- EYE_SCAN_START (R338). A write of 1 to `LNE.L_EYE_CTRL.START`. -/
  | eyeScanStart (t : Nat)
  /-- EYE_SCAN_DONE (R338). Lane and the errors counted. -/
  | eyeScanDone (t : Nat) (lane : Fin 216) (errors : Nat)
  /-- LNE_CLR_CNT (R343). A write of 1 to `LNE.CTRL.CLR_CNT`. -/
  | lneClrCnt (t : Nat)
  /-- REF_LO_LOST (R567). LO_CLK has had no edge for 10 µs. -/
  | refLoLost (t : Nat)
  /-- LO_CLK_RECOVERED (R567). LO_CLK has been present for 1 s after its loss. -/
  | loClkRecovered (t : Nat)
  /-- REFERENCE_MEASUREMENT (R350). What is measured of each entry with a signal; the frequency the loop asks of the DPLL output, in 0.01 ppb; the phase error against the selected entry in ns. -/
  | referenceMeasurement (t : Nat) (facts : List RefFact) (freq : Int) (phase : Int)
  /-- QUALIFICATION_TIMER_EXPIRY (R352). Entry. -/
  | qualificationTimerExpiry (t : Nat) (entry : Fin 8)
  /-- HOLDOFF_TIMER_EXPIRY (R352). Entry. -/
  | holdoffTimerExpiry (t : Nat) (entry : Fin 8)
  /-- SELECTION_DECISION (R353). No operand. -/
  | selectionDecision (t : Nat)
  /-- REFERENCE_LOSS (R351). Entry whose input is lost. -/
  | referenceLoss (t : Nat) (entry : Fin 8)
  /-- REFERENCE_GLITCH (R351). Entry. -/
  | referenceGlitch (t : Nat) (entry : Fin 8)
  /-- DPLL_LOCK (R358). No operand. -/
  | dpllLock (t : Nat)
  /-- HISTORY_AVERAGE (R360). The output frequency averaged over the second that ends, in 0.01 ppb. -/
  | historyAverage (t : Nat) (average : Int)
  /-- FORCE_HOLD (R364). The value written to `FORCE_HOLD`. -/
  | forceHold (t : Nat) (on : Bool)
  /-- REFS_CLR_CNT (R371). A write of 1 to `REFS.CTRL.CLR_CNT`. -/
  | refsClrCnt (t : Nat)
  /-- FRAME_PULSE (R365). Frame pulse output. -/
  | framePulse (t : Nat) (output : Fin 4)
  /-- PPS_PULSE (R345). Entry of type PPS_A or PPS_B whose pulse arrives. -/
  | ppsPulse (t : Nat) (entry : Fin 8)
  /-- PTP_SYNC (R377). The message and its origin timestamp. -/
  | ptpSync (t : Nat) (m : PtpMsg) (twoStep : Bool) (sec : Nat) (ns : Nat)
  /-- PTP_FOLLOW_UP (R384). The message and its precise origin timestamp. -/
  | ptpFollowUp (t : Nat) (m : PtpMsg) (sec : Nat) (ns : Nat)
  /-- PTP_ANNOUNCE (R384). The message and its data set. -/
  | ptpAnnounce (t : Nat) (m : PtpMsg) (a : Announce)
  /-- PTP_DELAY_RESP (R385). The message (with the number of the Delay_Req it answers) and its receive timestamp. -/
  | ptpDelayResp (t : Nat) (m : PtpMsg) (sec : Nat) (ns : Nat)
  /-- DELAY_REQ_SEND (R384). No operand. -/
  | delayReqSend (t : Nat)
  /-- ANNOUNCE_RECEIPT_TIMEOUT (R384). No operand. -/
  | announceReceiptTimeout (t : Nat)
  /-- MEASUREMENT_TIMEOUT (R377). No operand. -/
  | measurementTimeout (t : Nat)
  /-- STEP_AUTH (R380). Session slot and the body of the `TIME` request with form `STEP`. -/
  | stepAuth (t : Nat) (slot : Fin 16) (body : List Byte)
  /-- SET_TIME (R380). Session slot and the body of the `TIME` request with form `SET`. -/
  | setTime (t : Nat) (slot : Fin 16) (body : List Byte)
  /-- PTP_CLR_CNT (R392). A write of 1 to `PTP.CTRL.CLR_CNT`. -/
  | ptpClrCnt (t : Nat)
  /-- LINK_STATE_CELL_SEND (R395). Every 100 µs. -/
  | linkStateCellSend (t : Nat)
  /-- CELL_RECEIVED (R398). Splice port, the cell's 256 bytes, whether its FEC codewords could be corrected, and what the payload of a control, link-state or mirror cell says. -/
  | cellReceived (t : Nat) (port : Fin 8) (bytes : List Byte) (fecOk : Bool) (news : CellNews)
  /-- SPLICE_PTP_CELL (R388). Splice port, the message, and the time in ns from its ingress stamp to its egress stamp. -/
  | splicePtpCell (t : Nat) (port : Fin 8) (msg : SplicePtp) (residence : Nat)
  /-- SPLICE_PORT_IN_SERVICE (R395). Splice port, the neighbour's device ID and its protocol version. -/
  | splicePortInService (t : Nat) (port : Fin 8) (neighbour : Fin 4096) (proto : Fin 256)
  /-- SPLICE_PORT_OUT_OF_SERVICE (R395). Splice port, and whether a lane has stopped carrying cells (else link-state cells of the neighbour are missing). -/
  | splicePortOutOfService (t : Nat) (port : Fin 8) (lane : Bool)
  /-- TICK_MASTER_ELECTION (R410). 2 ms after a topology change. -/
  | tickMasterElection (t : Nat)
  /-- RESERVATION_EXCHANGE_DONE (R406). The session whose take awaits the exchange (16: the exchange for the severed routes of a rejoin), and what the origin and the path returned for each remote take, in order. -/
  | reservationExchangeDone (t : Nat) (slot : Fin 17) (facts : List Remote)
  /-- RESERVATION_EXCHANGE_TIMEOUT (R406). The session whose take awaits the exchange (16: that of a rejoin). -/
  | reservationExchangeTimeout (t : Nat) (slot : Fin 17)
  /-- STEP_DOWN_TIMER (R409). Splice port. -/
  | stepDownTimer (t : Nat) (port : Fin 8)
  /-- TWIN_ROLE_DECISION (R420). Whether TWIN_ACT is asserted by the other device. -/
  | twinRoleDecision (t : Nat) (actIn : Bool)
  /-- MIRROR_ACK_TIMEOUT (R421). 50 µs after the mirror cells of a request. -/
  | mirrorAckTimeout (t : Nat)
  /-- TWIN_ACT_RELEASE (R422). TWIN_ACT rises. -/
  | twinActRelease (t : Nat)
  /-- TWIN_HANDOVER (R422). A TD0 tick. -/
  | twinHandover (t : Nat)
  /-- SPL_CLR_CNT (R430). A write of 1 to `SPL.CTRL.CLR_CNT`. -/
  | splClrCnt (t : Nat)
  /-- FLOW_WATCH_INTERVAL_CLOSE (R441). What the taps have measured of sources in the interval, and the channel status CRC errors of source positions. -/
  | flowWatchIntervalClose (t : Nat) (facts : List WatchFact) (cs : List (Fin 16384 × Nat))
  /-- SILENCE_DETECTED (R443). Source position. -/
  | silenceDetected (t : Nat) (pos : Fin 16384)
  /-- DEEP_START (R447). A write of 1 to `FWA.D_CFG.START` of an analyser. -/
  | deepStart (t : Nat) (ana : Fin 8)
  /-- DEEP_STOP (R447). A write of 1 to `FWA.D_CFG.STOP` of an analyser. -/
  | deepStop (t : Nat) (ana : Fin 8)
  /-- FWA_CLR_CNT (R454). A write of 1 to `FWA.CTRL.CLR_CNT`. -/
  | fwaClrCnt (t : Nat)
  /-- GEN_CLR_CNT (R453). A write of 1 to `GEN.CTRL.CLR_CNT`. -/
  | genClrCnt (t : Nat)
  /-- ARM (R481). Session slot and the `CAPTURE` body of R549, `OP` 1; a body whose `OP` the table does not list is answered here. -/
  | arm (t : Nat) (slot : Fin 16) (body : List Byte)
  /-- TRIGGER (R466). Session slot and the `CAPTURE` body, `OP` 2. -/
  | trigger (t : Nat) (slot : Fin 16) (body : List Byte)
  /-- STOP (R467). Session slot and the `CAPTURE` body, `OP` 3. -/
  | stop (t : Nat) (slot : Fin 16) (body : List Byte)
  /-- DELETE (R482). Session slot and the `CAPTURE` body, `OP` 4. -/
  | delete (t : Nat) (slot : Fin 16) (body : List Byte)
  /-- FORMAT (R459). Session slot and the `CAPTURE` body, `OP` 5. -/
  | format (t : Nat) (slot : Fin 16) (body : List Byte)
  /-- FORMAT_DONE (R459). The labels and the empty catalogue stand on every enabled drive that answers. -/
  | formatDone (t : Nat)
  /-- PLAY (R474). Session slot and the `CAPTURE` body, `OP` 6. -/
  | play (t : Nat) (slot : Fin 16) (body : List Byte)
  /-- PAUSE (R476). Session slot and the `CAPTURE` body, `OP` 7 with `CTL` 1. -/
  | pause (t : Nat) (slot : Fin 16) (body : List Byte)
  /-- RESUME (R476). Session slot and the `CAPTURE` body, `OP` 7 with `CTL` 2. -/
  | resume (t : Nat) (slot : Fin 16) (body : List Byte)
  /-- STOP_PLAYER (R476). Session slot and the `CAPTURE` body, `OP` 7 with `CTL` 3; any other `CTL` is answered here. -/
  | stopPlayer (t : Nat) (slot : Fin 16) (body : List Byte)
  /-- REPLAY (R477). Session slot and the `CAPTURE` body, `OP` 8. -/
  | replay (t : Nat) (slot : Fin 16) (body : List Byte)
  /-- REPLAY_TICK (R479). What the replay domain has computed for watched outputs in the frame that is complete. -/
  | replayTick (t : Nat) (facts : List ReplayFact)
  /-- CAP_TRIG_EDGE (R466). Whether the pulse of CAP_TRIG begins with its falling edge. -/
  | capTrigEdge (t : Nat) (falling : Bool)
  /-- POST_TRIGGER_END (R467). Set. -/
  | postTriggerEnd (t : Nat) (set : Fin 256)
  /-- CAPTURE_COMMIT (R468). Set. -/
  | captureCommit (t : Nat) (set : Fin 256)
  /-- GAP_RECORD_WRITE (R473). Set, channel, and the number of the record in its staging buffer in which a read has found an uncorrectable error (none: room has returned). -/
  | gapRecordWrite (t : Nat) (set : Fin 256) (ch : Fin 32) (bad : Option Nat)
  /-- NVME_COMPLETION (R457). Drive link, status of the command (0: success), and how many staged records of which channel its data were. -/
  | nvmeCompletion (t : Nat) (link : Fin 4) (status : Fin 65536) (set : Fin 256) (ch : Fin 32) (n : Nat)
  /-- DRIVE_FAILURE (R473). Drive link, reason of R672, status of the last failed command, and the records lost by channel with a write that failed after its retries. -/
  | driveFailure (t : Nat) (link : Fin 4) (reason : Fin 16) (status : Fin 65536) (lost : List (Fin 32 × Nat))
  /-- CAP_CLR_CNT (R487). A write of 1 to `CAP.CTRL.CLR_CNT`. -/
  | capClrCnt (t : Nat)
  /-- OPEN (R525). The host port that the datagram arrives on (0 HPA, 1 HPB), its source address and UDP port, its UDP payload, and the session identifier and device nonce that the device draws if it accepts. -/
  | openSession (t : Nat) (port : Fin 2) (ipv6 : Bool) (addr udpPort : Nat) (bytes : List Byte) (session : Nat) (nonce : List Byte)
  /-- SEALED (R522). The host port that the datagram arrives on, its source address and UDP port, and its UDP payload. -/
  | sealed (t : Nat) (port : Fin 2) (ipv6 : Bool) (addr udpPort : Nat) (bytes : List Byte)
  /-- HALF_OPEN_TIMEOUT (R525). The session slot. -/
  | halfOpenTimeout (t : Nat) (slot : Fin 16)
  /-- REASSEMBLY_TIMEOUT (R528). The session slot and the number of the incomplete request. -/
  | reassemblyTimeout (t : Nat) (slot : Fin 16) (seq : Nat)
  /-- ACK_TIMER (R533). The session slot. -/
  | ackTimer (t : Nat) (slot : Fin 16)
  /-- NOTICE_RESEND (R534). The session slot. -/
  | noticeResend (t : Nat) (slot : Fin 16)
  /-- SESSION_IDLE_TIMEOUT (R537). The session slot. -/
  | sessionIdleTimeout (t : Nat) (slot : Fin 16)
  /-- PING (R539). The next request of a session is a PING with this body. -/
  | ping (t : Nat) (slot : Fin 16) (body : List Byte)
  /-- CLOSE (R537). The next request of a session is a CLOSE with this body. -/
  | close (t : Nat) (slot : Fin 16) (body : List Byte)
  /-- SUBSCRIBE (R539). The next request of a session is a SUBSCRIBE with this body. -/
  | subscribe (t : Nat) (slot : Fin 16) (body : List Byte)
  /-- TAKE (R85). Session slot and the body of R541. -/
  | take (t : Nat) (slot : Fin 16) (body : List Byte)
  /-- SALVO (R86). Session slot and the body of R542. -/
  | salvo (t : Nat) (slot : Fin 16) (body : List Byte)
  /-- CANCEL (R93). Session slot and the 8-byte `TAKE_ID` of R539. -/
  | cancel (t : Nat) (slot : Fin 16) (body : List Byte)
  /-- AUDIO_TAKE (R225). Session slot and the body of R544. -/
  | audioTake (t : Nat) (slot : Fin 16) (body : List Byte)
  /-- LAYOUT (R195). Session slot and the layout of R194. -/
  | layout (t : Nat) (slot : Fin 16) (body : List Byte)
  /-- REALIGN (R51). Session slot and body. -/
  | realign (t : Nat) (slot : Fin 16) (body : List Byte)
  /-- REJOIN (R418). Session slot and body. -/
  | rejoin (t : Nat) (slot : Fin 16) (body : List Byte)
  /-- HANDOVER (R422). Session slot and body. -/
  | handover (t : Nat) (slot : Fin 16) (body : List Byte)
  /-- INJECT (R272). Session slot, the descriptor of R270 and the payload. -/
  | inject (t : Nat) (slot : Fin 16) (body : List Byte)
  /-- QUERY_ROUTES (R546). The next request of a session is a QUERY with this body, of kind 1 or of a kind that R546 does not list. -/
  | queryRoutes (t : Nat) (slot : Fin 16) (body : List Byte)
  /-- QUERY_IDENTITY (R546). The next request of a session is a QUERY with this body, of kind 2. -/
  | queryIdentity (t : Nat) (slot : Fin 16) (body : List Byte)
  /-- QUERY_SETTINGS (R546). The next request of a session is a QUERY with this body, of kind 3. -/
  | querySettings (t : Nat) (slot : Fin 16) (body : List Byte)
  /-- QUERY_SESSIONS (R546). The next request of a session is a QUERY with this body, of kind 4. -/
  | querySessions (t : Nat) (slot : Fin 16) (body : List Byte)
  /-- REG_READ (R547). The next request of a session is a REG_READ with this body; what the bus shows at each entry, in order. -/
  | regRead (t : Nat) (slot : Fin 16) (body : List Byte) (facts : List BusFact)
  /-- REG_WRITE (R547). The next request of a session is a REG_WRITE with this body; what the bus shows at each entry, in order. -/
  | regWrite (t : Nat) (slot : Fin 16) (body : List Byte) (facts : List BusFact)
  /-- CONFIGURE (R548). The next request of a session is a CONFIGURE with this body; `facts` is what the exchanges for the remote routes of a destination that changes domain have returned. -/
  | configure (t : Nat) (slot : Fin 16) (body : List Byte) (facts : List Remote)
  /-- SAVE (R603). Session slot and body of the `SAVE` request. -/
  | save (t : Nat) (slot : Fin 16) (body : List Byte)
  /-- SAVE_DONE (R603). Whether a program, an erase or a read of the bank fails, and the program of the journal commit that fails (0 for none). -/
  | saveDone (t : Nat) (fails : Bool) (journalFails : Fin 3)
  /-- LOG_READ (R589). The next request of a session is a LOG_READ with this body. -/
  | logRead (t : Nat) (slot : Fin 16) (body : List Byte)
  /-- LOG_CLEAR (R588). The next request of a session is a LOG_CLEAR with this body. -/
  | logClear (t : Nat) (slot : Fin 16) (body : List Byte)
  /-- UPDATE_BEGIN (R599). Session slot and the `UPDATE` body of R550, `OP` 1; a body whose `OP` the table does not list is answered here. -/
  | updateBegin (t : Nat) (slot : Fin 16) (body : List Byte)
  /-- ERASE_DONE (R599). Kind (1 firmware, 2 settings), and whether the erase fails. -/
  | eraseDone (t : Nat) (kind : Fin 3) (fails : Bool)
  /-- UPDATE_ARM (R600). Session slot and the `UPDATE` body, `OP` 2. -/
  | updateArm (t : Nat) (slot : Fin 16) (body : List Byte)
  /-- ARM_VERIFY_DONE (R600). Kind, and whether a read of the bank does not complete. -/
  | armVerifyDone (t : Nat) (kind : Fin 3) (fails : Bool)
  /-- UPDATE_ACTIVATE (R604). Session slot and the `UPDATE` body, `OP` 3. -/
  | updateActivate (t : Nat) (slot : Fin 16) (body : List Byte)
  /-- UPDATE_ABORT (R598). Session slot and the `UPDATE` body, `OP` 4. -/
  | updateAbort (t : Nat) (slot : Fin 16) (body : List Byte)
  /-- ENROL_KEY (R602). Session slot and the `UPDATE` body, `OP` 5. -/
  | enrolKey (t : Nat) (slot : Fin 16) (body : List Byte)
  /-- ENROL_DONE (R597). The program of the key table that fails (1 or 2; 0 for none). -/
  | enrolDone (t : Nat) (fails : Fin 3)
  /-- ACTIVATION_START (R605). In ROM recovery, the program of the journal commit that fails (0 for none). -/
  | activationStart (t : Nat) (journalFails : Fin 3)
  /-- ACTIVATION_END (R605). How the trial ends. -/
  | activationEnd (t : Nat) (trial : Trial)
  /-- UPD_CLR_CNT (R613). A 1 is written to `UPD.CTRL.CLR_CNT`. -/
  | updClrCnt (t : Nat)
  /-- SURFACE_LOAD (R205). Session slot and the `BULK_WRITE` body of R552, target 1. -/
  | surfaceLoad (t : Nat) (slot : Fin 16) (body : List Byte)
  /-- FRAME_STORE_WRITE (R552). The next request of a session is a BULK_WRITE with this body, of target 2. -/
  | frameStoreWrite (t : Nat) (slot : Fin 16) (body : List Byte)
  /-- IMAGE_BLOCK (R599). Session slot, the `BULK_WRITE` body of R552, target 3, and whether the flash fails to program the block as it reads back. -/
  | imageBlock (t : Nat) (slot : Fin 16) (body : List Byte) (fails : Bool)
  /-- FRAME_STORE_READ (R552). The next request of a session is a BULK_READ with this body, of target 2; the offsets in the range at which surfaces of the device stand, with the byte of their internal code there (R116). -/
  | frameStoreRead (t : Nat) (slot : Fin 16) (body : List Byte) (codes : List (Nat × Byte))
  /-- CAPTURE_STORE_READ (R552). Session slot, the `BULK_READ` body of R552, target 4, and the bytes that the drive holds there. -/
  | captureStoreRead (t : Nat) (slot : Fin 16) (body : List Byte) (data : List Byte)
  /-- DEEP_ANALYSER_RING_READ (R552). The next request of a session is a BULK_READ with this body, of target 5. -/
  | deepAnalyserRingRead (t : Nat) (slot : Fin 16) (body : List Byte)
  /-- FLASH_READ (R552). The next request of a session is a BULK_READ with this body, of target 6. -/
  | flashRead (t : Nat) (slot : Fin 16) (body : List Byte)
  /-- SURFACE_READ (R552). Session slot and the `BULK_READ` body of R552, target 7. -/
  | surfaceRead (t : Nat) (slot : Fin 16) (body : List Byte)
  /-- CLOSE_ALL (R537). -/
  | closeAll (t : Nat)
  /-- LAN_CLR_CNT (R556). -/
  | lanClrCnt (t : Nat)
  /-- SRAM_UNCORRECTABLE_ERROR (R560). What the error has struck, and its byte offset in the partition. -/
  | sramUncorrectableError (t : Nat) (hit : SramHit) (offset : Nat)
  /-- SERVICE_CORE_EXCEPTION (R559). Core: 0 for M1 to 3 for M4. -/
  | serviceCoreException (t : Nat) (core : Fin 4)
  /-- SERVICE_CORE_WATCHDOG (R559). Core: 0 for M1 to 3 for M4. -/
  | serviceCoreWatchdog (t : Nat) (core : Fin 4)
  /-- FORCE_RESTART (R574). The key written with `FLT.CTRL.FORCE_RESTART`. -/
  | forceRestart (t : Nat) (key : Fin 65536)
  /-- RESTART_DONE (R562). The processors have rebuilt their state. -/
  | restartDone (t : Nat)
  /-- LAMPLIGHTER_WATCHDOG (R567). The watchdog of the lamplighter expires. -/
  | lamplighterWatchdog (t : Nat)
  /-- FLT_CLR_CNT (R574). A 1 is written to `FLT.CTRL.CLR_CNT`. -/
  | fltClrCnt (t : Nat)
  /-- EVENT_RECORD (R578). M6 takes the oldest record that a block has handed over. -/
  | eventRecord (t : Nat)
  /-- ARCHIVE_BATCH (R585). M6 writes the batch that is due, and it ends as `how` says. -/
  | archiveBatch (t : Nat) (how : BatchEnd)
  /-- FREEZE_TIMEOUT (R583). FREEZE_S seconds have passed since the owner of the freeze last set or renewed it. -/
  | freezeTimeout (t : Nat)
  /-- LOG_FREEZE (R582). The register window writes LOG.CTRL.FREEZE. -/
  | logFreeze (t : Nat)
  /-- LOG_THAW (R583). The register window writes LOG.CTRL.THAW. -/
  | logThaw (t : Nat)
  /-- WIN_LOAD (R590). The register window writes LOG.CTRL.WIN_LOAD. -/
  | winLoad (t : Nat)
  /-- LOG_CLR_CNT (R592). A 1 is written to LOG.CTRL.CLR_CNT. -/
  | logClrCnt (t : Nat)
  /-- FABRIC_TRANSACTION (R620). The master (for M7 with its session slot), the address, whether it writes, the words of the burst (of a read as many as it asks for), whether it is a locked sequence, whether it is a barrier. -/
  | fabricTransaction (t : Nat) (master : Fin 9) (slot : Fin 16) (addr : BitVec 32) (write : Bool) (words : List (BitVec 32)) (lock barrier : Bool)
  /-- FABRIC_TIMEOUT (R624). The master and target whose oldest transaction has not completed in time, and whether a write has taken effect all the same. -/
  | fabricTimeout (t : Nat) (master : Fin 9) (target : Fin 7) (tookEffect : Bool)
  /-- FABRIC_ARBITER_DECISION (R626). The target whose arbiter decides, during the last beat of the current burst; what the bus has shown at each beat of that burst. -/
  | fabricArbiterDecision (t : Nat) (target : Fin 7) (facts : List BusFact)
  /-- FABRIC_CREDIT_REFILL (R625). A window of 65,536 fabric cycles begins. -/
  | fabricCreditRefill (t : Nat)
  /-- FABRIC_HOG_CUT (R629). The target whose grant is cut, the beats delivered until then, and what the bus has shown at each. -/
  | fabricHogCut (t : Nat) (target : Fin 7) (delivered : Nat) (facts : List BusFact)
  /-- REMAP (R619). The value that M0 writes to `FAB.CTRL.REMAP`. -/
  | remap (t : Nat) (on : Bool)
  /-- FAB_QUAR_CLEAR (R629). The ones written to `FAB.QUAR`. -/
  | fabQuarClear (t : Nat) (mask : Fin 512)
  /-- FAB_CLR_CNT (R640). A write of `FAB.CTRL.CLR_CNT`. -/
  | fabClrCnt (t : Nat)
  /-- SUPPLY_HOLD_START (R646). Conditions of R646 that have held for 2 µs: bit 0 `VDD_IO`, bit 1 `VDD_CORE`, bit 2 PWR_WARN_N. -/
  | supplyHoldStart (t : Nat) (conds : Fin 8)
  /-- SUPPLY_HOLD_END (R646). No condition of R646 has held for 10 ms. -/
  | supplyHoldEnd (t : Nat)
  /-- RAIL_RESET (R644). Rail, and the lowest voltage seen in mV. -/
  | railReset (t : Nat) (rail : Fin 11) (mv : Nat)
  /-- TEMPERATURE_SAMPLE (R651). The twelve sensors in 1/16 °C. -/
  | temperatureSample (t : Nat) (readings : List Int)
  /-- THERMAL_TRIP (R651). Sensor, and its reading in 1/16 °C. -/
  | thermalTrip (t : Nat) (sensor : Fin 12) (reading : Int)
  /-- PWR_CLR_CNT (R653). A 1 is written to `PWR.CTRL.CLR_CNT`. -/
  | pwrClrCnt (t : Nat)
  /-- MGMT_I2C_TRANSFER (R666). The pointer byte, when the transfer writes one, and the number of bytes that it then reads. -/
  | mgmtI2cTransfer (t : Nat) (pointer : Option (Fin 256)) (reads : Nat)
  /-- BOUNDARY_SCAN_INSTRUCTION (R669). Whether the instruction loaded takes the pins from the functional blocks. -/
  | boundaryScanInstruction (t : Nat) (takesPins : Bool)
  /-- FREE_RUNNING_TIMING_START (R507). The pilot sections are checked; the domains free-run. -/
  | freeRunningTimingStart (t : Nat)
  /-- PROCESSORS_RELEASED (R38). Whether the image of every processor passes R38, and, when one does not, the firmware banks of which a flash read does not complete. -/
  | processorsReleased (t : Nat) (ok : Bool) (fails : List (Fin 2))
  /-- LANE_TRAINING_DONE (R326). Lane. -/
  | laneTrainingDone (t : Nat) (lane : Fin 152)
  /-- WORD_BOUNDARY_FOUND (R329). Splice port, lane of it, and what the far end's `MAX_STEP` and `AUTO_STEP` are in the exchange that follows. -/
  | wordBoundaryFound (t : Nat) (port : Fin 8) (k : Fin 2) (farMax : Fin 4) (farAuto : Bool)
  /-- REFERENCE_SIGNAL_PRESENT (R352). Entry whose signal returns. -/
  | referenceSignalPresent (t : Nat) (entry : Fin 8)
  /-- AUDIO_INPUT_SAMPLE (R237). Port of R243, one word of R214 or R217 for each slot or subframe, and the biphase, preamble and parity errors found. -/
  | audioInputSample (t : Nat) (port : Fin 12) (words : List Nat) (errors : Nat)
  /-- SPLICE_SYNC_SEND (R387). Sixteen times a second. -/
  | spliceSyncSend (t : Nat)
  /-- IMPORT_LINE_RELEASE (R403). Origin device, source at the origin, domain and line of the raster. -/
  | importLineRelease (t : Nat) (dev : Fin 4096) (src : Fin 1120) (td : Fin 4) (line : Nat)
  /-- SUPPLY_MONITOR_SAMPLE (R653). The eleven rails in mV, in the order of R643. -/
  | supplyMonitorSample (t : Nat) (mv : List Nat)
  /-- THERMAL_TRIP_RECOVERY (R651). Every sensor reads below 100 °C. -/
  | thermalTripRecovery (t : Nat)
  deriving DecidableEq, Repr

end Sys2Proof
end

