-- ==== Sys2Proof/Config.lean ====
section
/-! DEFINITION. What the spec leaves open and what one part fixes: constants without a body, so that nothing can be proved of
their values. -/

namespace Sys2Proof

/-- A value the spec leaves open, numbered by the plain counter `Chip.free` (assumption log). -/
opaque Config.freeValue : Nat → Nat

/-- The 48-bit base MAC address that a part's OTP holds (R286). -/
opaque Config.otpBaseMac : Nat

/-- The device key that a part's OTP holds (R497): 32 bytes, unique to each module and never readable. -/
opaque Config.deviceKey : List Byte

/-- The root key hash that OTP holds (R497): the SHA-512 of the key that signs firmware. -/
opaque Config.rootKeyHash : List Byte

/-- The receive time stamp latency of a port mode, in the units of `TS_RX_LAT` (R310 gives it "by mode" without its value): host port, mode. -/
opaque Config.tsRxLat : Bool → Nat → Nat

/-- The transmit time stamp latency of a port mode, in the units of `TS_TX_LAT` (R310). -/
opaque Config.tsTxLat : Bool → Nat → Nat

/-- The frame store address of a deep analyser's ring (R454 gives it "by analyser" without its value). -/
opaque Config.ringBase : Nat → Nat

/-- The default transmit offset of a format in 1/16 lines, that of ST 2110-21 (R263): scan, height, rate code. -/
opaque Config.defaultTro : Nat → Nat → Nat → Nat

/-- The code with which an audio section or record of R244 fails: R244 names none. -/
opaque Config.audSectionCode : Nat

/-- The owner code that the allocator writes at a slot below the tail, for given numbers of `INGEST` and `READOUT` slots: R149 spreads
each owner's slots evenly and gives no places. -/
opaque Config.allocOwner : Nat → Nat → Nat → Nat

/-- The equal weight of the leaves of a local arbiter, whose value R169 does not give. -/
opaque Config.leafWeight : Nat

/-- The compression figures of `FST.COMP` over a whole second: the tile code is internal to the device (R116, R141). -/
opaque Config.compRatio : Nat → Nat

/-- The bytes and the pixels of a pixel group of the ST 2110-20 samples behind an injected template: R271 advances the row offset by them, and the
descriptor of R270 does not name the format. -/
opaque Config.srdGroup : List Byte → Nat × Nat

/-- The code value of the BT.2111 narrow-range pattern, whose content the spec takes from that standard (R434): PQ, raster, row, sample of the row. -/
opaque Config.bt2111 : Bool → Nat → Nat → Nat → Nat

/-- The first extent of a ring of a set (0 the control ring, else the channel plus one): R460 allocates extents round-robin and numbers none. -/
opaque Config.firstExtent : Nat → Nat → Nat

/-- The validity, user and channel status bits that the device generates for a PCM pair (R217), as bits 2 to 0, for a frame of the 192 of a block: at 96 kHz or not,
frame of the block. -/
opaque Config.aesBits : Bool → Nat → Nat

/-- The bytes of the boot ROM (R617), which the spec does not list. -/
opaque Config.romByte : Nat → BitVec 8

end Sys2Proof
end

