-- ==== Sys2Proof/Machine/Events.lean ====
section
/-! DEFINITION. The events of the recorder: block and code of R577 (R612, R642, R655), severity where each event is defined
or in R671. -/

namespace Sys2Proof.Machine

/-- An event: its block ID, its code within the block, its severity (0 TRACE, 1 INFO, 2 NOTICE, 3 WARNING, 4 FAULT, 5 FATAL)
(R576, R577). -/
structure Ev where
  block : Nat
  code : Nat
  sev : Nat
  deriving DecidableEq, Repr

/-- `TICK_ALIGNED`. -/
def Ev.tickAligned : Ev := ⟨1, 1, 1⟩
/-- `TICK_REALIGNED`. -/
def Ev.tickRealigned : Ev := ⟨1, 2, 2⟩
/-- `TICK_REALIGN_SKIPPED`. -/
def Ev.tickRealignSkipped : Ev := ⟨1, 3, 3⟩
/-- `TICK_OVERRUN`. -/
def Ev.tickOverrun : Ev := ⟨1, 4, 3⟩
/-- `TICK_PHASE_ERR`. -/
def Ev.tickPhaseErr : Ev := ⟨1, 5, 3⟩
/-- `XPT_LINE_MISS`. -/
def Ev.xptLineMiss : Ev := ⟨2, 1, 3⟩
/-- `XPT_PATH_MOVED`. -/
def Ev.xptPathMoved : Ev := ⟨2, 2, 2⟩
/-- `XPT_FALLBACK`. -/
def Ev.xptFallback : Ev := ⟨2, 3, 2⟩
/-- `XPT_RESTORED`. -/
def Ev.xptRestored : Ev := ⟨2, 4, 2⟩
/-- `XPT_HELD_REFUSED`. -/
def Ev.xptHeldRefused : Ev := ⟨2, 5, 3⟩
/-- `XPT_ROUTE_SKIPPED`. -/
def Ev.xptRouteSkipped : Ev := ⟨2, 6, 3⟩
/-- `FST_WRITE_COLLIDE`. -/
def Ev.fstWriteCollide : Ev := ⟨3, 1, 3⟩
/-- `FST_FRAME_INCOMPLETE`. -/
def Ev.fstFrameIncomplete : Ev := ⟨3, 2, 2⟩
/-- `FST_FORMAT_CHANGE`. -/
def Ev.fstFormatChange : Ev := ⟨3, 3, 1⟩
/-- `FST_TILE_LOST`. -/
def Ev.fstTileLost : Ev := ⟨3, 4, 3⟩
/-- `FST_TRAIN_FAIL`. -/
def Ev.fstTrainFail : Ev := ⟨3, 5, 4⟩
/-- `ARB_SWAP_REFUSED`. -/
def Ev.arbSwapRefused : Ev := ⟨4, 1, 3⟩
/-- `ARB_HOG_CUT`. -/
def Ev.arbHogCut : Ev := ⟨4, 2, 3⟩
/-- `CMP_FETCH_LATE`. -/
def Ev.cmpFetchLate : Ev := ⟨5, 1, 3⟩
/-- `CMP_HELD_REFUSED`. -/
def Ev.cmpHeldRefused : Ev := ⟨5, 2, 3⟩
/-- `CMP_LAYER_FILL`. -/
def Ev.cmpLayerFill : Ev := ⟨5, 3, 2⟩
/-- `LAYER_DEMOTED`. -/
def Ev.layerDemoted : Ev := ⟨5, 4, 3⟩
/-- `LAYER_RESTORED`. -/
def Ev.layerRestored : Ev := ⟨5, 5, 1⟩
/-- `CMP_LAYOUT_SKIPPED`. -/
def Ev.cmpLayoutSkipped : Ev := ⟨5, 6, 3⟩
/-- `AUD_FOLLOW_FULL`. -/
def Ev.audFollowFull : Ev := ⟨6, 1, 3⟩
/-- `AUD_SLIP`. -/
def Ev.audSlip : Ev := ⟨6, 2, 0⟩
/-- `AUD_CLOCK_LOST`. -/
def Ev.audClockLost : Ev := ⟨6, 3, 3⟩
/-- `AUD_CLOCK_RESTORED`. -/
def Ev.audClockRestored : Ev := ⟨6, 4, 2⟩
/-- `AUD_RATE_CHANGE`. -/
def Ev.audRateChange : Ev := ⟨6, 5, 3⟩
/-- `AUD_RATE_DRIFT`. -/
def Ev.audRateDrift : Ev := ⟨6, 6, 3⟩
/-- `PMI_SSRC_CHANGE`. -/
def Ev.pmiSsrcChange : Ev := ⟨7, 1, 2⟩
/-- `PMI_PATH_DOWN`. -/
def Ev.pmiPathDown : Ev := ⟨7, 2, 3⟩
/-- `PMI_PATH_UP`. -/
def Ev.pmiPathUp : Ev := ⟨7, 3, 2⟩
/-- `PMI_SKEW_HIGH`. -/
def Ev.pmiSkewHigh : Ev := ⟨7, 4, 3⟩
/-- `MAC_LINK_DOWN`. -/
def Ev.macLinkDown : Ev := ⟨8, 1, 3⟩
/-- `MAC_LINK_UP`. -/
def Ev.macLinkUp : Ev := ⟨8, 2, 2⟩
/-- `MAC_GCL_REFUSED`. -/
def Ev.macGclRefused : Ev := ⟨8, 3, 3⟩
/-- `MAC_PAUSE_WATCHDOG`. -/
def Ev.macPauseWatchdog : Ev := ⟨8, 4, 3⟩
/-- `MAC_TX_UNDERRUN`. -/
def Ev.macTxUnderrun : Ev := ⟨8, 5, 3⟩
/-- `LNE_SDI_LOCK`. -/
def Ev.lneSdiLock : Ev := ⟨9, 1, 1⟩
/-- `LNE_SDI_LOST`. -/
def Ev.lneSdiLost : Ev := ⟨9, 2, 3⟩
/-- `LNE_SDI_SKEW`. -/
def Ev.lneSdiSkew : Ev := ⟨9, 3, 3⟩
/-- `LNE_TRAIN_FAIL`. -/
def Ev.lneTrainFail : Ev := ⟨9, 4, 3⟩
/-- `LNE_ALIGN_FAIL`. -/
def Ev.lneAlignFail : Ev := ⟨9, 5, 3⟩
/-- `LNE_STEP_FAIL`. -/
def Ev.lneStepFail : Ev := ⟨9, 6, 3⟩
/-- `LNE_STEP`. -/
def Ev.lneStep : Ev := ⟨9, 7, 1⟩
/-- `LNE_STATE_FORCED`. -/
def Ev.lneStateForced : Ev := ⟨9, 8, 2⟩
/-- `REF_LO_LOST`. -/
def Ev.refLoLost : Ev := ⟨10, 1, 5⟩
/-- `REF_QUALIFIED`. -/
def Ev.refQualified : Ev := ⟨10, 2, 1⟩
/-- `REF_DISQUALIFIED`. -/
def Ev.refDisqualified : Ev := ⟨10, 3, 3⟩
/-- `REF_LOST`. -/
def Ev.refLost : Ev := ⟨10, 4, 3⟩
/-- `REF_CONFLICT`. -/
def Ev.refConflict : Ev := ⟨10, 5, 3⟩
/-- `REF_LOCKED`. -/
def Ev.refLocked : Ev := ⟨10, 6, 1⟩
/-- `REF_HOLDOVER`. -/
def Ev.refHoldover : Ev := ⟨10, 7, 3⟩
/-- `REF_FREE_RUN`. -/
def Ev.refFreeRun : Ev := ⟨10, 8, 3⟩
/-- `REF_SWITCH`. -/
def Ev.refSwitch : Ev := ⟨10, 9, 2⟩
/-- `TIME_STEP`. -/
def Ev.timeStep : Ev := ⟨11, 1, 2⟩
/-- `TIME_JUMP_REFUSED`. -/
def Ev.timeJumpRefused : Ev := ⟨11, 2, 3⟩
/-- `SPL_LINK_UP`. -/
def Ev.splLinkUp : Ev := ⟨12, 1, 2⟩
/-- `SPL_LINK_DOWN`. -/
def Ev.splLinkDown : Ev := ⟨12, 2, 3⟩
/-- `SPL_ID_CONFLICT`. -/
def Ev.splIdConflict : Ev := ⟨12, 3, 4⟩
/-- `SPL_PROTO_MISMATCH`. -/
def Ev.splProtoMismatch : Ev := ⟨12, 4, 3⟩
/-- `SPL_MASTER_CHANGE`. -/
def Ev.splMasterChange : Ev := ⟨12, 5, 2⟩
/-- `SPL_TICK_ERR`. -/
def Ev.splTickErr : Ev := ⟨12, 6, 3⟩
/-- `SPL_SPLIT`. -/
def Ev.splSplit : Ev := ⟨12, 7, 3⟩
/-- `SPL_JOIN`. -/
def Ev.splJoin : Ev := ⟨12, 8, 2⟩
/-- `SPL_TWIN_UNSYNC`. -/
def Ev.splTwinUnsync : Ev := ⟨12, 9, 3⟩
/-- `SPL_HANDOVER`. -/
def Ev.splHandover : Ev := ⟨12, 10, 2⟩
/-- `SPL_TWIN_LOST`. -/
def Ev.splTwinLost : Ev := ⟨12, 11, 5⟩
/-- `FWA_AUDIO_ALARM`. -/
def Ev.fwaAudioAlarm : Ev := ⟨14, 1, 2⟩
/-- `FWA_ALARM`. -/
def Ev.fwaAlarm : Ev := ⟨14, 2, 2⟩
/-- `CAP_DRIVE_FAIL`. -/
def Ev.capDriveFail : Ev := ⟨15, 1, 4⟩
/-- `CAP_SET_INTERRUPTED`. -/
def Ev.capSetInterrupted : Ev := ⟨15, 2, 3⟩
/-- `CAP_GAP`. -/
def Ev.capGap : Ev := ⟨15, 3, 3⟩
/-- `CAP_REPLAY_MISMATCH`. -/
def Ev.capReplayMismatch : Ev := ⟨15, 4, 3⟩
/-- `CAP_CTL_TICK`. -/
def Ev.capCtlTick : Ev := ⟨15, 5, 0⟩
/-- `CAP_CTL_SNAPSHOT`. -/
def Ev.capCtlSnapshot : Ev := ⟨15, 6, 0⟩
/-- `CAP_CTL_TAKE`. -/
def Ev.capCtlTake : Ev := ⟨15, 7, 0⟩
/-- `CAP_CTL_LAYOUT`. -/
def Ev.capCtlLayout : Ev := ⟨15, 8, 0⟩
/-- `CAP_CTL_CONFIG`. -/
def Ev.capCtlConfig : Ev := ⟨15, 9, 0⟩
/-- `CAP_CTL_ARRIVAL`. -/
def Ev.capCtlArrival : Ev := ⟨15, 10, 0⟩
/-- `CAP_CTL_WATCH`. -/
def Ev.capCtlWatch : Ev := ⟨15, 11, 0⟩
/-- `SET_SECTION_IGNORED`. -/
def Ev.setSectionIgnored : Ev := ⟨16, 1, 1⟩
/-- `SET_SECTION_FAILED`. -/
def Ev.setSectionFailed : Ev := ⟨16, 2, 4⟩
/-- `BOOT_JOURNAL_LOST`. -/
def Ev.bootJournalLost : Ev := ⟨16, 3, 4⟩
/-- `BOOT_SETTINGS_FALLBACK`. -/
def Ev.bootSettingsFallback : Ev := ⟨16, 4, 3⟩
/-- `BOOT_NO_SETTINGS`. -/
def Ev.bootNoSettings : Ev := ⟨16, 5, 4⟩
/-- `BOOT_FW_FALLBACK`. -/
def Ev.bootFwFallback : Ev := ⟨16, 6, 3⟩
/-- `BOOT_RECOVERY`. -/
def Ev.bootRecovery : Ev := ⟨16, 7, 5⟩
/-- `BOOT_PILOT`. -/
def Ev.bootPilot : Ev := ⟨16, 8, 2⟩
/-- `BOOT_FULL_SERVICE`. -/
def Ev.bootFullService : Ev := ⟨16, 9, 2⟩
/-- `BOOT_LATE`. -/
def Ev.bootLate : Ev := ⟨16, 10, 3⟩
/-- `LAN_AUTH_FAIL`. -/
def Ev.lanAuthFail : Ev := ⟨17, 1, 3⟩
/-- `LAN_SESSION_OPEN`. -/
def Ev.lanSessionOpen : Ev := ⟨17, 2, 1⟩
/-- `LAN_NOTICE_OVERFLOW`. -/
def Ev.lanNoticeOverflow : Ev := ⟨17, 3, 3⟩
/-- `LAN_PORT_MOVE`. -/
def Ev.lanPortMove : Ev := ⟨17, 4, 1⟩
/-- `LAN_SESSION_CLOSED`. -/
def Ev.lanSessionClosed : Ev := ⟨17, 5, 1⟩
/-- `FLT_TAKE_STALL`. -/
def Ev.fltTakeStall : Ev := ⟨18, 1, 3⟩
/-- `FLT_SRAM_UE`. -/
def Ev.fltSramUe : Ev := ⟨18, 2, 4⟩
/-- `FLT_CONFIG_LOST`. -/
def Ev.fltConfigLost : Ev := ⟨18, 3, 4⟩
/-- `FLT_RECORD_LOST`. -/
def Ev.fltRecordLost : Ev := ⟨18, 4, 3⟩
/-- `FLT_ROUTE_LOST`. -/
def Ev.fltRouteLost : Ev := ⟨18, 5, 4⟩
/-- `FLT_WARM_RESTART`. -/
def Ev.fltWarmRestart : Ev := ⟨18, 6, 3⟩
/-- `FLT_RESTART_DONE`. -/
def Ev.fltRestartDone : Ev := ⟨18, 7, 2⟩
/-- `FLT_LAMPLIGHTER`. -/
def Ev.fltLamplighter : Ev := ⟨18, 8, 5⟩
/-- `FLT_HALTED`. -/
def Ev.fltHalted : Ev := ⟨18, 9, 5⟩
/-- `LOG_START`. -/
def Ev.logStart : Ev := ⟨19, 1, 1⟩
/-- `LOG_CLEARED`. -/
def Ev.logCleared : Ev := ⟨19, 2, 2⟩
/-- `LOG_ARCHIVE_ERROR`. -/
def Ev.logArchiveError : Ev := ⟨19, 3, 4⟩
/-- `UPDATE_REVERTED`. -/
def Ev.updateReverted : Ev := ⟨20, 1, 3⟩
/-- `UPDATE_ARMED`. -/
def Ev.updateArmed : Ev := ⟨20, 2, 1⟩
/-- `UPDATE_ACTIVATING`. -/
def Ev.updateActivating : Ev := ⟨20, 3, 1⟩
/-- `UPDATE_COMMITTED`. -/
def Ev.updateCommitted : Ev := ⟨20, 4, 2⟩
/-- `UPDATE_CANCELLED`. -/
def Ev.updateCancelled : Ev := ⟨20, 5, 1⟩
/-- `UPDATE_SAVED`. -/
def Ev.updateSaved : Ev := ⟨20, 6, 2⟩
/-- `UPDATE_KEY_ENROLLED`. -/
def Ev.updateKeyEnrolled : Ev := ⟨20, 7, 1⟩
/-- `FAB_MASTER_RESET`. -/
def Ev.fabMasterReset : Ev := ⟨21, 1, 3⟩
/-- `FAB_ERROR`. -/
def Ev.fabError : Ev := ⟨21, 2, 3⟩
/-- `FAB_TIMEOUT`. -/
def Ev.fabTimeout : Ev := ⟨21, 3, 3⟩
/-- `FAB_HOG_CUT`. -/
def Ev.fabHogCut : Ev := ⟨21, 4, 3⟩
/-- `PWR_SUPPLY_HOLD`. -/
def Ev.pwrSupplyHold : Ev := ⟨22, 1, 3⟩
/-- `PWR_SUPPLY_OK`. -/
def Ev.pwrSupplyOk : Ev := ⟨22, 2, 2⟩
/-- `PWR_RAIL_LOW`. -/
def Ev.pwrRailLow : Ev := ⟨22, 3, 4⟩
/-- `PWR_THERM_WARN`. -/
def Ev.pwrThermWarn : Ev := ⟨22, 4, 3⟩
/-- `PWR_THERM_ALERT`. -/
def Ev.pwrThermAlert : Ev := ⟨22, 5, 3⟩
/-- `PWR_THERM_LIMIT`. -/
def Ev.pwrThermLimit : Ev := ⟨22, 6, 5⟩
/-- `PWR_THERM_TRIP`. -/
def Ev.pwrThermTrip : Ev := ⟨22, 7, 5⟩
/-- `PMO_LAUNCH_LATE`. -/
def Ev.pmoLaunchLate : Ev := ⟨23, 1, 3⟩
/-- `PMO_FORMAT_MISMATCH`. -/
def Ev.pmoFormatMismatch : Ev := ⟨23, 2, 3⟩

end Sys2Proof.Machine
end

