-- ==== Sys2Proof/Machine/State.lean ====
section
/-! DEFINITION. The state of the module: plain data, holding every piece of state the spec gives it, and its value right after
reset. -/

namespace Sys2Proof.Machine

/-- Why a command can stop with a fault. No rule of the spec stops the module on a command: every fault the spec describes
(R558) is an effect on its state, so the model has one fault only. -/
inductive Fault where
  /-- Raised by no meaning of this model; it stands for a command whose effect the spec would leave open altogether. Safe. -/
  | noEffectGiven
  deriving DecidableEq, Repr

/-- Why a command can be refused. -/
inductive Refusal where
  /-- Raised by the dispatch for a command that has no meaning yet, with its mnemonic. Safe: nothing can be proved of it. -/
  | notModelled (mnemonic : String)
  deriving DecidableEq, Repr

/-! ## What the latest command sent -/

/-- What leaves the module as the effect of one command. The model's own record, not state of the spec: `State.sent` holds the
outputs of the latest command, oldest first. -/
inductive Out where
  /-- A SEALED lanyard datagram's message (R527): session slot, channel (2 response, 3 notice, 4 acknowledgement), message type,
  status, sequence number, body. -/
  | message (slot channel msgType status seq : Nat) (body : List Byte)
  /-- An OPEN_ACK (R524): session identifier, echoed nonce, device nonce, agreed size, privilege. -/
  | openAck (session : Nat) (hostNonce deviceNonce : List Byte) (maxDgram priv : Nat)
  /-- A REJECT (R526): session identifier answered and code. -/
  | reject (session code : Nat)
  /-- An Ethernet frame (R292): port, breakout, 1 when it ends with an inverted FCS (R560) and else 0, bytes without FCS. -/
  | frame (port breakout damaged : Nat) (bytes : List Byte)
  /-- A splice cell or flooded control message (R398, R399): splice port, cell type, payload words. -/
  | cell (port type : Nat) (payload : List Nat)
  /-- A level or pulse on an output pin (R662): pin name's number in `Pin`, level, instant in units of 1/27 ns. -/
  | pin (pin : Nat) (level : Bool) (instant : Nat)
  /-- A line sent by a destination (R33, R34): destination, line number, video samples, words of ancillary packets. -/
  | line (dst line : Nat) (samples anc : List Nat)
  /-- A word from an audio destination position (R53): position and word; the output of a slave port (R237) stands at
65,536 + 16 × port + slot; embedded channel k of destination d during pilot service (R511) at 131,072 + 64 × d + k. -/
  | audio (pos word : Nat)
  /-- A completion of a send (R295): port, breakout, send tag, code. -/
  | completion (port breakout tag code : Nat)
  /-- A register value that a read has returned (R304, R335, R620, R666): address and value. -/
  | value (addr value : Nat)
  /-- The response to a fabric transaction (R618, R620): master, target, kind of the error response (0 for none), words read. -/
  | bus (master target kind : Nat) (words : List Nat)
  /-- A write that leaves through the PCIe window (R633): window address, words. -/
  | pcie (addr : Nat) (words : List Nat)
  deriving DecidableEq, Repr

/-! ## Whether the module runs -/

/-- Whether the module's functions run: they stop while it is held in reset (R489, R644, R651) and while boundary scan holds its
pins (R669). -/
inductive RunState where
  | running | inReset | scan
  deriving DecidableEq, Repr

/-! ## Timing domains (R44 to R76, R673) -/

/-- An alignment that waits for its tick (R49, R51): the earliest instant of that tick, and the cause as coded in R672
(1 first automatic alignment, 2 REALIGN, 3 REJOIN). -/
structure Align where
  notBefore : Nat
  cause : Nat
  deriving DecidableEq, Repr

/-- A timing domain beside its registers: the 48-bit frame counter, the instant of the latest tick and of the next one, the rate
code in force (R673), the output delay and line window in force (R68, R76), the bound entry in force, the phase measured at the
latest tick (in 1/27 ns, none while the origin is not qualified), whether it has been aligned since reset release, the alignment
that waits, the one that this tick brings (to be carried out by DOMAIN_ALIGNMENT), whether the next tick is an aligned one, the
frame whose take application job is open, the frame whose commit flag is set, the run of TAKE overruns (R559), whether its
first tick of full service has come (R508), and which of the SYNC, CMP, OCCL and FWA jobs are open (R60). -/
structure Domain where
  frame : Nat
  tickAt : Nat
  nextTick : Nat
  rate : Nat
  outDelay : Nat
  leadMin : Nat
  leadMax : Nat
  entry : Nat
  splice : Bool
  phase : Option Int
  aligned : Bool
  pend : Option Align
  due : Option Nat
  arriving : Bool
  jobFrame : Option Nat
  commit : Option Nat
  takeOvr : Nat
  fullTick : Bool
  syncOpen : Bool
  cmpOpen : Bool
  occlOpen : Bool
  fwaOpen : Bool
  deriving DecidableEq, Repr

/-- A domain right after reset (R74: rate code 7, window 1 to 6; its counters at 0). -/
def Domain.reset : Domain :=
  { frame := 0, tickAt := 0, nextTick := 0, rate := 7, outDelay := 0, leadMin := 1, leadMax := 6, entry := 0, splice := false,
    phase := none, aligned := false, pend := none, due := none, arriving := false, jobFrame := none, commit := none, takeOvr := 0,
    fullTick := false, syncOpen := false, cmpOpen := false, occlOpen := false, fwaOpen := false }

/-- The device-wide timing: the house sample ticks after tick 0 (not wrapped), the slot frames and the instant at which the latest began, the position of the TD0 frame in the five-frame
sequence and that of the next one, the instant of the latest sample tick, the lengthening that an alignment of TD0 adds to the
slot frame that holds its tick (R52), and whether free-running timing has started (R53, R55, step 5 of R507). -/
structure TickSt where
  domains : Tbl Domain
  samples : Nat
  slotFrames : Nat
  slotAt : Nat
  seqPos : Nat
  seqNext : Nat
  sampleAt : Nat
  stretch : Nat
  running : Bool
  deriving DecidableEq, Repr

def TickSt.reset : TickSt := { domains := [], samples := 0, slotFrames := 0, slotAt := 0, seqPos := 0, seqNext := 0, sampleAt := 0, stretch := 0, running := false }

/-! ## Crosspoint (R77 to R110, R675) -/

/-- The path of a route, coded as `XPT.DST_STATE.PATH` (R108). -/
inductive Path where
  | none | line | frame | packet
  deriving DecidableEq, Repr

/-- The route of a destination on one level (R77, R81): source index, origin device (none for a local source), path. -/
structure Route where
  src : Nat
  dev : Option Nat
  path : Path
  deriving DecidableEq, Repr

/-- The state of a level, coded as `XPT.DST_STATE.STATE` (R108). -/
inductive LevelState where
  | normal | await | black | hold | alt
  deriving DecidableEq, Repr

/-- The cause of a fallback, coded as `XPT.DST_STATE.CAUSE` (R98). -/
inductive Cause where
  | none | lost | rate | window | severed
  deriving DecidableEq, Repr

/-- A level's state, the cause of its fallback, and the path on which the alternate source is served (R99). -/
structure Level where
  state : LevelState
  cause : Cause
  altPath : Path
  deriving DecidableEq, Repr

/-- A destination beside its routes: the state of the video, ancillary and audio-follow levels (an audio-follow level in a
condition sends silence, R98), the domain of an accepted change and the instant from which it takes effect (R675), and the lines
repeated in the frame in progress (R33). -/
structure Dst where
  video : Level
  anc : Level
  follow : Level
  newTd : Option (Nat × Nat)
  td : Nat
  missed : Nat
  deriving DecidableEq, Repr

/-- A destination right after reset: assigned to TD0 (R105), no fallback. -/
def Dst.reset : Dst :=
  { video := ⟨.normal, .none, .none⟩, anc := ⟨.normal, .none, .none⟩, follow := ⟨.normal, .none, .none⟩, newTd := Option.none, td := 0, missed := 0 }

/-- A source against one domain (R66, R82, R98): the lead at the latest tick in 1/16 line, whether it lay in the line window, the
numbers of consecutive ticks inside and outside the window, and of consecutive ticks at which its rate matched. -/
structure SrcLead where
  lead : Int
  inWindow : Bool
  inRun : Nat
  outRun : Nat
  rateRun : Nat
  deriving DecidableEq, Repr

def SrcLead.reset : SrcLead := { lead := 0, inWindow := false, inRun := 0, outRun := 0, rateRun := 0 }

/-- A source beside its settings: its format when known, whether it is frequency-locked, its lead against each domain, condition
LOST and the consecutive complete frames towards its end (R98), the instant at which its latest complete frame ended (or its
binding or format change, R98). -/
structure Source where
  format : Option Format
  freqLock : Bool
  leads : Tbl SrcLead
  lost : Bool
  restore : Nat
  lastGood : Nat
  deriving DecidableEq, Repr

def Source.reset : Source :=
  { format := Option.none, freqLock := false, leads := [], lost := false, restore := 0, lastGood := 0 }

/-- What a take asks for: destination, source, the origin-device field, level mask (R541). -/
structure TakeAsk where
  dst : Nat
  src : Nat
  dev : Nat
  levels : Nat
  deriving DecidableEq, Repr

/-- An entry of the take queue (R89): identifier, destination, source, origin device, level mask, acceptance instant, not-before
time (device time seconds and nanoseconds), notification, accepting session slot and its identifier, held, the size of its salvo (0 for a
single take), staged for the open job, waiting for its composer to be enabled (R177), the path foreseen at
acceptance, and whether a part of its salvo that has applied calls for a class 0 notice (R105). -/
structure Take where
  id : Nat
  dst : Nat
  src : Nat
  dev : Option Nat
  levels : Nat
  accepted : Nat
  notBefore : Option (Nat × Nat)
  notify : Bool
  slot : Nat
  session : Nat
  held : Bool
  salvo : Nat
  staged : Bool
  deferred : Bool
  path : Path
  always : Bool
  deriving DecidableEq, Repr

/-- An audio take that waits (R225): identifier, the channel records of 8 bytes that have not applied yet, how many it was accepted with,
acceptance instant, not-before time, accepting session slot and identifier, held. -/
structure AudTake where
  id : Nat
  records : List (List Byte)
  count : Nat
  accepted : Nat
  notBefore : Option (Nat × Nat)
  slot : Nat
  session : Nat
  held : Bool
  deriving DecidableEq, Repr

/-- The crosspoint: routes keyed by destination × 4 + level, destinations, sources, the take queue in acceptance order, the
audio takes in acceptance order (each holds one entry of the same queue, R225), and the keys of the routes that pilot service has set (R103). -/
structure XptSt where
  routes : Tbl (Option Route)
  dsts : Tbl Dst
  srcs : Tbl Source
  queue : List Take
  audQueue : List AudTake
  pilotSet : List Nat
  deriving DecidableEq, Repr

def XptSt.reset : XptSt := { routes := [], dsts := [], srcs := [], queue := [], audQueue := [], pilotSet := [] }

/-! ## Frame store and synchronisers (R111 to R143, R674) -/

/-- One of a synchroniser's three frame buffers (R113): the source frame number it holds complete, whether a pyramid goes with it
(R128), the frame's lines of samples by line number, the tiles copied at ingest (`SUBST`, R117, R123) and those found
poisoned (R133), its ancillary packets by line, and the block of audio samples of the frame by list position (R229). -/
structure Buffer where
  frame : Option Nat
  pyramid : Bool
  format : Option Format
  lines : Tbl (List Nat)
  subst : List Nat
  poison : List Nat
  anc : Tbl (List Nat)
  audio : Tbl (List Nat)
  deriving DecidableEq, Repr

def Buffer.reset : Buffer :=
  { frame := none, pyramid := false, format := none, lines := [], subst := [], poison := [], anc := [], audio := [] }

/-- What a decision holds for its source in one domain (R126, R127): the buffer latched, the frame of the last decision, the buffer
that the decision before latched and the instant until which it stays latched (R121), whether it awaits a first frame, and
whether the last decision repeated or dropped, and whether side data of the latched frame came late (R132). -/
structure Decision where
  live : Bool
  latched : Option Nat
  last : Option Nat
  oldLatch : Option Nat
  oldUntil : Nat
  await : Bool
  repeated : Bool
  dropped : Bool
  sideLate : Bool
  deriving DecidableEq, Repr

def Decision.reset : Decision :=
  { live := false, latched := none, last := none, oldLatch := none, oldUntil := 0, await := false, repeated := false, dropped := false, sideLate := false }

/-- A source's synchroniser and writer (R119 to R125): its buffers 0 to 2, the newest complete buffer, the buffer being written,
the number of the frame in progress, whether that frame is being received, discarded (R121) and the lines that have arrived,
and the decisions by domain. -/
structure Sync where
  bufs : Tbl Buffer
  newest : Option Nat
  writing : Option Nat
  nextFrame : Nat
  active : Bool
  discard : Bool
  arrived : List Nat
  firstAt : Nat
  decisions : Tbl Decision
  deriving DecidableEq, Repr

def Sync.reset : Sync :=
  { bufs := [], newest := none, writing := none, nextFrame := 0, active := false, discard := false, arrived := [], firstAt := 0,
    decisions := [] }

/-- A live line slot (R29 to R33): the frame and the last line written, the lines of samples by number (the newest eight), and
the bytes of ancillary packets held. -/
structure LineSlot where
  newest : Nat
  lines : Tbl (List Nat)
  anc : Tbl (List Nat)
  ancBytes : Nat
  deriving DecidableEq, Repr

def LineSlot.reset : LineSlot := { newest := 0, lines := [], anc := [], ancBytes := 0 }

/-- The frame store: synchronisers by source, line slots by source × 4 + domain, and whether the store is in service. -/
structure FstSt where
  syncs : Tbl Sync
  slots : Tbl LineSlot
  ready : Bool
  deriving DecidableEq, Repr

def FstSt.reset : FstSt := { syncs := [], slots := [], ready := false }

/-! ## Memory scheduling (R144 to R174) -/

/-- A request a leaf presents on a channel (R159, R160): client, leaf, age stamp, beats, whether it asks for a lock, write. -/
structure BeReq where
  client : Nat
  leaf : Nat
  stamp : Nat
  beats : Nat
  lock : Bool
  write : Bool
  deriving DecidableEq, Repr

/-- A best-effort arbiter (R161 to R169): the grant counter, the requests that wait, the grant in progress, the credit each client has
spent in the window, the length of each client's next backoff (1 where unlisted), and the clients in backoff. The same shape serves
the local arbiters of `DEEP`, `GFX` and `BULK`, with leaves in the place of clients and the request presented to the channel in the place of the
grant. -/
structure Arbiter where
  grants : Nat
  waiting : List BeReq
  grant : Option BeReq
  spent : Tbl Nat
  backoff : Tbl Nat
  off : List Nat
  deriving DecidableEq, Repr

def Arbiter.reset : Arbiter := { grants := 0, waiting := [], grant := none, spent := [], backoff := [], off := [] }

/-- A set of slot tables (R147): whether the allocator has built them, the slots of `INGEST` and of `READOUT` that it has set aside on every channel (R149;
those of `CMPF` and `STAGE` are fixed), and the slots that register writes have given another owner, by channel × 32768 + slot,
as the owner code plus one. -/
structure SlotTables where
  built : Bool
  ingest : Nat
  readout : Nat
  writes : Tbl Nat
  deriving DecidableEq, Repr

def SlotTables.reset : SlotTables := { built := false, ingest := 0, readout := 0, writes := [] }

/-- Memory scheduling: the active and shadow slot tables, whether a swap is pending, the arbiters by channel (0 to 63) and the local
arbiters by 64 + 8 × channel + client, the catch-up credits by channel × 8 + owner (R150), the mask in force (R154), the weights in force
(plus one; unlisted: the default) and the instants of the writes that wait for a refill (R167). -/
structure ArbSt where
  active : SlotTables
  shadow : SlotTables
  swapPend : Bool
  arbiters : Tbl Arbiter
  catchUp : Tbl Nat
  maskLive : Nat
  weightLive : Tbl Nat
  weightAt : Tbl Nat
  deriving DecidableEq, Repr

def ArbSt.reset : ArbSt :=
  { active := SlotTables.reset, shadow := SlotTables.reset, swapPend := false, arbiters := [], catchUp := [], maskLive := 0,
    weightLive := [], weightAt := [] }

/-! ## Composers (R175 to R213) -/

/-- What a layer shows in a composite (R62, R179): the record, the source of its layer input, the frame (source, buffer, frame number), the
level, and whether it shows its fill colour. -/
structure View where
  record : List Byte
  src : Nat
  shown : Option (Nat × Nat × Nat)
  level : Nat
  fill : Bool
  deriving DecidableEq, Repr

def View.reset : View := { record := [], src := 2047, shown := none, level := 0, fill := false }

/-- A layer's running state (R199 to R203): its record in force, what the composite in progress shows of it, the level in use (3: no level fits),
the frame it shows (source, buffer, frame number), whether it was ready, demoted or filled at the latest CMP job, whether an
episode of fill has been recorded, its repeat count, and the format its source had when the layout or take was accepted (R202). -/
structure Layer where
  record : List Byte
  view : View
  level : Nat
  shown : Option (Nat × Nat × Nat)
  ready : Bool
  demoted : Bool
  fill : Bool
  episode : Bool
  repeats : Nat
  accepted : Option Format
  deriving DecidableEq, Repr

def Layer.reset : Layer :=
  { record := [], view := View.reset, level := 0, shown := none, ready := false, demoted := false, fill := false, episode := false,
    repeats := 0, accepted := none }

/-- A layout that waits (R196, R198): its number in acceptance order, composer, the message, acceptance instant, notification, session slot and
identifier, held, and the formats of its layers' sources at acceptance. -/
structure Layout where
  serial : Nat
  cmp : Nat
  body : List Byte
  accepted : Nat
  notify : Bool
  slot : Nat
  session : Nat
  held : Bool
  formats : Tbl (Option Format)
  deriving DecidableEq, Repr

/-- A load of a surface (R205): rectangle, session slot and identifier, request number, and the pixels that still wait to be
written (none once they stand in the back buffer). -/
structure SurfLoad where
  x : Nat
  y : Nat
  w : Nat
  h : Nat
  slot : Nat
  session : Nat
  reqSeq : Nat
  pixels : List Nat
  deriving DecidableEq, Repr

/-- A graphics surface (R204 to R206): owner, size, format, whether it has been loaded, front and back pixels by
line × 4096 + column, the tiles whose pixels all have full alpha (row × 64 + column), those found poisoned (R135), and its loads, the first of which stands in the back buffer. -/
structure Surface where
  owner : Nat
  width : Nat
  height : Nat
  format : Nat
  front : Tbl Nat
  back : Tbl Nat
  opaqueTiles : List Nat
  poison : List Nat
  loads : List SurfLoad
  deriving DecidableEq, Repr

/-- The composers: layers by composer × 16 + layer, layouts that wait in acceptance order, the number of the next layout, surfaces by
identifier, the occlusion map in force by composer × 65536 + tile row × 64 + tile column (the top layer plus one), and the
layer pixels that an error has taken from the next composite (R560): composer, layer, output line, first pixel, number. -/
structure CmpSt where
  layers : Tbl Layer
  layouts : List Layout
  serial : Nat
  surfaces : Tbl (Option Surface)
  occl : Tbl Nat
  holes : List (Nat × Nat × Nat × Nat × Nat)
  deriving DecidableEq, Repr

def CmpSt.reset : CmpSt := { layers := [], layouts := [], serial := 0, surfaces := [], occl := [], holes := [] }

/-! ## Audio (R214 to R246) -/

/-- What a destination position reads (R216, R220): silence, a live source position, a follow position (source, domain, list position),
a channel of an imported stream (pair, list position), or one word that a crossfade has reached (R224). -/
inductive AudSig where
  | silence
  | live (pos : Nat)
  | follow (src td entry : Nat)
  | remote (pair entry : Nat)
  | hold (word : Nat)
  deriving DecidableEq, Repr

/-- A destination position (R222 to R228): what it reads, the change that waits for the next house sample tick, the old signal of the
crossfade in progress with the samples done (64: none); gain in 0.01 dB, mute and polarity in force, those that wait, the
coefficient from which the ramp in progress starts in 1/2^64 with the samples done; the latest 64 words, newest last. -/
structure AudDst where
  route : AudSig
  next : Option AudSig
  old : AudSig
  fadeAt : Nat
  gain : Int
  mute : Bool
  invert : Bool
  nextLevel : Option (Int × Bool × Bool)
  kFrom : Int
  rampAt : Nat
  out : List Nat
  deriving DecidableEq, Repr

/-- A destination position after reset (R227). -/
def AudDst.reset : AudDst :=
  { route := .silence, next := none, old := .silence, fadeAt := 64, gain := 0, mute := false, invert := false, nextLevel := none,
    kFrom := 0, rampAt := 64, out := [] }

/-- The FIFO of an asynchronous input, and of the output of a slave port (R237): its frames, one word for each channel, whether it is being refilled to 32
samples, and the last frame taken from it. -/
structure AudFifo where
  frames : List (List Nat)
  filling : Bool
  last : List Nat
  deriving DecidableEq, Repr

def AudFifo.reset : AudFifo := { frames := [], filling := true, last := [] }

/-- A local audio port (R234 to R240): its input and output FIFOs, the fade of R239 (64: in full, 0: silent), whether it is muted, its clock as
`AUD.PORT_STATE.CLOCK` codes it, the rate in force in 0.1 Hz, the recent 10 ms windows, whether the latest window differed, the
class and rate of the latest measurement, whether there has been one, and whether the drift event has been recorded. -/
structure AudPort where
  input : AudFifo
  output : AudFifo
  fade : Nat
  muted : Bool
  clock : Nat
  rate : Nat
  windows : List Nat
  odd : Bool
  cls : Nat
  measured : Option Nat
  drift : Bool
  deriving DecidableEq, Repr

def AudPort.reset : AudPort :=
  { input := AudFifo.reset, output := AudFifo.reset, fade := 0, muted := true, clock := 0, rate := 0, windows := [], odd := false,
    cls := 0, measured := none, drift := false }

/-- The audio block that a read-out engine plays (R229, R230): the number of its frame, the block before it, the old signal of the crossfade by list position with
the sample at which that begins, whether the block that follows is not continuous with it, and whether it repeats the block before it (R132). -/
structure FollowPlay where
  frame : Option Nat
  prev : Tbl (List Nat)
  old : Tbl (List Nat)
  start : Nat
  broken : Bool
  late : Bool
  deriving DecidableEq, Repr

def FollowPlay.reset : FollowPlay := { frame := none, prev := [], old := [], start := 0, broken := false, late := false }

/-- The audio crosspoint: destination positions, follow positions in use (index to (source × 4 + domain) × 64 + list position, plus one), ports, the FIFOs of
SDI sources, the words of the source positions at the latest house sample tick, the house sample ticks counted in the frame of each domain, and
the blocks in play by pair (source × 4 + domain). -/
structure AudSt where
  dsts : Tbl AudDst
  follows : Tbl Nat
  ports : Tbl AudPort
  sdi : Tbl AudFifo
  words : Tbl Nat
  frameAt : Tbl Nat
  plays : Tbl FollowPlay
  deriving DecidableEq, Repr

def AudSt.reset : AudSt := { dsts := [], follows := [], ports := [], sdi := [], words := [], frameAt := [], plays := [] }

/-! ## Ethernet MACs (R284 to R311) -/

/-- A frame that waits in a transmit queue (R293, R296): its queue, bytes without padding and FCS, launch time (device time in units of
`deviceQ`), whether it is an injected frame, the send it belongs to, the time stamp hooks of R304 and R305,
and whether it ends with an inverted FCS (R560). -/
structure TxFrame where
  queue : Nat
  bytes : List Byte
  launch : Option Nat
  send : Nat
  tsTag : Option Nat
  oneStep : Option OneStep
  bad : Bool
  deriving DecidableEq, Repr

/-- A send whose completion has still to be returned (R295): its number on the MAC, its tag, the frames that have not started, and the highest
code met. -/
structure SendSt where
  id : Nat
  tag : Nat
  left : Nat
  code : Nat
  deriving DecidableEq, Repr

/-- One MAC (R284): link, transmit queues (0 to 6 and the launch queue), the frame in progress with its send and length, sends not yet
completed, the number of the next send; the instants until which pause holds, those at which the pause states began, and those until which pause is
ignored, by kind (0 to 7 a priority, 8 for 802.3x; R302); whether pause has been sent and not released (R301); the shadow and active gate lists and
a pending swap (R299); transmit stamps, oldest first, as nanoseconds, seconds and tag (R304); echo requests answered in the second in
progress (R289). -/
structure Mac where
  up : Bool
  frames : List TxFrame
  current : Option (Nat × Nat × Nat)
  sends : List SendSt
  sendNext : Nat
  pauseUntil : Tbl Nat
  pauseSince : Tbl Nat
  ignoreUntil : Tbl Nat
  pausing : Bool
  gatesNew : List (Nat × Nat)
  gates : List (Nat × Nat)
  gateSwap : Bool
  stamps : List (Nat × Nat × Nat)
  echoAt : Nat
  echoes : Nat
  deriving DecidableEq, Repr

/-- A MAC after reset: link down, the default gate schedule of R298. -/
def Mac.reset : Mac :=
  { up := false, frames := [], current := none, sends := [], sendNext := 0, pauseUntil := [], pauseSince := [], ignoreUntil := [],
    pausing := false, gatesNew := [(125000, 127)], gates := [(125000, 127)], gateSwap := false, stamps := [], echoAt := 0, echoes := 0 }

/-! ## Packet media (R247 to R283) -/

/-- A packet of a kind 1 flow in its ring (R267): its number in the ring, arrival instant, source sequence number, timestamp, marker, payload. -/
structure RingPkt where
  idx : Nat
  arrived : Nat
  seq : Nat
  ts : Nat
  marker : Bool
  payload : List Byte
  deriving DecidableEq, Repr

/-- A receive flow (R251, R256 to R259, R267): adopted SSRC; another SSRC that has arrived alone, and since when; the merge window (top, lowest number, those
received); the instants at which each path last matched and whether it is up; the arrivals of recent packets by path for the skew, the sum and
number of skews of the second in progress, whether both paths were up throughout it, and whether a skew episode is open; the lines
in assembly (line to segments of timestamp, place and bytes; 65,536 is added for a frame that begins while the later path completes the one before), the timestamp of the frame in progress, that of the frame that begins early
and the path that began it with the lines it has completed (R258), the audio samples by RTP timestamp (R232), the packet ring and the number of its next packet, and the last
timestamp delivered. -/
structure RxFlow where
  ssrc : Option Nat
  other : Option (Nat × Nat)
  top : Option Nat
  low : Nat
  marks : List Nat
  lastA : Nat
  lastB : Nat
  upA : Bool
  upB : Bool
  arrivals : Tbl (Bool × Nat)
  skewSum : Int
  skewN : Nat
  bothUp : Bool
  skewHigh : Bool
  lines : Tbl (List (Nat × Nat × List Byte))
  frameTs : Option Nat
  ahead : Option (Nat × Bool)
  aheadLines : List (Nat × List Nat × Bool)
  audio : Tbl (List Nat)
  ring : List RingPkt
  ringNext : Nat
  deriving DecidableEq, Repr

def RxFlow.reset : RxFlow :=
  { ssrc := none, other := none, top := none, low := 0, marks := [], lastA := 0, lastB := 0, upA := false, upB := false, arrivals := [],
    skewSum := 0, skewN := 0, bothUp := false, skewHigh := false, lines := [], frameTs := none, ahead := none, aheadLines := [], audio := [], ring := [], ringNext := 0 }

/-- A transmit flow (R260 to R269): the description in force for the frame being sent, the next sequence number, the instant from which its
launch times count and its timestamp, the packet to send next, whether it sends, whether the frame is black or withheld and an episode of that is
open, ancillary packets that wait (kind 4), and, for kind 1, the receive flow forwarded, the ring number reached, whether its frame is in progress, whether a
first marker is awaited, and the last source sequence number; whether the latest packet was held on a twin that is not active (R419). -/
structure TxFlow where
  record : List Byte
  seq : Nat
  base : Nat
  ts : Nat
  next : Nat
  sending : Bool
  mismatch : Bool
  episode : Bool
  anc : List (Nat × List Nat)
  src : Option Nat
  readIdx : Nat
  inFrame : Bool
  awaitMark : Bool
  srcSeq : Option Nat
  held : Bool
  deriving DecidableEq, Repr

def TxFlow.reset : TxFlow :=
  { record := [], seq := 0, base := 0, ts := 0, next := 0, sending := false, mismatch := false, episode := false, anc := [], src := none,
    readIdx := 0, inFrame := false, awaitMark := false, srcSeq := none, held := false }

/-- An injection channel that holds a send (R270): descriptor, payload, the next segment, and the request: session slot, session, number. -/
structure Injection where
  desc : List Byte
  payload : List Byte
  next : Nat
  slot : Nat
  session : Nat
  reqSeq : Nat
  deriving DecidableEq, Repr

/-- A group membership (R274): port, breakout, VLAN, IP version 6, group, and the sources joined (none: every source). -/
structure Member where
  port : Nat
  breakout : Nat
  vlan : Nat
  v6 : Bool
  group : Nat
  srcs : List Nat
  deriving DecidableEq, Repr

/-- A report that waits to be sent: the group it is of (its sources: empty with `leave` for a membership left), whether it answers a query, and how often it
is still sent. -/
structure Report where
  member : Member
  leave : Bool
  answer : Bool
  times : Nat
  deriving DecidableEq, Repr

/-- Packet media and Ethernet: flows by identifier, injection channels, memberships held, reports that wait, MACs by port × 8 + breakout. -/
structure NetSt where
  rx : Tbl RxFlow
  tx : Tbl TxFlow
  inject : Tbl (Option Injection)
  members : List Member
  reports : List Report
  macs : Tbl Mac
  deriving DecidableEq, Repr

def NetSt.reset : NetSt := { rx := [], tx := [], inject := [], members := [], reports := [], macs := [] }

/-! ## Serial lanes (R312 to R344) -/

/-- One serial lane beside its registers. SDI (R317 to R321): whether the receiver searches or is locked (`on`), the family it tries or is locked
to, the family its cycle started with, the one it last locked to since reset release (0 none), the instant since which it tries, the EAVs that have
agreed and their word count, whether it is locked, the instant of lock while the 1 ms measurement runs, whether the /1.001 rate is marked, the format
and link of its ST 352 identifier; and on a group's first lane, the latest skew measured in ns and whether its episode of excess skew goes on.
Transmit (R324): raster and rate code in force. States (R331 to R333): the state that the transition in progress leads to. Ethernet (R327, on a
breakout's first lane): failed starts in a row, the instant of lane start, that of an alignment loss not yet made good. Splice (R329): searches for
the word boundary that failed, the instant since which it searches. Diagnostics (R334 to R338): the places the boundary has slipped, the raw buffer and whether
a capture runs, PRBS bits inverted, the eye scan in progress (X, Y, EYE, DWELL). -/
structure LaneSt where
  on : Bool
  family : Nat
  first : Nat
  last : Nat
  triedAt : Nat
  eavs : Nat
  words : Nat
  lock : Bool
  lockAt : Option Nat
  fract : Bool
  ident : Option (Format × Nat)
  skew : Nat
  skewed : Bool
  tx : Option (Nat × Nat)
  going : Option Nat
  fails : Nat
  startedAt : Nat
  lossAt : Option Nat
  tries : Nat
  searchAt : Nat
  slips : Nat
  raw : List Nat
  rawBusy : Bool
  inverted : Nat
  scan : Option (Nat × Nat × Nat × Nat)
  deriving DecidableEq, Repr

/-- A lane after reset. -/
def LaneSt.reset : LaneSt :=
  { on := false, family := 0, first := 0, last := 0, triedAt := 0, eavs := 0, words := 0, lock := false, lockAt := none, fract := false, ident := none,
    skew := 0, skewed := false, tx := none, going := none, fails := 0, startedAt := 0, lossAt := none, tries := 0, searchAt := 0, slips := 0, raw := [],
    rawBusy := false, inverted := 0, scan := none }

/-- A step change in progress on a splice port (R330): the steps it leaves and leads to, the lane that changes now, whether that lane
returns to the old step, the instant at which its change started. -/
structure StepChange where
  old : Nat
  new : Nat
  lane : Nat
  back : Bool
  since : Nat
  deriving DecidableEq, Repr

/-- The lane side and link layer of a splice port (R329, R330, R409): the far end's `MAX_STEP` and `AUTO_STEP` once exchanged, the step change in
progress, the steps barred and until when, the instant since which the busier direction's total has stayed at or below 15 % of the
port rate, and whether a take has failed only for want of capacity here. -/
structure StepSt where
  farMax : Option Nat
  farAuto : Bool
  change : Option StepChange
  bars : Tbl Nat
  lowSince : Option Nat
  wanting : Bool
  deriving DecidableEq, Repr

def StepSt.reset : StepSt := { farMax := none, farAuto := false, change := none, bars := [], lowSince := none, wanting := false }

/-- The lanes by number, the splice ports' steps by port, and whether the last value written to `LANE_SEL` was above 215 (R344). -/
structure LneSt where
  lanes : Tbl LaneSt
  ports : Tbl StepSt
  noLane : Bool
  deriving DecidableEq, Repr

def LneSt.reset : LneSt := { lanes := [], ports := [], noLane := false }

/-! ## Reference selection (R345 to R372) -/

/-- A reference entry beside its registers (R350 to R356): whether its input's signal is present (types 1 to 6), the instant at which its `QUAL_S` or
`HOLDOFF_S` timer started, the limit it lies outside (as `CAUSE` is coded), its phase at the last valid comparison (units of 1/27 ns after the DPLL
output), whether it is outvoted, and the instant of its latest PPS edge. -/
structure RefEntry where
  present : Bool
  timer : Option Nat
  why : Nat
  phase : Option Int
  outvoted : Bool
  edge : Option Nat
  deriving DecidableEq, Repr

def RefEntry.reset : RefEntry := { present := false, timer := none, why := 0, phase := none, outvoted := false, edge := none }

/-- An output of R369 in force (R365): its flags, width, and offset. -/
structure RefOut where
  flags : Nat
  width : Nat
  offset : Nat
  deriving DecidableEq, Repr

def RefOut.reset : RefOut := { flags := 0, width := 0, offset := 0 }

/-- The reference system: its entries; the entry most recently selected since reset release; whether a conflict has left no entry selected
(cause 5 of R363); pairs of equal rank that differ, by 8 · a + b, with the instant since which, and the conflicts of them that no vote has resolved;
the instant of the latest measurement; those of entry into `ACQUIRE` and `LOCKED` (or of the latest average); the history, newest first, as the instant
at which each second ended and its average in 0.01 ppb; the outputs in force and, by domain, the frame counter at its last alignment. -/
structure RefSt where
  entries : Tbl RefEntry
  ever : Option Nat
  blocked : Bool
  pairs : Tbl Nat
  conflicts : List Nat
  measuredAt : Nat
  acquiredAt : Nat
  averagedAt : Nat
  history : List (Nat × Int)
  outs : Tbl RefOut
  alignedAt : Tbl Nat
  deriving DecidableEq, Repr

def RefSt.reset : RefSt :=
  { entries := [], ever := none, blocked := false, pairs := [], conflicts := [], measuredAt := 0, acquiredAt := 0, averagedAt := 0, history := [],
    outs := [], alignedAt := [] }

/-! ## Device time (R373 to R393) -/

/-- Device time and uptime: device time is `baseQ`, in units of 1/(27 · 65536) ns, at instant `baseAt`, and runs from there at
1 + rate · 10^−15 against LO_CLK (R373, R375). -/
structure Clock where
  baseAt : Nat
  baseQ : Nat
  rate : Int
  deriving DecidableEq, Repr

def Clock.reset : Clock := { baseAt := 0, baseQ := 0, rate := 0 }

/-- A foreign master (R384): whether it is heard on `PORT_B`, its port identity, its data set in the order in which the comparison ranks, the fields
shown in the `GM` registers, logMessageInterval of its Announce, and the instants of its two latest Announce messages, newest first. -/
structure Foreign where
  portB : Bool
  source : Nat
  data : List Nat
  gm : Nat
  cls : Nat
  steps : Nat
  utc : Int
  log : Int
  heard : List Nat
  deriving DecidableEq, Repr

/-- What waits under R380: a `STEP`, or a `SET` with `AT_PPS` and its seconds. -/
inductive TimePend where
  | step
  | set (sec : Nat)
  deriving DecidableEq, Repr

/-- A Sync that awaits its Follow_Up (R384): source, sequence number, ingress stamp, correction. -/
structure SyncWait where
  source : Nat
  seq : Nat
  rx : Nat
  correction : Int
  deriving DecidableEq, Repr

/-- The time source (R376 to R385): foreign masters; the selected master (port, port identity); the instants of its selection and of the latest valid
measurement; a two-step Sync that waits; the origin (corrected) and ingress stamp of the latest Sync; the Delay_Req in progress with its number and egress
stamp, the next number, and logMessageInterval of Delay_Resp; completed path delays, newest first; the last 16 offsets, newest first, and the valid
measurements since selection; the run towards a change of state; the run of offsets beyond `JUMP_NS`; the rate correction r in 10^-15, the integrator of R379
in (1/(27 · 65536) ns) · (1/27 ns), the instant of the previous measurement used; the request that waits; whether a `SET` has been made. Delays, offsets and stamps
in units of 1/(27 · 65536) ns. -/
structure PtpSt where
  foreign : List Foreign
  master : Option (Bool × Nat)
  selectedAt : Nat
  validAt : Nat
  wait : Option SyncWait
  sync : Option (Int × Int)
  reqSeq : Option Nat
  reqAt : Option Nat
  seqNext : Nat
  delayLog : Int
  delays : List Int
  offsets : List Int
  valid : Nat
  run : Nat
  beyond : List Int
  corr : Int
  integral : Int
  usedAt : Nat
  pend : Option TimePend
  wasSet : Bool
  deriving DecidableEq, Repr

def PtpSt.reset : PtpSt :=
  { foreign := [], master := none, selectedAt := 0, validAt := 0, wait := none, sync := none, reqSeq := none, reqAt := none, seqNext := 0, delayLog := 0,
    delays := [], offsets := [], valid := 0, run := 0, beyond := [], corr := 0, integral := 0, usedAt := 0, pend := none, wasSet := false }

/-! ## Splice links, multi-device systems and twin mode (R394 to R432) -/

/-- A reservation exchange in progress (R406): the session slot and identifier, the takes asked for, not-before time, notification,
whether they are a salvo, and when it began. -/
structure Exchange where
  slot : Nat
  session : Nat
  asks : List TakeAsk
  nb : Option (Nat × Nat)
  notify : Bool
  salvo : Bool
  since : Nat
  deriving DecidableEq, Repr

/-- An imported stream (R403, R404, R407): the pair it serves, the port, units of 0.1 Gb/s, its stream number and origin, the latency of its path in ns, the
links of the path as pairs of a device and its port, and the source's format. -/
structure Import where
  pair : Nat
  port : Nat
  reserve : Nat
  stream : Nat
  dev : Nat
  latency : Nat
  path : List (Nat × Nat)
  format : Option Format
  deriving DecidableEq, Repr

/-- An export stream of this device (R402): stream number, source, domain, units of 0.1 Gb/s, the importers, the ports it leaves by. -/
structure Export where
  stream : Nat
  src : Nat
  td : Nat
  reserve : Nat
  importers : List Nat
  ports : List Nat
  deriving DecidableEq, Repr

/-- A stream that this device relays (R401, R407): origin, stream, the ports it arrives and leaves by, units of 0.1 Gb/s. -/
structure Relay where
  origin : Nat
  stream : Nat
  inPort : Nat
  outPort : Nat
  reserve : Nat
  deriving DecidableEq, Repr

/-- A payload of an essence cell that has arrived (R398): flags, offset within the line's part, bytes. -/
structure CellPart where
  flags : Nat
  off : Nat
  bytes : List Byte
  deriving DecidableEq, Repr

/-- The splice system as this device sees it: the route keys that a split has severed (R417), the devices of its part (R396), the exchanges in
progress, imported streams, exports, relays; the link states received, by device; the instants of the neighbours' latest link-state cells by port; the instant of the
election that waits, the master elected and the part at that election (R410); the payloads gathered by pair × 8192 + line; the audio sample sets of imported pairs that have been released and wait to be sent; the master's ticks by domain as device time (R412),
the domains in an episode of R413; the route keys whose restoration waits, with the earliest instant (R418). Twin mode (R419 to R423): the responses withheld until the mirror
acknowledgement (slot, number, since), whether TWIN_ACT and TWIN_STBY are asserted by this device, whether a record bars it from asserting TWIN_ACT, the handover that waits (earliest instant, cause of R672), the cause for
which the standby is unsynchronised. -/
structure SplSt where
  severed : List Nat
  members : List Nat
  exchanges : List Exchange
  imports : List Import
  exports : List Export
  relays : List Relay
  topo : List LinkState
  heard : Tbl Nat
  electAt : Option Nat
  master : Option Nat
  partAt : List Nat
  gathered : Tbl (List CellPart)
  audio : Tbl (List (List Nat))
  ticks : Tbl (Option Nat)
  tickErr : List Nat
  restores : Tbl Nat
  mirror : List (Nat × Nat × Nat)
  act : Bool
  stby : Bool
  barred : Bool
  handover : Option (Nat × Nat)
  unsync : Nat
  deriving DecidableEq, Repr

def SplSt.reset : SplSt :=
  { severed := [], members := [], exchanges := [], imports := [], exports := [], relays := [], topo := [], heard := [], electAt := none, master := none,
    partAt := [], gathered := [], audio := [], ticks := [], tickErr := [], restores := [], mirror := [], act := false, stby := false, barred := false, handover := none,
    unsync := 1 }

/-! ## Pattern generators and flow watch (R432 to R455) -/

/-- A generator (R433 to R439): the record in force, one that waits with its acceptance instant, whether it runs, its 48-bit frame counter, the
sequence register of `PRBS23`, the house sample tick at which it was enabled, its recent check values (check value and frame counter,
newest first). -/
structure Gen where
  record : List Byte
  next : Option (List Byte × Nat)
  running : Bool
  frame : Nat
  prbs : Nat
  since : Nat
  checks : List (Nat × Nat)
  deriving DecidableEq, Repr

def Gen.reset : Gen := { record := [], next := none, running := false, frame := 0, prbs := 0, since := 0, checks := [] }

/-- What flow watch counts of one source in the interval in progress (R442): per path the last sequence number and arrival; gaps, losses after
merging, whether a path went down, whether the skew limit was passed; skew and latency bounds; the latency sum and number; the
timestamp of the frame in progress; the histogram by path × 16 + bin. -/
structure Watch where
  seqA : Option Nat
  seqB : Option Nat
  arrA : Option Nat
  arrB : Option Nat
  gapsA : Nat
  gapsB : Nat
  lost : Nat
  down : Bool
  skewHigh : Bool
  skew : Option (Int × Int)
  lat : Option (Int × Int)
  latSum : Int
  latN : Nat
  frameTs : Option Nat
  hist : Tbl Nat
  deriving DecidableEq, Repr

def Watch.reset : Watch :=
  { seqA := none, seqB := none, arrA := none, arrB := none, gapsA := 0, gapsB := 0, lost := 0, down := false, skewHigh := false,
    skew := none, lat := none, latSum := 0, latN := 0, frameTs := none, hist := [] }

/-- A check value of a source (R445): value, source frame number, identity found, damaged, second field. -/
structure Check where
  crc : Nat
  frame : Nat
  ident : Option Nat
  damaged : Bool
  field : Bool
  deriving DecidableEq, Repr

/-- Generators and flow watch: generators; per source the interval in progress, its check values (newest first), the rows and the identity of the
frame in progress, and the sources bound anew in the interval; per source position the run of samples at over-level, the instant of
the last such run, the peak of the interval, the instant of the last sample above the silence threshold; the positions silent, over-level,
and either or in error within the interval; the ticks of TD0 since the last closure; the analysers whose next record carries
`GAP_BEFORE` (R446). -/
structure FwaSt where
  gens : Tbl Gen
  watch : Tbl Watch
  checks : Tbl (List Check)
  rows : Tbl (Tbl (List Nat))
  ident : Tbl Nat
  rebound : List Nat
  runs : Tbl Nat
  overAt : Tbl Nat
  peaks : Tbl Nat
  loudAt : Tbl Nat
  silent : List Nat
  overs : List Nat
  bad : List Nat
  ticks : Nat
  deepGap : List Nat
  deriving DecidableEq, Repr

def FwaSt.reset : FwaSt :=
  { gens := [], watch := [], checks := [], rows := [], ident := [], rebound := [], runs := [], overAt := [], peaks := [], loudAt := [],
    silent := [], overs := [], bad := [], ticks := 0, deepGap := [] }

/-! ## Start-up (R489 to R517) -/

/-- Start-up: the reset causes that the next reset release records, whether the boot ROM has chosen the banks, whether LO_CLK is
present, the sections of the settings bank in use as they were read with their optional bits, the label of its body, whether the processors are
released (R38) and every section is checked, whether slot tables are in force since the start, the instant of pilot service and
of full service F, the route keys of `XPT_PILOT_ROUTES` still to apply (R512), whether an accepted `CONFIGURE` is unsaved
(R546), the settings records that the firmware has accepted and full service puts in force, and the pilot sections that it has failed by domain (R504). -/
structure BootSt where
  causes : Nat
  booted : Bool
  lo : Bool
  sections : List (Nat × List Byte)
  label : List Byte
  timing : Bool
  released : Bool
  checked : Bool
  swapped : Bool
  pilotAt : Option Nat
  fullAt : Option Nat
  pilotDue : List Nat
  unsaved : Bool
  next : Tbl (List Byte)
  dropDue : List (Nat × Nat)
  deriving DecidableEq, Repr

def BootSt.reset : BootSt :=
  { causes := 0, booted := false, lo := true, sections := [], label := [], timing := false, released := false, checked := false,
    swapped := false, pilotAt := none, fullAt := none, pilotDue := [], unsaved := false, next := [],
    dropDue := [] }

/-! ## Lanyard sessions (R518 to R557) -/

/-- The state of a session slot (`LAN.S_STATE.STATE`, R556). -/
inductive SlotState where
  | free | halfOpen | opened
  deriving DecidableEq, Repr

/-- One fragment of a request (R527, R528): offset and data. -/
structure Frag where
  off : Nat
  data : List Byte
  deriving DecidableEq, Repr

/-- An incomplete request (R528): its number, type and length, its fragments, the instant of the first one. -/
structure Partial where
  seq : Nat
  msgType : Nat
  len : Nat
  frags : List Frag
  since : Nat
  deriving DecidableEq, Repr

/-- A stored response (R532). -/
structure Resp where
  seq : Nat
  msgType : Nat
  status : Nat
  body : List Byte
  deriving DecidableEq, Repr

/-- An unacknowledged notice (R534): number, code, body, instant last sent, resend interval in ms. -/
structure Notice where
  seq : Nat
  code : Nat
  body : List Byte
  sentAt : Nat
  interval : Nat
  deriving DecidableEq, Repr

/-- A session slot (R525, R530 to R537): identifier, key, privilege (1 OPERATE, 2 CONFIGURE, 3 MAINTAIN), the port and address
now in use, the datagram counters, the agreed datagram size, the host's acknowledgements, the highest request processed,
requests incomplete and complete, responses kept, notices unacknowledged, the subscription, and the session key K_s (R525). -/
structure Session where
  state : SlotState
  id : Nat
  keyId : Nat
  priv : Nat
  port : Nat
  ipv6 : Bool
  addr : Nat
  udpPort : Nat
  maxDgram : Nat
  rxTop : Nat
  rxSeen : List Nat
  txCtr : Nat
  openedAt : Nat
  lastAt : Nat
  ackR : Nat
  ackN : Nat
  done : Nat
  partials : List Partial
  complete : List (Nat × Nat × List Byte)
  responses : List Resp
  noticeSeq : Nat
  notices : List Notice
  lost : Nat
  lostPending : Nat
  mask : Nat
  minSev : Nat
  key : List Byte
  deriving DecidableEq, Repr

/-- A free slot (R557: the session registers of a slot are cleared when a new session takes it). -/
def Session.free : Session :=
  { state := .free, id := 0, keyId := 0, priv := 0, port := 0, ipv6 := false, addr := 0, udpPort := 0, maxDgram := 0, rxTop := 0,
    rxSeen := [], txCtr := 0, openedAt := 0, lastAt := 0, ackR := 0, ackN := 0, done := 0, partials := [], complete := [],
    responses := [], noticeSeq := 0, notices := [], lost := 0, lostPending := 0, mask := 0, minSev := 0, key := [] }

/-- The host message engine: the sixteen session slots, the nonces seen per key with their instants (R525), and the highest
TAKE_ID given (R543). -/
structure LanSt where
  slots : Tbl Session
  nonces : List (Nat × List Byte × Nat)
  takeId : Nat
  deriving DecidableEq, Repr

def LanSt.reset : LanSt := { slots := [], nonces := [], takeId := 0 }

/-! ## Faults and recovery (R558 to R575) -/

/-- Faults: the instants of the warm restarts since the cold start, the start of the one in progress, the notices that wait for its end (R565: slot, session, code, body),
and the requests that it has abandoned, answered by OP_DONE then (R566: slot, session, number). -/
structure FltSt where
  restarts : List Nat
  startedAt : Nat
  notices : List (Nat × Nat × Nat × List Byte)
  abandoned : List (Nat × Nat × Nat)
  deriving DecidableEq, Repr

def FltSt.reset : FltSt := { restarts := [], startedAt := 0, notices := [], abandoned := [] }

/-! ## Event recorder (R576 to R593) -/

/-- An event record (R576): severity, block, code, sequence number, uptime and device time of the first occurrence, folded
repeats and span, payload from word 8 on; for folding and commit, the uptime of the latest occurrence in ns and whether
the archive holds it; and, for a `CAP_CTL_` entry, the capture set whose control ring takes it (R671). -/
structure Rec where
  sev : Nat
  block : Nat
  code : Nat
  seq : Nat
  uptime : Nat
  sec : Nat
  ns : Nat
  repeats : Nat
  spanMs : Nat
  payload : List Nat
  latest : Nat
  committed : Bool
  ctl : Option Nat
  deriving DecidableEq, Repr

/-- Who owns a freeze: a session slot or the register window (R582). -/
inductive FreezeOwner where
  | session (slot : Nat)
  | window
  deriving DecidableEq, Repr

/-- A freeze in force: owner and the instant at which it was last set or renewed (R582, R583). -/
structure Freeze where
  owner : FreezeOwner
  since : Nat
  deriving DecidableEq, Repr

/-- The recorder's state: records handed over and waiting for M6, the ring, the side buffer and the commit buffer (each oldest
first), the next sequence number, the reference number of R585, the freeze, the cursors of the session slots (0-15), and where the
archive stands: the sector being written, the bytes used in it, whether it takes no further batch (R586), the sectors left unused
after a failure (R584). The archive's bytes stand in the flash. -/
structure LogSt where
  handed : List Rec
  ring : List Rec
  side : List Rec
  commit : List Rec
  seqNext : Nat
  refSeq : Nat
  freeze : Option Freeze
  cursors : Tbl Nat
  sector : Nat
  offset : Nat
  closed : Bool
  badSectors : List Nat
  deriving DecidableEq, Repr

/-- The recorder right after reset: nothing recorded, an empty archive (R587: the first number is then 1). -/
def LogSt.reset : LogSt :=
  { handed := [], ring := [], side := [], commit := [], seqNext := 1, refSeq := 1, freeze := none, cursors := [], sector := 0,
    offset := 0, closed := false, badSectors := [] }

/-! ## Firmware and settings update (R594 to R614) -/

/-- The load state of a kind, coded as `UPD.STATUS.FW_STATE` (R599, R613). -/
inductive LoadState where
  | idle | erasing | loading | armed
  deriving DecidableEq, Repr

/-- The load of one kind (R599): state, `ARG`, target bank (1 A, 2 B), the blocks written, whether the arm verification runs, and
the request that waits for its OP_DONE: slot, session, number. -/
structure Load where
  state : LoadState
  arg : Nat
  bank : Nat
  written : List Nat
  verifying : Bool
  slot : Nat
  session : Nat
  reqSeq : Nat
  deriving DecidableEq, Repr

def Load.idle : Load :=
  { state := .idle, arg := 0, bank := 0, written := [], verifying := false, slot := 0, session := 0, reqSeq := 0 }

/-- An activation, pending or under way (R604, R605): `ACT_STATE` of R613, the kinds (bit 0 firmware, bit 1 settings), the activation time, the
start S, why it reverts once a revert is under way (R608: cause, section type, code), and the request. -/
structure Activation where
  state : Nat
  kinds : Nat
  time : Option (Nat × Nat)
  startedAt : Nat
  why : Option (Nat × Nat × Nat)
  slot : Nat
  session : Nat
  reqSeq : Nat
  deriving DecidableEq, Repr

/-- A flash job whose completion a notice reports: `SAVE` (R603) or the enrolment of a key (R602): slot, session, number of the
request, and the entry to write: key slot, in use, ceiling, key. -/
structure FlashJob where
  slot : Nat
  session : Nat
  reqSeq : Nat
  entry : Nat
  inUse : Bool
  ceiling : Nat
  key : List Byte
  deriving DecidableEq, Repr

/-- Updates: the firmware and settings loads, the activation, the `SAVE` and the enrolment in progress. -/
structure UpdSt where
  fw : Load
  set : Load
  act : Option Activation
  save : Option FlashJob
  enrol : Option FlashJob
  deriving DecidableEq, Repr

def UpdSt.reset : UpdSt := { fw := Load.idle, set := Load.idle, act := none, save := none, enrol := none }

/-! ## Capture store and replay (R456 to R488) -/

/-- A drive link (R456 to R459): present, failed, its label's store (none without a label), whether the label agrees with the record
of the enabled drives, whole extents of the device, negotiated width and generation. -/
structure Drive where
  present : Bool
  failed : Bool
  label : Option Nat
  extents : Nat
  width : Nat
  gen : Nat
  deriving DecidableEq, Repr

def Drive.reset : Drive := { present := false, failed := false, label := none, extents := 0, width := 0, gen := 0 }

/-- A record of a capture channel (R463): type, uptime of its tick or arrival, frame counter (packet and gap records: 0), bytes. -/
structure CapRec where
  kind : Nat
  uptime : Nat
  frame : Nat
  bytes : List Byte
  deriving DecidableEq, Repr

/-- A channel of a set: level, `PATHS` and reserved rate in bytes/s as armed; the records on the drives that the last commit covers, those written since and those
that wait in staging, each oldest first; the losses gathered for a gap record (cause, count, first, last uptime); the records lost; the highest
staging fill in per mille; and, for each snapshot kept, its uptime and bytes 4 to 19 of the channel's table entry (R470) at it, oldest first. -/
structure CapChan where
  level : Nat
  paths : Nat
  rate : Nat
  kept : List CapRec
  fresh : List CapRec
  staged : List CapRec
  gap : Option (Nat × Nat × Nat × Nat)
  lost : Nat
  peak : Nat
  snaps : List (Nat × List Byte)
  deriving DecidableEq, Repr

def CapChan.reset : CapChan :=
  { level := 0, paths := 0, rate := 0, kept := [], fresh := [], staged := [], gap := none, lost := 0, peak := 0, snaps := [] }

/-- A capture set (R461 to R470): state and cause as coded, definition of R481, rate code, uptime of its arming, trigger time (uptime, and device
time), start and end of the kept recording, the flags of its header, the settings digests taken at arming, control ring (oldest
first), channels, causes ignored, extents reserved, causes of gaps recorded, the last second at which a snapshot was written, and
what the last commit of its header covered (uptime). -/
structure CapSet where
  state : Nat
  cause : Nat
  body : List Byte
  rate : Nat
  armedAt : Nat
  trig : Option Nat
  trigSec : Nat
  trigNs : Nat
  startAt : Nat
  endAt : Nat
  dirty : Bool
  gaps : Bool
  full : Bool
  fwDigest : List Byte
  setDigest : List Byte
  ctl : List Rec
  chans : Tbl CapChan
  ignored : Nat
  reserved : Nat
  causes : List Nat
  snapAt : Nat
  committedAt : Nat
  devId : Nat
  deriving DecidableEq, Repr

/-- A free set. -/
def CapSet.reset : CapSet :=
  { state := 0, cause := 0, body := [], rate := 0, armedAt := 0, trig := none, trigSec := 0, trigNs := 0, startAt := 0, endAt := 0,
    dirty := false, gaps := false, full := false, fwDigest := [], setDigest := [], ctl := [], chans := [], ignored := 0, reserved := 0,
    causes := [], snapAt := 0, committedAt := 0, devId := 0 }

/-- A player (R474 to R476): state as coded in `CAP.P_STATE`, set and channel read, end mode, index of the kept frame shown and the ticks for
which it has been shown, the start index, the requests that wait (1 play, 2 pause, 3 resume, 4 stop) with their earliest instant and not-before time, and the
format, rows, ancillary packets by line, and audio words by channel of the frame shown. -/
structure Player where
  state : Nat
  set : Nat
  ch : Nat
  mode : Nat
  index : Nat
  times : Nat
  start : Nat
  next : List (Nat × Nat × Option (Nat × Nat))
  format : Option Format
  rows : List (List Nat)
  anc : List (Nat × List Nat)
  audio : List (List Nat)
  deriving DecidableEq, Repr

def Player.reset : Player :=
  { state := 0, set := 0, ch := 0, mode := 0, index := 0, times := 0, start := 0, next := [], format := none, rows := [], anc := [], audio := [] }

/-- The replay (R477 to R480): set, cause of R478 (0 exact), the kept frame that comes next, the earliest instant of its tick, and the request that
asked: slot, session. -/
structure Replay where
  set : Nat
  cause : Nat
  index : Nat
  notBefore : Nat
  slot : Nat
  session : Nat
  deriving DecidableEq, Repr

/-- The capture store: drives, whether the store is ready, its identifier, sets, the catalogue headers as last committed, players, the replay in progress,
the format in progress with its request, whether the supply hold is in force; and, of the frame in progress, the lines sent to capture inputs and watched
destinations, the audio words of their positions, and the check values of watched composers. -/
structure CapSt where
  drives : Tbl Drive
  ready : Bool
  store : Nat
  sets : Tbl CapSet
  headers : Tbl (List Byte)
  players : Tbl Player
  replay : Option Replay
  format : Option FlashJob
  hold : Bool
  lines : Tbl (Tbl (List Nat × List Nat))
  audio : Tbl (List Nat)
  composed : Tbl Nat
  deriving DecidableEq, Repr

def CapSt.reset : CapSt :=
  { drives := [], ready := false, store := 0, sets := [], headers := [], players := [], replay := none, format := none, hold := false, lines := [],
    audio := [], composed := [] }
/-! ## Control fabric (R615 to R642) -/

/-- A transaction that a master has issued and the fabric has not completed (R615, R620 to R627): master, target, address, write, the words written (of a
read: as many as it asks for), whether it asks for a locked sequence, whether it is a barrier, its age stamp, the instant at which it was raised,
the session slot whose window page it uses (R631), and whether its target has granted it. -/
structure FabTx where
  master : Nat
  target : Nat
  addr : Nat
  write : Bool
  words : List Nat
  lock : Bool
  barrier : Bool
  stamp : Nat
  at_ : Nat
  slot : Nat
  granted : Bool
  deriving DecidableEq, Repr

/-- The arbiter of a target port (R625 to R627): the grant counter, the credit spent in the window by master, the length of each master's next backoff, the instants at which
backoffs end, the master on which the grant is parked, the locked sequence in force (its master and the beats left). -/
structure FabPort where
  grants : Nat
  spent : Tbl Nat
  backoff : Tbl Nat
  offUntil : Tbl Nat
  parked : Option Nat
  lock : Option (Nat × Nat)
  deriving DecidableEq, Repr

/-- A port right after reset release: parked on M0 (R626). -/
def FabPort.reset : FabPort := { grants := 0, spent := [], backoff := [], offUntil := [], parked := some 0, lock := none }

/-- The fabric: whether the mapping of `REMAP` 1 is in force and whether that change waits (R619), the ports, the transactions outstanding in order of issue, the masters
held in reset, the weights in force plus one (unlisted: the default) and the instants of the writes that wait for a refill (R628). -/
structure FabSt where
  remap : Bool
  remapDue : Bool
  ports : Tbl FabPort
  txs : List FabTx
  held : List Nat
  weightLive : Tbl Nat
  weightAt : Tbl Nat
  deriving DecidableEq, Repr

def FabSt.reset : FabSt := { remap := false, remapDue := false, ports := [], txs := [], held := [], weightLive := [], weightAt := [] }

/-! ## Power and temperature (R643 to R655) -/

/-- A supply hold in force (R646, R648): when it began, the conditions seen during it, and the `HOLDUP_US` with which it started (R652). -/
structure SupplyHold where
  since : Nat
  conds : Nat
  holdup : Nat
  deriving DecidableEq, Repr

/-- Power: the supply hold, whether the hottest sensor stands in the warning, alert and limit states (R651), whether a rail is below its reset value, whether a hardware trip
keeps the device in reset, and the records that follow `LOG_START` at the next start (R651: rail or trip, with words 8 and 9). -/
structure PwrSt where
  hold : Option SupplyHold
  warn : Bool
  alert : Bool
  limit : Bool
  railLow : Bool
  tripped : Bool
  due : List (Bool × Nat × Nat)
  deriving DecidableEq, Repr

def PwrSt.reset : PwrSt := { hold := none, warn := false, alert := false, limit := false, railLow := false, tripped := false, due := [] }

/-! ## Pins and the management target (R662 to R667) -/

/-- The pins whose level the module keeps, and the I2C management target: RESET_N and PWR_WARN_N low, the pointer of the next register, the four bytes of the register that a read has latched with
how many of them have been read, and the values as of the last update, by
offset / 4; those of the OTP do not change. -/
structure PinSt where
  resetLow : Bool
  warnLow : Bool
  pointer : Nat
  latched : Nat
  taken : Nat
  values : List Nat
  deriving DecidableEq, Repr

/-- The values of the management target at reset (R667). -/
def mgmtReset : List Nat := [0x544B1024, 0x00000B00, 7, 0, 0, 0]

def PinSt.reset : PinSt := { resetLow := false, warnLow := false, pointer := 0, latched := 0, taken := 0, values := mgmtReset }

/-! ## The whole module -/

/-- Everything the module holds, apart from the queue of waiting commands and its byte-addressed memories. -/
structure Chip where
  /-- The current instant, in units of 1/27 ns since power was applied (the instant of the latest command). -/
  now : Nat
  /-- The instant of reset release, from which uptime counts (R374). -/
  released : Nat
  /-- Whether the module's functions run. -/
  run : RunState
  /-- Device time. -/
  clock : Clock
  /-- The values latched for the high words of register pairs, by the high register's address and bank. -/
  latch : Tbl Nat
  /-- The model's own counter for free values (not the spec's): each value the spec leaves open is `Config.freeValue` of a number taken from here. -/
  free : Nat
  /-- The outputs of the latest command (the model's own record). -/
  sent : List Out
  /-- The register file: the value of each register field that differs from its reset value, keyed by `Fld.key`. -/
  regs : Tbl Nat
  /-- The settings records in force, as their bytes, keyed by section type and index; an unlisted record is at its section's default. -/
  cfg : Tbl (List Byte)
  /-- Sessions. -/
  lan : LanSt
  /-- Event recorder. -/
  log : LogSt
  /-- Timing domains. -/
  tick : TickSt
  /-- Crosspoint. -/
  xpt : XptSt
  /-- Frame store and synchronisers. -/
  fst : FstSt
  /-- Memory scheduling. -/
  arb : ArbSt
  /-- Composers. -/
  cmp : CmpSt
  /-- Start-up. -/
  boot : BootSt
  /-- Splice system and twin mode. -/
  spl : SplSt
  /-- Firmware and settings update. -/
  upd : UpdSt
  /-- Audio crosspoint and ports. -/
  aud : AudSt
  /-- Packet media and Ethernet. -/
  net : NetSt
  /-- Pattern generators and flow watch. -/
  fwa : FwaSt
  /-- Capture store and replay. -/
  cap : CapSt
  /-- Serial lanes. -/
  lne : LneSt
  /-- Reference selection. -/
  ref : RefSt
  /-- The time source. -/
  ptp : PtpSt
  /-- Faults and recovery. -/
  flt : FltSt
  /-- Control fabric. -/
  fab : FabSt
  /-- Power and temperature. -/
  pwr : PwrSt
  /-- Pins and the management target. -/
  pin : PinSt
  /-- The select registers whose latest write named nothing, by their addresses: the registers they show read as 0. -/
  noSel : List Nat
  deriving DecidableEq, Repr

/-- The module right after reset. -/
def Chip.reset : Chip :=
  { now := 0,
    released := 0,
    run := .running,
    clock := Clock.reset,
    latch := [],
    free := 0,
    sent := [],
    regs := [],
    cfg := [],
    lan := LanSt.reset,
    log := LogSt.reset,
    tick := TickSt.reset,
    xpt := XptSt.reset,
    fst := FstSt.reset,
    arb := ArbSt.reset,
    cmp := CmpSt.reset,
    boot := BootSt.reset,
    spl := SplSt.reset,
    upd := UpdSt.reset,
    aud := AudSt.reset,
    net := NetSt.reset,
    fwa := FwaSt.reset,
    cap := CapSt.reset,
    lne := LneSt.reset,
    ref := RefSt.reset,
    ptp := PtpSt.reset,
    flt := FltSt.reset,
    fab := FabSt.reset,
    pwr := PwrSt.reset,
    pin := PinSt.reset,
    noSel := [] }

/-- The state of the machine: the commands that wait, first in first out; the byte-addressed memories; the module. -/
structure State where
  pending : List Instr
  mem : Tbl Byte
  chip : Chip
  deriving DecidableEq, Repr

/-- The machine right after reset: no command waits, no byte of memory is listed. -/
def State.reset : State := { pending := [], mem := [], chip := Chip.reset }

end Sys2Proof.Machine
end

