-- ==== Sys2Proof/Machine/Operands.lean ====
section
/-! DEFINITION. Reading the operands of commands: byte fields of messages and records in network byte order (R4), signed
fields, medians (R670). -/

namespace Sys2Proof.Machine

/-- The number that bytes spell in network byte order. -/
def beNat (l : List Byte) : Nat := l.foldl (fun a b => a * 256 + b.toNat) 0

/-- The byte at offset `i`, 0 beyond the end. -/
def u8 (b : List Byte) (i : Nat) : Nat := ((b.drop i).headD 0).toNat

/-- `n` bytes from offset `i`. -/
def bytesAt (b : List Byte) (i n : Nat) : List Byte := (b.drop i).take n

/-- The 2-byte field at offset `i`. -/
def u16 (b : List Byte) (i : Nat) : Nat := u8 b i * 256 + u8 b (i + 1)

/-- The 3-byte field at offset `i`. -/
def u24 (b : List Byte) (i : Nat) : Nat := u16 b i * 256 + u8 b (i + 2)

/-- The 4-byte field at offset `i`. -/
def u32 (b : List Byte) (i : Nat) : Nat := u16 b i * 65536 + u16 b (i + 2)

/-- The 8-byte field at offset `i`. -/
def u64 (b : List Byte) (i : Nat) : Nat := u32 b i * 4294967296 + u32 b (i + 4)

/-- Whether the `n` bytes at offset `i` are all 0. -/
def zeroAt (b : List Byte) (i n : Nat) : Bool := (bytesAt b i n).all (fun x => x == 0)

/-- Bit `i` of a number. -/
def bit (v i : Nat) : Bool := v / 2 ^ i % 2 == 1

/-- Bits [hi:lo] of a number. -/
def bits (v hi lo : Nat) : Nat := v / 2 ^ lo % 2 ^ (hi + 1 - lo)

/-- A number of `w` bits read as a signed one. -/
def signed (w v : Nat) : Int := if v % 2 ^ w < 2 ^ (w - 1) then (v % 2 ^ w : Nat) else ((v % 2 ^ w : Nat) : Int) - 2 ^ w

/-- A signed number as `w` bits. -/
def unsigned (w : Nat) (v : Int) : Nat := (v % (2 ^ w : Int)).toNat

/-- A signed number that saturates in `w` bits (R672). -/
def satSigned (w : Nat) (v : Int) : Nat :=
  unsigned w (max (-(2 ^ (w - 1) : Int)) (min ((2 ^ (w - 1) : Int) - 1) v))

/-- A number that saturates in `w` bits (R672). -/
def sat (w v : Nat) : Nat := min v (2 ^ w - 1)

/-- The `n` bytes of a number in network byte order. -/
def beBytes : Nat → Nat → List Byte
  | 0, _ => []
  | n + 1, v => BitVec.ofNat 8 (v / 256 ^ n) :: beBytes n v

/-- A Bool as the bit it is. -/
def flag (b : Bool) : Nat := if b then 1 else 0

/-- The quotient rounded up. -/
def ceilDiv (a b : Nat) : Nat := (a + b - 1) / b

/-- The quotient rounded to the nearest integer, ties away from zero. -/
def roundDiv (a : Int) (b : Nat) : Int :=
  if 0 ≤ a then (2 * a + b) / (2 * b) else -((2 * (-a) + b) / (2 * b))

/-- Inserts a number into a rising list. -/
def insertSorted (v : Int) : List Int → List Int
  | [] => [v]
  | x :: r => if v ≤ x then v :: x :: r else x :: insertSorted v r

/-- A list of numbers in rising order. -/
def sortInts (l : List Int) : List Int := l.foldl (fun a v => insertSorted v a) []

/-- The median of R670: the middle value, or the mean of the two middle values rounded to the nearest unit with ties away from
zero. -/
def median (l : List Int) : Int :=
  let s := sortInts l
  let n := s.length
  if n % 2 = 1 then s.getD (n / 2) 0 else roundDiv (s.getD (n / 2 - 1) 0 + s.getD (n / 2) 0) 2

/-- Whether a list names something twice. -/
def hasDup : List Nat → Bool
  | [] => false
  | x :: r => r.contains x || hasDup r

/-- A list without its repeats, each kept at its first place. -/
def dedup (l : List Nat) : List Nat := l.foldl (fun a x => if a.contains x then a else a ++ [x]) []

end Sys2Proof.Machine
end

