-- ==== Sys2Proof/Machine/Regs.lean ====
section
/-! DEFINITION. The register fields of R5 and the register tables of the chapters (R636 bases): one descriptor per field,
with its address, lowest bit, width, access code and the value the Reset column gives it. -/

namespace Sys2Proof.Machine

/-- The access codes of R5. -/
inductive Acc where
  | rw | ro | w1c | wo
  deriving DecidableEq, Repr

/-- One field of a register table: the register's fabric address (R636), lowest bit, width in bits, access code (R5) and
reset value. -/
structure Fld where
  addr : Nat
  lo : Nat
  width : Nat
  acc : Acc
  reset : Nat
  deriving DecidableEq, Repr

/-- The place of a field's value in the register file: address, lowest bit and bank. A register whose value is shown through
a select register has one bank for each value of that select register; any other register uses bank 0. -/
def Fld.key (f : Fld) (bank : Nat) : Nat := (f.addr * 32 + f.lo) * 1048576 + bank

/-- TICK.CTRL, R70. -/
def Reg.TICK_CTRL_REALIGN : Fld := ⟨0x40010000, 0, 4, .wo, 0⟩
def Reg.TICK_CTRL_CLR_OVR : Fld := ⟨0x40010000, 4, 1, .wo, 0⟩
/-- TICK.STATUS, R71. -/
def Reg.TICK_STATUS_OVERRUN : Fld := ⟨0x40010004, 0, 4, .w1c, 0⟩
def Reg.TICK_STATUS_SLOT_OVERRUN : Fld := ⟨0x40010004, 4, 1, .w1c, 0⟩
def Reg.TICK_STATUS_CFG_REJECT : Fld := ⟨0x40010004, 5, 1, .w1c, 0⟩
def Reg.TICK_STATUS_REALIGN_PEND : Fld := ⟨0x40010004, 8, 4, .ro, 0⟩
def Reg.TICK_STATUS_ALIGNED : Fld := ⟨0x40010004, 12, 4, .ro, 0⟩
def Reg.TICK_STATUS_PHASE_ERR : Fld := ⟨0x40010004, 16, 4, .ro, 0⟩
def Reg.TICK_STATUS_ENABLED : Fld := ⟨0x40010004, 20, 4, .ro, 1⟩
def Reg.TICK_STATUS_FREE_RUN : Fld := ⟨0x40010004, 24, 1, .ro, 1⟩
/-- TICK.SEQ, R73. -/
def Reg.TICK_SEQ_POS : Fld := ⟨0x40010008, 0, 3, .ro, 0⟩
/-- TICK.SAMPLE_CNT, R73. -/
def Reg.TICK_SAMPLE_CNT_COUNT : Fld := ⟨0x4001000c, 0, 32, .ro, 0⟩
/-- TICK.SLOTFRAME_CNT, R73. -/
def Reg.TICK_SLOTFRAME_CNT_COUNT : Fld := ⟨0x40010010, 0, 32, .ro, 0⟩
/-- TICK.SLOT_OVR, R73. -/
def Reg.TICK_SLOT_OVR_COUNT : Fld := ⟨0x40010014, 0, 32, .ro, 0⟩
/-- TICK.SRC_PHASE_SEL, R73. -/
def Reg.TICK_SRC_PHASE_SEL_SRC : Fld := ⟨0x40010018, 0, 11, .rw, 0⟩
def Reg.TICK_SRC_PHASE_SEL_TD : Fld := ⟨0x40010018, 12, 2, .rw, 0⟩
/-- TICK.SRC_PHASE, R73. -/
def Reg.TICK_SRC_PHASE_LEAD : Fld := ⟨0x4001001c, 0, 16, .ro, 0⟩
def Reg.TICK_SRC_PHASE_VALID : Fld := ⟨0x4001001c, 16, 1, .ro, 0⟩
def Reg.TICK_SRC_PHASE_RATE_MATCH : Fld := ⟨0x4001001c, 17, 1, .ro, 0⟩
def Reg.TICK_SRC_PHASE_IN_WINDOW : Fld := ⟨0x4001001c, 18, 1, .ro, 0⟩
/-- TICK.TDn_CFG, R74. -/
def Reg.TICK_TD_CFG_ENABLE (n : Nat) : Fld := ⟨(0x40010040 + 0x20 * n), 0, 1, .rw, (if n = 0 then 1 else 0)⟩
def Reg.TICK_TD_CFG_RATE (n : Nat) : Fld := ⟨(0x40010040 + 0x20 * n), 4, 4, .rw, 7⟩
def Reg.TICK_TD_CFG_REF_ENTRY (n : Nat) : Fld := ⟨(0x40010040 + 0x20 * n), 8, 3, .rw, 0⟩
def Reg.TICK_TD_CFG_SPLICE (n : Nat) : Fld := ⟨(0x40010040 + 0x20 * n), 11, 1, .rw, 0⟩
def Reg.TICK_TD_CFG_AUTO_FIRST (n : Nat) : Fld := ⟨(0x40010040 + 0x20 * n), 12, 1, .rw, 1⟩
/-- TICK.TDn_OUT_DELAY, R74. -/
def Reg.TICK_TD_OUT_DELAY_DELAY_NS (n : Nat) : Fld := ⟨(0x40010044 + 0x20 * n), 0, 20, .rw, 0⟩
/-- TICK.TDn_WINDOW, R74. -/
def Reg.TICK_TD_WINDOW_LEAD_MIN (n : Nat) : Fld := ⟨(0x40010048 + 0x20 * n), 0, 3, .rw, 1⟩
def Reg.TICK_TD_WINDOW_LEAD_MAX (n : Nat) : Fld := ⟨(0x40010048 + 0x20 * n), 4, 3, .rw, 6⟩
/-- TICK.TDn_PHASE, R74. -/
def Reg.TICK_TD_PHASE_PHASE_NS (n : Nat) : Fld := ⟨(0x4001004c + 0x20 * n), 0, 32, .ro, 2147483648⟩
/-- TICK.TDn_FRAME_LO, R74. -/
def Reg.TICK_TD_FRAME_LO_COUNT (n : Nat) : Fld := ⟨(0x40010050 + 0x20 * n), 0, 32, .ro, 0⟩
/-- TICK.TDn_FRAME_HI, R74. -/
def Reg.TICK_TD_FRAME_HI_COUNT (n : Nat) : Fld := ⟨(0x40010054 + 0x20 * n), 0, 16, .ro, 0⟩
/-- TICK.TDn_OVR, R74. -/
def Reg.TICK_TD_OVR_TAKE (n : Nat) : Fld := ⟨(0x40010058 + 0x20 * n), 0, 8, .ro, 0⟩
def Reg.TICK_TD_OVR_SYNC (n : Nat) : Fld := ⟨(0x40010058 + 0x20 * n), 8, 8, .ro, 0⟩
def Reg.TICK_TD_OVR_CMP (n : Nat) : Fld := ⟨(0x40010058 + 0x20 * n), 16, 8, .ro, 0⟩
def Reg.TICK_TD_OVR_FWA (n : Nat) : Fld := ⟨(0x40010058 + 0x20 * n), 24, 8, .ro, 0⟩
/-- TICK.TDn_PHASE_LIMIT, R74. -/
def Reg.TICK_TD_PHASE_LIMIT_LIMIT_NS (n : Nat) : Fld := ⟨(0x4001005c + 0x20 * n), 0, 20, .rw, 1000⟩
/-- XPT.CTRL, R108. -/
def Reg.XPT_CTRL_CLR_CNT : Fld := ⟨0x40000000, 0, 1, .wo, 0⟩
/-- XPT.STATUS, R108. -/
def Reg.XPT_STATUS_PILOT : Fld := ⟨0x40000004, 0, 1, .ro, 1⟩
def Reg.XPT_STATUS_RESTART : Fld := ⟨0x40000004, 1, 1, .ro, 0⟩
def Reg.XPT_STATUS_QUEUE_FULL_SEEN : Fld := ⟨0x40000004, 2, 1, .w1c, 0⟩
def Reg.XPT_STATUS_FALLBACK_ACTIVE : Fld := ⟨0x40000004, 3, 1, .ro, 0⟩
def Reg.XPT_STATUS_LINE_MISS_SEEN : Fld := ⟨0x40000004, 4, 1, .w1c, 0⟩
def Reg.XPT_STATUS_CFG_REJECT : Fld := ⟨0x40000004, 5, 1, .w1c, 0⟩
/-- XPT.QUEUE, R108. -/
def Reg.XPT_QUEUE_USED : Fld := ⟨0x40000008, 0, 15, .ro, 0⟩
def Reg.XPT_QUEUE_PEAK : Fld := ⟨0x40000008, 16, 15, .ro, 0⟩
/-- XPT.HELD, R108. -/
def Reg.XPT_HELD_COUNT : Fld := ⟨0x4000000c, 0, 15, .ro, 0⟩
/-- XPT.SLOTS, R108. -/
def Reg.XPT_SLOTS_USED : Fld := ⟨0x40000010, 0, 11, .ro, 0⟩
def Reg.XPT_SLOTS_PEAK : Fld := ⟨0x40000010, 16, 11, .ro, 0⟩
/-- XPT.REFUSED, R108. -/
def Reg.XPT_REFUSED_COUNT : Fld := ⟨0x40000014, 0, 32, .ro, 0⟩
/-- XPT.APPLIED, R108. -/
def Reg.XPT_APPLIED_COUNT : Fld := ⟨0x40000018, 0, 32, .ro, 0⟩
/-- XPT.DST_SEL, R108. -/
def Reg.XPT_DST_SEL_DST : Fld := ⟨0x40000020, 0, 11, .rw, 0⟩
/-- XPT.DST_ROUTE_V, R108. -/
def Reg.XPT_DST_ROUTE_V_SRC : Fld := ⟨0x40000024, 0, 11, .ro, 2047⟩
/-- XPT.DST_ROUTE_A, R108. -/
def Reg.XPT_DST_ROUTE_A_SRC : Fld := ⟨0x40000028, 0, 11, .ro, 2047⟩
/-- XPT.DST_ROUTE_F, R108. -/
def Reg.XPT_DST_ROUTE_F_SRC : Fld := ⟨0x4000002c, 0, 11, .ro, 2047⟩
/-- XPT.DST_STATE, R108. -/
def Reg.XPT_DST_STATE_PATH : Fld := ⟨0x40000030, 0, 2, .ro, 0⟩
def Reg.XPT_DST_STATE_FALLBACK : Fld := ⟨0x40000030, 2, 2, .ro, 0⟩
def Reg.XPT_DST_STATE_STATE : Fld := ⟨0x40000030, 4, 3, .ro, 0⟩
def Reg.XPT_DST_STATE_CAUSE : Fld := ⟨0x40000030, 7, 3, .ro, 0⟩
def Reg.XPT_DST_STATE_TD : Fld := ⟨0x40000030, 10, 2, .ro, 0⟩
def Reg.XPT_DST_STATE_HELD : Fld := ⟨0x40000030, 12, 1, .ro, 0⟩
def Reg.XPT_DST_STATE_PATH_A : Fld := ⟨0x40000030, 14, 2, .ro, 0⟩
def Reg.XPT_DST_STATE_PENDING : Fld := ⟨0x40000030, 16, 8, .ro, 0⟩
def Reg.XPT_DST_STATE_PATH_F : Fld := ⟨0x40000030, 24, 2, .ro, 0⟩
/-- XPT.DST_ALT, R108. -/
def Reg.XPT_DST_ALT_SRC : Fld := ⟨0x40000034, 0, 11, .ro, 2047⟩
/-- XPT.LINE_MISS, R108. -/
def Reg.XPT_LINE_MISS_COUNT : Fld := ⟨0x40000038, 0, 32, .ro, 0⟩
/-- XPT.SRC_SEL, R108. -/
def Reg.XPT_SRC_SEL_SRC : Fld := ⟨0x40000040, 0, 11, .rw, 0⟩
/-- XPT.SRC_STATE, R108. -/
def Reg.XPT_SRC_STATE_BOUND : Fld := ⟨0x40000044, 0, 1, .ro, 0⟩
def Reg.XPT_SRC_STATE_LOST : Fld := ⟨0x40000044, 1, 1, .ro, 0⟩
def Reg.XPT_SRC_STATE_IS_22 : Fld := ⟨0x40000044, 2, 1, .ro, 0⟩
def Reg.XPT_SRC_STATE_PILOT_CAP : Fld := ⟨0x40000044, 3, 1, .ro, 0⟩
def Reg.XPT_SRC_STATE_READOUT : Fld := ⟨0x40000044, 4, 4, .ro, 0⟩
def Reg.XPT_SRC_STATE_FANOUT : Fld := ⟨0x40000044, 16, 11, .ro, 0⟩
/-- XPT.SRC_CFG, R108. -/
def Reg.XPT_SRC_CFG_MODE : Fld := ⟨0x40000048, 0, 2, .rw, 2⟩
def Reg.XPT_SRC_CFG_LOSS_FRAMES : Fld := ⟨0x40000048, 8, 8, .rw, 2⟩
/-- XPT.ANC_DROP, R108. -/
def Reg.XPT_ANC_DROP_COUNT : Fld := ⟨0x4000004c, 0, 32, .ro, 0⟩
/-- FST.CTRL, R141. -/
def Reg.FST_CTRL_CLR_CNT : Fld := ⟨0x40020000, 0, 1, .wo, 0⟩
def Reg.FST_CTRL_SCRUB_EN : Fld := ⟨0x40020000, 1, 1, .rw, 1⟩
/-- FST.STATUS, R141. -/
def Reg.FST_STATUS_READY : Fld := ⟨0x40020004, 0, 1, .ro, 0⟩
def Reg.FST_STATUS_TRAIN_FAIL : Fld := ⟨0x40020004, 1, 1, .ro, 0⟩
def Reg.FST_STATUS_UE_SEEN : Fld := ⟨0x40020004, 2, 1, .w1c, 0⟩
def Reg.FST_STATUS_COLLIDE_SEEN : Fld := ⟨0x40020004, 3, 1, .w1c, 0⟩
def Reg.FST_STATUS_CFG_REJECT : Fld := ⟨0x40020004, 4, 1, .w1c, 0⟩
/-- FST.ECC_CE, R141. -/
def Reg.FST_ECC_CE_COUNT : Fld := ⟨0x40020008, 0, 32, .ro, 0⟩
/-- FST.ECC_UE, R141. -/
def Reg.FST_ECC_UE_COUNT : Fld := ⟨0x4002000c, 0, 32, .ro, 0⟩
/-- FST.ECC_ADDR_LO, R141. -/
def Reg.FST_ECC_ADDR_LO_ADDR : Fld := ⟨0x40020010, 0, 32, .ro, 0⟩
/-- FST.ECC_ADDR_HI, R141. -/
def Reg.FST_ECC_ADDR_HI_ADDR : Fld := ⟨0x40020014, 0, 5, .ro, 0⟩
/-- FST.TRAIN_MAP_LO, R141. -/
def Reg.FST_TRAIN_MAP_LO_FAIL : Fld := ⟨0x40020018, 0, 32, .ro, 0⟩
/-- FST.TRAIN_MAP_HI, R141. -/
def Reg.FST_TRAIN_MAP_HI_FAIL : Fld := ⟨0x4002001c, 0, 32, .ro, 0⟩
/-- FST.GEN_FREE, R141. -/
def Reg.FST_GEN_FREE_GRANULES : Fld := ⟨0x40020020, 0, 18, .ro, 226656⟩
/-- FST.PYR_SETS, R141. -/
def Reg.FST_PYR_SETS_USED : Fld := ⟨0x40020024, 0, 10, .ro, 0⟩
def Reg.FST_PYR_SETS_PEAK : Fld := ⟨0x40020024, 16, 10, .ro, 0⟩
/-- FST.COMP, R141. -/
def Reg.FST_COMP_RATIO : Fld := ⟨0x40020028, 0, 16, .ro, 0⟩
def Reg.FST_COMP_RAW_PM : Fld := ⟨0x40020028, 16, 16, .ro, 0⟩
/-- FST.SCRUB, R141. -/
def Reg.FST_SCRUB_PERIOD_S : Fld := ⟨0x4002002c, 0, 8, .rw, 60⟩
def Reg.FST_SCRUB_PASSES : Fld := ⟨0x4002002c, 16, 16, .ro, 0⟩
/-- FST.SIDE_LATE, R141. -/
def Reg.FST_SIDE_LATE_COUNT : Fld := ⟨0x40020030, 0, 32, .ro, 0⟩
/-- FST.SRC_SEL, R141. -/
def Reg.FST_SRC_SEL_SRC : Fld := ⟨0x40020040, 0, 11, .rw, 0⟩
/-- FST.WR_STATE, R141. -/
def Reg.FST_WR_STATE_ACTIVE : Fld := ⟨0x40020044, 0, 1, .ro, 0⟩
def Reg.FST_WR_STATE_PYRAMID : Fld := ⟨0x40020044, 1, 1, .ro, 0⟩
def Reg.FST_WR_STATE_NEWEST : Fld := ⟨0x40020044, 2, 2, .ro, 3⟩
def Reg.FST_WR_STATE_WRITING : Fld := ⟨0x40020044, 4, 2, .ro, 3⟩
/-- FST.WR_FRAMES, R141. -/
def Reg.FST_WR_FRAMES_COUNT : Fld := ⟨0x40020048, 0, 32, .ro, 0⟩
/-- FST.WR_INCOMPLETE, R141. -/
def Reg.FST_WR_INCOMPLETE_COUNT : Fld := ⟨0x4002004c, 0, 32, .ro, 0⟩
/-- FST.WR_SUBST, R141. -/
def Reg.FST_WR_SUBST_COUNT : Fld := ⟨0x40020050, 0, 32, .ro, 0⟩
/-- FST.WR_COLLIDE, R141. -/
def Reg.FST_WR_COLLIDE_COUNT : Fld := ⟨0x40020054, 0, 32, .ro, 0⟩
/-- FST.SRC_FLAGS, R141. -/
def Reg.FST_SRC_FLAGS_TILE_LOST : Fld := ⟨0x40020058, 0, 1, .w1c, 0⟩
def Reg.FST_SRC_FLAGS_FORMAT_CHANGED : Fld := ⟨0x40020058, 1, 1, .w1c, 0⟩
/-- FST.SRC_CFG, R141. -/
def Reg.FST_SRC_CFG_MISS_LINES : Fld := ⟨0x4002005c, 0, 8, .rw, 16⟩
/-- FST.ANC_DROP, R141. -/
def Reg.FST_ANC_DROP_COUNT : Fld := ⟨0x40020060, 0, 32, .ro, 0⟩
/-- FST.SYNC_SEL, R141. -/
def Reg.FST_SYNC_SEL_SRC : Fld := ⟨0x40020070, 0, 11, .rw, 0⟩
def Reg.FST_SYNC_SEL_TD : Fld := ⟨0x40020070, 12, 2, .rw, 0⟩
/-- FST.SYNC_STATE, R141. -/
def Reg.FST_SYNC_STATE_EXISTS : Fld := ⟨0x40020074, 0, 1, .ro, 0⟩
def Reg.FST_SYNC_STATE_AWAIT : Fld := ⟨0x40020074, 1, 1, .ro, 0⟩
def Reg.FST_SYNC_STATE_LATCHED : Fld := ⟨0x40020074, 2, 2, .ro, 3⟩
def Reg.FST_SYNC_STATE_LAST_REPEAT : Fld := ⟨0x40020074, 4, 1, .ro, 0⟩
def Reg.FST_SYNC_STATE_LAST_DROP : Fld := ⟨0x40020074, 5, 1, .ro, 0⟩
/-- FST.SYNC_REPEAT, R141. -/
def Reg.FST_SYNC_REPEAT_COUNT : Fld := ⟨0x40020078, 0, 32, .ro, 0⟩
/-- FST.SYNC_DROP, R141. -/
def Reg.FST_SYNC_DROP_COUNT : Fld := ⟨0x4002007c, 0, 32, .ro, 0⟩
/-- FST.SYNC_FRAME, R141. -/
def Reg.FST_SYNC_FRAME_FRAME : Fld := ⟨0x40020080, 0, 32, .ro, 0⟩
/-- FST.SYNC_TILE_SUB, R141. -/
def Reg.FST_SYNC_TILE_SUB_COUNT : Fld := ⟨0x40020084, 0, 32, .ro, 0⟩
/-- ARB.CTRL, R172. -/
def Reg.ARB_CTRL_SWAP : Fld := ⟨0x40030000, 0, 1, .wo, 0⟩
def Reg.ARB_CTRL_CLR_CNT : Fld := ⟨0x40030000, 1, 1, .wo, 0⟩
def Reg.ARB_CTRL_HOST_TBL : Fld := ⟨0x40030000, 2, 1, .rw, 0⟩
/-- ARB.STATUS, R172. -/
def Reg.ARB_STATUS_SWAP_PEND : Fld := ⟨0x40030004, 0, 1, .ro, 0⟩
def Reg.ARB_STATUS_SWAP_REFUSED : Fld := ⟨0x40030004, 1, 1, .w1c, 0⟩
def Reg.ARB_STATUS_HOG_SEEN : Fld := ⟨0x40030004, 2, 1, .w1c, 0⟩
def Reg.ARB_STATUS_CFG_REJECT : Fld := ⟨0x40030004, 3, 1, .w1c, 0⟩
def Reg.ARB_STATUS_QUAR : Fld := ⟨0x40030004, 8, 6, .ro, 0⟩
/-- ARB.RT_MASK, R172. -/
def Reg.ARB_RT_MASK_MASK : Fld := ⟨0x40030008, 0, 4, .rw, 0⟩
def Reg.ARB_RT_MASK_ACTIVE : Fld := ⟨0x40030008, 8, 4, .ro, 0⟩
/-- ARB.HOG_LIMIT, R172. -/
def Reg.ARB_HOG_LIMIT_BEATS : Fld := ⟨0x4003000c, 0, 13, .rw, 256⟩
/-- ARB.QUAR, R172. -/
def Reg.ARB_QUAR_CLIENT : Fld := ⟨0x40030010, 0, 6, .w1c, 0⟩
/-- ARB.SLOT_CNT, R172. -/
def Reg.ARB_SLOT_CNT_COUNT : Fld := ⟨0x40030014, 0, 32, .ro, 0⟩
/-- ARB.OWNED, R172. -/
def Reg.ARB_OWNED_ACTIVE : Fld := ⟨0x40030018, 0, 15, .ro, 0⟩
def Reg.ARB_OWNED_SHADOW : Fld := ⟨0x40030018, 16, 15, .ro, 0⟩
/-- ARB.SWAPS, R172. -/
def Reg.ARB_SWAPS_COUNT : Fld := ⟨0x4003001c, 0, 32, .ro, 0⟩
/-- ARB.TBL_SEL, R172. -/
def Reg.ARB_TBL_SEL_CH : Fld := ⟨0x40030020, 0, 6, .rw, 0⟩
def Reg.ARB_TBL_SEL_ROW : Fld := ⟨0x40030020, 8, 12, .rw, 0⟩
def Reg.ARB_TBL_SEL_BANK : Fld := ⟨0x40030020, 24, 1, .rw, 0⟩
def Reg.ARB_TBL_SEL_ALL : Fld := ⟨0x40030020, 25, 1, .rw, 0⟩
/-- ARB.TBL_DATA, R172. -/
def Reg.ARB_TBL_DATA_OWNERS : Fld := ⟨0x40030024, 0, 32, .rw, 0⟩
/-- ARB.RT_ABANDONn, R172. -/
def Reg.ARB_RT_ABANDON_COUNT (n : Nat) : Fld := ⟨(0x40030030 + 0x4 * n), 0, 32, .ro, 0⟩
/-- ARB.BEc_CFG, R172. -/
def Reg.ARB_BE_CFG_WEIGHT (c : Nat) : Fld := ⟨(0x40030040 + 0x10 * c), 0, 8, .rw, (([255, 64, 128, 64, 32, 8] : List Nat).getD c 0)⟩
/-- ARB.BEc_BEATS, R172. -/
def Reg.ARB_BE_BEATS_COUNT (c : Nat) : Fld := ⟨(0x40030044 + 0x10 * c), 0, 32, .ro, 0⟩
/-- ARB.BEc_WAIT_MAX, R172. -/
def Reg.ARB_BE_WAIT_MAX_SLOTS (c : Nat) : Fld := ⟨(0x40030048 + 0x10 * c), 0, 32, .ro, 0⟩
/-- ARB.BEc_EVENTS, R172. -/
def Reg.ARB_BE_EVENTS_HOG_CUTS (c : Nat) : Fld := ⟨(0x4003004c + 0x10 * c), 0, 16, .ro, 0⟩
def Reg.ARB_BE_EVENTS_LOCK_TRUNC (c : Nat) : Fld := ⟨(0x4003004c + 0x10 * c), 16, 16, .ro, 0⟩
/-- CMP.CTRL, R212. -/
def Reg.CMP_CTRL_CLR_CNT : Fld := ⟨0x40040000, 0, 1, .wo, 0⟩
/-- CMP.STATUS, R212. -/
def Reg.CMP_STATUS_CFG_REJECT : Fld := ⟨0x40040004, 0, 1, .w1c, 0⟩
def Reg.CMP_STATUS_DEMOTED_SEEN : Fld := ⟨0x40040004, 1, 1, .w1c, 0⟩
def Reg.CMP_STATUS_FILL_SEEN : Fld := ⟨0x40040004, 2, 1, .w1c, 0⟩
def Reg.CMP_STATUS_LATE_SEEN : Fld := ⟨0x40040004, 3, 1, .w1c, 0⟩
/-- CMP.ENABLED, R212. -/
def Reg.CMP_ENABLED_MAP : Fld := ⟨0x40040008, 0, 32, .ro, 0⟩
/-- CMP.RES, R212. -/
def Reg.CMP_RES_LUT_SETS : Fld := ⟨0x4004000c, 0, 7, .ro, 1⟩
def Reg.CMP_RES_SURFACES : Fld := ⟨0x4004000c, 16, 11, .ro, 0⟩
/-- CMP.SEL, R212. -/
def Reg.CMP_SEL_CMP : Fld := ⟨0x40040020, 0, 5, .rw, 0⟩
/-- CMP.C_STATE, R212. -/
def Reg.CMP_C_STATE_TD : Fld := ⟨0x40040024, 0, 2, .ro, 0⟩
def Reg.CMP_C_STATE_SPACE : Fld := ⟨0x40040024, 2, 1, .ro, 0⟩
def Reg.CMP_C_STATE_PEND : Fld := ⟨0x40040024, 3, 1, .ro, 0⟩
def Reg.CMP_C_STATE_HELD : Fld := ⟨0x40040024, 4, 1, .ro, 0⟩
/-- CMP.C_LAYOUT_ID, R212. -/
def Reg.CMP_C_LAYOUT_ID_ID : Fld := ⟨0x40040028, 0, 32, .ro, 0⟩
/-- CMP.C_BUDGET, R212. -/
def Reg.CMP_C_BUDGET_BYTES : Fld := ⟨0x4004002c, 0, 32, .ro, 0⟩
/-- CMP.C_FETCHED, R212. -/
def Reg.CMP_C_FETCHED_BYTES : Fld := ⟨0x40040030, 0, 32, .ro, 0⟩
/-- CMP.C_SKIPPED, R212. -/
def Reg.CMP_C_SKIPPED_TILES : Fld := ⟨0x40040034, 0, 32, .ro, 0⟩
/-- CMP.C_FRAMES, R212. -/
def Reg.CMP_C_FRAMES_COUNT : Fld := ⟨0x40040038, 0, 32, .ro, 0⟩
/-- CMP.C_LATE, R212. -/
def Reg.CMP_C_LATE_TILES : Fld := ⟨0x4004003c, 0, 32, .ro, 0⟩
/-- CMP.LAYER_SEL, R212. -/
def Reg.CMP_LAYER_SEL_LAYER : Fld := ⟨0x40040040, 0, 4, .rw, 0⟩
/-- CMP.L_STATE, R212. -/
def Reg.CMP_L_STATE_KIND : Fld := ⟨0x40040044, 0, 2, .ro, 0⟩
def Reg.CMP_L_STATE_LEVEL : Fld := ⟨0x40040044, 2, 2, .ro, 0⟩
def Reg.CMP_L_STATE_PF_H : Fld := ⟨0x40040044, 4, 3, .ro, 0⟩
def Reg.CMP_L_STATE_PF_V : Fld := ⟨0x40040044, 8, 3, .ro, 0⟩
def Reg.CMP_L_STATE_READY : Fld := ⟨0x40040044, 12, 1, .ro, 0⟩
def Reg.CMP_L_STATE_DEMOTED : Fld := ⟨0x40040044, 13, 1, .ro, 0⟩
def Reg.CMP_L_STATE_FILL : Fld := ⟨0x40040044, 14, 1, .ro, 0⟩
def Reg.CMP_L_STATE_REPEATS : Fld := ⟨0x40040044, 16, 8, .ro, 0⟩
def Reg.CMP_L_STATE_LIMIT : Fld := ⟨0x40040044, 24, 8, .ro, 8⟩
/-- CMP.L_WIDTH, R212. -/
def Reg.CMP_L_WIDTH_WIDTH : Fld := ⟨0x40040048, 0, 13, .ro, 0⟩
/-- CMP.L_REPEATED, R212. -/
def Reg.CMP_L_REPEATED_COUNT : Fld := ⟨0x4004004c, 0, 32, .ro, 0⟩
/-- CMP.L_FILLED, R212. -/
def Reg.CMP_L_FILLED_COUNT : Fld := ⟨0x40040050, 0, 32, .ro, 0⟩
/-- CMP.L_DEMOTIONS, R212. -/
def Reg.CMP_L_DEMOTIONS_COUNT : Fld := ⟨0x40040054, 0, 32, .ro, 0⟩
/-- AUD.CTRL, R245. -/
def Reg.AUD_CTRL_CLR_CNT : Fld := ⟨0x40050000, 0, 1, .wo, 0⟩
/-- AUD.STATUS, R245. -/
def Reg.AUD_STATUS_CFG_REJECT : Fld := ⟨0x40050004, 0, 1, .w1c, 0⟩
def Reg.AUD_STATUS_FOLLOW_FULL : Fld := ⟨0x40050004, 1, 1, .w1c, 0⟩
def Reg.AUD_STATUS_CLIP_SEEN : Fld := ⟨0x40050004, 2, 1, .w1c, 0⟩
def Reg.AUD_STATUS_CLOCK_LOST_SEEN : Fld := ⟨0x40050004, 3, 1, .w1c, 0⟩
def Reg.AUD_STATUS_RATE_SEEN : Fld := ⟨0x40050004, 4, 1, .w1c, 0⟩
/-- AUD.USE, R245. -/
def Reg.AUD_USE_SRC : Fld := ⟨0x40050008, 0, 15, .ro, 0⟩
def Reg.AUD_USE_FOLLOW : Fld := ⟨0x40050008, 16, 15, .ro, 0⟩
/-- AUD.USE_DST, R245. -/
def Reg.AUD_USE_DST_DST : Fld := ⟨0x4005000c, 0, 15, .ro, 0⟩
/-- AUD.DST_SEL, R245. -/
def Reg.AUD_DST_SEL_CH : Fld := ⟨0x40050020, 0, 14, .rw, 0⟩
/-- AUD.DST_ROUTE, R245. -/
def Reg.AUD_DST_ROUTE_SRC : Fld := ⟨0x40050024, 0, 15, .ro, 32767⟩
def Reg.AUD_DST_ROUTE_FOLLOW : Fld := ⟨0x40050024, 15, 1, .ro, 0⟩
def Reg.AUD_DST_ROUTE_KIND : Fld := ⟨0x40050024, 16, 3, .ro, 0⟩
def Reg.AUD_DST_ROUTE_RATE96 : Fld := ⟨0x40050024, 19, 1, .ro, 0⟩
def Reg.AUD_DST_ROUTE_PAIR : Fld := ⟨0x40050024, 20, 1, .ro, 0⟩
def Reg.AUD_DST_ROUTE_XFADE : Fld := ⟨0x40050024, 21, 1, .ro, 0⟩
/-- AUD.DST_LEVEL, R245. -/
def Reg.AUD_DST_LEVEL_GAIN : Fld := ⟨0x40050028, 0, 16, .ro, 0⟩
def Reg.AUD_DST_LEVEL_MUTE : Fld := ⟨0x40050028, 16, 1, .ro, 0⟩
def Reg.AUD_DST_LEVEL_INVERT : Fld := ⟨0x40050028, 17, 1, .ro, 0⟩
/-- AUD.DST_CLIP, R245. -/
def Reg.AUD_DST_CLIP_COUNT : Fld := ⟨0x4005002c, 0, 32, .ro, 0⟩
/-- AUD.DST_MISMATCH, R245. -/
def Reg.AUD_DST_MISMATCH_COUNT : Fld := ⟨0x40050030, 0, 32, .ro, 0⟩
/-- AUD.SRC_SEL, R245. -/
def Reg.AUD_SRC_SEL_CH : Fld := ⟨0x40050040, 0, 14, .rw, 0⟩
/-- AUD.SRC_STATE, R245. -/
def Reg.AUD_SRC_STATE_BOUND : Fld := ⟨0x40050044, 0, 1, .ro, 0⟩
def Reg.AUD_SRC_STATE_RATE96 : Fld := ⟨0x40050044, 1, 1, .ro, 0⟩
def Reg.AUD_SRC_STATE_PAIR : Fld := ⟨0x40050044, 2, 1, .ro, 0⟩
def Reg.AUD_SRC_STATE_ASYNC : Fld := ⟨0x40050044, 3, 1, .ro, 0⟩
def Reg.AUD_SRC_STATE_KIND : Fld := ⟨0x40050044, 4, 3, .ro, 0⟩
def Reg.AUD_SRC_STATE_FANOUT : Fld := ⟨0x40050044, 16, 15, .ro, 0⟩
/-- AUD.SRC_MISSING, R245. -/
def Reg.AUD_SRC_MISSING_COUNT : Fld := ⟨0x40050048, 0, 32, .ro, 0⟩
/-- AUD.SRC_LATE, R245. -/
def Reg.AUD_SRC_LATE_COUNT : Fld := ⟨0x4005004c, 0, 32, .ro, 0⟩
/-- AUD.SRC_EARLY, R245. -/
def Reg.AUD_SRC_EARLY_COUNT : Fld := ⟨0x40050050, 0, 32, .ro, 0⟩
/-- AUD.SRC_SLIP, R245. -/
def Reg.AUD_SRC_SLIP_COUNT : Fld := ⟨0x40050054, 0, 32, .ro, 0⟩
/-- AUD.PORT_SEL, R245. -/
def Reg.AUD_PORT_SEL_PORT : Fld := ⟨0x40050060, 0, 5, .rw, 0⟩
/-- AUD.PORT_STATE, R245. -/
def Reg.AUD_PORT_STATE_CLOCK : Fld := ⟨0x40050064, 0, 2, .ro, 0⟩
def Reg.AUD_PORT_STATE_CLASS : Fld := ⟨0x40050064, 4, 3, .ro, 0⟩
def Reg.AUD_PORT_STATE_MUTED : Fld := ⟨0x40050064, 8, 1, .ro, 1⟩
def Reg.AUD_PORT_STATE_ENABLED : Fld := ⟨0x40050064, 9, 1, .ro, 0⟩
def Reg.AUD_PORT_STATE_FILL : Fld := ⟨0x40050064, 10, 6, .ro, 0⟩
/-- AUD.PORT_RATE, R245. -/
def Reg.AUD_PORT_RATE_RATE : Fld := ⟨0x40050068, 0, 21, .ro, 0⟩
/-- AUD.PORT_SLIP, R245. -/
def Reg.AUD_PORT_SLIP_PORT_REPEATS : Fld := ⟨0x4005006c, 0, 16, .ro, 0⟩
def Reg.AUD_PORT_SLIP_PORT_DROPS : Fld := ⟨0x4005006c, 16, 16, .ro, 0⟩
/-- AUD.PORT_EVENTS, R245. -/
def Reg.AUD_PORT_EVENTS_CLOCK_LOSSES : Fld := ⟨0x40050070, 0, 16, .ro, 0⟩
def Reg.AUD_PORT_EVENTS_RATE_CHANGES : Fld := ⟨0x40050070, 16, 16, .ro, 0⟩
/-- AUD.PORT_ERRORS, R245. -/
def Reg.AUD_PORT_ERRORS_COUNT : Fld := ⟨0x40050074, 0, 32, .ro, 0⟩
/-- PMI.CTRL, R280. -/
def Reg.PMI_CTRL_CLR_CNT : Fld := ⟨0x40060000, 0, 1, .wo, 0⟩
/-- PMI.STATUS, R280. -/
def Reg.PMI_STATUS_CFG_REJECT : Fld := ⟨0x40060004, 0, 1, .w1c, 0⟩
def Reg.PMI_STATUS_PATH_DOWN_SEEN : Fld := ⟨0x40060004, 1, 1, .w1c, 0⟩
def Reg.PMI_STATUS_SKEW_SEEN : Fld := ⟨0x40060004, 2, 1, .w1c, 0⟩
def Reg.PMI_STATUS_UNMATCHED_SEEN : Fld := ⟨0x40060004, 3, 1, .w1c, 0⟩
/-- PMI.FLOWS, R280. -/
def Reg.PMI_FLOWS_ENABLED : Fld := ⟨0x40060008, 0, 13, .ro, 0⟩
def Reg.PMI_FLOWS_DUAL : Fld := ⟨0x40060008, 16, 13, .ro, 0⟩
/-- PMI.RX_UNMATCHED, R280. -/
def Reg.PMI_RX_UNMATCHED_COUNT : Fld := ⟨0x4006000c, 0, 32, .ro, 0⟩
/-- PMI.IGMP, R280. -/
def Reg.PMI_IGMP_QUERIES : Fld := ⟨0x40060010, 0, 16, .ro, 0⟩
def Reg.PMI_IGMP_OLD_QUERIES : Fld := ⟨0x40060010, 16, 16, .ro, 0⟩
/-- PMI.FLOW_SEL, R280. -/
def Reg.PMI_FLOW_SEL_FLOW : Fld := ⟨0x40060020, 0, 12, .rw, 0⟩
/-- PMI.F_STATE, R280. -/
def Reg.PMI_F_STATE_ENABLE : Fld := ⟨0x40060024, 0, 1, .ro, 0⟩
def Reg.PMI_F_STATE_KIND : Fld := ⟨0x40060024, 1, 3, .ro, 0⟩
def Reg.PMI_F_STATE_DUAL : Fld := ⟨0x40060024, 4, 1, .ro, 0⟩
def Reg.PMI_F_STATE_A_UP : Fld := ⟨0x40060024, 5, 1, .ro, 0⟩
def Reg.PMI_F_STATE_B_UP : Fld := ⟨0x40060024, 6, 1, .ro, 0⟩
def Reg.PMI_F_STATE_JOINED : Fld := ⟨0x40060024, 7, 1, .ro, 0⟩
def Reg.PMI_F_STATE_SSRC_SET : Fld := ⟨0x40060024, 8, 1, .ro, 0⟩
def Reg.PMI_F_STATE_BIND : Fld := ⟨0x40060024, 16, 11, .ro, 2047⟩
/-- PMI.F_SSRC, R280. -/
def Reg.PMI_F_SSRC_SSRC : Fld := ⟨0x40060028, 0, 32, .ro, 0⟩
/-- PMI.F_PKTS_A, R280. -/
def Reg.PMI_F_PKTS_A_COUNT : Fld := ⟨0x4006002c, 0, 32, .ro, 0⟩
/-- PMI.F_PKTS_B, R280. -/
def Reg.PMI_F_PKTS_B_COUNT : Fld := ⟨0x40060030, 0, 32, .ro, 0⟩
/-- PMI.F_DUP, R280. -/
def Reg.PMI_F_DUP_COUNT : Fld := ⟨0x40060034, 0, 32, .ro, 0⟩
/-- PMI.F_TOO_OLD, R280. -/
def Reg.PMI_F_TOO_OLD_COUNT : Fld := ⟨0x40060038, 0, 32, .ro, 0⟩
/-- PMI.F_LOST, R280. -/
def Reg.PMI_F_LOST_COUNT : Fld := ⟨0x4006003c, 0, 32, .ro, 0⟩
/-- PMI.F_SKEW, R280. -/
def Reg.PMI_F_SKEW_SKEW_NS : Fld := ⟨0x40060040, 0, 32, .ro, 2147483647⟩
/-- PMI.F_ERRORS, R280. -/
def Reg.PMI_F_ERRORS_HDR_ERR : Fld := ⟨0x40060044, 0, 16, .ro, 0⟩
def Reg.PMI_F_ERRORS_SSRC_CHANGES : Fld := ⟨0x40060044, 16, 8, .ro, 0⟩
def Reg.PMI_F_ERRORS_SEQ_JUMPS : Fld := ⟨0x40060044, 24, 8, .ro, 0⟩
/-- PMI.F_LAST_TS, R280. -/
def Reg.PMI_F_LAST_TS_TS : Fld := ⟨0x40060048, 0, 32, .ro, 0⟩
/-- PMO.CTRL, R282. -/
def Reg.PMO_CTRL_CLR_CNT : Fld := ⟨0x40070000, 0, 1, .wo, 0⟩
/-- PMO.STATUS, R282. -/
def Reg.PMO_STATUS_CFG_REJECT : Fld := ⟨0x40070004, 0, 1, .w1c, 0⟩
def Reg.PMO_STATUS_LATE_SEEN : Fld := ⟨0x40070004, 1, 1, .w1c, 0⟩
def Reg.PMO_STATUS_MISMATCH_SEEN : Fld := ⟨0x40070004, 2, 1, .w1c, 0⟩
/-- PMO.FLOWS, R282. -/
def Reg.PMO_FLOWS_ENABLED : Fld := ⟨0x40070008, 0, 13, .ro, 0⟩
/-- PMO.RINGS, R282. -/
def Reg.PMO_RINGS_RX22 : Fld := ⟨0x4007000c, 0, 7, .ro, 0⟩
/-- PMO.INJ, R282. -/
def Reg.PMO_INJ_BUSY : Fld := ⟨0x40070010, 0, 8, .ro, 0⟩
def Reg.PMO_INJ_SENT : Fld := ⟨0x40070010, 16, 16, .ro, 0⟩
/-- PMO.FLOW_SEL, R282. -/
def Reg.PMO_FLOW_SEL_FLOW : Fld := ⟨0x40070020, 0, 12, .rw, 0⟩
/-- PMO.F_STATE, R282. -/
def Reg.PMO_F_STATE_ENABLE : Fld := ⟨0x40070024, 0, 1, .ro, 0⟩
def Reg.PMO_F_STATE_KIND : Fld := ⟨0x40070024, 1, 3, .ro, 0⟩
def Reg.PMO_F_STATE_DUAL : Fld := ⟨0x40070024, 4, 1, .ro, 0⟩
def Reg.PMO_F_STATE_SENDER : Fld := ⟨0x40070024, 5, 1, .ro, 0⟩
def Reg.PMO_F_STATE_SENDING : Fld := ⟨0x40070024, 6, 1, .ro, 0⟩
def Reg.PMO_F_STATE_MISMATCH : Fld := ⟨0x40070024, 7, 1, .ro, 0⟩
def Reg.PMO_F_STATE_BIND : Fld := ⟨0x40070024, 16, 11, .ro, 2047⟩
/-- PMO.F_SEQ, R282. -/
def Reg.PMO_F_SEQ_SEQ : Fld := ⟨0x40070028, 0, 32, .ro, 0⟩
/-- PMO.F_TS, R282. -/
def Reg.PMO_F_TS_TS : Fld := ⟨0x4007002c, 0, 32, .ro, 0⟩
/-- PMO.F_PKTS, R282. -/
def Reg.PMO_F_PKTS_COUNT : Fld := ⟨0x40070030, 0, 32, .ro, 0⟩
/-- PMO.F_FRAMES, R282. -/
def Reg.PMO_F_FRAMES_COUNT : Fld := ⟨0x40070034, 0, 32, .ro, 0⟩
/-- PMO.F_LATE, R282. -/
def Reg.PMO_F_LATE_COUNT : Fld := ⟨0x40070038, 0, 32, .ro, 0⟩
/-- PMO.F_MISMATCH, R282. -/
def Reg.PMO_F_MISMATCH_COUNT : Fld := ⟨0x4007003c, 0, 32, .ro, 0⟩
/-- MAC.CTRL, R310. -/
def Reg.MAC_CTRL_CLR_CNT : Fld := ⟨0x40080000, 0, 1, .wo, 0⟩
def Reg.MAC_CTRL_GCL_SWAP : Fld := ⟨0x40080000, 1, 1, .wo, 0⟩
/-- MAC.STATUS, R310. -/
def Reg.MAC_STATUS_CFG_REJECT : Fld := ⟨0x40080004, 0, 1, .w1c, 0⟩
def Reg.MAC_STATUS_UNDERRUN_SEEN : Fld := ⟨0x40080004, 1, 1, .w1c, 0⟩
def Reg.MAC_STATUS_WD_SEEN : Fld := ⟨0x40080004, 2, 1, .w1c, 0⟩
def Reg.MAC_STATUS_GCL_REFUSED : Fld := ⟨0x40080004, 3, 1, .w1c, 0⟩
/-- MAC.BASE_MAC_LO, R310. -/
def Reg.MAC_BASE_MAC_LO_ADDR : Fld := ⟨0x40080008, 0, 32, .ro, 0⟩
/-- MAC.BASE_MAC_HI, R310. -/
def Reg.MAC_BASE_MAC_HI_ADDR : Fld := ⟨0x4008000c, 0, 16, .ro, 0⟩
/-- MAC.LINKS, R310. -/
def Reg.MAC_LINKS_UP : Fld := ⟨0x40080010, 0, 18, .ro, 0⟩
/-- MAC.PORT_SEL, R310. -/
def Reg.MAC_PORT_SEL_PORT : Fld := ⟨0x40080020, 0, 5, .rw, 0⟩
def Reg.MAC_PORT_SEL_BREAKOUT : Fld := ⟨0x40080020, 8, 3, .rw, 0⟩
/-- MAC.P_STATE, R310. -/
def Reg.MAC_P_STATE_LINK_UP : Fld := ⟨0x40080024, 0, 1, .ro, 0⟩
def Reg.MAC_P_STATE_MODE : Fld := ⟨0x40080024, 1, 2, .ro, 0⟩
def Reg.MAC_P_STATE_SPEED : Fld := ⟨0x40080024, 4, 3, .ro, 0⟩
def Reg.MAC_P_STATE_PAUSED : Fld := ⟨0x40080024, 7, 1, .ro, 0⟩
def Reg.MAC_P_STATE_WD_IGNORE : Fld := ⟨0x40080024, 8, 1, .ro, 0⟩
def Reg.MAC_P_STATE_MAC_DEFAULT : Fld := ⟨0x40080024, 9, 1, .ro, 1⟩
def Reg.MAC_P_STATE_PFC_PAUSED : Fld := ⟨0x40080024, 16, 8, .ro, 0⟩
/-- MAC.P_CFG, R310. -/
def Reg.MAC_P_CFG_MAX_FRAME : Fld := ⟨0x40080028, 0, 14, .ro, 1518⟩
def Reg.MAC_P_CFG_START_THRESH : Fld := ⟨0x40080028, 16, 14, .rw, 1024⟩
/-- MAC.P_PAUSE, R310. -/
def Reg.MAC_P_PAUSE_RX_PAUSE : Fld := ⟨0x4008002c, 0, 1, .ro, 0⟩
def Reg.MAC_P_PAUSE_TX_PAUSE : Fld := ⟨0x4008002c, 1, 1, .ro, 0⟩
def Reg.MAC_P_PAUSE_PFC_MODE : Fld := ⟨0x4008002c, 2, 1, .ro, 0⟩
def Reg.MAC_P_PAUSE_PFC_MASK : Fld := ⟨0x4008002c, 8, 8, .ro, 0⟩
def Reg.MAC_P_PAUSE_WD_MS : Fld := ⟨0x4008002c, 16, 10, .rw, 20⟩
/-- MAC.P_GCL_SEL, R310. -/
def Reg.MAC_P_GCL_SEL_ENTRY : Fld := ⟨0x40080030, 0, 6, .rw, 0⟩
def Reg.MAC_P_GCL_SEL_BANK : Fld := ⟨0x40080030, 8, 1, .rw, 0⟩
/-- MAC.P_GCL_DATA, R310. -/
def Reg.MAC_P_GCL_DATA_DURATION_NS : Fld := ⟨0x40080034, 0, 17, .rw, 0⟩
def Reg.MAC_P_GCL_DATA_OPEN : Fld := ⟨0x40080034, 24, 7, .rw, 0⟩
/-- MAC.P_GCL_STATE, R310. -/
def Reg.MAC_P_GCL_STATE_ENTRIES : Fld := ⟨0x40080038, 0, 7, .ro, 1⟩
def Reg.MAC_P_GCL_STATE_SWAP_PEND : Fld := ⟨0x40080038, 8, 1, .ro, 0⟩
/-- MAC.RX_FRAMES, R310. -/
def Reg.MAC_RX_FRAMES_COUNT : Fld := ⟨0x40080040, 0, 32, .ro, 0⟩
/-- MAC.RX_BYTES_LO, R310. -/
def Reg.MAC_RX_BYTES_LO_COUNT : Fld := ⟨0x40080044, 0, 32, .ro, 0⟩
/-- MAC.RX_BYTES_HI, R310. -/
def Reg.MAC_RX_BYTES_HI_COUNT : Fld := ⟨0x40080048, 0, 32, .ro, 0⟩
/-- MAC.RX_FCS_ERR, R310. -/
def Reg.MAC_RX_FCS_ERR_COUNT : Fld := ⟨0x4008004c, 0, 32, .ro, 0⟩
/-- MAC.RX_RUNT, R310. -/
def Reg.MAC_RX_RUNT_COUNT : Fld := ⟨0x40080050, 0, 32, .ro, 0⟩
/-- MAC.RX_OVERSIZE, R310. -/
def Reg.MAC_RX_OVERSIZE_COUNT : Fld := ⟨0x40080054, 0, 32, .ro, 0⟩
/-- MAC.RX_FILTERED, R310. -/
def Reg.MAC_RX_FILTERED_COUNT : Fld := ⟨0x40080058, 0, 32, .ro, 0⟩
/-- MAC.RX_DROP, R310. -/
def Reg.MAC_RX_DROP_COUNT : Fld := ⟨0x4008005c, 0, 32, .ro, 0⟩
/-- MAC.RX_PAUSE, R310. -/
def Reg.MAC_RX_PAUSE_COUNT : Fld := ⟨0x40080060, 0, 32, .ro, 0⟩
/-- MAC.RX_MAC_CTRL, R310. -/
def Reg.MAC_RX_MAC_CTRL_COUNT : Fld := ⟨0x40080064, 0, 32, .ro, 0⟩
/-- MAC.TX_FRAMES, R310. -/
def Reg.MAC_TX_FRAMES_COUNT : Fld := ⟨0x40080070, 0, 32, .ro, 0⟩
/-- MAC.TX_BYTES_LO, R310. -/
def Reg.MAC_TX_BYTES_LO_COUNT : Fld := ⟨0x40080074, 0, 32, .ro, 0⟩
/-- MAC.TX_BYTES_HI, R310. -/
def Reg.MAC_TX_BYTES_HI_COUNT : Fld := ⟨0x40080078, 0, 32, .ro, 0⟩
/-- MAC.TX_PAD, R310. -/
def Reg.MAC_TX_PAD_COUNT : Fld := ⟨0x4008007c, 0, 32, .ro, 0⟩
/-- MAC.TX_REFUSED, R310. -/
def Reg.MAC_TX_REFUSED_COUNT : Fld := ⟨0x40080080, 0, 32, .ro, 0⟩
/-- MAC.TX_UNDERRUN, R310. -/
def Reg.MAC_TX_UNDERRUN_COUNT : Fld := ⟨0x40080084, 0, 32, .ro, 0⟩
/-- MAC.TX_LINK_DISCARD, R310. -/
def Reg.MAC_TX_LINK_DISCARD_COUNT : Fld := ⟨0x40080088, 0, 32, .ro, 0⟩
/-- MAC.PAUSE_EVENTS, R310. -/
def Reg.MAC_PAUSE_EVENTS_PAUSE_WD : Fld := ⟨0x4008008c, 0, 16, .ro, 0⟩
def Reg.MAC_PAUSE_EVENTS_TX_PAUSE_SENT : Fld := ⟨0x4008008c, 16, 16, .ro, 0⟩
/-- MAC.TS_RX_LAT, R310. -/
def Reg.MAC_TS_RX_LAT_NS : Fld := ⟨0x400800a0, 0, 16, .ro, 0⟩
/-- MAC.TS_TX_LAT, R310. -/
def Reg.MAC_TS_TX_LAT_NS : Fld := ⟨0x400800a4, 0, 16, .ro, 0⟩
/-- MAC.TS_CAP_NS, R310. -/
def Reg.MAC_TS_CAP_NS_NS : Fld := ⟨0x400800a8, 0, 32, .ro, 0⟩
/-- MAC.TS_CAP_SEC, R310. -/
def Reg.MAC_TS_CAP_SEC_SEC : Fld := ⟨0x400800ac, 0, 32, .ro, 0⟩
/-- MAC.TS_CAP_TAG, R310. -/
def Reg.MAC_TS_CAP_TAG_TAG : Fld := ⟨0x400800b0, 0, 16, .ro, 0⟩
def Reg.MAC_TS_CAP_TAG_VALID : Fld := ⟨0x400800b0, 16, 1, .ro, 0⟩
def Reg.MAC_TS_CAP_TAG_TS_LOST : Fld := ⟨0x400800b0, 24, 8, .ro, 0⟩
/-- LNE.CTRL, R343. -/
def Reg.LNE_CTRL_CLR_CNT : Fld := ⟨0x40090000, 0, 1, .wo, 0⟩
/-- LNE.STATUS, R343. -/
def Reg.LNE_STATUS_CFG_REJECT : Fld := ⟨0x40090004, 0, 1, .w1c, 0⟩
def Reg.LNE_STATUS_LOST_SEEN : Fld := ⟨0x40090004, 1, 1, .w1c, 0⟩
def Reg.LNE_STATUS_SKEW_SEEN : Fld := ⟨0x40090004, 2, 1, .w1c, 0⟩
def Reg.LNE_STATUS_ALIGN_SEEN : Fld := ⟨0x40090004, 3, 1, .w1c, 0⟩
def Reg.LNE_STATUS_STEP_FAIL_SEEN : Fld := ⟨0x40090004, 4, 1, .w1c, 0⟩
/-- LNE.LANE_SEL, R343. -/
def Reg.LNE_LANE_SEL_LANE : Fld := ⟨0x40090020, 0, 8, .rw, 0⟩
/-- LNE.L_STATE, R343. -/
def Reg.LNE_L_STATE_PSTATE : Fld := ⟨0x40090024, 0, 2, .ro, 2⟩
def Reg.LNE_L_STATE_SIGNAL : Fld := ⟨0x40090024, 2, 1, .ro, 0⟩
def Reg.LNE_L_STATE_CDR_LOCK : Fld := ⟨0x40090024, 3, 1, .ro, 0⟩
def Reg.LNE_L_STATE_ALIGNED : Fld := ⟨0x40090024, 4, 1, .ro, 0⟩
def Reg.LNE_L_STATE_STEP : Fld := ⟨0x40090024, 5, 2, .ro, 0⟩
def Reg.LNE_L_STATE_TX_IDLE : Fld := ⟨0x40090024, 7, 1, .ro, 1⟩
def Reg.LNE_L_STATE_TRAIN : Fld := ⟨0x40090024, 8, 3, .ro, 0⟩
/-- LNE.L_CTRL, R343. -/
def Reg.LNE_L_CTRL_PSTATE : Fld := ⟨0x40090028, 0, 2, .rw, 0⟩
def Reg.LNE_L_CTRL_DIAG : Fld := ⟨0x40090028, 2, 3, .rw, 0⟩
def Reg.LNE_L_CTRL_SLIP : Fld := ⟨0x40090028, 5, 1, .wo, 0⟩
def Reg.LNE_L_CTRL_RAW_CAP : Fld := ⟨0x40090028, 6, 1, .wo, 0⟩
def Reg.LNE_L_CTRL_RETRAIN : Fld := ⟨0x40090028, 7, 1, .wo, 0⟩
def Reg.LNE_L_CTRL_PRBS_POLY : Fld := ⟨0x40090028, 8, 3, .rw, 5⟩
def Reg.LNE_L_CTRL_ERR_INJ : Fld := ⟨0x40090028, 11, 1, .wo, 0⟩
def Reg.LNE_L_CTRL_RAW_DONE : Fld := ⟨0x40090028, 12, 1, .ro, 0⟩
/-- LNE.L_SDI, R343. -/
def Reg.LNE_L_SDI_RX_RATE : Fld := ⟨0x4009002c, 0, 3, .ro, 0⟩
def Reg.LNE_L_SDI_RX_LOCK : Fld := ⟨0x4009002c, 3, 1, .ro, 0⟩
def Reg.LNE_L_SDI_RX_FRACT : Fld := ⟨0x4009002c, 4, 1, .ro, 0⟩
def Reg.LNE_L_SDI_TX_RATE : Fld := ⟨0x4009002c, 5, 3, .ro, 0⟩
def Reg.LNE_L_SDI_TX_FRACT : Fld := ⟨0x4009002c, 8, 1, .ro, 0⟩
def Reg.LNE_L_SDI_GROUP : Fld := ⟨0x4009002c, 9, 2, .ro, 0⟩
def Reg.LNE_L_SDI_LINK : Fld := ⟨0x4009002c, 11, 2, .ro, 0⟩
def Reg.LNE_L_SDI_SKEW_NS : Fld := ⟨0x4009002c, 16, 16, .ro, 0⟩
/-- LNE.L_OFFSET, R343. -/
def Reg.LNE_L_OFFSET_PPM : Fld := ⟨0x40090030, 0, 32, .ro, 0⟩
/-- LNE.L_LOCK_LOST, R343. -/
def Reg.LNE_L_LOCK_LOST_COUNT : Fld := ⟨0x40090034, 0, 32, .ro, 0⟩
/-- LNE.L_SEARCHES, R343. -/
def Reg.LNE_L_SEARCHES_COUNT : Fld := ⟨0x40090038, 0, 32, .ro, 0⟩
/-- LNE.L_PRBS_BITS_LO, R343. -/
def Reg.LNE_L_PRBS_BITS_LO_COUNT : Fld := ⟨0x40090040, 0, 32, .ro, 0⟩
/-- LNE.L_PRBS_BITS_HI, R343. -/
def Reg.LNE_L_PRBS_BITS_HI_COUNT : Fld := ⟨0x40090044, 0, 16, .ro, 0⟩
/-- LNE.L_PRBS_ERR_LO, R343. -/
def Reg.LNE_L_PRBS_ERR_LO_COUNT : Fld := ⟨0x40090048, 0, 32, .ro, 0⟩
/-- LNE.L_PRBS_ERR_HI, R343. -/
def Reg.LNE_L_PRBS_ERR_HI_COUNT : Fld := ⟨0x4009004c, 0, 16, .ro, 0⟩
def Reg.LNE_L_PRBS_ERR_HI_RESYNC : Fld := ⟨0x4009004c, 16, 16, .ro, 0⟩
/-- LNE.L_EYE_CTRL, R343. -/
def Reg.LNE_L_EYE_CTRL_X : Fld := ⟨0x40090050, 0, 6, .rw, 0⟩
def Reg.LNE_L_EYE_CTRL_Y : Fld := ⟨0x40090050, 8, 7, .rw, 0⟩
def Reg.LNE_L_EYE_CTRL_EYE : Fld := ⟨0x40090050, 16, 2, .rw, 1⟩
def Reg.LNE_L_EYE_CTRL_DWELL : Fld := ⟨0x40090050, 20, 4, .rw, 0⟩
def Reg.LNE_L_EYE_CTRL_START : Fld := ⟨0x40090050, 24, 1, .wo, 0⟩
def Reg.LNE_L_EYE_CTRL_EYE_DONE : Fld := ⟨0x40090050, 25, 1, .ro, 0⟩
/-- LNE.L_EYE_ERR, R343. -/
def Reg.LNE_L_EYE_ERR_COUNT : Fld := ⟨0x40090054, 0, 32, .ro, 0⟩
/-- LNE.L_RAW_ADDR, R343. -/
def Reg.LNE_L_RAW_ADDR_WORD : Fld := ⟨0x40090058, 0, 12, .rw, 0⟩
/-- LNE.L_RAW_DATA, R343. -/
def Reg.LNE_L_RAW_DATA_DATA : Fld := ⟨0x4009005c, 0, 32, .ro, 0⟩
/-- REFS.CTRL, R371. -/
def Reg.REFS_CTRL_CLR_CNT : Fld := ⟨0x60000000, 0, 1, .wo, 0⟩
def Reg.REFS_CTRL_FORCE_EN : Fld := ⟨0x60000000, 1, 1, .rw, 0⟩
def Reg.REFS_CTRL_FORCE_ENTRY : Fld := ⟨0x60000000, 4, 3, .rw, 0⟩
def Reg.REFS_CTRL_FORCE_HOLD : Fld := ⟨0x60000000, 8, 1, .rw, 0⟩
/-- REFS.STATUS, R371. -/
def Reg.REFS_STATUS_CFG_REJECT : Fld := ⟨0x60000004, 0, 1, .w1c, 0⟩
def Reg.REFS_STATUS_CONFLICT : Fld := ⟨0x60000004, 1, 1, .ro, 0⟩
def Reg.REFS_STATUS_CONFLICT_SEEN : Fld := ⟨0x60000004, 2, 1, .w1c, 0⟩
def Reg.REFS_STATUS_SWITCH_SEEN : Fld := ⟨0x60000004, 3, 1, .w1c, 0⟩
def Reg.REFS_STATUS_HOLDOVER_SEEN : Fld := ⟨0x60000004, 4, 1, .w1c, 0⟩
def Reg.REFS_STATUS_LO_OK : Fld := ⟨0x60000004, 5, 1, .ro, 0⟩
/-- REFS.DPLL, R371. -/
def Reg.REFS_DPLL_STATE : Fld := ⟨0x60000008, 0, 2, .ro, 0⟩
def Reg.REFS_DPLL_SELECTED : Fld := ⟨0x60000008, 4, 4, .ro, 15⟩
def Reg.REFS_DPLL_BW : Fld := ⟨0x60000008, 8, 3, .ro, 3⟩
def Reg.REFS_DPLL_HIST_VALID : Fld := ⟨0x60000008, 12, 1, .ro, 0⟩
def Reg.REFS_DPLL_HIST_S : Fld := ⟨0x60000008, 16, 6, .ro, 0⟩
/-- REFS.DPLL_FREQ, R371. -/
def Reg.REFS_DPLL_FREQ_FREQ : Fld := ⟨0x6000000c, 0, 32, .ro, 0⟩
/-- REFS.DPLL_PHASE, R371. -/
def Reg.REFS_DPLL_PHASE_NS : Fld := ⟨0x60000010, 0, 32, .ro, 0⟩
/-- REFS.HOLD_FREQ, R371. -/
def Reg.REFS_HOLD_FREQ_FREQ : Fld := ⟨0x60000014, 0, 32, .ro, 0⟩
/-- REFS.STEP, R371. -/
def Reg.REFS_STEP_NS : Fld := ⟨0x60000018, 0, 32, .ro, 2147483648⟩
/-- REFS.SWITCHES, R371. -/
def Reg.REFS_SWITCHES_COUNT : Fld := ⟨0x6000001c, 0, 32, .ro, 0⟩
/-- REFS.CONFLICT_PAIR, R371. -/
def Reg.REFS_CONFLICT_PAIR_A : Fld := ⟨0x60000020, 0, 3, .ro, 0⟩
def Reg.REFS_CONFLICT_PAIR_B : Fld := ⟨0x60000020, 4, 3, .ro, 0⟩
def Reg.REFS_CONFLICT_PAIR_VALID : Fld := ⟨0x60000020, 8, 1, .ro, 0⟩
/-- REFS.OUT_STATE, R371. -/
def Reg.REFS_OUT_STATE_ENABLED : Fld := ⟨0x60000024, 0, 6, .ro, 0⟩
def Reg.REFS_OUT_STATE_PEND : Fld := ⟨0x60000024, 8, 6, .ro, 0⟩
/-- REFS.E_SEL, R371. -/
def Reg.REFS_E_SEL_ENTRY : Fld := ⟨0x60000030, 0, 3, .rw, 0⟩
/-- REFS.E_STATE, R371. -/
def Reg.REFS_E_STATE_STATE : Fld := ⟨0x60000034, 0, 3, .ro, 0⟩
def Reg.REFS_E_STATE_CAUSE : Fld := ⟨0x60000034, 4, 3, .ro, 0⟩
def Reg.REFS_E_STATE_TYPE : Fld := ⟨0x60000034, 8, 4, .ro, 0⟩
def Reg.REFS_E_STATE_RANK : Fld := ⟨0x60000034, 12, 4, .ro, 0⟩
def Reg.REFS_E_STATE_SIGNAL : Fld := ⟨0x60000034, 16, 1, .ro, 0⟩
def Reg.REFS_E_STATE_SELECTED : Fld := ⟨0x60000034, 17, 1, .ro, 0⟩
def Reg.REFS_E_STATE_TIMER_S : Fld := ⟨0x60000034, 24, 8, .ro, 0⟩
/-- REFS.E_OFF_LO, R371. -/
def Reg.REFS_E_OFF_LO_FREQ : Fld := ⟨0x60000038, 0, 32, .ro, 0⟩
/-- REFS.E_OFF_MED, R371. -/
def Reg.REFS_E_OFF_MED_FREQ : Fld := ⟨0x6000003c, 0, 32, .ro, 2147483647⟩
/-- REFS.E_EVENTS, R371. -/
def Reg.REFS_E_EVENTS_LOSSES : Fld := ⟨0x60000040, 0, 16, .ro, 0⟩
def Reg.REFS_E_EVENTS_DISQ : Fld := ⟨0x60000040, 16, 16, .ro, 0⟩
/-- REFS.E_GLITCH, R371. -/
def Reg.REFS_E_GLITCH_COUNT : Fld := ⟨0x60000044, 0, 32, .ro, 0⟩
/-- PTP.CTRL, R392. -/
def Reg.PTP_CTRL_CLR_CNT : Fld := ⟨0x60010000, 0, 1, .wo, 0⟩
def Reg.PTP_CTRL_STEP_AUTH : Fld := ⟨0x60010000, 1, 1, .wo, 0⟩
def Reg.PTP_CTRL_SET_TIME : Fld := ⟨0x60010000, 2, 1, .wo, 0⟩
def Reg.PTP_CTRL_AT_PPS : Fld := ⟨0x60010000, 3, 1, .rw, 0⟩
/-- PTP.STATUS, R392. -/
def Reg.PTP_STATUS_CFG_REJECT : Fld := ⟨0x60010004, 0, 1, .w1c, 0⟩
def Reg.PTP_STATUS_TIME_VALID : Fld := ⟨0x60010004, 1, 1, .ro, 0⟩
def Reg.PTP_STATUS_JUMP_PEND : Fld := ⟨0x60010004, 2, 1, .ro, 0⟩
def Reg.PTP_STATUS_JUMP_SEEN : Fld := ⟨0x60010004, 3, 1, .w1c, 0⟩
def Reg.PTP_STATUS_STEP_SEEN : Fld := ⟨0x60010004, 4, 1, .w1c, 0⟩
def Reg.PTP_STATUS_STATE : Fld := ⟨0x60010004, 8, 3, .ro, 0⟩
def Reg.PTP_STATUS_SOURCE : Fld := ⟨0x60010004, 12, 2, .ro, 0⟩
def Reg.PTP_STATUS_ACTIVE_B : Fld := ⟨0x60010004, 14, 1, .ro, 0⟩
/-- PTP.TIME_NS, R392. -/
def Reg.PTP_TIME_NS_NS : Fld := ⟨0x60010008, 0, 32, .ro, 0⟩
/-- PTP.TIME_FRAC, R392. -/
def Reg.PTP_TIME_FRAC_FRAC : Fld := ⟨0x6001000c, 0, 16, .ro, 0⟩
/-- PTP.TIME_SEC_LO, R392. -/
def Reg.PTP_TIME_SEC_LO_SEC : Fld := ⟨0x60010010, 0, 32, .ro, 0⟩
/-- PTP.TIME_SEC_HI, R392. -/
def Reg.PTP_TIME_SEC_HI_SEC : Fld := ⟨0x60010014, 0, 32, .ro, 0⟩
/-- PTP.UPTIME_LO, R392. -/
def Reg.PTP_UPTIME_LO_NS : Fld := ⟨0x60010018, 0, 32, .ro, 0⟩
/-- PTP.UPTIME_HI, R392. -/
def Reg.PTP_UPTIME_HI_NS : Fld := ⟨0x6001001c, 0, 32, .ro, 0⟩
/-- PTP.OFFSET, R392. -/
def Reg.PTP_OFFSET_NS : Fld := ⟨0x60010020, 0, 32, .ro, 2147483648⟩
/-- PTP.PATH_DELAY, R392. -/
def Reg.PTP_PATH_DELAY_NS : Fld := ⟨0x60010024, 0, 32, .ro, 4294967295⟩
/-- PTP.RATE, R392. -/
def Reg.PTP_RATE_FREQ : Fld := ⟨0x60010028, 0, 32, .ro, 0⟩
/-- PTP.GM_ID_LO, R392. -/
def Reg.PTP_GM_ID_LO_ID : Fld := ⟨0x6001002c, 0, 32, .ro, 0⟩
/-- PTP.GM_ID_HI, R392. -/
def Reg.PTP_GM_ID_HI_ID : Fld := ⟨0x60010030, 0, 32, .ro, 0⟩
/-- PTP.GM_INFO, R392. -/
def Reg.PTP_GM_INFO_CLOCK_CLASS : Fld := ⟨0x60010034, 0, 8, .ro, 0⟩
def Reg.PTP_GM_INFO_STEPS_REMOVED : Fld := ⟨0x60010034, 8, 8, .ro, 0⟩
def Reg.PTP_GM_INFO_UTC_OFFSET : Fld := ⟨0x60010034, 16, 16, .ro, 0⟩
/-- PTP.SET_SEC_LO, R392. -/
def Reg.PTP_SET_SEC_LO_SEC : Fld := ⟨0x60010038, 0, 32, .rw, 0⟩
/-- PTP.SET_SEC_HI, R392. -/
def Reg.PTP_SET_SEC_HI_SEC : Fld := ⟨0x6001003c, 0, 32, .rw, 0⟩
/-- PTP.SET_NS, R392. -/
def Reg.PTP_SET_NS_NS : Fld := ⟨0x60010040, 0, 30, .rw, 0⟩
/-- PTP.JUMP_OFFSET_LO, R392. -/
def Reg.PTP_JUMP_OFFSET_LO_NS : Fld := ⟨0x60010044, 0, 32, .ro, 0⟩
/-- PTP.JUMP_OFFSET_HI, R392. -/
def Reg.PTP_JUMP_OFFSET_HI_NS : Fld := ⟨0x60010048, 0, 32, .ro, 0⟩
/-- PTP.CNT_SYNC, R392. -/
def Reg.PTP_CNT_SYNC_COUNT : Fld := ⟨0x6001004c, 0, 32, .ro, 0⟩
/-- PTP.CNT_DELAY, R392. -/
def Reg.PTP_CNT_DELAY_COUNT : Fld := ⟨0x60010050, 0, 32, .ro, 0⟩
/-- PTP.CNT_ERR, R392. -/
def Reg.PTP_CNT_ERR_OUTLIERS : Fld := ⟨0x60010054, 0, 16, .ro, 0⟩
def Reg.PTP_CNT_ERR_IGNORED : Fld := ⟨0x60010054, 16, 16, .ro, 0⟩
/-- PTP.STEPS, R392. -/
def Reg.PTP_STEPS_STEPS : Fld := ⟨0x60010058, 0, 16, .ro, 0⟩
def Reg.PTP_STEPS_JUMPS_REFUSED : Fld := ⟨0x60010058, 16, 16, .ro, 0⟩
/-- PTP.TC_FWD, R392. -/
def Reg.PTP_TC_FWD_COUNT : Fld := ⟨0x6001005c, 0, 32, .ro, 0⟩
/-- PTP.TC_MAX_RES, R392. -/
def Reg.PTP_TC_MAX_RES_NS : Fld := ⟨0x60010060, 0, 32, .ro, 0⟩
/-- SPL.CTRL, R430. -/
def Reg.SPL_CTRL_CLR_CNT : Fld := ⟨0x60020000, 0, 1, .wo, 0⟩
def Reg.SPL_CTRL_REJOIN : Fld := ⟨0x60020000, 1, 1, .wo, 0⟩
def Reg.SPL_CTRL_HANDOVER : Fld := ⟨0x60020000, 2, 1, .wo, 0⟩
/-- SPL.STATUS, R430. -/
def Reg.SPL_STATUS_CFG_REJECT : Fld := ⟨0x60020004, 0, 1, .w1c, 0⟩
def Reg.SPL_STATUS_MASTER : Fld := ⟨0x60020004, 1, 1, .ro, 0⟩
def Reg.SPL_STATUS_UNALIGNED : Fld := ⟨0x60020004, 2, 1, .ro, 0⟩
def Reg.SPL_STATUS_ID_CONFLICT : Fld := ⟨0x60020004, 3, 1, .ro, 0⟩
def Reg.SPL_STATUS_SPLIT_SEEN : Fld := ⟨0x60020004, 4, 1, .w1c, 0⟩
def Reg.SPL_STATUS_PROTO : Fld := ⟨0x60020004, 8, 8, .ro, 1⟩
/-- SPL.PART, R430. -/
def Reg.SPL_PART_DEVICES : Fld := ⟨0x60020008, 0, 13, .ro, 0⟩
def Reg.SPL_PART_MASTER_ID : Fld := ⟨0x60020008, 16, 12, .ro, 0⟩
/-- SPL.EPOCH, R430. -/
def Reg.SPL_EPOCH_EPOCH : Fld := ⟨0x6002000c, 0, 32, .ro, 0⟩
/-- SPL.ROUTES, R430. -/
def Reg.SPL_ROUTES_EXPORTS : Fld := ⟨0x60020010, 0, 7, .ro, 0⟩
def Reg.SPL_ROUTES_IMPORTS : Fld := ⟨0x60020010, 8, 11, .ro, 0⟩
def Reg.SPL_ROUTES_SEVERED : Fld := ⟨0x60020010, 20, 11, .ro, 0⟩
/-- SPL.TDn_TICK_ERR, R430. -/
def Reg.SPL_TD_TICK_ERR_NS (n : Nat) : Fld := ⟨(0x60020020 + 0x4 * n), 0, 32, .ro, 2147483648⟩
/-- SPL.PORT_SEL, R430. -/
def Reg.SPL_PORT_SEL_PORT : Fld := ⟨0x60020030, 0, 3, .rw, 0⟩
/-- SPL.P_STATE, R430. -/
def Reg.SPL_P_STATE_IN_SERVICE : Fld := ⟨0x60020034, 0, 1, .ro, 0⟩
def Reg.SPL_P_STATE_STEP : Fld := ⟨0x60020034, 1, 2, .ro, 0⟩
def Reg.SPL_P_STATE_TARGET : Fld := ⟨0x60020034, 3, 2, .ro, 0⟩
def Reg.SPL_P_STATE_UPSTREAM : Fld := ⟨0x60020034, 5, 1, .ro, 0⟩
def Reg.SPL_P_STATE_NEIGHBOUR : Fld := ⟨0x60020034, 16, 12, .ro, 0⟩
/-- SPL.P_RESV, R430. -/
def Reg.SPL_P_RESV_TX : Fld := ⟨0x60020038, 0, 12, .ro, 0⟩
def Reg.SPL_P_RESV_RX : Fld := ⟨0x60020038, 16, 12, .ro, 0⟩
/-- SPL.P_DELAY, R430. -/
def Reg.SPL_P_DELAY_NS : Fld := ⟨0x6002003c, 0, 32, .ro, 4294967295⟩
/-- SPL.P_CELLS, R430. -/
def Reg.SPL_P_CELLS_COUNT : Fld := ⟨0x60020040, 0, 32, .ro, 0⟩
/-- SPL.P_CELL_ERR, R430. -/
def Reg.SPL_P_CELL_ERR_COUNT : Fld := ⟨0x60020044, 0, 32, .ro, 0⟩
/-- SPL.DST_SEL, R430. -/
def Reg.SPL_DST_SEL_DST : Fld := ⟨0x60020050, 0, 11, .rw, 0⟩
/-- SPL.DST_REMOTE, R430. -/
def Reg.SPL_DST_REMOTE_DEV : Fld := ⟨0x60020054, 0, 12, .ro, 0⟩
def Reg.SPL_DST_REMOTE_REMOTE : Fld := ⟨0x60020054, 12, 1, .ro, 0⟩
def Reg.SPL_DST_REMOTE_SRC : Fld := ⟨0x60020054, 16, 11, .ro, 2047⟩
/-- SPL.DST_LAT, R430. -/
def Reg.SPL_DST_LAT_NS : Fld := ⟨0x60020058, 0, 32, .ro, 0⟩
/-- SPL.TWIN, R430. -/
def Reg.SPL_TWIN_ROLE : Fld := ⟨0x60020060, 0, 2, .ro, 0⟩
def Reg.SPL_TWIN_SYNCED : Fld := ⟨0x60020060, 2, 1, .ro, 0⟩
def Reg.SPL_TWIN_ACT_IN : Fld := ⟨0x60020060, 3, 1, .ro, 0⟩
def Reg.SPL_TWIN_STBY_IN : Fld := ⟨0x60020060, 4, 1, .ro, 0⟩
def Reg.SPL_TWIN_HANDOVERS : Fld := ⟨0x60020060, 16, 16, .ro, 0⟩
/-- GEN.CTRL, R453. -/
def Reg.GEN_CTRL_CLR_CNT : Fld := ⟨0x400b0000, 0, 1, .wo, 0⟩
/-- GEN.STATUS, R453. -/
def Reg.GEN_STATUS_CFG_REJECT : Fld := ⟨0x400b0004, 0, 1, .w1c, 0⟩
/-- GEN.ENABLED, R453. -/
def Reg.GEN_ENABLED_MAP : Fld := ⟨0x400b0008, 0, 32, .ro, 0⟩
/-- GEN.SEL, R453. -/
def Reg.GEN_SEL_GEN : Fld := ⟨0x400b0020, 0, 5, .rw, 0⟩
/-- GEN.G_STATE, R453. -/
def Reg.GEN_G_STATE_TD : Fld := ⟨0x400b0024, 0, 2, .ro, 0⟩
def Reg.GEN_G_STATE_PATTERN : Fld := ⟨0x400b0024, 4, 3, .ro, 0⟩
def Reg.GEN_G_STATE_STAMP : Fld := ⟨0x400b0024, 8, 1, .ro, 0⟩
def Reg.GEN_G_STATE_PEND : Fld := ⟨0x400b0024, 9, 1, .ro, 0⟩
def Reg.GEN_G_STATE_RUNNING : Fld := ⟨0x400b0024, 10, 1, .ro, 0⟩
/-- GEN.G_FRAME_LO, R453. -/
def Reg.GEN_G_FRAME_LO_COUNT : Fld := ⟨0x400b0028, 0, 32, .ro, 0⟩
/-- GEN.G_FRAME_HI, R453. -/
def Reg.GEN_G_FRAME_HI_COUNT : Fld := ⟨0x400b002c, 0, 16, .ro, 0⟩
/-- GEN.G_CRC_SEL, R453. -/
def Reg.GEN_G_CRC_SEL_ENTRY : Fld := ⟨0x400b0030, 0, 4, .rw, 0⟩
/-- GEN.G_CRC, R453. -/
def Reg.GEN_G_CRC_CRC : Fld := ⟨0x400b0034, 0, 32, .ro, 0⟩
/-- GEN.G_CRC_FRAME, R453. -/
def Reg.GEN_G_CRC_FRAME_FRAME : Fld := ⟨0x400b0038, 0, 32, .ro, 0⟩
/-- FWA.CTRL, R454. -/
def Reg.FWA_CTRL_CLR_CNT : Fld := ⟨0x400a0000, 0, 1, .wo, 0⟩
/-- FWA.STATUS, R454. -/
def Reg.FWA_STATUS_CFG_REJECT : Fld := ⟨0x400a0004, 0, 1, .w1c, 0⟩
def Reg.FWA_STATUS_ALARM_SEEN : Fld := ⟨0x400a0004, 1, 1, .w1c, 0⟩
/-- FWA.INTERVALS, R454. -/
def Reg.FWA_INTERVALS_COUNT : Fld := ⟨0x400a0008, 0, 32, .ro, 0⟩
/-- FWA.SRC_SEL, R454. -/
def Reg.FWA_SRC_SEL_SRC : Fld := ⟨0x400a0020, 0, 10, .rw, 0⟩
/-- FWA.S_STATE, R454. -/
def Reg.FWA_S_STATE_VALID : Fld := ⟨0x400a0024, 0, 1, .ro, 0⟩
def Reg.FWA_S_STATE_PACKET : Fld := ⟨0x400a0024, 1, 1, .ro, 0⟩
def Reg.FWA_S_STATE_ALARMS : Fld := ⟨0x400a0024, 8, 8, .ro, 0⟩
def Reg.FWA_S_STATE_LEN : Fld := ⟨0x400a0024, 16, 8, .ro, 0⟩
/-- FWA.S_GAPS_A, R454. -/
def Reg.FWA_S_GAPS_A_COUNT : Fld := ⟨0x400a0028, 0, 32, .ro, 0⟩
/-- FWA.S_GAPS_B, R454. -/
def Reg.FWA_S_GAPS_B_COUNT : Fld := ⟨0x400a002c, 0, 32, .ro, 0⟩
/-- FWA.S_SKEW_MIN, R454. -/
def Reg.FWA_S_SKEW_MIN_NS : Fld := ⟨0x400a0030, 0, 32, .ro, 2147483647⟩
/-- FWA.S_SKEW_MAX, R454. -/
def Reg.FWA_S_SKEW_MAX_NS : Fld := ⟨0x400a0034, 0, 32, .ro, 2147483647⟩
/-- FWA.S_LAT_MIN, R454. -/
def Reg.FWA_S_LAT_MIN_NS : Fld := ⟨0x400a0038, 0, 32, .ro, 2147483647⟩
/-- FWA.S_LAT_MAX, R454. -/
def Reg.FWA_S_LAT_MAX_NS : Fld := ⟨0x400a003c, 0, 32, .ro, 2147483647⟩
/-- FWA.S_LAT_MEAN, R454. -/
def Reg.FWA_S_LAT_MEAN_NS : Fld := ⟨0x400a0040, 0, 32, .ro, 2147483647⟩
/-- FWA.S_21, R454. -/
def Reg.FWA_S_21_VERDICT : Fld := ⟨0x400a0044, 0, 2, .ro, 3⟩
def Reg.FWA_S_21_CINST : Fld := ⟨0x400a0044, 4, 12, .ro, 0⟩
def Reg.FWA_S_21_VRX : Fld := ⟨0x400a0044, 16, 16, .ro, 0⟩
/-- FWA.S_SDI_ERR, R454. -/
def Reg.FWA_S_SDI_ERR_LINE_CRC : Fld := ⟨0x400a0048, 0, 16, .ro, 0⟩
def Reg.FWA_S_SDI_ERR_TRS : Fld := ⟨0x400a0048, 16, 16, .ro, 0⟩
/-- FWA.S_SDI_ERR2, R454. -/
def Reg.FWA_S_SDI_ERR2_EDH : Fld := ⟨0x400a004c, 0, 16, .ro, 0⟩
def Reg.FWA_S_SDI_ERR2_ST352 : Fld := ⟨0x400a004c, 16, 16, .ro, 0⟩
/-- FWA.S_ANC_ERR, R454. -/
def Reg.FWA_S_ANC_ERR_COUNT : Fld := ⟨0x400a0050, 0, 32, .ro, 0⟩
/-- FWA.S_CRC_SEL, R454. -/
def Reg.FWA_S_CRC_SEL_ENTRY : Fld := ⟨0x400a0054, 0, 4, .rw, 0⟩
/-- FWA.S_CRC, R454. -/
def Reg.FWA_S_CRC_CRC : Fld := ⟨0x400a0058, 0, 32, .ro, 0⟩
/-- FWA.S_CRC_ID, R454. -/
def Reg.FWA_S_CRC_ID_FRAME : Fld := ⟨0x400a005c, 0, 32, .ro, 4294967295⟩
/-- FWA.S_CRC_FRAME, R454. -/
def Reg.FWA_S_CRC_FRAME_FRAME : Fld := ⟨0x400a0060, 0, 30, .ro, 0⟩
def Reg.FWA_S_CRC_FRAME_DAMAGED : Fld := ⟨0x400a0060, 30, 1, .ro, 0⟩
def Reg.FWA_S_CRC_FRAME_FIELD : Fld := ⟨0x400a0060, 31, 1, .ro, 0⟩
/-- FWA.S_HIST_SEL, R454. -/
def Reg.FWA_S_HIST_SEL_BIN : Fld := ⟨0x400a0064, 0, 4, .rw, 0⟩
def Reg.FWA_S_HIST_SEL_PATH : Fld := ⟨0x400a0064, 4, 1, .rw, 0⟩
/-- FWA.S_HIST, R454. -/
def Reg.FWA_S_HIST_COUNT : Fld := ⟨0x400a0068, 0, 32, .ro, 0⟩
/-- FWA.CH_SEL, R454. -/
def Reg.FWA_CH_SEL_CH : Fld := ⟨0x400a0080, 0, 14, .rw, 0⟩
/-- FWA.CH_STATE, R454. -/
def Reg.FWA_CH_STATE_SILENT : Fld := ⟨0x400a0084, 0, 1, .ro, 0⟩
def Reg.FWA_CH_STATE_OVER : Fld := ⟨0x400a0084, 1, 1, .ro, 0⟩
def Reg.FWA_CH_STATE_PEAK : Fld := ⟨0x400a0084, 16, 16, .ro, 65535⟩
/-- FWA.CH_CS_CRC, R454. -/
def Reg.FWA_CH_CS_CRC_COUNT : Fld := ⟨0x400a0088, 0, 32, .ro, 0⟩
/-- FWA.D_SEL, R454. -/
def Reg.FWA_D_SEL_ANA : Fld := ⟨0x400a00c0, 0, 3, .rw, 0⟩
/-- FWA.D_CFG, R454. -/
def Reg.FWA_D_CFG_SRC : Fld := ⟨0x400a00c4, 0, 10, .rw, 0⟩
def Reg.FWA_D_CFG_WRAP : Fld := ⟨0x400a00c4, 12, 1, .rw, 1⟩
def Reg.FWA_D_CFG_START : Fld := ⟨0x400a00c4, 16, 1, .wo, 0⟩
def Reg.FWA_D_CFG_STOP : Fld := ⟨0x400a00c4, 17, 1, .wo, 0⟩
/-- FWA.D_STATE, R454. -/
def Reg.FWA_D_STATE_RUNNING : Fld := ⟨0x400a00c8, 0, 1, .ro, 0⟩
def Reg.FWA_D_STATE_FULL : Fld := ⟨0x400a00c8, 1, 1, .ro, 0⟩
/-- FWA.D_BASE_LO, R454. -/
def Reg.FWA_D_BASE_LO_ADDR : Fld := ⟨0x400a00cc, 0, 32, .ro, 0⟩
/-- FWA.D_BASE_HI, R454. -/
def Reg.FWA_D_BASE_HI_ADDR : Fld := ⟨0x400a00d0, 0, 5, .ro, 0⟩
/-- FWA.D_NEXT, R454. -/
def Reg.FWA_D_NEXT_RECORD : Fld := ⟨0x400a00d4, 0, 23, .ro, 0⟩
/-- FWA.D_LOST, R454. -/
def Reg.FWA_D_LOST_COUNT : Fld := ⟨0x400a00d8, 0, 32, .ro, 0⟩
/-- CAP.CTRL, R487. -/
def Reg.CAP_CTRL_CLR_CNT : Fld := ⟨0x400c0000, 0, 1, .wo, 0⟩
/-- CAP.STATUS, R487. -/
def Reg.CAP_STATUS_CFG_REJECT : Fld := ⟨0x400c0004, 0, 1, .w1c, 0⟩
def Reg.CAP_STATUS_STORE_READY : Fld := ⟨0x400c0004, 1, 1, .ro, 0⟩
def Reg.CAP_STATUS_GAP_SEEN : Fld := ⟨0x400c0004, 2, 1, .w1c, 0⟩
def Reg.CAP_STATUS_DRIVE_FAIL_SEEN : Fld := ⟨0x400c0004, 3, 1, .w1c, 0⟩
def Reg.CAP_STATUS_MISMATCH_SEEN : Fld := ⟨0x400c0004, 4, 1, .w1c, 0⟩
/-- CAP.STORE, R487. -/
def Reg.CAP_STORE_TOTAL : Fld := ⟨0x400c0008, 0, 16, .ro, 0⟩
def Reg.CAP_STORE_FREE : Fld := ⟨0x400c0008, 16, 16, .ro, 0⟩
/-- CAP.RATE, R487. -/
def Reg.CAP_RATE_LIMIT : Fld := ⟨0x400c000c, 0, 16, .ro, 0⟩
def Reg.CAP_RATE_USED : Fld := ⟨0x400c000c, 16, 16, .ro, 0⟩
/-- CAP.STAGE, R487. -/
def Reg.CAP_STAGE_USED : Fld := ⟨0x400c0010, 0, 16, .ro, 0⟩
/-- CAP.DRV_SEL, R487. -/
def Reg.CAP_DRV_SEL_LINK : Fld := ⟨0x400c0020, 0, 2, .rw, 0⟩
/-- CAP.DRV_STATE, R487. -/
def Reg.CAP_DRV_STATE_PRESENT : Fld := ⟨0x400c0024, 0, 1, .ro, 0⟩
def Reg.CAP_DRV_STATE_READY : Fld := ⟨0x400c0024, 1, 1, .ro, 0⟩
def Reg.CAP_DRV_STATE_FAILED : Fld := ⟨0x400c0024, 2, 1, .ro, 0⟩
def Reg.CAP_DRV_STATE_WIDTH : Fld := ⟨0x400c0024, 4, 2, .ro, 0⟩
def Reg.CAP_DRV_STATE_GEN : Fld := ⟨0x400c0024, 8, 4, .ro, 0⟩
/-- CAP.DRV_EXTENTS, R487. -/
def Reg.CAP_DRV_EXTENTS_COUNT : Fld := ⟨0x400c0028, 0, 16, .ro, 0⟩
/-- CAP.DRV_ERRORS, R487. -/
def Reg.CAP_DRV_ERRORS_COUNT : Fld := ⟨0x400c002c, 0, 32, .ro, 0⟩
/-- CAP.SET_SEL, R487. -/
def Reg.CAP_SET_SEL_SET : Fld := ⟨0x400c0040, 0, 8, .rw, 0⟩
/-- CAP.SET_STATE, R487. -/
def Reg.CAP_SET_STATE_STATE : Fld := ⟨0x400c0044, 0, 3, .ro, 0⟩
def Reg.CAP_SET_STATE_CAUSE : Fld := ⟨0x400c0044, 4, 2, .ro, 0⟩
def Reg.CAP_SET_STATE_TD : Fld := ⟨0x400c0044, 8, 2, .ro, 0⟩
def Reg.CAP_SET_STATE_TRIG_IGNORED : Fld := ⟨0x400c0044, 16, 16, .ro, 0⟩
/-- CAP.SET_CHANNELS, R487. -/
def Reg.CAP_SET_CHANNELS_MAP : Fld := ⟨0x400c0048, 0, 32, .ro, 0⟩
/-- CAP.SET_EXTENTS, R487. -/
def Reg.CAP_SET_EXTENTS_USED : Fld := ⟨0x400c004c, 0, 16, .ro, 0⟩
def Reg.CAP_SET_EXTENTS_RESERVED : Fld := ⟨0x400c004c, 16, 16, .ro, 0⟩
/-- CAP.K_SEL, R487. -/
def Reg.CAP_K_SEL_CH : Fld := ⟨0x400c0060, 0, 5, .rw, 0⟩
/-- CAP.K_STATE, R487. -/
def Reg.CAP_K_STATE_ENABLED : Fld := ⟨0x400c0064, 0, 1, .ro, 0⟩
def Reg.CAP_K_STATE_LEVEL : Fld := ⟨0x400c0064, 1, 1, .ro, 0⟩
def Reg.CAP_K_STATE_TD : Fld := ⟨0x400c0064, 2, 2, .ro, 0⟩
def Reg.CAP_K_STATE_IN_SET : Fld := ⟨0x400c0064, 4, 1, .ro, 0⟩
def Reg.CAP_K_STATE_SET : Fld := ⟨0x400c0064, 8, 8, .ro, 0⟩
/-- CAP.K_RECORDS, R487. -/
def Reg.CAP_K_RECORDS_COUNT : Fld := ⟨0x400c0068, 0, 32, .ro, 0⟩
/-- CAP.K_GAPS, R487. -/
def Reg.CAP_K_GAPS_COUNT : Fld := ⟨0x400c006c, 0, 32, .ro, 0⟩
/-- CAP.K_STAGE_FILL, R487. -/
def Reg.CAP_K_STAGE_FILL_FILL : Fld := ⟨0x400c0070, 0, 16, .ro, 0⟩
def Reg.CAP_K_STAGE_FILL_PEAK : Fld := ⟨0x400c0070, 16, 16, .ro, 0⟩
/-- CAP.P_SEL, R487. -/
def Reg.CAP_P_SEL_PLAYER : Fld := ⟨0x400c0080, 0, 5, .rw, 0⟩
/-- CAP.P_STATE, R487. -/
def Reg.CAP_P_STATE_STATE : Fld := ⟨0x400c0084, 0, 3, .ro, 0⟩
def Reg.CAP_P_STATE_TD : Fld := ⟨0x400c0084, 4, 2, .ro, 0⟩
def Reg.CAP_P_STATE_SET : Fld := ⟨0x400c0084, 8, 8, .ro, 0⟩
def Reg.CAP_P_STATE_CH : Fld := ⟨0x400c0084, 16, 5, .ro, 0⟩
/-- CAP.P_FRAME, R487. -/
def Reg.CAP_P_FRAME_INDEX : Fld := ⟨0x400c0088, 0, 32, .ro, 0⟩
/-- CAP.P_REPEATS, R487. -/
def Reg.CAP_P_REPEATS_COUNT : Fld := ⟨0x400c008c, 0, 32, .ro, 0⟩
/-- CAP.RP_STATE, R487. -/
def Reg.CAP_RP_STATE_STATE : Fld := ⟨0x400c00a0, 0, 3, .ro, 0⟩
def Reg.CAP_RP_STATE_APPROX_CAUSE : Fld := ⟨0x400c00a0, 4, 3, .ro, 0⟩
def Reg.CAP_RP_STATE_SET : Fld := ⟨0x400c00a0, 8, 8, .ro, 0⟩
/-- CAP.RP_FRAMES, R487. -/
def Reg.CAP_RP_FRAMES_COUNT : Fld := ⟨0x400c00a4, 0, 32, .ro, 0⟩
/-- CAP.RP_MISMATCH, R487. -/
def Reg.CAP_RP_MISMATCH_COUNT : Fld := ⟨0x400c00a8, 0, 32, .ro, 0⟩
/-- CAP.RP_FIRST, R487. -/
def Reg.CAP_RP_FIRST_INDEX : Fld := ⟨0x400c00ac, 0, 32, .ro, 4294967295⟩
/-- CAP.RP_UNCOMPARED, R487. -/
def Reg.CAP_RP_UNCOMPARED_COUNT : Fld := ⟨0x400c00b0, 0, 32, .ro, 0⟩
/-- BOOT.CTRL, R516. -/
def Reg.BOOT_CTRL_COLD_RESET : Fld := ⟨0x60030000, 0, 1, .wo, 0⟩
def Reg.BOOT_CTRL_KEY : Fld := ⟨0x60030000, 16, 16, .wo, 0⟩
/-- BOOT.STATUS, R516. -/
def Reg.BOOT_STATUS_PHASE : Fld := ⟨0x60030004, 0, 3, .ro, 0⟩
def Reg.BOOT_STATUS_SET_BANK : Fld := ⟨0x60030004, 3, 2, .ro, 0⟩
def Reg.BOOT_STATUS_FW_BANK : Fld := ⟨0x60030004, 5, 2, .ro, 0⟩
def Reg.BOOT_STATUS_SET_FALLBACK : Fld := ⟨0x60030004, 7, 1, .ro, 0⟩
def Reg.BOOT_STATUS_FW_FALLBACK : Fld := ⟨0x60030004, 8, 1, .ro, 0⟩
def Reg.BOOT_STATUS_LO_WAIT : Fld := ⟨0x60030004, 9, 1, .ro, 0⟩
def Reg.BOOT_STATUS_LATE : Fld := ⟨0x60030004, 10, 1, .ro, 0⟩
def Reg.BOOT_STATUS_JOURNAL_LOST : Fld := ⟨0x60030004, 11, 1, .ro, 0⟩
def Reg.BOOT_STATUS_SECTIONS_FAILED : Fld := ⟨0x60030004, 16, 8, .ro, 0⟩
/-- BOOT.DEV_ID, R516. -/
def Reg.BOOT_DEV_ID_ID : Fld := ⟨0x60030008, 0, 32, .ro, 1414205476⟩
/-- BOOT.REV_ID, R516. -/
def Reg.BOOT_REV_ID_REV : Fld := ⟨0x6003000c, 0, 32, .ro, 2816⟩
/-- BOOT.RESET_CAUSE, R516. -/
def Reg.BOOT_RESET_CAUSE_POWER_ON : Fld := ⟨0x60030010, 0, 1, .w1c, 0⟩
def Reg.BOOT_RESET_CAUSE_PIN : Fld := ⟨0x60030010, 1, 1, .w1c, 0⟩
def Reg.BOOT_RESET_CAUSE_COMMAND : Fld := ⟨0x60030010, 2, 1, .w1c, 0⟩
def Reg.BOOT_RESET_CAUSE_RECOVER : Fld := ⟨0x60030010, 3, 1, .w1c, 0⟩
/-- BOOT.T_PILOT, R516. -/
def Reg.BOOT_T_PILOT_US : Fld := ⟨0x60030014, 0, 32, .ro, 4294967295⟩
/-- BOOT.T_FULL, R516. -/
def Reg.BOOT_T_FULL_US : Fld := ⟨0x60030018, 0, 32, .ro, 4294967295⟩
/-- BOOT.FAIL, R516. -/
def Reg.BOOT_FAIL_SET_A : Fld := ⟨0x6003001c, 0, 4, .ro, 0⟩
def Reg.BOOT_FAIL_SET_B : Fld := ⟨0x6003001c, 4, 4, .ro, 0⟩
def Reg.BOOT_FAIL_FW_A : Fld := ⟨0x6003001c, 8, 4, .ro, 0⟩
def Reg.BOOT_FAIL_FW_B : Fld := ⟨0x6003001c, 12, 4, .ro, 0⟩
/-- BOOT.SET_GEN, R516. -/
def Reg.BOOT_SET_GEN_GEN : Fld := ⟨0x60030020, 0, 32, .ro, 0⟩
/-- BOOT.FW_GEN, R516. -/
def Reg.BOOT_FW_GEN_GEN : Fld := ⟨0x60030024, 0, 32, .ro, 0⟩
/-- LAN.CTRL, R556. -/
def Reg.LAN_CTRL_CLR_CNT : Fld := ⟨0x60040000, 0, 1, .wo, 0⟩
def Reg.LAN_CTRL_CLOSE_ALL : Fld := ⟨0x60040000, 1, 1, .wo, 0⟩
/-- LAN.STATUS, R556. -/
def Reg.LAN_STATUS_CFG_REJECT : Fld := ⟨0x60040004, 0, 1, .w1c, 0⟩
def Reg.LAN_STATUS_AUTH_FAIL_SEEN : Fld := ⟨0x60040004, 1, 1, .w1c, 0⟩
def Reg.LAN_STATUS_OVERFLOW_SEEN : Fld := ⟨0x60040004, 2, 1, .w1c, 0⟩
/-- LAN.SESSIONS, R556. -/
def Reg.LAN_SESSIONS_OPEN : Fld := ⟨0x60040008, 0, 5, .ro, 0⟩
def Reg.LAN_SESSIONS_HALF_OPEN : Fld := ⟨0x60040008, 8, 5, .ro, 0⟩
/-- LAN.RX_SEALED, R556. -/
def Reg.LAN_RX_SEALED_COUNT : Fld := ⟨0x6004000c, 0, 32, .ro, 0⟩
/-- LAN.AUTH_FAIL, R556. -/
def Reg.LAN_AUTH_FAIL_COUNT : Fld := ⟨0x60040010, 0, 32, .ro, 0⟩
/-- LAN.REPLAY, R556. -/
def Reg.LAN_REPLAY_COUNT : Fld := ⟨0x60040014, 0, 32, .ro, 0⟩
/-- LAN.RX_BAD, R556. -/
def Reg.LAN_RX_BAD_COUNT : Fld := ⟨0x60040018, 0, 32, .ro, 0⟩
/-- LAN.DUP_REQ, R556. -/
def Reg.LAN_DUP_REQ_COUNT : Fld := ⟨0x6004001c, 0, 32, .ro, 0⟩
/-- LAN.WINDOW_DROP, R556. -/
def Reg.LAN_WINDOW_DROP_COUNT : Fld := ⟨0x60040020, 0, 32, .ro, 0⟩
/-- LAN.REASM_DROP, R556. -/
def Reg.LAN_REASM_DROP_COUNT : Fld := ⟨0x60040024, 0, 32, .ro, 0⟩
/-- LAN.S_SEL, R556. -/
def Reg.LAN_S_SEL_SLOT : Fld := ⟨0x60040040, 0, 4, .rw, 0⟩
/-- LAN.S_STATE, R556. -/
def Reg.LAN_S_STATE_STATE : Fld := ⟨0x60040044, 0, 2, .ro, 0⟩
def Reg.LAN_S_STATE_PRIV : Fld := ⟨0x60040044, 4, 2, .ro, 0⟩
def Reg.LAN_S_STATE_KEY_ID : Fld := ⟨0x60040044, 8, 4, .ro, 0⟩
def Reg.LAN_S_STATE_PORT : Fld := ⟨0x60040044, 12, 1, .ro, 0⟩
def Reg.LAN_S_STATE_IPV6 : Fld := ⟨0x60040044, 13, 1, .ro, 0⟩
def Reg.LAN_S_STATE_OUTSTANDING : Fld := ⟨0x60040044, 16, 9, .ro, 0⟩
/-- LAN.S_ID, R556. -/
def Reg.LAN_S_ID_SESSION : Fld := ⟨0x60040048, 0, 32, .ro, 0⟩
/-- LAN.S_REQ_LO, R556. -/
def Reg.LAN_S_REQ_LO_SEQ : Fld := ⟨0x6004004c, 0, 32, .ro, 0⟩
/-- LAN.S_REQ_HI, R556. -/
def Reg.LAN_S_REQ_HI_SEQ : Fld := ⟨0x60040050, 0, 32, .ro, 0⟩
/-- LAN.S_NOTICE_LO, R556. -/
def Reg.LAN_S_NOTICE_LO_SEQ : Fld := ⟨0x60040054, 0, 32, .ro, 0⟩
/-- LAN.S_NOTICE_HI, R556. -/
def Reg.LAN_S_NOTICE_HI_SEQ : Fld := ⟨0x60040058, 0, 32, .ro, 0⟩
/-- LAN.S_UNACKED, R556. -/
def Reg.LAN_S_UNACKED_NOTICES : Fld := ⟨0x6004005c, 0, 11, .ro, 0⟩
def Reg.LAN_S_UNACKED_LOST : Fld := ⟨0x6004005c, 16, 16, .ro, 0⟩
/-- LAN.S_IDLE_MS, R556. -/
def Reg.LAN_S_IDLE_MS_MS : Fld := ⟨0x60040060, 0, 32, .ro, 0⟩
/-- FLT.CTRL, R574. -/
def Reg.FLT_CTRL_CLR_CNT : Fld := ⟨0x60050000, 0, 1, .wo, 0⟩
def Reg.FLT_CTRL_FORCE_RESTART : Fld := ⟨0x60050000, 1, 1, .wo, 0⟩
def Reg.FLT_CTRL_KEY : Fld := ⟨0x60050000, 16, 16, .wo, 0⟩
/-- FLT.STATUS, R574. -/
def Reg.FLT_STATUS_CFG_REJECT : Fld := ⟨0x60050004, 0, 1, .w1c, 0⟩
def Reg.FLT_STATUS_RESTART : Fld := ⟨0x60050004, 1, 1, .ro, 0⟩
def Reg.FLT_STATUS_RESTART_SEEN : Fld := ⟨0x60050004, 2, 1, .w1c, 0⟩
def Reg.FLT_STATUS_UE_SEEN : Fld := ⟨0x60050004, 3, 1, .w1c, 0⟩
def Reg.FLT_STATUS_ROUTE_LOST_SEEN : Fld := ⟨0x60050004, 4, 1, .w1c, 0⟩
def Reg.FLT_STATUS_HALTED : Fld := ⟨0x60050004, 5, 1, .ro, 0⟩
/-- FLT.RESTARTS, R574. -/
def Reg.FLT_RESTARTS_TOTAL : Fld := ⟨0x60050008, 0, 16, .ro, 0⟩
def Reg.FLT_RESTARTS_RECENT : Fld := ⟨0x60050008, 16, 8, .ro, 0⟩
/-- FLT.LAST_CAUSE, R574. -/
def Reg.FLT_LAST_CAUSE_CODE : Fld := ⟨0x6005000c, 0, 14, .ro, 0⟩
def Reg.FLT_LAST_CAUSE_BLOCK : Fld := ⟨0x6005000c, 14, 7, .ro, 0⟩
def Reg.FLT_LAST_CAUSE_CLASS : Fld := ⟨0x6005000c, 22, 2, .ro, 0⟩
/-- FLT.T_RESTART, R574. -/
def Reg.FLT_T_RESTART_US : Fld := ⟨0x60050010, 0, 32, .ro, 0⟩
/-- FLT.RT_REPAIR, R574. -/
def Reg.FLT_RT_REPAIR_COUNT : Fld := ⟨0x60050014, 0, 32, .ro, 0⟩
/-- FLT.RT_LOST, R574. -/
def Reg.FLT_RT_LOST_COUNT : Fld := ⟨0x60050018, 0, 32, .ro, 0⟩
/-- FLT.FAB_RESETS, R574. -/
def Reg.FLT_FAB_RESETS_COUNT : Fld := ⟨0x6005001c, 0, 32, .ro, 0⟩
/-- FLT.SRAM_SEL, R574. -/
def Reg.FLT_SRAM_SEL_PART : Fld := ⟨0x60050020, 0, 3, .rw, 0⟩
/-- FLT.SRAM_CE, R574. -/
def Reg.FLT_SRAM_CE_COUNT : Fld := ⟨0x60050024, 0, 32, .ro, 0⟩
/-- FLT.SRAM_UE, R574. -/
def Reg.FLT_SRAM_UE_COUNT : Fld := ⟨0x60050028, 0, 32, .ro, 0⟩
/-- FLT.SRAM_ADDR, R574. -/
def Reg.FLT_SRAM_ADDR_OFFSET : Fld := ⟨0x6005002c, 0, 27, .ro, 0⟩
/-- FLT.WD, R574. -/
def Reg.FLT_WD_M1 : Fld := ⟨0x60050030, 0, 8, .ro, 0⟩
def Reg.FLT_WD_M2 : Fld := ⟨0x60050030, 8, 8, .ro, 0⟩
def Reg.FLT_WD_M3 : Fld := ⟨0x60050030, 16, 8, .ro, 0⟩
def Reg.FLT_WD_M4 : Fld := ⟨0x60050030, 24, 8, .ro, 0⟩
/-- LOG.CTRL, R592. -/
def Reg.LOG_CTRL_CLR_CNT : Fld := ⟨0x60060000, 0, 1, .wo, 0⟩
def Reg.LOG_CTRL_FREEZE : Fld := ⟨0x60060000, 1, 1, .wo, 0⟩
def Reg.LOG_CTRL_THAW : Fld := ⟨0x60060000, 2, 1, .wo, 0⟩
def Reg.LOG_CTRL_WIN_LOAD : Fld := ⟨0x60060000, 3, 1, .wo, 0⟩
def Reg.LOG_CTRL_CLEAR : Fld := ⟨0x60060000, 4, 1, .wo, 0⟩
/-- LOG.STATUS, R592. -/
def Reg.LOG_STATUS_CFG_REJECT : Fld := ⟨0x60060004, 0, 1, .w1c, 0⟩
def Reg.LOG_STATUS_FROZEN : Fld := ⟨0x60060004, 1, 1, .ro, 0⟩
def Reg.LOG_STATUS_DISCARD_SEEN : Fld := ⟨0x60060004, 2, 1, .w1c, 0⟩
def Reg.LOG_STATUS_SIDE_LOST_SEEN : Fld := ⟨0x60060004, 3, 1, .w1c, 0⟩
def Reg.LOG_STATUS_ARCH_ERR_SEEN : Fld := ⟨0x60060004, 4, 1, .w1c, 0⟩
def Reg.LOG_STATUS_ARCH_HELD : Fld := ⟨0x60060004, 5, 1, .ro, 0⟩
/-- LOG.SEQ_NEXT, R592. -/
def Reg.LOG_SEQ_NEXT_SEQ : Fld := ⟨0x60060008, 0, 32, .ro, 0⟩
/-- LOG.RING, R592. -/
def Reg.LOG_RING_RECORDS : Fld := ⟨0x6006000c, 0, 16, .ro, 0⟩
def Reg.LOG_RING_FREE : Fld := ⟨0x6006000c, 16, 16, .ro, 32768⟩
/-- LOG.OLDEST_SEQ, R592. -/
def Reg.LOG_OLDEST_SEQ_SEQ : Fld := ⟨0x60060010, 0, 32, .ro, 0⟩
/-- LOG.SIDE, R592. -/
def Reg.LOG_SIDE_RECORDS : Fld := ⟨0x60060014, 0, 12, .ro, 0⟩
def Reg.LOG_SIDE_SIDE_LOST : Fld := ⟨0x60060014, 16, 16, .ro, 0⟩
/-- LOG.COMMIT, R592. -/
def Reg.LOG_COMMIT_PENDING : Fld := ⟨0x60060018, 0, 14, .ro, 0⟩
def Reg.LOG_COMMIT_SKIPPED : Fld := ⟨0x60060018, 16, 16, .ro, 0⟩
/-- LOG.ARCH_HEAD, R592. -/
def Reg.LOG_ARCH_HEAD_SECTOR : Fld := ⟨0x6006001c, 0, 10, .ro, 0⟩
def Reg.LOG_ARCH_HEAD_ERRORS : Fld := ⟨0x6006001c, 16, 16, .ro, 0⟩
/-- LOG.ARCH_SEQ, R592. -/
def Reg.LOG_ARCH_SEQ_SEQ : Fld := ⟨0x60060020, 0, 32, .ro, 0⟩
/-- LOG.ARCH_ERASED, R592. -/
def Reg.LOG_ARCH_ERASED_COUNT : Fld := ⟨0x60060024, 0, 32, .ro, 0⟩
/-- LOG.DISCARDn, R592. -/
def Reg.LOG_DISCARD_COUNT (n : Nat) : Fld := ⟨(0x60060030 + 0x4 * n), 0, 32, .ro, 0⟩
/-- LOG.BELOW, R592. -/
def Reg.LOG_BELOW_COUNT : Fld := ⟨0x60060050, 0, 32, .ro, 0⟩
/-- LOG.FOLDED, R592. -/
def Reg.LOG_FOLDED_COUNT : Fld := ⟨0x60060054, 0, 32, .ro, 0⟩
/-- LOG.WIN_CURSOR, R592. -/
def Reg.LOG_WIN_CURSOR_SEQ : Fld := ⟨0x60060060, 0, 32, .rw, 0⟩
/-- LOG.WIN_NEXT, R592. -/
def Reg.LOG_WIN_NEXT_SEQ : Fld := ⟨0x60060064, 0, 32, .ro, 0⟩
/-- LOG.WIN_DATA, R592. -/
def Reg.LOG_WIN_DATA_WORD (w : Nat) : Fld := ⟨(0x60060100 + 0x4 * w), 0, 32, .ro, 0⟩
/-- UPD.CTRL, R613. -/
def Reg.UPD_CTRL_CLR_CNT : Fld := ⟨0x60070000, 0, 1, .wo, 0⟩
/-- UPD.STATUS, R613. -/
def Reg.UPD_STATUS_CFG_REJECT : Fld := ⟨0x60070004, 0, 1, .w1c, 0⟩
def Reg.UPD_STATUS_REVERT_SEEN : Fld := ⟨0x60070004, 1, 1, .w1c, 0⟩
def Reg.UPD_STATUS_COMMIT_SEEN : Fld := ⟨0x60070004, 2, 1, .w1c, 0⟩
def Reg.UPD_STATUS_FW_STATE : Fld := ⟨0x60070004, 4, 2, .ro, 0⟩
def Reg.UPD_STATUS_SET_STATE : Fld := ⟨0x60070004, 8, 3, .ro, 0⟩
def Reg.UPD_STATUS_ACT_STATE : Fld := ⟨0x60070004, 12, 3, .ro, 0⟩
/-- UPD.FW_BLOCKS, R613. -/
def Reg.UPD_FW_BLOCKS_EXPECTED : Fld := ⟨0x60070008, 0, 10, .ro, 0⟩
def Reg.UPD_FW_BLOCKS_WRITTEN : Fld := ⟨0x60070008, 16, 10, .ro, 0⟩
/-- UPD.SET_BLOCKS, R613. -/
def Reg.UPD_SET_BLOCKS_EXPECTED : Fld := ⟨0x6007000c, 0, 9, .ro, 0⟩
def Reg.UPD_SET_BLOCKS_WRITTEN : Fld := ⟨0x6007000c, 16, 9, .ro, 0⟩
/-- UPD.CRC_FAIL, R613. -/
def Reg.UPD_CRC_FAIL_COUNT : Fld := ⟨0x60070010, 0, 32, .ro, 0⟩
/-- UPD.ACT_SEC_LO, R613. -/
def Reg.UPD_ACT_SEC_LO_SEC : Fld := ⟨0x60070014, 0, 32, .ro, 0⟩
/-- UPD.ACT_SEC_HI, R613. -/
def Reg.UPD_ACT_SEC_HI_SEC : Fld := ⟨0x60070018, 0, 32, .ro, 0⟩
/-- UPD.ACT_NS, R613. -/
def Reg.UPD_ACT_NS_NS : Fld := ⟨0x6007001c, 0, 30, .ro, 0⟩
/-- UPD.JOURNAL, R613. -/
def Reg.UPD_JOURNAL_FW_BANK : Fld := ⟨0x60070020, 0, 2, .ro, 0⟩
def Reg.UPD_JOURNAL_SET_BANK : Fld := ⟨0x60070020, 2, 2, .ro, 0⟩
def Reg.UPD_JOURNAL_COPY1_VALID : Fld := ⟨0x60070020, 4, 1, .ro, 0⟩
def Reg.UPD_JOURNAL_COPY2_VALID : Fld := ⟨0x60070020, 5, 1, .ro, 0⟩
/-- UPD.JOURNAL_CTR, R613. -/
def Reg.UPD_JOURNAL_CTR_COUNTER : Fld := ⟨0x60070024, 0, 32, .ro, 0⟩
/-- UPD.LAST_RESULT, R613. -/
def Reg.UPD_LAST_RESULT_CODE : Fld := ⟨0x60070028, 0, 16, .ro, 0⟩
def Reg.UPD_LAST_RESULT_CAUSE : Fld := ⟨0x60070028, 16, 8, .ro, 0⟩
/-- UPD.T_ACTIVATE, R613. -/
def Reg.UPD_T_ACTIVATE_US : Fld := ⟨0x6007002c, 0, 32, .ro, 0⟩
/-- UPD.COUNTS, R613. -/
def Reg.UPD_COUNTS_COMMITS : Fld := ⟨0x60070030, 0, 16, .ro, 0⟩
def Reg.UPD_COUNTS_REVERTS : Fld := ⟨0x60070030, 16, 16, .ro, 0⟩
/-- UPD.KEYS, R613. -/
def Reg.UPD_KEYS_SESSION : Fld := ⟨0x60070034, 0, 16, .ro, 0⟩
def Reg.UPD_KEYS_SETTINGS : Fld := ⟨0x60070034, 16, 8, .ro, 0⟩
/-- FAB.CTRL, R640. -/
def Reg.FAB_CTRL_CLR_CNT : Fld := ⟨0x400d0000, 0, 1, .wo, 0⟩
def Reg.FAB_CTRL_REMAP : Fld := ⟨0x400d0000, 1, 1, .rw, 0⟩
/-- FAB.STATUS, R640. -/
def Reg.FAB_STATUS_CFG_REJECT : Fld := ⟨0x400d0004, 0, 1, .w1c, 0⟩
def Reg.FAB_STATUS_ERR_SEEN : Fld := ⟨0x400d0004, 1, 1, .w1c, 0⟩
def Reg.FAB_STATUS_TIMEOUT_SEEN : Fld := ⟨0x400d0004, 2, 1, .w1c, 0⟩
def Reg.FAB_STATUS_HOG_SEEN : Fld := ⟨0x400d0004, 3, 1, .w1c, 0⟩
def Reg.FAB_STATUS_REMAP_ACTIVE : Fld := ⟨0x400d0004, 4, 1, .ro, 0⟩
/-- FAB.FSWIN_BASE, R640. -/
def Reg.FAB_FSWIN_BASE_PAGE : Fld := ⟨0x400d0008, 0, 7, .rw, 0⟩
/-- FAB.HOG_LIMIT, R640. -/
def Reg.FAB_HOG_LIMIT_BEATS : Fld := ⟨0x400d000c, 0, 13, .rw, 256⟩
/-- FAB.QUAR, R640. -/
def Reg.FAB_QUAR_MASTER : Fld := ⟨0x400d0010, 0, 9, .w1c, 0⟩
/-- FAB.CYC_CNT, R640. -/
def Reg.FAB_CYC_CNT_COUNT : Fld := ⟨0x400d0014, 0, 32, .ro, 0⟩
/-- FAB.ERR_ADDR, R640. -/
def Reg.FAB_ERR_ADDR_ADDR : Fld := ⟨0x400d0018, 0, 32, .ro, 0⟩
/-- FAB.ERR_INFO, R640. -/
def Reg.FAB_ERR_INFO_MASTER : Fld := ⟨0x400d001c, 0, 4, .ro, 0⟩
def Reg.FAB_ERR_INFO_TARGET : Fld := ⟨0x400d001c, 4, 3, .ro, 0⟩
def Reg.FAB_ERR_INFO_KIND : Fld := ⟨0x400d001c, 8, 3, .ro, 0⟩
def Reg.FAB_ERR_INFO_WRITE : Fld := ⟨0x400d001c, 11, 1, .ro, 0⟩
def Reg.FAB_ERR_INFO_COUNT : Fld := ⟨0x400d001c, 16, 16, .ro, 0⟩
/-- FAB.TIMEOUT, R640. -/
def Reg.FAB_TIMEOUT_REG_US : Fld := ⟨0x400d0020, 0, 8, .rw, 100⟩
def Reg.FAB_TIMEOUT_MEM_MS : Fld := ⟨0x400d0020, 16, 8, .rw, 10⟩
/-- FAB.M_SEL, R640. -/
def Reg.FAB_M_SEL_MASTER : Fld := ⟨0x400d0030, 0, 4, .rw, 0⟩
/-- FAB.M_CFG, R640. -/
def Reg.FAB_M_CFG_WEIGHT : Fld := ⟨0x400d0034, 0, 8, .rw, 0⟩
/-- FAB.M_BEATS, R640. -/
def Reg.FAB_M_BEATS_COUNT : Fld := ⟨0x400d0038, 0, 32, .ro, 0⟩
/-- FAB.M_WAIT_MAX, R640. -/
def Reg.FAB_M_WAIT_MAX_CYCLES : Fld := ⟨0x400d003c, 0, 32, .ro, 0⟩
/-- FAB.M_EVENTS, R640. -/
def Reg.FAB_M_EVENTS_HOG_CUTS : Fld := ⟨0x400d0040, 0, 8, .ro, 0⟩
def Reg.FAB_M_EVENTS_LOCK_TRUNC : Fld := ⟨0x400d0040, 8, 8, .ro, 0⟩
def Reg.FAB_M_EVENTS_ERRORS : Fld := ⟨0x400d0040, 16, 16, .ro, 0⟩
/-- FAB.M_STATE, R640. -/
def Reg.FAB_M_STATE_OUTSTANDING : Fld := ⟨0x400d0044, 0, 5, .ro, 0⟩
def Reg.FAB_M_STATE_LOCKED : Fld := ⟨0x400d0044, 8, 1, .ro, 0⟩
def Reg.FAB_M_STATE_QUARANTINED : Fld := ⟨0x400d0044, 9, 1, .ro, 0⟩
def Reg.FAB_M_STATE_IN_RESET : Fld := ⟨0x400d0044, 10, 1, .ro, 0⟩
def Reg.FAB_M_STATE_PARKED_ON : Fld := ⟨0x400d0044, 12, 3, .ro, 0⟩
/-- PWR.CTRL, R653. -/
def Reg.PWR_CTRL_CLR_CNT : Fld := ⟨0x60080000, 0, 1, .wo, 0⟩
/-- PWR.STATUS, R653. -/
def Reg.PWR_STATUS_CFG_REJECT : Fld := ⟨0x60080004, 0, 1, .w1c, 0⟩
def Reg.PWR_STATUS_HOLD : Fld := ⟨0x60080004, 1, 1, .ro, 0⟩
def Reg.PWR_STATUS_HOLD_SEEN : Fld := ⟨0x60080004, 2, 1, .w1c, 0⟩
def Reg.PWR_STATUS_WARN_IN : Fld := ⟨0x60080004, 3, 1, .ro, 0⟩
def Reg.PWR_STATUS_ALERT : Fld := ⟨0x60080004, 4, 1, .ro, 0⟩
def Reg.PWR_STATUS_LIMIT_SEEN : Fld := ⟨0x60080004, 5, 1, .w1c, 0⟩
def Reg.PWR_STATUS_TRIP_SEEN : Fld := ⟨0x60080004, 6, 1, .w1c, 0⟩
/-- PWR.HOLDS, R653. -/
def Reg.PWR_HOLDS_COUNT : Fld := ⟨0x60080008, 0, 32, .ro, 0⟩
/-- PWR.HOLD_MAX, R653. -/
def Reg.PWR_HOLD_MAX_US : Fld := ⟨0x6008000c, 0, 32, .ro, 0⟩
/-- PWR.CFG, R653. -/
def Reg.PWR_CFG_HOLDUP_US : Fld := ⟨0x60080010, 0, 16, .ro, 0⟩
def Reg.PWR_CFG_WARN_C : Fld := ⟨0x60080010, 16, 8, .ro, 100⟩
def Reg.PWR_CFG_ALERT_C : Fld := ⟨0x60080010, 24, 8, .ro, 110⟩
/-- PWR.RAIL_SEL, R653. -/
def Reg.PWR_RAIL_SEL_RAIL : Fld := ⟨0x60080020, 0, 4, .rw, 0⟩
/-- PWR.RAIL_V, R653. -/
def Reg.PWR_RAIL_V_MV : Fld := ⟨0x60080024, 0, 16, .ro, 0⟩
def Reg.PWR_RAIL_V_MIN_MV : Fld := ⟨0x60080024, 16, 16, .ro, 65535⟩
/-- PWR.RAIL_STATE, R653. -/
def Reg.PWR_RAIL_STATE_IN_LIMITS : Fld := ⟨0x60080028, 0, 1, .ro, 0⟩
def Reg.PWR_RAIL_STATE_SAG : Fld := ⟨0x60080028, 1, 1, .ro, 0⟩
def Reg.PWR_RAIL_STATE_EXCURSIONS : Fld := ⟨0x60080028, 16, 16, .ro, 0⟩
/-- PWR.TEMP_SEL, R653. -/
def Reg.PWR_TEMP_SEL_SENSOR : Fld := ⟨0x60080030, 0, 4, .rw, 0⟩
/-- PWR.TEMP, R653. -/
def Reg.PWR_TEMP_NOW : Fld := ⟨0x60080034, 0, 16, .ro, 0⟩
def Reg.PWR_TEMP_MAX : Fld := ⟨0x60080034, 16, 16, .ro, 32768⟩
/-- PWR.TEMP_HOT, R653. -/
def Reg.PWR_TEMP_HOT_NOW : Fld := ⟨0x60080038, 0, 16, .ro, 0⟩
def Reg.PWR_TEMP_HOT_SENSOR : Fld := ⟨0x60080038, 16, 4, .ro, 0⟩

/-- Every field of the `TICK` register table. -/
def Regs.TICK : List Fld :=
  [Reg.TICK_CTRL_REALIGN, Reg.TICK_CTRL_CLR_OVR, Reg.TICK_STATUS_OVERRUN, Reg.TICK_STATUS_SLOT_OVERRUN, Reg.TICK_STATUS_CFG_REJECT, Reg.TICK_STATUS_REALIGN_PEND, Reg.TICK_STATUS_ALIGNED, Reg.TICK_STATUS_PHASE_ERR, Reg.TICK_STATUS_ENABLED, Reg.TICK_STATUS_FREE_RUN, Reg.TICK_SEQ_POS, Reg.TICK_SAMPLE_CNT_COUNT] ++
  [Reg.TICK_SLOTFRAME_CNT_COUNT, Reg.TICK_SLOT_OVR_COUNT, Reg.TICK_SRC_PHASE_SEL_SRC, Reg.TICK_SRC_PHASE_SEL_TD, Reg.TICK_SRC_PHASE_LEAD, Reg.TICK_SRC_PHASE_VALID, Reg.TICK_SRC_PHASE_RATE_MATCH, Reg.TICK_SRC_PHASE_IN_WINDOW] ++
  (List.range 4).map Reg.TICK_TD_CFG_ENABLE ++
  (List.range 4).map Reg.TICK_TD_CFG_RATE ++
  (List.range 4).map Reg.TICK_TD_CFG_REF_ENTRY ++
  (List.range 4).map Reg.TICK_TD_CFG_SPLICE ++
  (List.range 4).map Reg.TICK_TD_CFG_AUTO_FIRST ++
  (List.range 4).map Reg.TICK_TD_OUT_DELAY_DELAY_NS ++
  (List.range 4).map Reg.TICK_TD_WINDOW_LEAD_MIN ++
  (List.range 4).map Reg.TICK_TD_WINDOW_LEAD_MAX ++
  (List.range 4).map Reg.TICK_TD_PHASE_PHASE_NS ++
  (List.range 4).map Reg.TICK_TD_FRAME_LO_COUNT ++
  (List.range 4).map Reg.TICK_TD_FRAME_HI_COUNT ++
  (List.range 4).map Reg.TICK_TD_OVR_TAKE ++
  (List.range 4).map Reg.TICK_TD_OVR_SYNC ++
  (List.range 4).map Reg.TICK_TD_OVR_CMP ++
  (List.range 4).map Reg.TICK_TD_OVR_FWA ++
  (List.range 4).map Reg.TICK_TD_PHASE_LIMIT_LIMIT_NS

/-- Every field of the `XPT` register table. -/
def Regs.XPT : List Fld :=
  [Reg.XPT_CTRL_CLR_CNT, Reg.XPT_STATUS_PILOT, Reg.XPT_STATUS_RESTART, Reg.XPT_STATUS_QUEUE_FULL_SEEN, Reg.XPT_STATUS_FALLBACK_ACTIVE, Reg.XPT_STATUS_LINE_MISS_SEEN, Reg.XPT_STATUS_CFG_REJECT, Reg.XPT_QUEUE_USED, Reg.XPT_QUEUE_PEAK, Reg.XPT_HELD_COUNT, Reg.XPT_SLOTS_USED, Reg.XPT_SLOTS_PEAK] ++
  [Reg.XPT_REFUSED_COUNT, Reg.XPT_APPLIED_COUNT, Reg.XPT_DST_SEL_DST, Reg.XPT_DST_ROUTE_V_SRC, Reg.XPT_DST_ROUTE_A_SRC, Reg.XPT_DST_ROUTE_F_SRC, Reg.XPT_DST_STATE_PATH, Reg.XPT_DST_STATE_FALLBACK, Reg.XPT_DST_STATE_STATE, Reg.XPT_DST_STATE_CAUSE, Reg.XPT_DST_STATE_TD, Reg.XPT_DST_STATE_HELD] ++
  [Reg.XPT_DST_STATE_PATH_A, Reg.XPT_DST_STATE_PENDING, Reg.XPT_DST_STATE_PATH_F, Reg.XPT_DST_ALT_SRC, Reg.XPT_LINE_MISS_COUNT, Reg.XPT_SRC_SEL_SRC, Reg.XPT_SRC_STATE_BOUND, Reg.XPT_SRC_STATE_LOST, Reg.XPT_SRC_STATE_IS_22, Reg.XPT_SRC_STATE_PILOT_CAP, Reg.XPT_SRC_STATE_READOUT, Reg.XPT_SRC_STATE_FANOUT] ++
  [Reg.XPT_SRC_CFG_MODE, Reg.XPT_SRC_CFG_LOSS_FRAMES, Reg.XPT_ANC_DROP_COUNT]

/-- Every field of the `FST` register table. -/
def Regs.FST : List Fld :=
  [Reg.FST_CTRL_CLR_CNT, Reg.FST_CTRL_SCRUB_EN, Reg.FST_STATUS_READY, Reg.FST_STATUS_TRAIN_FAIL, Reg.FST_STATUS_UE_SEEN, Reg.FST_STATUS_COLLIDE_SEEN, Reg.FST_STATUS_CFG_REJECT, Reg.FST_ECC_CE_COUNT, Reg.FST_ECC_UE_COUNT, Reg.FST_ECC_ADDR_LO_ADDR, Reg.FST_ECC_ADDR_HI_ADDR, Reg.FST_TRAIN_MAP_LO_FAIL] ++
  [Reg.FST_TRAIN_MAP_HI_FAIL, Reg.FST_GEN_FREE_GRANULES, Reg.FST_PYR_SETS_USED, Reg.FST_PYR_SETS_PEAK, Reg.FST_COMP_RATIO, Reg.FST_COMP_RAW_PM, Reg.FST_SCRUB_PERIOD_S, Reg.FST_SCRUB_PASSES, Reg.FST_SIDE_LATE_COUNT, Reg.FST_SRC_SEL_SRC, Reg.FST_WR_STATE_ACTIVE, Reg.FST_WR_STATE_PYRAMID] ++
  [Reg.FST_WR_STATE_NEWEST, Reg.FST_WR_STATE_WRITING, Reg.FST_WR_FRAMES_COUNT, Reg.FST_WR_INCOMPLETE_COUNT, Reg.FST_WR_SUBST_COUNT, Reg.FST_WR_COLLIDE_COUNT, Reg.FST_SRC_FLAGS_TILE_LOST, Reg.FST_SRC_FLAGS_FORMAT_CHANGED, Reg.FST_SRC_CFG_MISS_LINES, Reg.FST_ANC_DROP_COUNT, Reg.FST_SYNC_SEL_SRC, Reg.FST_SYNC_SEL_TD] ++
  [Reg.FST_SYNC_STATE_EXISTS, Reg.FST_SYNC_STATE_AWAIT, Reg.FST_SYNC_STATE_LATCHED, Reg.FST_SYNC_STATE_LAST_REPEAT, Reg.FST_SYNC_STATE_LAST_DROP, Reg.FST_SYNC_REPEAT_COUNT, Reg.FST_SYNC_DROP_COUNT, Reg.FST_SYNC_FRAME_FRAME, Reg.FST_SYNC_TILE_SUB_COUNT]

/-- Every field of the `ARB` register table. -/
def Regs.ARB : List Fld :=
  [Reg.ARB_CTRL_SWAP, Reg.ARB_CTRL_CLR_CNT, Reg.ARB_CTRL_HOST_TBL, Reg.ARB_STATUS_SWAP_PEND, Reg.ARB_STATUS_SWAP_REFUSED, Reg.ARB_STATUS_HOG_SEEN, Reg.ARB_STATUS_CFG_REJECT, Reg.ARB_STATUS_QUAR, Reg.ARB_RT_MASK_MASK, Reg.ARB_RT_MASK_ACTIVE, Reg.ARB_HOG_LIMIT_BEATS, Reg.ARB_QUAR_CLIENT] ++
  [Reg.ARB_SLOT_CNT_COUNT, Reg.ARB_OWNED_ACTIVE, Reg.ARB_OWNED_SHADOW, Reg.ARB_SWAPS_COUNT, Reg.ARB_TBL_SEL_CH, Reg.ARB_TBL_SEL_ROW, Reg.ARB_TBL_SEL_BANK, Reg.ARB_TBL_SEL_ALL, Reg.ARB_TBL_DATA_OWNERS] ++
  (List.range 4).map Reg.ARB_RT_ABANDON_COUNT ++
  (List.range 6).map Reg.ARB_BE_CFG_WEIGHT ++
  (List.range 6).map Reg.ARB_BE_BEATS_COUNT ++
  (List.range 6).map Reg.ARB_BE_WAIT_MAX_SLOTS ++
  (List.range 6).map Reg.ARB_BE_EVENTS_HOG_CUTS ++
  (List.range 6).map Reg.ARB_BE_EVENTS_LOCK_TRUNC

/-- Every field of the `CMP` register table. -/
def Regs.CMP : List Fld :=
  [Reg.CMP_CTRL_CLR_CNT, Reg.CMP_STATUS_CFG_REJECT, Reg.CMP_STATUS_DEMOTED_SEEN, Reg.CMP_STATUS_FILL_SEEN, Reg.CMP_STATUS_LATE_SEEN, Reg.CMP_ENABLED_MAP, Reg.CMP_RES_LUT_SETS, Reg.CMP_RES_SURFACES, Reg.CMP_SEL_CMP, Reg.CMP_C_STATE_TD, Reg.CMP_C_STATE_SPACE, Reg.CMP_C_STATE_PEND] ++
  [Reg.CMP_C_STATE_HELD, Reg.CMP_C_LAYOUT_ID_ID, Reg.CMP_C_BUDGET_BYTES, Reg.CMP_C_FETCHED_BYTES, Reg.CMP_C_SKIPPED_TILES, Reg.CMP_C_FRAMES_COUNT, Reg.CMP_C_LATE_TILES, Reg.CMP_LAYER_SEL_LAYER, Reg.CMP_L_STATE_KIND, Reg.CMP_L_STATE_LEVEL, Reg.CMP_L_STATE_PF_H, Reg.CMP_L_STATE_PF_V] ++
  [Reg.CMP_L_STATE_READY, Reg.CMP_L_STATE_DEMOTED, Reg.CMP_L_STATE_FILL, Reg.CMP_L_STATE_REPEATS, Reg.CMP_L_STATE_LIMIT, Reg.CMP_L_WIDTH_WIDTH, Reg.CMP_L_REPEATED_COUNT, Reg.CMP_L_FILLED_COUNT, Reg.CMP_L_DEMOTIONS_COUNT]

/-- Every field of the `AUD` register table. -/
def Regs.AUD : List Fld :=
  [Reg.AUD_CTRL_CLR_CNT, Reg.AUD_STATUS_CFG_REJECT, Reg.AUD_STATUS_FOLLOW_FULL, Reg.AUD_STATUS_CLIP_SEEN, Reg.AUD_STATUS_CLOCK_LOST_SEEN, Reg.AUD_STATUS_RATE_SEEN, Reg.AUD_USE_SRC, Reg.AUD_USE_FOLLOW, Reg.AUD_USE_DST_DST, Reg.AUD_DST_SEL_CH, Reg.AUD_DST_ROUTE_SRC, Reg.AUD_DST_ROUTE_FOLLOW] ++
  [Reg.AUD_DST_ROUTE_KIND, Reg.AUD_DST_ROUTE_RATE96, Reg.AUD_DST_ROUTE_PAIR, Reg.AUD_DST_ROUTE_XFADE, Reg.AUD_DST_LEVEL_GAIN, Reg.AUD_DST_LEVEL_MUTE, Reg.AUD_DST_LEVEL_INVERT, Reg.AUD_DST_CLIP_COUNT, Reg.AUD_DST_MISMATCH_COUNT, Reg.AUD_SRC_SEL_CH, Reg.AUD_SRC_STATE_BOUND, Reg.AUD_SRC_STATE_RATE96] ++
  [Reg.AUD_SRC_STATE_PAIR, Reg.AUD_SRC_STATE_ASYNC, Reg.AUD_SRC_STATE_KIND, Reg.AUD_SRC_STATE_FANOUT, Reg.AUD_SRC_MISSING_COUNT, Reg.AUD_SRC_LATE_COUNT, Reg.AUD_SRC_EARLY_COUNT, Reg.AUD_SRC_SLIP_COUNT, Reg.AUD_PORT_SEL_PORT, Reg.AUD_PORT_STATE_CLOCK, Reg.AUD_PORT_STATE_CLASS, Reg.AUD_PORT_STATE_MUTED] ++
  [Reg.AUD_PORT_STATE_ENABLED, Reg.AUD_PORT_STATE_FILL, Reg.AUD_PORT_RATE_RATE, Reg.AUD_PORT_SLIP_PORT_REPEATS, Reg.AUD_PORT_SLIP_PORT_DROPS, Reg.AUD_PORT_EVENTS_CLOCK_LOSSES, Reg.AUD_PORT_EVENTS_RATE_CHANGES, Reg.AUD_PORT_ERRORS_COUNT]

/-- Every field of the `PMI` register table. -/
def Regs.PMI : List Fld :=
  [Reg.PMI_CTRL_CLR_CNT, Reg.PMI_STATUS_CFG_REJECT, Reg.PMI_STATUS_PATH_DOWN_SEEN, Reg.PMI_STATUS_SKEW_SEEN, Reg.PMI_STATUS_UNMATCHED_SEEN, Reg.PMI_FLOWS_ENABLED, Reg.PMI_FLOWS_DUAL, Reg.PMI_RX_UNMATCHED_COUNT, Reg.PMI_IGMP_QUERIES, Reg.PMI_IGMP_OLD_QUERIES, Reg.PMI_FLOW_SEL_FLOW, Reg.PMI_F_STATE_ENABLE] ++
  [Reg.PMI_F_STATE_KIND, Reg.PMI_F_STATE_DUAL, Reg.PMI_F_STATE_A_UP, Reg.PMI_F_STATE_B_UP, Reg.PMI_F_STATE_JOINED, Reg.PMI_F_STATE_SSRC_SET, Reg.PMI_F_STATE_BIND, Reg.PMI_F_SSRC_SSRC, Reg.PMI_F_PKTS_A_COUNT, Reg.PMI_F_PKTS_B_COUNT, Reg.PMI_F_DUP_COUNT, Reg.PMI_F_TOO_OLD_COUNT] ++
  [Reg.PMI_F_LOST_COUNT, Reg.PMI_F_SKEW_SKEW_NS, Reg.PMI_F_ERRORS_HDR_ERR, Reg.PMI_F_ERRORS_SSRC_CHANGES, Reg.PMI_F_ERRORS_SEQ_JUMPS, Reg.PMI_F_LAST_TS_TS]

/-- Every field of the `PMO` register table. -/
def Regs.PMO : List Fld :=
  [Reg.PMO_CTRL_CLR_CNT, Reg.PMO_STATUS_CFG_REJECT, Reg.PMO_STATUS_LATE_SEEN, Reg.PMO_STATUS_MISMATCH_SEEN, Reg.PMO_FLOWS_ENABLED, Reg.PMO_RINGS_RX22, Reg.PMO_INJ_BUSY, Reg.PMO_INJ_SENT, Reg.PMO_FLOW_SEL_FLOW, Reg.PMO_F_STATE_ENABLE, Reg.PMO_F_STATE_KIND, Reg.PMO_F_STATE_DUAL] ++
  [Reg.PMO_F_STATE_SENDER, Reg.PMO_F_STATE_SENDING, Reg.PMO_F_STATE_MISMATCH, Reg.PMO_F_STATE_BIND, Reg.PMO_F_SEQ_SEQ, Reg.PMO_F_TS_TS, Reg.PMO_F_PKTS_COUNT, Reg.PMO_F_FRAMES_COUNT, Reg.PMO_F_LATE_COUNT, Reg.PMO_F_MISMATCH_COUNT]

/-- Every field of the `MAC` register table. -/
def Regs.MAC : List Fld :=
  [Reg.MAC_CTRL_CLR_CNT, Reg.MAC_CTRL_GCL_SWAP, Reg.MAC_STATUS_CFG_REJECT, Reg.MAC_STATUS_UNDERRUN_SEEN, Reg.MAC_STATUS_WD_SEEN, Reg.MAC_STATUS_GCL_REFUSED, Reg.MAC_BASE_MAC_LO_ADDR, Reg.MAC_BASE_MAC_HI_ADDR, Reg.MAC_LINKS_UP, Reg.MAC_PORT_SEL_PORT, Reg.MAC_PORT_SEL_BREAKOUT, Reg.MAC_P_STATE_LINK_UP] ++
  [Reg.MAC_P_STATE_MODE, Reg.MAC_P_STATE_SPEED, Reg.MAC_P_STATE_PAUSED, Reg.MAC_P_STATE_WD_IGNORE, Reg.MAC_P_STATE_MAC_DEFAULT, Reg.MAC_P_STATE_PFC_PAUSED, Reg.MAC_P_CFG_MAX_FRAME, Reg.MAC_P_CFG_START_THRESH, Reg.MAC_P_PAUSE_RX_PAUSE, Reg.MAC_P_PAUSE_TX_PAUSE, Reg.MAC_P_PAUSE_PFC_MODE, Reg.MAC_P_PAUSE_PFC_MASK] ++
  [Reg.MAC_P_PAUSE_WD_MS, Reg.MAC_P_GCL_SEL_ENTRY, Reg.MAC_P_GCL_SEL_BANK, Reg.MAC_P_GCL_DATA_DURATION_NS, Reg.MAC_P_GCL_DATA_OPEN, Reg.MAC_P_GCL_STATE_ENTRIES, Reg.MAC_P_GCL_STATE_SWAP_PEND, Reg.MAC_RX_FRAMES_COUNT, Reg.MAC_RX_BYTES_LO_COUNT, Reg.MAC_RX_BYTES_HI_COUNT, Reg.MAC_RX_FCS_ERR_COUNT, Reg.MAC_RX_RUNT_COUNT] ++
  [Reg.MAC_RX_OVERSIZE_COUNT, Reg.MAC_RX_FILTERED_COUNT, Reg.MAC_RX_DROP_COUNT, Reg.MAC_RX_PAUSE_COUNT, Reg.MAC_RX_MAC_CTRL_COUNT, Reg.MAC_TX_FRAMES_COUNT, Reg.MAC_TX_BYTES_LO_COUNT, Reg.MAC_TX_BYTES_HI_COUNT, Reg.MAC_TX_PAD_COUNT, Reg.MAC_TX_REFUSED_COUNT, Reg.MAC_TX_UNDERRUN_COUNT, Reg.MAC_TX_LINK_DISCARD_COUNT] ++
  [Reg.MAC_PAUSE_EVENTS_PAUSE_WD, Reg.MAC_PAUSE_EVENTS_TX_PAUSE_SENT, Reg.MAC_TS_RX_LAT_NS, Reg.MAC_TS_TX_LAT_NS, Reg.MAC_TS_CAP_NS_NS, Reg.MAC_TS_CAP_SEC_SEC, Reg.MAC_TS_CAP_TAG_TAG, Reg.MAC_TS_CAP_TAG_VALID, Reg.MAC_TS_CAP_TAG_TS_LOST]

/-- Every field of the `LNE` register table. -/
def Regs.LNE : List Fld :=
  [Reg.LNE_CTRL_CLR_CNT, Reg.LNE_STATUS_CFG_REJECT, Reg.LNE_STATUS_LOST_SEEN, Reg.LNE_STATUS_SKEW_SEEN, Reg.LNE_STATUS_ALIGN_SEEN, Reg.LNE_STATUS_STEP_FAIL_SEEN, Reg.LNE_LANE_SEL_LANE, Reg.LNE_L_STATE_PSTATE, Reg.LNE_L_STATE_SIGNAL, Reg.LNE_L_STATE_CDR_LOCK, Reg.LNE_L_STATE_ALIGNED, Reg.LNE_L_STATE_STEP] ++
  [Reg.LNE_L_STATE_TX_IDLE, Reg.LNE_L_STATE_TRAIN, Reg.LNE_L_CTRL_PSTATE, Reg.LNE_L_CTRL_DIAG, Reg.LNE_L_CTRL_SLIP, Reg.LNE_L_CTRL_RAW_CAP, Reg.LNE_L_CTRL_RETRAIN, Reg.LNE_L_CTRL_PRBS_POLY, Reg.LNE_L_CTRL_ERR_INJ, Reg.LNE_L_CTRL_RAW_DONE, Reg.LNE_L_SDI_RX_RATE, Reg.LNE_L_SDI_RX_LOCK] ++
  [Reg.LNE_L_SDI_RX_FRACT, Reg.LNE_L_SDI_TX_RATE, Reg.LNE_L_SDI_TX_FRACT, Reg.LNE_L_SDI_GROUP, Reg.LNE_L_SDI_LINK, Reg.LNE_L_SDI_SKEW_NS, Reg.LNE_L_OFFSET_PPM, Reg.LNE_L_LOCK_LOST_COUNT, Reg.LNE_L_SEARCHES_COUNT, Reg.LNE_L_PRBS_BITS_LO_COUNT, Reg.LNE_L_PRBS_BITS_HI_COUNT, Reg.LNE_L_PRBS_ERR_LO_COUNT] ++
  [Reg.LNE_L_PRBS_ERR_HI_COUNT, Reg.LNE_L_PRBS_ERR_HI_RESYNC, Reg.LNE_L_EYE_CTRL_X, Reg.LNE_L_EYE_CTRL_Y, Reg.LNE_L_EYE_CTRL_EYE, Reg.LNE_L_EYE_CTRL_DWELL, Reg.LNE_L_EYE_CTRL_START, Reg.LNE_L_EYE_CTRL_EYE_DONE, Reg.LNE_L_EYE_ERR_COUNT, Reg.LNE_L_RAW_ADDR_WORD, Reg.LNE_L_RAW_DATA_DATA]

/-- Every field of the `REFS` register table. -/
def Regs.REFS : List Fld :=
  [Reg.REFS_CTRL_CLR_CNT, Reg.REFS_CTRL_FORCE_EN, Reg.REFS_CTRL_FORCE_ENTRY, Reg.REFS_CTRL_FORCE_HOLD, Reg.REFS_STATUS_CFG_REJECT, Reg.REFS_STATUS_CONFLICT, Reg.REFS_STATUS_CONFLICT_SEEN, Reg.REFS_STATUS_SWITCH_SEEN, Reg.REFS_STATUS_HOLDOVER_SEEN, Reg.REFS_STATUS_LO_OK, Reg.REFS_DPLL_STATE, Reg.REFS_DPLL_SELECTED] ++
  [Reg.REFS_DPLL_BW, Reg.REFS_DPLL_HIST_VALID, Reg.REFS_DPLL_HIST_S, Reg.REFS_DPLL_FREQ_FREQ, Reg.REFS_DPLL_PHASE_NS, Reg.REFS_HOLD_FREQ_FREQ, Reg.REFS_STEP_NS, Reg.REFS_SWITCHES_COUNT, Reg.REFS_CONFLICT_PAIR_A, Reg.REFS_CONFLICT_PAIR_B, Reg.REFS_CONFLICT_PAIR_VALID, Reg.REFS_OUT_STATE_ENABLED] ++
  [Reg.REFS_OUT_STATE_PEND, Reg.REFS_E_SEL_ENTRY, Reg.REFS_E_STATE_STATE, Reg.REFS_E_STATE_CAUSE, Reg.REFS_E_STATE_TYPE, Reg.REFS_E_STATE_RANK, Reg.REFS_E_STATE_SIGNAL, Reg.REFS_E_STATE_SELECTED, Reg.REFS_E_STATE_TIMER_S, Reg.REFS_E_OFF_LO_FREQ, Reg.REFS_E_OFF_MED_FREQ, Reg.REFS_E_EVENTS_LOSSES] ++
  [Reg.REFS_E_EVENTS_DISQ, Reg.REFS_E_GLITCH_COUNT]

/-- Every field of the `PTP` register table. -/
def Regs.PTP : List Fld :=
  [Reg.PTP_CTRL_CLR_CNT, Reg.PTP_CTRL_STEP_AUTH, Reg.PTP_CTRL_SET_TIME, Reg.PTP_CTRL_AT_PPS, Reg.PTP_STATUS_CFG_REJECT, Reg.PTP_STATUS_TIME_VALID, Reg.PTP_STATUS_JUMP_PEND, Reg.PTP_STATUS_JUMP_SEEN, Reg.PTP_STATUS_STEP_SEEN, Reg.PTP_STATUS_STATE, Reg.PTP_STATUS_SOURCE, Reg.PTP_STATUS_ACTIVE_B] ++
  [Reg.PTP_TIME_NS_NS, Reg.PTP_TIME_FRAC_FRAC, Reg.PTP_TIME_SEC_LO_SEC, Reg.PTP_TIME_SEC_HI_SEC, Reg.PTP_UPTIME_LO_NS, Reg.PTP_UPTIME_HI_NS, Reg.PTP_OFFSET_NS, Reg.PTP_PATH_DELAY_NS, Reg.PTP_RATE_FREQ, Reg.PTP_GM_ID_LO_ID, Reg.PTP_GM_ID_HI_ID, Reg.PTP_GM_INFO_CLOCK_CLASS] ++
  [Reg.PTP_GM_INFO_STEPS_REMOVED, Reg.PTP_GM_INFO_UTC_OFFSET, Reg.PTP_SET_SEC_LO_SEC, Reg.PTP_SET_SEC_HI_SEC, Reg.PTP_SET_NS_NS, Reg.PTP_JUMP_OFFSET_LO_NS, Reg.PTP_JUMP_OFFSET_HI_NS, Reg.PTP_CNT_SYNC_COUNT, Reg.PTP_CNT_DELAY_COUNT, Reg.PTP_CNT_ERR_OUTLIERS, Reg.PTP_CNT_ERR_IGNORED, Reg.PTP_STEPS_STEPS] ++
  [Reg.PTP_STEPS_JUMPS_REFUSED, Reg.PTP_TC_FWD_COUNT, Reg.PTP_TC_MAX_RES_NS]

/-- Every field of the `SPL` register table. -/
def Regs.SPL : List Fld :=
  [Reg.SPL_CTRL_CLR_CNT, Reg.SPL_CTRL_REJOIN, Reg.SPL_CTRL_HANDOVER, Reg.SPL_STATUS_CFG_REJECT, Reg.SPL_STATUS_MASTER, Reg.SPL_STATUS_UNALIGNED, Reg.SPL_STATUS_ID_CONFLICT, Reg.SPL_STATUS_SPLIT_SEEN, Reg.SPL_STATUS_PROTO, Reg.SPL_PART_DEVICES, Reg.SPL_PART_MASTER_ID, Reg.SPL_EPOCH_EPOCH] ++
  [Reg.SPL_ROUTES_EXPORTS, Reg.SPL_ROUTES_IMPORTS, Reg.SPL_ROUTES_SEVERED] ++
  (List.range 4).map Reg.SPL_TD_TICK_ERR_NS ++
  [Reg.SPL_PORT_SEL_PORT, Reg.SPL_P_STATE_IN_SERVICE, Reg.SPL_P_STATE_STEP, Reg.SPL_P_STATE_TARGET, Reg.SPL_P_STATE_UPSTREAM, Reg.SPL_P_STATE_NEIGHBOUR, Reg.SPL_P_RESV_TX, Reg.SPL_P_RESV_RX, Reg.SPL_P_DELAY_NS, Reg.SPL_P_CELLS_COUNT, Reg.SPL_P_CELL_ERR_COUNT, Reg.SPL_DST_SEL_DST] ++
  [Reg.SPL_DST_REMOTE_DEV, Reg.SPL_DST_REMOTE_REMOTE, Reg.SPL_DST_REMOTE_SRC, Reg.SPL_DST_LAT_NS, Reg.SPL_TWIN_ROLE, Reg.SPL_TWIN_SYNCED, Reg.SPL_TWIN_ACT_IN, Reg.SPL_TWIN_STBY_IN, Reg.SPL_TWIN_HANDOVERS]

/-- Every field of the `GEN` register table. -/
def Regs.GEN : List Fld :=
  [Reg.GEN_CTRL_CLR_CNT, Reg.GEN_STATUS_CFG_REJECT, Reg.GEN_ENABLED_MAP, Reg.GEN_SEL_GEN, Reg.GEN_G_STATE_TD, Reg.GEN_G_STATE_PATTERN, Reg.GEN_G_STATE_STAMP, Reg.GEN_G_STATE_PEND, Reg.GEN_G_STATE_RUNNING, Reg.GEN_G_FRAME_LO_COUNT, Reg.GEN_G_FRAME_HI_COUNT, Reg.GEN_G_CRC_SEL_ENTRY] ++
  [Reg.GEN_G_CRC_CRC, Reg.GEN_G_CRC_FRAME_FRAME]

/-- Every field of the `FWA` register table. -/
def Regs.FWA : List Fld :=
  [Reg.FWA_CTRL_CLR_CNT, Reg.FWA_STATUS_CFG_REJECT, Reg.FWA_STATUS_ALARM_SEEN, Reg.FWA_INTERVALS_COUNT, Reg.FWA_SRC_SEL_SRC, Reg.FWA_S_STATE_VALID, Reg.FWA_S_STATE_PACKET, Reg.FWA_S_STATE_ALARMS, Reg.FWA_S_STATE_LEN, Reg.FWA_S_GAPS_A_COUNT, Reg.FWA_S_GAPS_B_COUNT, Reg.FWA_S_SKEW_MIN_NS] ++
  [Reg.FWA_S_SKEW_MAX_NS, Reg.FWA_S_LAT_MIN_NS, Reg.FWA_S_LAT_MAX_NS, Reg.FWA_S_LAT_MEAN_NS, Reg.FWA_S_21_VERDICT, Reg.FWA_S_21_CINST, Reg.FWA_S_21_VRX, Reg.FWA_S_SDI_ERR_LINE_CRC, Reg.FWA_S_SDI_ERR_TRS, Reg.FWA_S_SDI_ERR2_EDH, Reg.FWA_S_SDI_ERR2_ST352, Reg.FWA_S_ANC_ERR_COUNT] ++
  [Reg.FWA_S_CRC_SEL_ENTRY, Reg.FWA_S_CRC_CRC, Reg.FWA_S_CRC_ID_FRAME, Reg.FWA_S_CRC_FRAME_FRAME, Reg.FWA_S_CRC_FRAME_DAMAGED, Reg.FWA_S_CRC_FRAME_FIELD, Reg.FWA_S_HIST_SEL_BIN, Reg.FWA_S_HIST_SEL_PATH, Reg.FWA_S_HIST_COUNT, Reg.FWA_CH_SEL_CH, Reg.FWA_CH_STATE_SILENT, Reg.FWA_CH_STATE_OVER] ++
  [Reg.FWA_CH_STATE_PEAK, Reg.FWA_CH_CS_CRC_COUNT, Reg.FWA_D_SEL_ANA, Reg.FWA_D_CFG_SRC, Reg.FWA_D_CFG_WRAP, Reg.FWA_D_CFG_START, Reg.FWA_D_CFG_STOP, Reg.FWA_D_STATE_RUNNING, Reg.FWA_D_STATE_FULL, Reg.FWA_D_BASE_LO_ADDR, Reg.FWA_D_BASE_HI_ADDR, Reg.FWA_D_NEXT_RECORD] ++
  [Reg.FWA_D_LOST_COUNT]

/-- Every field of the `CAP` register table. -/
def Regs.CAP : List Fld :=
  [Reg.CAP_CTRL_CLR_CNT, Reg.CAP_STATUS_CFG_REJECT, Reg.CAP_STATUS_STORE_READY, Reg.CAP_STATUS_GAP_SEEN, Reg.CAP_STATUS_DRIVE_FAIL_SEEN, Reg.CAP_STATUS_MISMATCH_SEEN, Reg.CAP_STORE_TOTAL, Reg.CAP_STORE_FREE, Reg.CAP_RATE_LIMIT, Reg.CAP_RATE_USED, Reg.CAP_STAGE_USED, Reg.CAP_DRV_SEL_LINK] ++
  [Reg.CAP_DRV_STATE_PRESENT, Reg.CAP_DRV_STATE_READY, Reg.CAP_DRV_STATE_FAILED, Reg.CAP_DRV_STATE_WIDTH, Reg.CAP_DRV_STATE_GEN, Reg.CAP_DRV_EXTENTS_COUNT, Reg.CAP_DRV_ERRORS_COUNT, Reg.CAP_SET_SEL_SET, Reg.CAP_SET_STATE_STATE, Reg.CAP_SET_STATE_CAUSE, Reg.CAP_SET_STATE_TD, Reg.CAP_SET_STATE_TRIG_IGNORED] ++
  [Reg.CAP_SET_CHANNELS_MAP, Reg.CAP_SET_EXTENTS_USED, Reg.CAP_SET_EXTENTS_RESERVED, Reg.CAP_K_SEL_CH, Reg.CAP_K_STATE_ENABLED, Reg.CAP_K_STATE_LEVEL, Reg.CAP_K_STATE_TD, Reg.CAP_K_STATE_IN_SET, Reg.CAP_K_STATE_SET, Reg.CAP_K_RECORDS_COUNT, Reg.CAP_K_GAPS_COUNT, Reg.CAP_K_STAGE_FILL_FILL] ++
  [Reg.CAP_K_STAGE_FILL_PEAK, Reg.CAP_P_SEL_PLAYER, Reg.CAP_P_STATE_STATE, Reg.CAP_P_STATE_TD, Reg.CAP_P_STATE_SET, Reg.CAP_P_STATE_CH, Reg.CAP_P_FRAME_INDEX, Reg.CAP_P_REPEATS_COUNT, Reg.CAP_RP_STATE_STATE, Reg.CAP_RP_STATE_APPROX_CAUSE, Reg.CAP_RP_STATE_SET, Reg.CAP_RP_FRAMES_COUNT] ++
  [Reg.CAP_RP_MISMATCH_COUNT, Reg.CAP_RP_FIRST_INDEX, Reg.CAP_RP_UNCOMPARED_COUNT]

/-- Every field of the `BOOT` register table. -/
def Regs.BOOT : List Fld :=
  [Reg.BOOT_CTRL_COLD_RESET, Reg.BOOT_CTRL_KEY, Reg.BOOT_STATUS_PHASE, Reg.BOOT_STATUS_SET_BANK, Reg.BOOT_STATUS_FW_BANK, Reg.BOOT_STATUS_SET_FALLBACK, Reg.BOOT_STATUS_FW_FALLBACK, Reg.BOOT_STATUS_LO_WAIT, Reg.BOOT_STATUS_LATE, Reg.BOOT_STATUS_JOURNAL_LOST, Reg.BOOT_STATUS_SECTIONS_FAILED, Reg.BOOT_DEV_ID_ID] ++
  [Reg.BOOT_REV_ID_REV, Reg.BOOT_RESET_CAUSE_POWER_ON, Reg.BOOT_RESET_CAUSE_PIN, Reg.BOOT_RESET_CAUSE_COMMAND, Reg.BOOT_RESET_CAUSE_RECOVER, Reg.BOOT_T_PILOT_US, Reg.BOOT_T_FULL_US, Reg.BOOT_FAIL_SET_A, Reg.BOOT_FAIL_SET_B, Reg.BOOT_FAIL_FW_A, Reg.BOOT_FAIL_FW_B, Reg.BOOT_SET_GEN_GEN] ++
  [Reg.BOOT_FW_GEN_GEN]

/-- Every field of the `LAN` register table. -/
def Regs.LAN : List Fld :=
  [Reg.LAN_CTRL_CLR_CNT, Reg.LAN_CTRL_CLOSE_ALL, Reg.LAN_STATUS_CFG_REJECT, Reg.LAN_STATUS_AUTH_FAIL_SEEN, Reg.LAN_STATUS_OVERFLOW_SEEN, Reg.LAN_SESSIONS_OPEN, Reg.LAN_SESSIONS_HALF_OPEN, Reg.LAN_RX_SEALED_COUNT, Reg.LAN_AUTH_FAIL_COUNT, Reg.LAN_REPLAY_COUNT, Reg.LAN_RX_BAD_COUNT, Reg.LAN_DUP_REQ_COUNT] ++
  [Reg.LAN_WINDOW_DROP_COUNT, Reg.LAN_REASM_DROP_COUNT, Reg.LAN_S_SEL_SLOT, Reg.LAN_S_STATE_STATE, Reg.LAN_S_STATE_PRIV, Reg.LAN_S_STATE_KEY_ID, Reg.LAN_S_STATE_PORT, Reg.LAN_S_STATE_IPV6, Reg.LAN_S_STATE_OUTSTANDING, Reg.LAN_S_ID_SESSION, Reg.LAN_S_REQ_LO_SEQ, Reg.LAN_S_REQ_HI_SEQ] ++
  [Reg.LAN_S_NOTICE_LO_SEQ, Reg.LAN_S_NOTICE_HI_SEQ, Reg.LAN_S_UNACKED_NOTICES, Reg.LAN_S_UNACKED_LOST, Reg.LAN_S_IDLE_MS_MS]

/-- Every field of the `FLT` register table. -/
def Regs.FLT : List Fld :=
  [Reg.FLT_CTRL_CLR_CNT, Reg.FLT_CTRL_FORCE_RESTART, Reg.FLT_CTRL_KEY, Reg.FLT_STATUS_CFG_REJECT, Reg.FLT_STATUS_RESTART, Reg.FLT_STATUS_RESTART_SEEN, Reg.FLT_STATUS_UE_SEEN, Reg.FLT_STATUS_ROUTE_LOST_SEEN, Reg.FLT_STATUS_HALTED, Reg.FLT_RESTARTS_TOTAL, Reg.FLT_RESTARTS_RECENT, Reg.FLT_LAST_CAUSE_CODE] ++
  [Reg.FLT_LAST_CAUSE_BLOCK, Reg.FLT_LAST_CAUSE_CLASS, Reg.FLT_T_RESTART_US, Reg.FLT_RT_REPAIR_COUNT, Reg.FLT_RT_LOST_COUNT, Reg.FLT_FAB_RESETS_COUNT, Reg.FLT_SRAM_SEL_PART, Reg.FLT_SRAM_CE_COUNT, Reg.FLT_SRAM_UE_COUNT, Reg.FLT_SRAM_ADDR_OFFSET, Reg.FLT_WD_M1, Reg.FLT_WD_M2] ++
  [Reg.FLT_WD_M3, Reg.FLT_WD_M4]

/-- Every field of the `LOG` register table. -/
def Regs.LOG : List Fld :=
  [Reg.LOG_CTRL_CLR_CNT, Reg.LOG_CTRL_FREEZE, Reg.LOG_CTRL_THAW, Reg.LOG_CTRL_WIN_LOAD, Reg.LOG_CTRL_CLEAR, Reg.LOG_STATUS_CFG_REJECT, Reg.LOG_STATUS_FROZEN, Reg.LOG_STATUS_DISCARD_SEEN, Reg.LOG_STATUS_SIDE_LOST_SEEN, Reg.LOG_STATUS_ARCH_ERR_SEEN, Reg.LOG_STATUS_ARCH_HELD, Reg.LOG_SEQ_NEXT_SEQ] ++
  [Reg.LOG_RING_RECORDS, Reg.LOG_RING_FREE, Reg.LOG_OLDEST_SEQ_SEQ, Reg.LOG_SIDE_RECORDS, Reg.LOG_SIDE_SIDE_LOST, Reg.LOG_COMMIT_PENDING, Reg.LOG_COMMIT_SKIPPED, Reg.LOG_ARCH_HEAD_SECTOR, Reg.LOG_ARCH_HEAD_ERRORS, Reg.LOG_ARCH_SEQ_SEQ, Reg.LOG_ARCH_ERASED_COUNT] ++
  (List.range 6).map Reg.LOG_DISCARD_COUNT ++
  [Reg.LOG_BELOW_COUNT, Reg.LOG_FOLDED_COUNT, Reg.LOG_WIN_CURSOR_SEQ, Reg.LOG_WIN_NEXT_SEQ] ++
  (List.range 64).map Reg.LOG_WIN_DATA_WORD

/-- Every field of the `UPD` register table. -/
def Regs.UPD : List Fld :=
  [Reg.UPD_CTRL_CLR_CNT, Reg.UPD_STATUS_CFG_REJECT, Reg.UPD_STATUS_REVERT_SEEN, Reg.UPD_STATUS_COMMIT_SEEN, Reg.UPD_STATUS_FW_STATE, Reg.UPD_STATUS_SET_STATE, Reg.UPD_STATUS_ACT_STATE, Reg.UPD_FW_BLOCKS_EXPECTED, Reg.UPD_FW_BLOCKS_WRITTEN, Reg.UPD_SET_BLOCKS_EXPECTED, Reg.UPD_SET_BLOCKS_WRITTEN, Reg.UPD_CRC_FAIL_COUNT] ++
  [Reg.UPD_ACT_SEC_LO_SEC, Reg.UPD_ACT_SEC_HI_SEC, Reg.UPD_ACT_NS_NS, Reg.UPD_JOURNAL_FW_BANK, Reg.UPD_JOURNAL_SET_BANK, Reg.UPD_JOURNAL_COPY1_VALID, Reg.UPD_JOURNAL_COPY2_VALID, Reg.UPD_JOURNAL_CTR_COUNTER, Reg.UPD_LAST_RESULT_CODE, Reg.UPD_LAST_RESULT_CAUSE, Reg.UPD_T_ACTIVATE_US, Reg.UPD_COUNTS_COMMITS] ++
  [Reg.UPD_COUNTS_REVERTS, Reg.UPD_KEYS_SESSION, Reg.UPD_KEYS_SETTINGS]

/-- Every field of the `FAB` register table. -/
def Regs.FAB : List Fld :=
  [Reg.FAB_CTRL_CLR_CNT, Reg.FAB_CTRL_REMAP, Reg.FAB_STATUS_CFG_REJECT, Reg.FAB_STATUS_ERR_SEEN, Reg.FAB_STATUS_TIMEOUT_SEEN, Reg.FAB_STATUS_HOG_SEEN, Reg.FAB_STATUS_REMAP_ACTIVE, Reg.FAB_FSWIN_BASE_PAGE, Reg.FAB_HOG_LIMIT_BEATS, Reg.FAB_QUAR_MASTER, Reg.FAB_CYC_CNT_COUNT, Reg.FAB_ERR_ADDR_ADDR] ++
  [Reg.FAB_ERR_INFO_MASTER, Reg.FAB_ERR_INFO_TARGET, Reg.FAB_ERR_INFO_KIND, Reg.FAB_ERR_INFO_WRITE, Reg.FAB_ERR_INFO_COUNT, Reg.FAB_TIMEOUT_REG_US, Reg.FAB_TIMEOUT_MEM_MS, Reg.FAB_M_SEL_MASTER, Reg.FAB_M_CFG_WEIGHT, Reg.FAB_M_BEATS_COUNT, Reg.FAB_M_WAIT_MAX_CYCLES, Reg.FAB_M_EVENTS_HOG_CUTS] ++
  [Reg.FAB_M_EVENTS_LOCK_TRUNC, Reg.FAB_M_EVENTS_ERRORS, Reg.FAB_M_STATE_OUTSTANDING, Reg.FAB_M_STATE_LOCKED, Reg.FAB_M_STATE_QUARANTINED, Reg.FAB_M_STATE_IN_RESET, Reg.FAB_M_STATE_PARKED_ON]

/-- Every field of the `PWR` register table. -/
def Regs.PWR : List Fld :=
  [Reg.PWR_CTRL_CLR_CNT, Reg.PWR_STATUS_CFG_REJECT, Reg.PWR_STATUS_HOLD, Reg.PWR_STATUS_HOLD_SEEN, Reg.PWR_STATUS_WARN_IN, Reg.PWR_STATUS_ALERT, Reg.PWR_STATUS_LIMIT_SEEN, Reg.PWR_STATUS_TRIP_SEEN, Reg.PWR_HOLDS_COUNT, Reg.PWR_HOLD_MAX_US, Reg.PWR_CFG_HOLDUP_US, Reg.PWR_CFG_WARN_C] ++
  [Reg.PWR_CFG_ALERT_C, Reg.PWR_RAIL_SEL_RAIL, Reg.PWR_RAIL_V_MV, Reg.PWR_RAIL_V_MIN_MV, Reg.PWR_RAIL_STATE_IN_LIMITS, Reg.PWR_RAIL_STATE_SAG, Reg.PWR_RAIL_STATE_EXCURSIONS, Reg.PWR_TEMP_SEL_SENSOR, Reg.PWR_TEMP_NOW, Reg.PWR_TEMP_MAX, Reg.PWR_TEMP_HOT_NOW, Reg.PWR_TEMP_HOT_SENSOR]

/-- The fields of the register block whose base is `blockBase` (R636), empty where no block lies. -/
def Regs.ofBase (blockBase : Nat) : List Fld :=
  match blockBase with
  | 0x40010000 => Regs.TICK
  | 0x40000000 => Regs.XPT
  | 0x40020000 => Regs.FST
  | 0x40030000 => Regs.ARB
  | 0x40040000 => Regs.CMP
  | 0x40050000 => Regs.AUD
  | 0x40060000 => Regs.PMI
  | 0x40070000 => Regs.PMO
  | 0x40080000 => Regs.MAC
  | 0x40090000 => Regs.LNE
  | 0x60000000 => Regs.REFS
  | 0x60010000 => Regs.PTP
  | 0x60020000 => Regs.SPL
  | 0x400b0000 => Regs.GEN
  | 0x400a0000 => Regs.FWA
  | 0x400c0000 => Regs.CAP
  | 0x60030000 => Regs.BOOT
  | 0x60040000 => Regs.LAN
  | 0x60050000 => Regs.FLT
  | 0x60060000 => Regs.LOG
  | 0x60070000 => Regs.UPD
  | 0x400d0000 => Regs.FAB
  | 0x60080000 => Regs.PWR
  | _ => []

/-- The fields of the register at a fabric address; none at a reserved offset (R637). -/
def Regs.atAddr (a : Nat) : List Fld :=
  (Regs.ofBase (a / 65536 * 65536)).filter (fun f => f.addr == a)

end Sys2Proof.Machine
end

