-- ==== Sys2Proof/Machine/Tbl.lean ====
section
/-! DEFINITION. Reading and writing sparse tables in their one canonical form. -/

namespace Sys2Proof.Machine

/-- The value of key `k`: the listed one, else the unlisted value `d`. -/
def Tbl.get {α : Type} (d : α) (t : Tbl α) (k : Nat) : α :=
  match t with
  | [] => d
  | (k', v) :: r => if k = k' then v else if k < k' then d else Tbl.get d r k

/-- Whether key `k` is listed. -/
def Tbl.has {α : Type} (t : Tbl α) (k : Nat) : Bool :=
  match t with
  | [] => false
  | (k', _) :: r => if k = k' then true else if k < k' then false else Tbl.has r k

/-- The entries of a table above key `k`. -/
def Tbl.above {α : Type} (t : Tbl α) (k : Nat) : Tbl α :=
  match t with
  | [] => []
  | (k', v) :: r => if k < k' then (k', v) :: r else Tbl.above r k

/-- Writes `v` at key `k`: an entry equal to the unlisted value `d` is not listed. -/
def Tbl.put {α : Type} [DecidableEq α] (d : α) (t : Tbl α) (k : Nat) (v : α) : Tbl α :=
  match t with
  | [] => if v = d then [] else [(k, v)]
  | (k', v') :: r =>
    if k < k' then (if v = d then (k', v') :: r else (k, v) :: (k', v') :: r)
    else if k = k' then (if v = d then Tbl.above r k else (k, v) :: r)
    else (k', v') :: Tbl.put d r k v

/-- Changes the value at key `k` by `f`. -/
def Tbl.upd {α : Type} [DecidableEq α] (d : α) (t : Tbl α) (k : Nat) (f : α → α) : Tbl α :=
  Tbl.put d t k (f (Tbl.get d t k))

/-- The listed value of key `k`, if it is listed. -/
def Tbl.find {α : Type} (t : Tbl α) (k : Nat) : Option α :=
  match t with
  | [] => none
  | (k', v) :: r => if k = k' then some v else if k < k' then none else Tbl.find r k

/-- Lists `v` at key `k`, in a table without an unlisted value. -/
def Tbl.ins {α : Type} (t : Tbl α) (k : Nat) (v : α) : Tbl α :=
  match t with
  | [] => [(k, v)]
  | (k', v') :: r =>
    if k < k' then (k, v) :: (k', v') :: r
    else if k = k' then (k, v) :: r
    else (k', v') :: Tbl.ins r k v

/-- Removes key `k`. -/
def Tbl.del {α : Type} (t : Tbl α) (k : Nat) : Tbl α := t.filter (fun e => e.1 != k)

/-- Writes the same values at consecutive keys from `k`. -/
def Tbl.putList {α : Type} [DecidableEq α] (d : α) (t : Tbl α) (k : Nat) : List α → Tbl α
  | [] => t
  | v :: r => Tbl.putList d (Tbl.put d t k v) (k + 1) r

/-- The values of `n` consecutive keys from `k`. -/
def Tbl.range {α : Type} (d : α) (t : Tbl α) (k n : Nat) : List α :=
  (List.range n).map (fun i => Tbl.get d t (k + i))

/-- The canonical form: keys strictly rising, all above `lo`, and no entry equal to the unlisted value. -/
def Tbl.okAbove {α : Type} [DecidableEq α] (d : α) : Option Nat → Tbl α → Bool
  | _, [] => true
  | lo, (k, v) :: r =>
    (match lo with | none => true | some m => decide (m < k)) && decide (v ≠ d) && Tbl.okAbove d (some k) r

/-- The canonical form of a whole table. -/
def Tbl.ok {α : Type} [DecidableEq α] (d : α) (t : Tbl α) : Bool := Tbl.okAbove d none t

end Sys2Proof.Machine
end

