-- ==== Sys2Proof/Machine/Flags.lean ====
section
/-! DEFINITION. The register file: reading, setting, counting and clearing register fields (R5 to R7). -/

namespace Sys2Proof.Machine

/-- The value a field holds. -/
def Chip.fld (c : Chip) (f : Fld) (bank : Nat) : Nat := Tbl.get f.reset c.regs (f.key bank)

/-- Gives a field a value, kept to the field's width. -/
def Chip.set (c : Chip) (f : Fld) (bank v : Nat) : Chip :=
  { c with regs := Tbl.put f.reset c.regs (f.key bank) (v % 2 ^ f.width) }

/-- Whether a one-bit field is set. -/
def Chip.isSet (c : Chip) (f : Fld) (bank : Nat) : Bool := c.fld f bank != 0

/-- Sets a one-bit field, such as a W1C status bit that an event sets (R7). -/
def Chip.mark (c : Chip) (f : Fld) : Chip := c.set f 0 1

/-- Sets a one-bit field when `b` holds. -/
def Chip.markIf (c : Chip) (b : Bool) (f : Fld) : Chip := c.set f 0 (if b then 1 else c.fld f 0)

/-- Adds to a counter that saturates at its field's largest value. -/
def Chip.count (c : Chip) (f : Fld) (bank n : Nat) : Chip := c.set f bank (min (c.fld f bank + n) (2 ^ f.width - 1))

/-- Adds to a counter that wraps. -/
def Chip.countWrap (c : Chip) (f : Fld) (bank n : Nat) : Chip := c.set f bank (c.fld f bank + n)

/-- Adds to a 48-bit counter in two registers that saturates. -/
def Chip.count48 (c : Chip) (lo hi : Fld) (bank n : Nat) : Chip :=
  let v := min (c.fld hi bank * 4294967296 + c.fld lo bank + n) (2 ^ 48 - 1)
  (c.set lo bank v).set hi bank (v / 4294967296)

/-- Keeps the larger of a field's value and `v`, saturating. -/
def Chip.peak (c : Chip) (f : Fld) (bank v : Nat) : Chip := c.set f bank (max (c.fld f bank) (min v (2 ^ f.width - 1)))

/-- Returns a field to its reset value in every bank of a table of banks. -/
def Chip.clearBanks (c : Chip) (f : Fld) (banks : Nat) : Chip :=
  { c with regs := c.regs.filter (fun e => !(decide (f.key 0 ≤ e.1) && decide (e.1 < f.key 0 + banks))) }

/-- Returns several fields to their reset values in every bank. -/
def Chip.clearAll (c : Chip) (fs : List Fld) : Chip :=
  { c with regs := c.regs.filter (fun e => !(fs.any (fun f => decide (e.1 / 1048576 = f.addr * 32 + f.lo)))) }

end Sys2Proof.Machine
end

