-- ==== Sys2Proof/Machine/Ops.lean ====
section
/-! DEFINITION. The named operations that the meanings of the commands share: the clock, running a command, event records,
notices and responses, settings in force, memory bytes, free values. -/

namespace Sys2Proof.Machine

/-! ## Time. One unit is 1/27 ns: every frame, line and sample period of R44, R53 and R57 is a whole number of units. -/

/-- Nanoseconds in units of 1/27 ns. -/
def nsU (n : Nat) : Nat := 27 * n

/-- Microseconds in units. -/
def usU (n : Nat) : Nat := 27000 * n

/-- Milliseconds in units. -/
def msU (n : Nat) : Nat := 27000000 * n

/-- Seconds in units. -/
def secU (n : Nat) : Nat := 27000000000 * n

/-- The uptime in ns (R374). -/
def Chip.uptime (c : Chip) : Nat := (c.now - c.released) / 27

/-- Device time at an instant at or after its base, in units of 1/(27 · 65536) ns (R373, R375). -/
def Chip.deviceQAt (c : Chip) (u : Nat) : Nat :=
  c.clock.baseQ + ((((u - c.clock.baseAt) * 65536 : Nat) : Int) * (1000000000000000 + c.clock.rate) / 1000000000000000).toNat

/-- Device time now. -/
def Chip.deviceQ (c : Chip) : Nat := c.deviceQAt c.now

/-- The units of `deviceQ` in one second. -/
def qSec : Nat := 27 * 65536 * 1000000000

/-- The seconds of a device time (R373). -/
def secOf (q : Nat) : Nat := q / qSec

/-- The nanoseconds of a device time (R373). -/
def nsOf (q : Nat) : Nat := q % qSec / (27 * 65536)

/-- A time of seconds and nanoseconds as a device time. -/
def qOf (sec ns : Nat) : Nat := sec * qSec + ns * (27 * 65536)

/-! ## Running a command -/

/-- The module at the instant of a command: the clock stands at `t`, and nothing has been sent yet. -/
def Chip.begin (c : Chip) (t : Nat) : Chip := { c with now := max c.now t, sent := [] }

/-- Runs a command whose effect is `f` on the module alone. Whatever `f` does, the clock stands at the command's instant after
it, and a module that does not run (R489, R644, R651, R669) is left as it is. -/
def act (t : Nat) (s : State) (f : Chip → Chip) : Host.Outcome State Fault Refusal :=
  .next { s with chip :=
    { (if s.chip.run = .running then f (s.chip.begin t) else s.chip.begin t) with now := max s.chip.now t } }

/-- Runs a command that takes effect whether or not the module runs: power, reset, the management target. -/
def actAlways (t : Nat) (s : State) (f : Chip → Chip) : Host.Outcome State Fault Refusal :=
  .next { s with chip := { f (s.chip.begin t) with now := max s.chip.now t } }

/-- Runs a command whose effect reaches the byte-addressed memories too. -/
def actMem (t : Nat) (s : State) (f : Chip → Tbl Byte → Chip × Tbl Byte) : Host.Outcome State Fault Refusal :=
  let r := if s.chip.run = .running then f (s.chip.begin t) s.mem else (s.chip.begin t, s.mem)
  .next { s with mem := r.2, chip := { r.1 with now := max s.chip.now t } }

/-- Adds an output to what the command has sent. -/
def Chip.emit (c : Chip) (o : Out) : Chip := { c with sent := c.sent ++ [o] }

/-! ## Free values -/

/-- A value the spec leaves open, kept to `w` bits. -/
def Chip.openVal (c : Chip) (w : Nat) : Nat := Config.freeValue c.free % 2 ^ w

/-- Takes the next free value: the counter advances. -/
def Chip.nextFree (c : Chip) : Chip := { c with free := c.free + 1 }

/-! ## Event records (R576, R578) -/

/-- A block hands over an event record with the payload words from word 8 on (R578); M6 takes it at EVENT_RECORD. -/
def Chip.event (c : Chip) (e : Ev) (payload : List Nat) : Chip :=
  { c with log := { c.log with handed := c.log.handed ++
      [{ sev := e.sev, block := e.block, code := e.code, seq := 0, uptime := c.uptime, sec := secOf c.deviceQ,
         ns := nsOf c.deviceQ, repeats := 0, spanMs := 0, payload := payload.map (fun w => w % 4294967296),
         latest := c.uptime, committed := false, ctl := none }] } }

/-- Hands over an event record when `b` holds. -/
def Chip.eventIf (c : Chip) (b : Bool) (e : Ev) (payload : List Nat) : Chip :=
  { c with log := if b then (c.event e payload).log else c.log }

/-- The latest fault of class 1 or above, as the code and block of its record (R558, R574). -/
def Chip.faultIs (c : Chip) (e : Ev) (cls : Nat) : Chip :=
  ((c.set Reg.FLT_LAST_CAUSE_CODE 0 e.code).set Reg.FLT_LAST_CAUSE_BLOCK 0 e.block).set Reg.FLT_LAST_CAUSE_CLASS 0 cls

/-! ## Sessions, responses and notices -/

/-- The session of a slot. -/
def Chip.session (c : Chip) (slot : Nat) : Session := Tbl.get Session.free c.lan.slots slot

/-- Changes the session of a slot. -/
def Chip.modSession (c : Chip) (slot : Nat) (f : Session → Session) : Chip :=
  { c with lan := { c.lan with slots := Tbl.upd Session.free c.lan.slots slot f } }

/-- The most notices a session keeps unacknowledged (R534). -/
def noticeLimit : Nat := 1024

/-- Issues one notice on a session that has room for it: it takes the next notice number (R534). -/
def Session.issue (s : Session) (now code : Nat) (body : List Byte) : Session :=
  { s with noticeSeq := s.noticeSeq + 1,
           notices := s.notices ++ [{ seq := s.noticeSeq + 1, code := code, body := body, sentAt := now, interval := 20 }] }

/-- `NOTICES_LOST`, when notices have been discarded and one fits again (R534). -/
def Session.issueLost (s : Session) (now : Nat) : Session :=
  if s.lostPending ≠ 0 ∧ s.notices.length < noticeLimit then
    { (s.issue now 0x8009 (beBytes 4 s.lostPending)) with lostPending := 0 }
  else s

/-- Offers a notice to a session: issued when fewer than 1,024 are unacknowledged, else discarded and counted (R534). -/
def Session.notify (s : Session) (now code : Nat) (body : List Byte) : Session :=
  let s1 := s.issueLost now
  if s1.notices.length < noticeLimit then s1.issue now code body
  else { s1 with lost := min (s1.lost + 1) 0xFFFF, lostPending := s1.lostPending + 1 }

/-- Whether a notice offered to a session is discarded (R534). -/
def Session.overflows (s : Session) (now : Nat) : Bool := decide (noticeLimit ≤ (s.issueLost now).notices.length)

/-- The datagrams that carry a message: each holds the outer header, the inner header, its part of the body and the tag (R519, R527, R528). -/
def datagrams (maxDgram len : Nat) : Nat := max 1 (ceilDiv len (maxDgram - 72))

/-- Sends a message of a session, as the datagrams that carry it: each takes the next datagram counter (R522). -/
def Chip.sendMsg (c : Chip) (slot channel msgType status seq : Nat) (body : List Byte) : Chip :=
  (c.modSession slot (fun s => { s with txCtr := s.txCtr + datagrams s.maxDgram body.length })).emit (.message slot channel msgType status seq body)

/-- Sends a notice to a session slot, when that slot is open (R534, R535): the discard of a notice sets OVERFLOW_SEEN and records
`LAN_NOTICE_OVERFLOW`. -/
def Chip.notice (c : Chip) (slot code : Nat) (body : List Byte) : Chip :=
  let s := c.session slot
  if s.state = .opened then
    let s' := s.notify c.now code body
    let c1 := c.modSession slot (fun _ => s')
    let c2 := (s'.notices.filter (fun n => decide (s.noticeSeq < n.seq))).foldl (fun a n => a.sendMsg slot 3 n.code 0 n.seq n.body) c1
    if s.overflows c.now then (c2.mark Reg.LAN_STATUS_OVERFLOW_SEEN).event Ev.lanNoticeOverflow [slot, s.id] else c2
  else c

/-- Sends a notice to the session that sent a request, when that session is still the one in its slot (R535). -/
def Chip.noticeTo (c : Chip) (slot session code : Nat) (body : List Byte) : Chip :=
  if (c.session slot).id = session then c.notice slot code body else c

/-- Sends a notice to every session subscribed to a class, except one (R535, R539). -/
def Chip.noticeClass (c : Chip) (cls code : Nat) (body : List Byte) : Chip :=
  (List.range 16).foldl (fun a i => if bit (a.session i).mask cls then a.notice i code body else a) c

/-- `STATUS` of a response: result code in [15:0], index in [31:16] (R529). -/
def statusOf (code index : Nat) : Nat := index % 65536 * 65536 + code % 65536

/-- The index of a result that concerns the whole request (R529). -/
def wholeIndex : Nat := 0xFFFF

/-- Sends the response to the request being processed, the next of its session in `SEQ` order; it is kept until acknowledged
(R530, R532, R539). -/
def Chip.respond (c : Chip) (slot msgType status : Nat) (body : List Byte) : Chip :=
  let q := (c.session slot).done + 1
  (c.modSession slot (fun s =>
    { s with done := q, complete := s.complete.filter (fun r => decide (q < r.1)),
             responses := s.responses ++ [{ seq := q, msgType := msgType, status := status, body := body }] })).sendMsg
    slot 2 msgType status q body

/-- A refusal: its code, the index it concerns, an empty body (R529). -/
def Chip.refuse (c : Chip) (slot msgType code index : Nat) : Chip := c.respond slot msgType (statusOf code index) []

/-- `DONE` with a body. -/
def Chip.done (c : Chip) (slot msgType : Nat) (body : List Byte) : Chip := c.respond slot msgType (statusOf 0 wholeIndex) body

/-- `HELD` with a body. -/
def Chip.held (c : Chip) (slot msgType : Nat) (body : List Byte) : Chip := c.respond slot msgType (statusOf 1 wholeIndex) body

/-- `STARTED` with a body. -/
def Chip.started (c : Chip) (slot msgType : Nat) (body : List Byte) : Chip := c.respond slot msgType (statusOf 2 wholeIndex) body

/-- `OP_DONE` for an earlier request of a session (R551). -/
def Chip.opDone (c : Chip) (slot session reqSeq status : Nat) : Chip :=
  c.noticeTo slot session 0x8007 (beBytes 8 reqSeq ++ beBytes 4 status)

/-! ## Settings in force -/

/-- The key of a settings record: section type and index within it. -/
def cfgKey (type index : Nat) : Nat := type * 1048576 + index

/-- The record of a section in force, empty when it is not listed. -/
def Chip.record (c : Chip) (type index : Nat) : List Byte := Tbl.get [] c.cfg (cfgKey type index)

/-- Puts a record in force, or removes it with the empty record. -/
def Chip.setRec (c : Chip) (type index : Nat) (r : List Byte) : Chip :=
  { c with cfg := Tbl.put [] c.cfg (cfgKey type index) r }

/-- The indices listed in a section. -/
def Chip.listed (c : Chip) (type : Nat) : List Nat :=
  (c.cfg.filter (fun e => e.1 / 1048576 == type)).map (fun e => e.1 % 1048576)

/-- Removes every record of a section. -/
def Chip.clearSection (c : Chip) (type : Nat) : Chip :=
  { c with cfg := c.cfg.filter (fun e => e.1 / 1048576 != type) }

/-! ## Memory bytes: one canonical list for the memories the fabric reaches, each region at a base of its own -/

/-- What an unlisted byte of memory reads as (assumption log 2). -/
def memUnlisted : Byte := 0

/-- The region of the control working SRAM (T1, R617), 4 MiB. -/
def sramBase : Nat := 0

/-- The region of the flash (R493), 256 MiB. -/
def flashBase : Nat := 0x10000000

/-- The region of the boot ROM (R617), 256 KiB. -/
def romBase : Nat := 0x30000000

/-- The region of the PCIe memory space that the device assigned to drive links (R633), 1 GiB. -/
def pcieBase : Nat := 0x40000000

/-- The region of the frame store (R111), 96 GiB. -/
def storeBase : Nat := 0x2000000000

/-- One byte of memory. -/
def memByte (m : Tbl Byte) (a : Nat) : Byte := Tbl.get memUnlisted m a

/-- `n` bytes of memory from address `a`. -/
def memRead (m : Tbl Byte) (a n : Nat) : List Byte := Tbl.range memUnlisted m a n

/-- Writes bytes to memory from address `a`. -/
def memWrite (m : Tbl Byte) (a : Nat) (l : List Byte) : Tbl Byte := Tbl.putList memUnlisted m a l

/-- The canonical form of memory. -/
def Memory.wf (m : Tbl Byte) : Bool := Tbl.ok memUnlisted m

end Sys2Proof.Machine
end

