-- ==== Sys2Proof/Machine/Settings.lean ====
section
/-! DEFINITION. The settings sections: the layout of each record, the checks of a record by itself (first pass of R502), and the
named fields that the meanings read. -/

namespace Sys2Proof.Machine

/-! ## Frame rates and rasters -/

/-- The frame period of a rate code in units of 1/27 ns (R44); reserved codes have none. -/
def framePeriod (rate : Nat) : Nat :=
  match rate with
  | 0 => 1126125000 | 1 => 1125000000 | 2 => 1080000000 | 3 => 900900000 | 4 => 900000000
  | 5 => 563062500 | 6 => 562500000 | 7 => 540000000 | 8 => 450450000 | 9 => 450000000
  | 10 => 270000000 | 11 => 225225000 | 12 => 225000000 | _ => 0

/-- The 48 kHz samples of the frame at a position of the five-frame sequence (R44). -/
def samplesPerFrame (rate pos : Nat) : Nat :=
  match rate with
  | 0 => 2002 | 1 => 2000 | 2 => 1920
  | 3 => ([1602, 1601, 1602, 1601, 1602] : List Nat).getD pos 0
  | 4 => 1600 | 5 => 1001 | 6 => 1000 | 7 => 960
  | 8 => ([801, 801, 800, 801, 801] : List Nat).getD pos 0
  | 9 => 800 | 10 => 480
  | 11 => ([400, 401, 400, 401, 400] : List Nat).getD pos 0
  | 12 => 400 | _ => 0

/-- Whether a rate code names a 1/1.001 rate whose frames hold a varying number of samples (R44). -/
def fiveFrame (rate : Nat) : Bool := rate == 3 || rate == 8 || rate == 11

/-- Whether a format of a rate code runs at the /1.001 rate of its SDI family (R314). -/
def fractRate (rate : Nat) : Bool := rate == 0 || rate == 3 || rate == 5 || rate == 8

/-- The house sample period in units: 1/48,000 s (R53). -/
def samplePeriod : Nat := 562500

/-- The format of an SDI raster code at a rate code (R314): 4:2:2 10-bit. -/
def rasterFormat (raster rate : Nat) : Option Format :=
  match raster with
  | 0 => some ⟨720, 486, 1, 0, 10, rate⟩
  | 1 => some ⟨720, 576, 1, 0, 10, rate⟩
  | 2 => some ⟨1280, 720, 0, 0, 10, rate⟩
  | 3 => some ⟨1920, 1080, 1, 0, 10, rate⟩
  | 4 => some ⟨1920, 1080, 2, 0, 10, rate⟩
  | 5 => some ⟨1920, 1080, 0, 0, 10, rate⟩
  | 6 => some ⟨3840, 2160, 0, 0, 10, rate⟩
  | _ => none

/-- The SDI family of each link for a raster, rate code and group size (R314): 1 270 Mb/s to 5 11.88 Gb/s, none where the
combination is not supported. -/
def sdiFamily (raster rate group : Nat) : Option Nat :=
  match raster, group with
  | 0, 0 => if rate = 3 then some 1 else none
  | 1, 0 => if rate = 2 then some 1 else none
  | 2, 0 => if rate = 7 ∨ rate = 8 ∨ rate = 9 then some 2 else none
  | 3, 0 => if rate = 2 ∨ rate = 3 ∨ rate = 4 then some 2 else none
  | 4, 0 => if rate ≤ 4 then some 2 else none
  | 5, 0 => if rate ≤ 4 then some 2 else if rate ≤ 9 then some 3 else none
  | 6, 0 => if rate ≤ 4 then some 4 else if rate ≤ 9 then some 5 else none
  | 6, 1 => if 5 ≤ rate ∧ rate ≤ 9 then some 4 else none
  | 6, 2 => if 5 ≤ rate ∧ rate ≤ 9 then some 3 else none
  | _, _ => none

/-- The switching line of a format and the lines of the raster that R59 times it in (R57, R59). -/
def switchLine (f : Format) : Nat × Nat :=
  if f.height = 486 then (10, 525)
  else if f.height = 576 then (6, 625)
  else if f.height = 720 then (7, 750)
  else (7, 1125)

/-- The lines of the picture raster of a format (R66, R263). -/
def rasterLines (f : Format) : Nat :=
  if f.height = 486 then 525 else if f.height = 576 then 625 else if f.height = 720 then 750
  else if f.height = 2160 then 2250 else 1125

/-- The bytes of a packed active line (4:2:2 at depth d takes 2d bits a pixel, 4:4:4 and RGB take 3d) (R30, R252). -/
def lineBytes (f : Format) : Nat :=
  ceilDiv (f.width * f.depth * (if f.sampling = 0 then 2 else 3)) 8

/-- Whether a format fits the line store (R30) and the frame store (R114). -/
def formatFits (f : Format) : Bool := decide (lineBytes f ≤ 10240) && decide (lineBytes f * f.height ≤ 20774912)

/-! ## Index spaces (R2, R3) -/

def isExternalSrc (s : Nat) : Bool := decide (s < 1024)
def isGenerator (s : Nat) : Bool := decide (1024 ≤ s) && decide (s < 1056)
def isComposer (s : Nat) : Bool := decide (1056 ≤ s) && decide (s < 1088)
def isPlayer (s : Nat) : Bool := decide (1088 ≤ s) && decide (s < 1120)
def isExternalDst (d : Nat) : Bool := decide (d < 1024)
def isLayerInput (d : Nat) : Bool := decide (1024 ≤ d) && decide (d < 1536)
def isCapture (d : Nat) : Bool := decide (1536 ≤ d) && decide (d < 1568)

/-- No source on a level (R80). -/
def noSource : Nat := 0x7FF

/-- The level masks a destination accepts (R79). -/
def levelsOk (dst levels : Nat) : Bool :=
  if isExternalDst dst then decide (1 ≤ levels) && decide (levels ≤ 7)
  else if isLayerInput dst then levels == 1
  else levels == 7

/-! ## Section types -/

def tyTick : Nat := 0x0101
def tySources : Nat := 0x0201
def tyDests : Nat := 0x0202
def tyRoutes : Nat := 0x0203
def tyPilotRoutes : Nat := 0x0204
def tyFstSources : Nat := 0x0301
def tyFstGlobal : Nat := 0x0302
def tyArb : Nat := 0x0401
def tyComposers : Nat := 0x0501
def tyLuts : Nat := 0x0502
def tyLayouts : Nat := 0x0503
def tySurface : Nat := 0x0580
def tySrcCh : Nat := 0x0601
def tyDstCh : Nat := 0x0602
def tyLists : Nat := 0x0603
def tyMaps : Nat := 0x0604
def tyAudPorts : Nat := 0x0605
def tyRx : Nat := 0x0701
def tyTx : Nat := 0x0702
def tyMacPorts : Nat := 0x0801
def tyMacAddrs : Nat := 0x0802
def tyMacGates : Nat := 0x0803
def tyLanes : Nat := 0x0901
def tySdi : Nat := 0x0902
def tySplice : Nat := 0x0903
def tyEntries : Nat := 0x0A01
def tyRefs : Nat := 0x0A02
def tyOutputs : Nat := 0x0A03
def tyPtp : Nat := 0x0B01
def tySpl : Nat := 0x0C01
def tySplPorts : Nat := 0x0C02
def tySplDomains : Nat := 0x0C03
def tyTwin : Nat := 0x0C04
def tyGens : Nat := 0x0D01
def tyTones : Nat := 0x0D02
def tyFwa : Nat := 0x0E01
def tyFwaSources : Nat := 0x0E02
def tyPcie : Nat := 0x0F01
def tyDrives : Nat := 0x0F02
def tyCapCh : Nat := 0x0F03
def tyPlayers : Nat := 0x0F04
def tyBoot : Nat := 0x1001
def tyLan : Nat := 0x1101
def tyFlt : Nat := 0x1201
def tyLog : Nat := 0x1301
def tyFab : Nat := 0x1501
def tyPwr : Nat := 0x1601

/-- The section types of a settings image, in ascending order (R499, R502). -/
def allTypes : List Nat :=
  [tyTick, tySources, tyDests, tyRoutes, tyPilotRoutes, tyFstSources, tyFstGlobal, tyArb, tyComposers, tyLuts, tyLayouts] ++
  [tySrcCh, tyDstCh, tyLists, tyMaps, tyAudPorts, tyRx, tyTx, tyMacPorts, tyMacAddrs, tyMacGates, tyLanes, tySdi, tySplice] ++
  [tyEntries, tyRefs, tyOutputs, tyPtp, tySpl, tySplPorts, tySplDomains, tyTwin, tyGens, tyTones, tyFwa, tyFwaSources] ++
  [tyPcie, tyDrives, tyCapCh, tyPlayers, tyBoot, tyLan, tyFlt, tyLog, tyFab, tyPwr]

/-- Whether a section holds one record only. -/
def singleRecord (ty : Nat) : Bool :=
  [tyFstGlobal, tyArb, tyRefs, tyPtp, tySpl, tyTwin, tyFwa, tyPcie, tyBoot, tyLan, tyFlt, tyLog, tyFab, tyPwr].contains ty

/-! ## Checks of a record by itself -/

/-- The first code whose condition holds. -/
def firstCode : List (Bool × Nat) → Option Nat
  | [] => none
  | (b, code) :: r => if b then some code else firstCode r

/-- Whether a number lies in a range. -/
def within (v lo hi : Nat) : Bool := decide (lo ≤ v) && decide (v ≤ hi)

/-- A record of `TICK_DOMAINS` for domain `td` (R68, R69). -/
def checkTick (td : Nat) (r : List Byte) : Option Nat :=
  firstCode [(!(decide (r.length = 16) && decide (u8 r 0 ≤ 1) && (td != 0 || u8 r 0 == 1) && decide (u8 r 1 ≤ 12)
    && (decide (u8 r 2 ≤ 7) || u8 r 2 == 255) && decide (u8 r 3 ≤ 1) && decide (u32 r 4 ≤ 1000000) && decide (u8 r 8 ≤ 7)
    && decide (u8 r 9 ≤ 7) && decide (u8 r 8 ≤ u8 r 9) && zeroAt r 10 2 && decide (u32 r 12 ≤ 1000000)), 0x0101)]

/-- A record of `XPT_SOURCES` (R104). -/
def checkSources (r : List Byte) : Option Nat :=
  firstCode [(!(decide (r.length = 4) && decide (u16 r 0 ≤ 1119) && decide (u8 r 2 ≤ 2) && decide (1 ≤ u8 r 3)), 0x0216)]

/-- A record of `XPT_DESTS` (R105). -/
def checkDests (r : List Byte) : Option Nat :=
  firstCode [(!(decide (r.length = 8) && decide (u16 r 0 ≤ 1023) && decide (u8 r 2 ≤ 3) && decide (u8 r 3 ≤ 2)
    && (if u8 r 3 = 2 then decide (u16 r 4 ≤ 1119) else u16 r 4 == noSource) && decide (u8 r 6 ≤ 1) && zeroAt r 7 1), 0x0216)]

/-- A record of `XPT_ROUTES` or `XPT_PILOT_ROUTES` (R106). -/
def checkRoutes (r : List Byte) : Option Nat :=
  firstCode [(!(decide (r.length = 8) && decide (u16 r 0 ≤ 1567) && decide (u16 r 2 ≤ 1119) && levelsOk (u16 r 0) (u8 r 4)
    && zeroAt r 5 3), 0x0216)]

/-- A record of `FST_SOURCES` (R138). -/
def checkFstSources (r : List Byte) : Option Nat :=
  firstCode [(!(decide (r.length = 4) && decide (u16 r 0 ≤ 1119) && zeroAt r 3 1), 0x0301)]

/-- The record of `FST_GLOBAL` (R139). -/
def checkFstGlobal (r : List Byte) : Option Nat :=
  firstCode [(!(decide (r.length = 4) && decide (1 ≤ u8 r 0) && decide (u8 r 1 ≤ 1) && zeroAt r 2 2), 0x0301)]

/-- The record of `ARB_GLOBAL` (R170). -/
def checkArb (r : List Byte) : Option Nat :=
  firstCode [(!(decide (r.length = 8) && within (u16 r 0) 64 4096 && (List.range 6).all (fun i => decide (1 ≤ u8 r (2 + i)))), 0x0401)]

/-- A record of `CMP_COMPOSERS` by itself (R208, R211). -/
def checkComposers (r : List Byte) : Option Nat :=
  firstCode [(!(decide (r.length = 16) && decide (u8 r 0 ≤ 31) && decide (u8 r 1 ≤ 3) && decide (u8 r 6 ≤ 2) && decide (u8 r 7 ≤ 1)
    && decide (u8 r 8 ≤ 1) && zeroAt r 9 1), 0x050D)]

/-- Whether a composer raster meets R176 in width and height. -/
def rasterOk (r : List Byte) : Bool :=
  within (u16 r 2) 64 3840 && u16 r 2 % 2 == 0 && within (u16 r 4) 16 2160 && (u8 r 6 == 0 || u16 r 4 % 2 == 0)

/-- A record of `CMP_LUTS` (R209). -/
def checkLuts (r : List Byte) : Option Nat :=
  firstCode [(!(decide (r.length = 6154) && within (u16 r 0) 1 63 && zeroAt r 2 2), 0x050D)]

/-- Whether a layer record breaks check 4 of R195: geometry of R184, fields in range, reserved bytes 0 (R183, R189). -/
def layerBad (w h : Nat) (r : List Byte) : Bool :=
  let kind := u8 r 0
  !(decide (kind ≤ 3) && decide (u8 r 1 ≤ 1)
    && (if u8 r 1 = 1 then decide (u16 r 2 ≤ 1119) else u16 r 2 == noSource)
    && (if kind = 2 then decide (u16 r 4 ≤ 1023) else u16 r 4 == 0xFFFF)
    && decide (1 ≤ u8 r 6) && decide (u8 r 7 ≤ 63)
    && decide (1 ≤ u16 r 12) && decide (1 ≤ u16 r 14)
    && decide (u16 r 8 + u16 r 12 ≤ w) && decide (u16 r 10 + u16 r 14 ≤ h)
    && (kind == 3 || (decide (1 ≤ u16 r 20) && decide (1 ≤ u16 r 22) && decide (u16 r 16 + u16 r 20 ≤ 32768)
          && decide (u16 r 18 + u16 r 22 ≤ 32768)))
    && decide (u16 r 24 ≤ 1023) && decide (u8 r 26 ≤ 2) && zeroAt r 27 1
    && decide (u16 r 28 ≤ 1023) && decide (u16 r 30 ≤ 1023) && zeroAt r 62 2)

/-- Whether `KEY_KIND` breaks the table of R189. -/
def keyBad (r : List Byte) : Bool :=
  (u8 r 26 == 1 && (u8 r 0 != 1 || decide (u16 r 30 ≤ u16 r 28))) || (u8 r 26 == 2 && u8 r 0 != 2)

/-- The number of bits set in the 16-bit mask of a layout. -/
def maskCount (m : Nat) : Nat := ((List.range 16).filter (fun i => bit m i)).length

/-- Whether a layout breaks check 2 of R195. -/
def layoutIndexBad (r : List Byte) : Bool :=
  !(decide (u8 r 0 ≤ 31) && decide (u16 r 2 ≠ 0) && decide (u8 r 1 ≤ 1) && decide (r.length = 8 + 64 * maskCount (u16 r 2)))

/-- The layer numbers of a mask, ascending. -/
def maskLayers (m : Nat) : List Nat := (List.range 16).filter (fun i => bit m i)

/-- The layer records of a layout, with their layers, in ascending order (R194). -/
def layoutRecords (r : List Byte) : List (Nat × List Byte) :=
  (maskLayers (u16 r 2)).zipIdx.map (fun p => (p.1, bytesAt r (8 + 64 * p.2) 64))

/-- A layout of `CMP_LAYOUTS` by itself, against the raster of its composer (R211). -/
def checkLayout (w h : Nat) (r : List Byte) : Option Nat :=
  firstCode [(layoutIndexBad r, 0x0501), ((layoutRecords r).any (fun p => layerBad w h p.2), 0x0505),
    ((layoutRecords r).any (fun p => u8 p.2 0 == 2), 0x0508)]

/-- The rates a channel kind may run at (R216): whether 96 kHz is allowed. -/
def kindAt96 (k : Nat) : Bool := k == 4 || k == 5

/-- The target range of a channel binding (R241). -/
def audTargetOk (dstSide : Bool) (kind target : Nat) : Bool :=
  match kind with
  | 1 => decide (target ≤ 4095) | 2 => decide (target ≤ 4095)
  | 3 => decide (target ≤ 1023)
  | 4 => decide (target ≤ 7) | 5 => decide (target ≤ 3) | 6 => decide (target ≤ 7)
  | 7 => if dstSide then within target 1536 1567 else within target 1024 1119
  | _ => false

/-- A record of `AUD_SRC_CHANNELS` or `AUD_DST_CHANNELS` by itself (R241, R244); value `AUD_PARAM` is the code. -/
def checkAudCh (code : Nat) (dstSide : Bool) (r : List Byte) : Option Nat :=
  firstCode [(!(decide (r.length = 12) && decide (u16 r 0 ≤ 16383) && within (u8 r 2) 1 7 && !(dstSide && u8 r 2 == 6)
    && (if dstSide then decide (u8 r 3 ≤ 15) else decide (u8 r 3 ≤ 3))
    && (!(bit (u8 r 3) 0) || (u16 r 0 % 2 == 0 && kindAt96 (u8 r 2)))
    && (!(bit (u8 r 3) 1) || u8 r 2 == 2 || u8 r 2 == 5)
    && audTargetOk dstSide (u8 r 2) (u16 r 4) && zeroAt r 7 1 && zeroAt r 10 2
    && (if dstSide then decide (-9600 ≤ signed 16 (u16 r 8)) && decide (signed 16 (u16 r 8) ≤ 2400) else u16 r 8 == 0)), code)]

/-- The entries of a list record: 2-byte source positions (R242). -/
def listEntries (r : List Byte) : List Nat := (List.range (u8 r 2)).map (fun i => u16 r (4 + 2 * i))

/-- The entries of a map record: list position and destination position (R242). -/
def mapEntries (r : List Byte) : List (Nat × Nat) := (List.range (u8 r 2)).map (fun i => (u8 r (4 + 4 * i), u16 r (6 + 4 * i)))

/-- A record of `AUD_LISTS` by itself (R242, R244). -/
def checkLists (code : Nat) (r : List Byte) : Option Nat :=
  let n := u8 r 2
  firstCode [(!(decide (4 ≤ r.length) && decide (u16 r 0 ≤ 1023) && decide (n ≤ 64) && zeroAt r 3 1
    && decide (r.length = 4 + ceilDiv (2 * n) 4 * 4) && zeroAt r (4 + 2 * n) (r.length - 4 - 2 * n)
    && (listEntries r).all (fun p => decide (p ≤ 16383))), code)]

/-- A record of `AUD_MAPS` by itself (R242, R244). -/
def checkMaps (code : Nat) (r : List Byte) : Option Nat :=
  let n := u8 r 2
  firstCode [(!(decide (4 ≤ r.length) && (isExternalDst (u16 r 0) || isCapture (u16 r 0)) && decide (n ≤ 64) && zeroAt r 3 1
    && decide (r.length = 4 + 4 * n) && (mapEntries r).all (fun e => decide (e.1 ≤ 63) && decide (e.2 ≤ 16383))
    && (List.range n).all (fun i => zeroAt r (5 + 4 * i) 1)
    && !(hasDup ((mapEntries r).map Prod.fst)) && !(hasDup ((mapEntries r).map Prod.snd))), code)]

/-- A record of `AUD_PORTS` (R243, R244). -/
def checkAudPorts (code : Nat) (r : List Byte) : Option Nat :=
  let p := u8 r 0
  let fl := u8 r 2
  firstCode [(!(decide (r.length = 4) && decide (p ≤ 23) && (if p < 8 then decide (u8 r 1 ≤ 3) else u8 r 1 == 0)
    && decide (fl ≤ 31) && zeroAt r 3 1 && !(u8 r 1 == 3 && bit fl 1)
    && (decide (16 ≤ p) || (!(bit fl 2) && !(bit fl 3))) && (decide (p < 16) || !(bit fl 1)) && (decide (p < 8) || !(bit fl 0))), code)]

/-- Whether an IP address field is multicast: 224.0.0.0/4 or ff00::/8. -/
def ipMulticast (v6 : Bool) (p : List Byte) (o : Nat) : Bool := if v6 then u8 p o == 255 else within (u8 p (o + 12)) 224 239

/-- A 40-byte path block that is present is well formed (R276): transmit side `tx`. -/
def pathOk (tx v6 : Bool) (p : List Byte) : Bool :=
  decide (u8 p 0 ≤ 15) && decide (u8 p 1 ≤ 7) && (within (u16 p 2) 1 4094 || u16 p 2 == 0xFFFF)
    && (v6 || zeroAt p 4 12) && decide (1 ≤ u16 p 36)
    && (if tx then decide (1 ≤ u16 p 38) else u16 p 38 == 0 && (v6 || zeroAt p 20 12))
    && (!tx || (if ipMulticast v6 p 4 then zeroAt p 20 16
                else !(zeroAt p 20 6) && u8 p 20 % 2 == 0 && zeroAt p 26 10))

/-- The format of a kind 0 format block (R277). -/
def flowFormat (f : List Byte) : Format := ⟨u16 f 0, u16 f 2, u8 f 4, u8 f 6, u8 f 7, u8 f 5⟩

/-- Whether a kind 0 format is one of R252. -/
def formatOf252 (f : Format) : Bool :=
  let hd := (f.sampling == 0 && (f.depth == 8 || f.depth == 10 || f.depth == 12))
    || ((f.sampling == 1 || f.sampling == 2) && (f.depth == 10 || f.depth == 12))
  if f.width = 720 ∧ f.height = 486 then f.scan == 1 && f.rate == 3 && f.sampling == 0 && (f.depth == 8 || f.depth == 10 || f.depth == 12)
  else if f.width = 720 ∧ f.height = 576 then f.scan == 1 && f.rate == 2 && f.sampling == 0 && (f.depth == 8 || f.depth == 10 || f.depth == 12)
  else if f.width = 1280 ∧ f.height = 720 then f.scan == 0 && within f.rate 7 9 && hd
  else if f.width = 1920 ∧ f.height = 1080 then
    (if f.scan = 0 then decide (f.rate ≤ 12) else within f.rate 2 4 && decide (f.scan ≤ 2)) && hd
  else if f.width = 3840 ∧ f.height = 2160 then f.scan == 0 && decide (f.rate ≤ 9) && f.sampling == 0 && (f.depth == 8 || f.depth == 10)
  else false

/-- Whether the 16-byte format block suits the flow's kind (R231, R252, R255, R277). -/
def formatBlockOk (tx : Bool) (kind : Nat) (f : List Byte) : Bool :=
  match kind with
  | 0 => formatOf252 (flowFormat f) && formatFits (flowFormat f) && decide (u8 f 8 ≤ 2) && decide (u8 f 9 ≤ 2) && decide (u8 f 10 ≤ 1)
      && zeroAt f 11 1 && (if tx then u16 f 12 == 0 || within (u16 f 12) 1000 8960 else zeroAt f 12 4)
  | 1 => zeroAt f 0 5 && decide (u8 f 5 ≤ 12) && zeroAt f 6 10
  | 2 => (if u8 f 1 = 0 then within (u8 f 0) 1 8 else within (u8 f 0) 1 64) && decide (u8 f 1 ≤ 1) && (u8 f 2 == 16 || u8 f 2 == 24)
      && zeroAt f 3 1 && (if tx then zeroAt f 4 2 else within (u16 f 4) 250 2000 && u16 f 4 % 125 == 0) && zeroAt f 6 10
  | 3 => (if u8 f 1 = 0 then within (u8 f 0) 1 4 else within (u8 f 0) 1 32) && decide (u8 f 1 ≤ 1) && u8 f 2 == 24
      && zeroAt f 3 1 && (if tx then zeroAt f 4 2 else within (u16 f 4) 250 2000 && u16 f 4 % 125 == 0) && zeroAt f 6 10
  | 4 => zeroAt f 0 5 && decide (u8 f 5 ≤ 12) && zeroAt f 6 10
  | 5 => decide (u8 f 0 ≤ 4) && zeroAt f 1 4 && decide (u8 f 5 ≤ 12) && zeroAt f 6 10
  | _ => false

/-- A record of `PMI_FLOWS` or `PMO_FLOWS` by itself (R275 to R278). -/
def checkFlow (tx : Bool) (r : List Byte) : Option Nat :=
  let kind := u8 r 2
  let fl := u8 r 3
  let v6 := bit fl 2
  firstCode [
    (!(decide (r.length = 112) && decide (u16 r 0 ≤ 4095)
       && (if kind = 2 ∨ kind = 3 then u16 r 4 == 0xFFFF else decide (u16 r 4 ≤ 1023))), 0x0701),
    (!(decide (kind ≤ 5) && decide (fl ≤ 7) && (within (u8 r 6) 96 127 || (!tx && u8 r 6 == 255))
       && (if tx ∧ kind = 0 then decide (u8 r 7 ≤ 1) else u8 r 7 == 0)
       && (if tx then decide (u32 r 8 ≠ 0) && u16 r 12 == 0 && decide (u8 r 14 ≤ 63) && decide (1 ≤ u8 r 15 % 32)
           else u32 r 8 == 0 && within (u16 r 12) 1 8000 && u8 r 14 == 0 && u8 r 15 == 0)
       && pathOk tx v6 (bytesAt r 16 40)
       && (if bit fl 1 then pathOk tx v6 (bytesAt r 56 40) else zeroAt r 56 40)
       && formatBlockOk tx kind (bytesAt r 96 16)), 0x0703)]

/-- A record of `MAC_PORTS` by itself (R306, R309). -/
def checkMacPorts (r : List Byte) : Option Nat :=
  let p := u8 r 0
  let host := decide (16 ≤ p)
  firstCode [(!(decide (r.length = 16) && decide (p ≤ 17) && (if host then decide (u8 r 1 ≤ 1) else decide (u8 r 1 ≤ 3))
    && within (u16 r 2) 1518 9216 && within (u16 r 4) 256 (u16 r 2) && decide (u8 r 6 ≤ 15)
    && (host || decide (u8 r 6 ≤ 1)) && (if host then within (u16 r 8) 1 1000 else u16 r 8 == 0) && zeroAt r 10 6), 0x0801)]

/-- A record of `MAC_ADDRS` by itself (R307, R309). -/
def checkMacAddrs (r : List Byte) : Option Nat :=
  firstCode [(!(decide (r.length = 32) && decide (u8 r 0 ≤ 17) && decide (u8 r 1 ≤ 7) && (decide (u8 r 0 ≤ 15) || u8 r 1 == 0)
    && (within (u16 r 2) 1 4094 || u16 r 2 == 0xFFFF) && u8 r 4 % 2 == 0 && decide (u8 r 10 ≤ 32) && decide (u8 r 11 ≤ 128)
    && (decide (u8 r 10 ≠ 0) || zeroAt r 12 4) && (decide (u8 r 11 ≠ 0) || zeroAt r 16 16)), 0x0801)]

/-- The entries of a gate list: duration in ns and open mask of queues 0 to 6 (R308). -/
def gateEntries (r : List Byte) : List (Nat × Nat) :=
  (List.range (u8 r 2)).map (fun i => (u24 r (4 + 4 * i), u8 r (7 + 4 * i)))

/-- A record of `MAC_GATES` by itself (R308, R309). -/
def checkMacGates (r : List Byte) : Option Nat :=
  firstCode [(!(decide (u8 r 0 ≤ 15) && decide (u8 r 1 ≤ 7) && within (u8 r 2) 1 64 && zeroAt r 3 1
    && decide (r.length = 4 + 4 * u8 r 2)
    && (gateEntries r).all (fun e => within e.1 1 125000 && decide (e.2 ≤ 127))), 0x0801),
    (decide (((gateEntries r).map Prod.fst).sum ≠ 125000), 0x0802)]

/-- A record of `LNE_LANES` (R339). -/
def checkLanes (r : List Byte) : Option Nat :=
  firstCode [(!(decide (r.length = 4) && decide (u8 r 0 ≤ 215) && decide (u8 r 1 ≤ 15) && (decide (u8 r 0 ≤ 151) || !(bit (u8 r 1) 3))
    && decide (u8 r 2 ≤ 15) && zeroAt r 3 1), 0x0901)]

/-- A record of `LNE_SDI` by itself (R340, R342). -/
def checkSdi (r : List Byte) : Option Nat :=
  let fl := u8 r 2
  let rx := bit fl 0
  let tx := bit fl 1
  firstCode [
    (!(decide (r.length = 12) && decide (u8 r 0 ≤ 63) && decide (u8 r 1 ≤ 2) && decide (fl ≤ 7)
       && (if bit fl 2 then u8 r 3 == 0 else within (u8 r 3) 1 5 || (!rx && u8 r 3 == 0))
       && (if rx then decide (u16 r 4 ≤ 1023) else u16 r 4 == 0xFFFF)
       && (if tx then decide (u16 r 6 ≤ 1023) else u16 r 6 == 0xFFFF && u8 r 8 == 0 && u8 r 9 == 0)
       && decide (u8 r 8 ≤ 6) && decide (u8 r 9 ≤ 12) && zeroAt r 10 2), 0x0901),
    ((u8 r 1 == 1 && u8 r 0 % 2 != 0) || (u8 r 1 == 2 && u8 r 0 % 4 != 0), 0x0902),
    (tx && (sdiFamily (u8 r 8) (u8 r 9) (u8 r 1)).isNone, 0x0903)]

/-- A record of `LNE_SPLICE` (R341). -/
def checkSplice (r : List Byte) : Option Nat :=
  firstCode [(!(decide (r.length = 4) && decide (u8 r 0 ≤ 7) && decide (u8 r 1 ≤ 3) && decide (u8 r 2 ≤ 1) && zeroAt r 3 1), 0x0901)]

/-- A record of `REFS_ENTRIES` by itself (R367, R370). -/
def checkEntries (r : List Byte) : Option Nat :=
  let ty := u8 r 1
  firstCode [
    (!(decide (r.length = 16) && decide (u8 r 0 ≤ 7) && decide (ty ≤ 8) && within (u8 r 2) 1 15 && decide (u8 r 3 ≤ 1)
       && (if ty = 1 ∨ ty = 2 then decide (u8 r 4 ≤ 4) && decide (u8 r 5 % 16 ≤ 12) && decide (u8 r 5 ≤ 31)
           else if ty = 7 then decide (u8 r 4 ≤ 17) && (decide (u8 r 5 ≤ 15) || u8 r 5 == 255)
           else if ty = 8 then decide (u8 r 4 ≤ 3) && u8 r 5 == 0
           else u8 r 4 == 0 && u8 r 5 == 0)
       && decide (1 ≤ u8 r 6) && decide (1 ≤ u8 r 7) && within (u16 r 8) 1 100 && within (u16 r 10) 10 50000 && zeroAt r 12 4), 0x0A01),
    (ty == 7 && u8 r 4 == u8 r 5, 0x0A02)]

/-- The record of `REFS_GLOBAL` (R368). -/
def checkRefs (r : List Byte) : Option Nat :=
  firstCode [(!(decide (r.length = 8) && decide (u8 r 0 ≤ 1) && decide (u8 r 1 ≤ 6) && within (u16 r 2) 10 10000
    && within (u16 r 4) 10 10000 && within (u8 r 6) 1 60 && zeroAt r 7 1), 0x0A01)]

/-- A record of `REFS_OUTPUTS` by itself (R369). -/
def checkOutputs (r : List Byte) : Option Nat :=
  let fpo := decide (u8 r 0 ≤ 3)
  firstCode [(!(decide (r.length = 8) && decide (u8 r 0 ≤ 5) && decide (u8 r 1 ≤ 31) && decide (bits (u8 r 1) 3 2 ≤ 1)
    && (if fpo then !(bit (u8 r 1) 4) && decide (1 ≤ u16 r 2) && decide (u32 r 4 ≤ 1000000)
        else bits (u8 r 1) 3 1 == 0 && u16 r 2 == 0 && u32 r 4 == 0)), 0x0A01)]

/-- The record of `PTP_GLOBAL` by itself (R390, R391). -/
def checkPtp (r : List Byte) : Option Nat :=
  firstCode [(!(decide (r.length = 16) && decide (u8 r 0 ≤ 2)
    && (if u8 r 0 = 1 then decide (u8 r 1 ≤ 17) else u8 r 1 == 255)
    && (u8 r 2 == 255 || (decide (u8 r 2 ≤ 15) && decide (u8 r 1 ≤ 15))) && (u8 r 1 != u8 r 2 || u8 r 1 == 255)
    && decide (u8 r 3 ≤ 127) && decide (u8 r 4 ≤ 1) && within (u8 r 6) 2 10 && decide (u8 r 7 ≤ 3)
    && within (u32 r 8) 1000 1000000000 && within (u16 r 12) 100 50000 && within (u16 r 14) 1 500), 0x0B01)]

/-- The record of `SPL_GLOBAL` (R425). -/
def checkSpl (r : List Byte) : Option Nat :=
  firstCode [(!(decide (r.length = 8) && decide (u16 r 0 ≤ 4095) && decide (1 ≤ u8 r 2) && decide (u8 r 3 ≤ 3)
    && within (u16 r 4) 50 10000 && zeroAt r 6 2), 0x0C01)]

/-- A record of `SPL_PORTS` by itself (R426). -/
def checkSplPorts (r : List Byte) : Option Nat :=
  firstCode [(!(decide (r.length = 4) && decide (u8 r 0 ≤ 7) && decide (u8 r 1 ≤ 3) && zeroAt r 2 2), 0x0C01)]

/-- A record of `SPL_DOMAINS` by itself (R427). -/
def checkSplDomains (r : List Byte) : Option Nat :=
  firstCode [(!(decide (r.length = 8) && decide (u8 r 0 ≤ 3) && zeroAt r 1 3 && (u32 r 4 == 0 || decide (5000 ≤ u32 r 4))), 0x0C01)]

/-- The record of `SPL_TWIN` (R428). -/
def checkTwin (r : List Byte) : Option Nat :=
  firstCode [(!(decide (r.length = 16) && decide (u8 r 0 ≤ 7) && decide (u8 r 1 ≤ 63) && zeroAt r 2 2 && zeroAt r 12 4), 0x0C01)]

/-- A record of `GEN_GENERATORS` by itself (R448, R452). -/
def checkGens (r : List Byte) : Option Nat :=
  firstCode [(!(decide (r.length = 16) && decide (u8 r 0 ≤ 31) && decide (u8 r 1 ≤ 3) && decide (u8 r 2 ≤ 6) && decide (u8 r 3 ≤ 7)
    && decide (u8 r 4 ≤ 7) && zeroAt r 5 1
    && (if u8 r 3 = 4 then within (u16 r 6) 4 1019 && within (u16 r 8) 4 1019 && within (u16 r 10) 4 1019 else zeroAt r 6 6)
    && within (u32 r 12) 1 8388607 && !(u8 r 3 == 2 && decide (u8 r 2 ≤ 2))), 0x0D01)]

/-- A record of `GEN_TONES` (R449). -/
def checkTones (r : List Byte) : Option Nat :=
  firstCode [(!(decide (r.length = 8) && decide (u8 r 0 ≤ 31) && decide (u8 r 1 ≤ 15) && within (u16 r 2) 20 20000
    && decide (-600 ≤ signed 16 (u16 r 4)) && decide (signed 16 (u16 r 4) ≤ 0) && decide (u8 r 6 ≤ 3) && zeroAt r 7 1), 0x0D01)]

/-- The record of `FWA_GLOBAL` (R450). -/
def checkFwa (r : List Byte) : Option Nat :=
  firstCode [(!(decide (r.length = 8) && decide (-120 ≤ signed 8 (u8 r 1)) && decide (signed 8 (u8 r 1) ≤ -40)
    && within (u16 r 2) 100 60000 && decide (-200 ≤ signed 16 (u16 r 4)) && decide (signed 16 (u16 r 4) ≤ 0)
    && within (u8 r 6) 1 16 && zeroAt r 7 1), 0x0E01)]

/-- A record of `FWA_SOURCES` (R451). -/
def checkFwaSources (r : List Byte) : Option Nat :=
  firstCode [(!(decide (r.length = 8) && decide (u16 r 0 ≤ 1023) && decide (u8 r 2 ≤ 3) && within (u32 r 4) 1 1000000), 0x0E01)]

/-- The record of `CAP_PCIE` (R483). -/
def checkPcie (r : List Byte) : Option Nat :=
  firstCode [(!(decide (r.length = 4) && decide (u8 r 0 ≤ 1) && decide (u8 r 1 ≤ 1) && zeroAt r 2 2), 0x0F01)]

/-- A record of `CAP_DRIVES` (R484). -/
def checkDrives (r : List Byte) : Option Nat :=
  firstCode [(!(decide (r.length = 4) && decide (u8 r 0 ≤ 3) && decide (u8 r 1 ≤ 1) && within (u16 r 2) 100 16000), 0x0F01)]

/-- A record of `CAP_CHANNELS` by itself (R485). -/
def checkCapCh (r : List Byte) : Option Nat :=
  firstCode [(!(decide (r.length = 8) && decide (u8 r 0 ≤ 31) && decide (u8 r 1 ≤ 3) && decide (u8 r 2 ≤ 1) && decide (u8 r 3 ≤ 7)
    && (if u8 r 2 = 1 then decide (bits (u8 r 3) 2 1 ≠ 0) && within (u16 r 4) 100 16000
        else bits (u8 r 3) 2 1 == 0 && u16 r 4 == 0) && zeroAt r 6 2), 0x0F01)]

/-- A record of `CAP_PLAYERS` by itself (R485). -/
def checkPlayers (r : List Byte) : Option Nat :=
  firstCode [(!(decide (r.length = 4) && decide (u8 r 0 ≤ 31) && decide (u8 r 1 ≤ 3) && decide (u8 r 2 ≤ 1) && zeroAt r 3 1), 0x0F01)]

/-- The record of `BOOT_GLOBAL` (R505). -/
def checkBoot (r : List Byte) : Option Nat :=
  firstCode [(!(decide (r.length = 4) && decide (u8 r 0 ≤ 2) && zeroAt r 1 3), 0x1005)]

/-- The record of `LAN_GLOBAL` (R555). -/
def checkLan (r : List Byte) : Option Nat :=
  firstCode [(!(decide (r.length = 4) && within (u8 r 0) 1 3 && zeroAt r 1 1 && within (u16 r 2) 5 3600), 0x110B)]

/-- The record of `FLT_GLOBAL` (R573). -/
def checkFlt (r : List Byte) : Option Nat :=
  firstCode [(!(decide (r.length = 4) && within (u16 r 0) 10 1000 && within (u8 r 2) 2 255 && within (u8 r 3) 1 16), 0x1201)]

/-- The record of `LOG_GLOBAL` (R591). -/
def checkLog (r : List Byte) : Option Nat :=
  firstCode [(!(decide (r.length = 4) && decide (u8 r 0 ≤ 5) && decide (u8 r 1 ≤ 5) && within (u8 r 2) 1 60 && zeroAt r 3 1), 0x1301)]

/-- The record of `FAB_GLOBAL` (R638, R639). -/
def checkFab (r : List Byte) : Option Nat :=
  firstCode [(!(decide (r.length = 16) && within (u16 r 0) 64 4096 && decide (1 ≤ u8 r 2) && decide (1 ≤ u8 r 3)
    && (List.range 9).all (fun i => decide (1 ≤ u8 r (4 + i))) && zeroAt r 13 3), 0x1501)]

/-- The record of `PWR_GLOBAL` (R652). -/
def checkPwr (r : List Byte) : Option Nat :=
  firstCode [(!(decide (r.length = 8) && decide (u16 r 0 ≤ 10000) && within (u8 r 2) 70 110 && within (u8 r 3) 80 115
    && decide (u8 r 2 < u8 r 3) && decide (u8 r 4 ≤ 1) && zeroAt r 5 3), 0x1601)]

/-- The code of an audio record that fails its checks, which R244 does not name. -/
def audParam : Nat := Config.audSectionCode

/-- The first-pass check of one record of a section (R502): `td` is the domain byte of R548, used by type 0x0101 only, and
`w`, `h` the raster of the composer a layout names. -/
def checkAlone (ty td w h : Nat) (r : List Byte) : Option Nat :=
  if ty = tyTick then checkTick td r else if ty = tySources then checkSources r else if ty = tyDests then checkDests r
  else if ty = tyRoutes ∨ ty = tyPilotRoutes then checkRoutes r else if ty = tyFstSources then checkFstSources r
  else if ty = tyFstGlobal then checkFstGlobal r else if ty = tyArb then checkArb r else if ty = tyComposers then checkComposers r
  else if ty = tyLuts then checkLuts r else if ty = tyLayouts then checkLayout w h r
  else if ty = tySrcCh then checkAudCh audParam false r else if ty = tyDstCh then checkAudCh audParam true r
  else if ty = tyLists then checkLists audParam r else if ty = tyMaps then checkMaps audParam r
  else if ty = tyAudPorts then checkAudPorts audParam r
  else if ty = tyRx then checkFlow false r else if ty = tyTx then checkFlow true r
  else if ty = tyMacPorts then checkMacPorts r else if ty = tyMacAddrs then checkMacAddrs r else if ty = tyMacGates then checkMacGates r
  else if ty = tyLanes then checkLanes r else if ty = tySdi then checkSdi r else if ty = tySplice then checkSplice r
  else if ty = tyEntries then checkEntries r else if ty = tyRefs then checkRefs r else if ty = tyOutputs then checkOutputs r
  else if ty = tyPtp then checkPtp r else if ty = tySpl then checkSpl r else if ty = tySplPorts then checkSplPorts r
  else if ty = tySplDomains then checkSplDomains r else if ty = tyTwin then checkTwin r
  else if ty = tyGens then checkGens r else if ty = tyTones then checkTones r else if ty = tyFwa then checkFwa r
  else if ty = tyFwaSources then checkFwaSources r else if ty = tyPcie then checkPcie r else if ty = tyDrives then checkDrives r
  else if ty = tyCapCh then checkCapCh r else if ty = tyPlayers then checkPlayers r else if ty = tyBoot then checkBoot r
  else if ty = tyLan then checkLan r else if ty = tyFlt then checkFlt r else if ty = tyLog then checkLog r
  else if ty = tyFab then checkFab r else if ty = tyPwr then checkPwr r
  else some 0x1004

/-- The index by which a record stands in its section: the one that may not appear twice. -/
def recordIndex (ty td : Nat) (r : List Byte) : Nat :=
  if ty = tyTick then td
  else if ty = tySources ∨ ty = tyDests ∨ ty = tyRoutes ∨ ty = tyPilotRoutes ∨ ty = tyFstSources ∨ ty = tyLuts ∨ ty = tySrcCh ∨ ty = tyDstCh
    ∨ ty = tyLists ∨ ty = tyMaps ∨ ty = tyRx ∨ ty = tyTx ∨ ty = tyFwaSources then u16 r 0
  else if ty = tyMacAddrs ∨ ty = tyMacGates then u8 r 0 * 8 + u8 r 1
  else if ty = tyTones then u8 r 0 * 16 + u8 r 1
  else if singleRecord ty then 0
  else u8 r 0

/-! ## Fields that the meanings read -/

/-- Whether a record is in force. -/
def Chip.hasRec (c : Chip) (ty i : Nat) : Bool := (c.record ty i) != []

/-- The domain assigned to an external destination (R105). -/
def Chip.dstTdSet (c : Chip) (d : Nat) : Nat := u8 (c.record tyDests d) 2

/-- The fallback code of a destination (R97, R105). -/
def Chip.dstFallback (c : Chip) (d : Nat) : Nat := u8 (c.record tyDests d) 3

/-- The alternate source of a destination, 0x7FF without one (R105). -/
def Chip.dstAlt (c : Chip) (d : Nat) : Nat := if c.dstFallback d = 2 then u16 (c.record tyDests d) 4 else noSource

/-- Whether `TAKE_APPLIED` goes to class 0 for every take of a destination (R105, R535). -/
def Chip.dstAlways (c : Chip) (d : Nat) : Bool := bit (u8 (c.record tyDests d) 6) 0

/-- The mode of a source: 0 `LINE`, 1 `FRAME`, 2 `AUTO` (R104). -/
def Chip.srcMode (c : Chip) (s : Nat) : Nat := c.fld Reg.XPT_SRC_CFG_MODE s

/-- The SDI binding whose receiver is a source's ingress (R340): the first SDI lane. -/
def Chip.srcSdi (c : Chip) (s : Nat) : Option Nat :=
  (c.listed tySdi).find? (fun l => bit (u8 (c.record tySdi l) 2) 0 && u16 (c.record tySdi l) 4 == s)

/-- The SDI binding whose transmitter is a destination's video egress (R340). -/
def Chip.dstSdi (c : Chip) (d : Nat) : Option Nat :=
  (c.listed tySdi).find? (fun l => bit (u8 (c.record tySdi l) 2) 1 && u16 (c.record tySdi l) 6 == d)

/-- Whether a flow record is enabled (R248). -/
def flowOn (r : List Byte) : Bool := bit (u8 r 3) 0

/-- The kind of a flow record (R247). -/
def flowKind (r : List Byte) : Nat := u8 r 2

/-- Whether a kind is a video ingress or egress of its own: 0, 1 or 5 (R248). -/
def videoKind (k : Nat) : Bool := k == 0 || k == 1 || k == 5

/-- The enabled receive flow that is a source's ingress (R248). -/
def Chip.srcFlow (c : Chip) (s : Nat) : Option Nat :=
  (c.listed tyRx).find? (fun f => flowOn (c.record tyRx f) && videoKind (flowKind (c.record tyRx f)) && u16 (c.record tyRx f) 4 == s)

/-- The enabled transmit flow that is a destination's video egress (R248). -/
def Chip.dstFlow (c : Chip) (d : Nat) : Option Nat :=
  (c.listed tyTx).find? (fun f => flowOn (c.record tyTx f) && videoKind (flowKind (c.record tyTx f)) && u16 (c.record tyTx f) 4 == d)

/-- Whether a composer is enabled (R208). -/
def Chip.cmpOn (c : Chip) (i : Nat) : Bool := bit (u8 (c.record tyComposers i) 8) 0

/-- The domain of a composer (R208). -/
def Chip.cmpTd (c : Chip) (i : Nat) : Nat := u8 (c.record tyComposers i) 1

/-- The raster width of a composer (R208). -/
def Chip.cmpWidth (c : Chip) (i : Nat) : Nat := u16 (c.record tyComposers i) 2

/-- The raster height of a composer (R208). -/
def Chip.cmpHeight (c : Chip) (i : Nat) : Nat := u16 (c.record tyComposers i) 4

/-- Whether a generator is enabled (R448). -/
def Chip.genOn (c : Chip) (i : Nat) : Bool := bit (u8 (c.record tyGens i) 4) 0

/-- Whether a player is enabled (R485). -/
def Chip.playerOn (c : Chip) (i : Nat) : Bool := bit (u8 (c.record tyPlayers i) 2) 0

/-- Whether a capture channel is enabled (R485). -/
def Chip.capOn (c : Chip) (i : Nat) : Bool := bit (u8 (c.record tyCapCh i) 3) 0

/-- The level of a capture channel: 0 essence, 1 packet (R461, R485). -/
def Chip.capLevel (c : Chip) (i : Nat) : Nat := u8 (c.record tyCapCh i) 2

/-- The idle time of a session in seconds (R555). -/
def Chip.idleS (c : Chip) : Nat := if c.hasRec tyLan 0 then u16 (c.record tyLan 0) 2 else 30

/-- Whether a host port (0 HPA, 1 HPB) carries lanyard traffic (R518, R555). -/
def Chip.lanPort (c : Chip) (p : Nat) : Bool := if c.hasRec tyLan 0 then bit (u8 (c.record tyLan 0) 0) p else true

/-- The lowest severity placed in the ring (R591). -/
def Chip.ringSev (c : Chip) : Nat := if c.hasRec tyLog 0 then u8 (c.record tyLog 0) 0 else 1

/-- The lowest severity archived (R591). -/
def Chip.archSev (c : Chip) : Nat := if c.hasRec tyLog 0 then u8 (c.record tyLog 0) 1 else 1

/-- The seconds after which a freeze ends by itself (R583, R591). -/
def Chip.freezeS (c : Chip) : Nat := if c.hasRec tyLog 0 then u8 (c.record tyLog 0) 2 else 10

/-- The watchdog period of the service cores in ms (R573). -/
def Chip.wdMs (c : Chip) : Nat := if c.hasRec tyFlt 0 then u16 (c.record tyFlt 0) 0 else 100

/-- The run of TAKE overruns that stalls a domain (R559, R573). -/
def Chip.takeOvrLimit (c : Chip) : Nat := if c.hasRec tyFlt 0 then u8 (c.record tyFlt 0) 2 else 8

/-- The warm restarts allowed in 600 s (R568, R573). -/
def Chip.restartLimit (c : Chip) : Nat := if c.hasRec tyFlt 0 then u8 (c.record tyFlt 0) 3 else 4

/-- The splice device ID (R425). -/
def Chip.deviceId (c : Chip) : Nat := u16 (c.record tySpl 0) 0

/-- The rank of the device in tick master elections (R425). -/
def Chip.rank (c : Chip) : Nat := if c.hasRec tySpl 0 then u8 (c.record tySpl 0) 2 else 255

/-- Whether twin mode is enabled (R428). -/
def Chip.twinOn (c : Chip) : Bool := bit (u8 (c.record tyTwin 0) 0) 0

/-- The budget of a domain for crossing routes in ns (R427). -/
def Chip.budgetNs (c : Chip) (td : Nat) : Nat := u32 (c.record tySplDomains td) 4

end Sys2Proof.Machine
end

