-- ==== Sys2Proof/Machine/Routes.lean ====
section
/-! DEFINITION. What the crosspoint, the composers and the allocators share: domains, sources, line windows, paths, line slots,
read-outs, pyramid sets, fetch budgets, and the acceptance checks of a take (R85). -/

namespace Sys2Proof.Machine

/-! ## Domains -/

/-- The state of a domain. -/
def Chip.dom (c : Chip) (td : Nat) : Domain := Tbl.get Domain.reset c.tick.domains td

/-- Changes the state of a domain. -/
def Chip.modDom (c : Chip) (td : Nat) (f : Domain → Domain) : Chip :=
  { c with tick := { c.tick with domains := Tbl.upd Domain.reset c.tick.domains td f } }

/-- Whether a domain is enabled (R44, R74). -/
def Chip.tdOn (c : Chip) (td : Nat) : Bool := c.isSet (Reg.TICK_TD_CFG_ENABLE td) 0

/-- The rate code set for a domain (R74). -/
def Chip.tdRate (c : Chip) (td : Nat) : Nat := c.fld (Reg.TICK_TD_CFG_RATE td) 0

/-- The frame period in force of a domain. -/
def Chip.period (c : Chip) (td : Nat) : Nat := framePeriod (c.dom td).rate

/-- Whether full service has begun in a domain (R102, R508). -/
def Chip.fullIn (c : Chip) (td : Nat) : Bool := (c.dom td).fullTick

/-- Whether pilot service is in effect (R110). -/
def Chip.pilot (c : Chip) : Bool := c.isSet Reg.XPT_STATUS_PILOT 0

/-! ## Destinations -/

/-- The state of a destination. -/
def Chip.dst (c : Chip) (d : Nat) : Dst := Tbl.get Dst.reset c.xpt.dsts d

/-- Changes the state of a destination. -/
def Chip.modDst (c : Chip) (d : Nat) (f : Dst → Dst) : Chip :=
  { c with xpt := { c.xpt with dsts := Tbl.upd Dst.reset c.xpt.dsts d f } }

/-- The composer of a layer input, and its layer (R2). -/
def layerCmp (d : Nat) : Nat := (d - 1024) / 16
def layerNo (d : Nat) : Nat := (d - 1024) % 16

/-- The domain a destination is in: its own, its composer's or its capture channel's (R45, R105, R485). -/
def Chip.dstTd (c : Chip) (d : Nat) : Nat :=
  if isExternalDst d then (c.dst d).td
  else if isLayerInput d then c.cmpTd (layerCmp d)
  else u8 (c.record tyCapCh (d - 1536)) 1

/-- The route of a destination on a level (0 video, 1 ancillary, 2 audio-follow) (R77). -/
def Chip.route (c : Chip) (d lvl : Nat) : Option Route := Tbl.get none c.xpt.routes (d * 4 + lvl)

/-- Sets a route. -/
def Chip.setRoute (c : Chip) (d lvl : Nat) (r : Option Route) : Chip :=
  { c with xpt := { c.xpt with routes := Tbl.put none c.xpt.routes (d * 4 + lvl) r } }

/-- The source of a route as the route registers show it (R80). -/
def Chip.routeSrc (c : Chip) (d lvl : Nat) : Nat := match c.route d lvl with | none => noSource | some r => r.src

/-- Whether a destination is a capture input at packet level. -/
def Chip.packetCapture (c : Chip) (d : Nat) : Bool := isCapture d && c.capLevel (d - 1536) == 1

/-- The output format of an external destination: its SDI format in force (R324), or the format of its kind 0 flow (R57, R58). -/
def Chip.dstFormat (c : Chip) (d : Nat) : Option Format :=
  if isExternalDst d then
    match c.dstSdi d with
    | some l =>
      let f := ((Tbl.get LaneSt.reset c.lne.lanes (152 + l)).tx).getD (u8 (c.record tySdi l) 8, u8 (c.record tySdi l) 9)
      rasterFormat f.1 f.2
    | none =>
      match c.dstFlow d with
      | some f => if flowKind (c.record tyTx f) = 0 then some (flowFormat (bytesAt (c.record tyTx f) 96 16)) else none
      | none => none
  else none

/-- How long after its tick a destination's switch point lies, beside the output delay: (switching line − 1) line periods; a
layer input switches at the tick itself (R57 to R59, R197). -/
def Chip.switchOffset (c : Chip) (d : Nat) : Nat :=
  if isLayerInput d then 0
  else
    let p := match c.dstFormat d with | some f => switchLine f | none => (7, 1125)
    (p.1 - 1) * c.period (c.dstTd d) / p.2

/-- The switch point of a destination in the frame that starts at `tick` (R59, R197). -/
def Chip.switchAt (c : Chip) (d tick : Nat) : Nat :=
  if isLayerInput d then tick else tick + nsU (c.dom (c.dstTd d)).outDelay + c.switchOffset d

/-! ## Sources -/

/-- The state of a source. -/
def Chip.src (c : Chip) (s : Nat) : Source := Tbl.get Source.reset c.xpt.srcs s

/-- Changes the state of a source. -/
def Chip.modSrc (c : Chip) (s : Nat) (f : Source → Source) : Chip :=
  { c with xpt := { c.xpt with srcs := Tbl.upd Source.reset c.xpt.srcs s f } }

/-- Whether an internal source is enabled. -/
def Chip.internalOn (c : Chip) (s : Nat) : Bool :=
  if isGenerator s then c.genOn (s - 1024) else if isComposer s then c.cmpOn (s - 1056)
  else if isPlayer s then c.playerOn (s - 1088) else false

/-- The domain of an internal source. -/
def Chip.internalTd (c : Chip) (s : Nat) : Nat :=
  if isGenerator s then u8 (c.record tyGens (s - 1024)) 1 else if isComposer s then c.cmpTd (s - 1056)
  else u8 (c.record tyPlayers (s - 1088)) 1

/-- Whether a source has an ingress, or is an internal source that is enabled (`XPT.SRC_STATE.BOUND`, R23, R108). -/
def Chip.bound (c : Chip) (s : Nat) : Bool :=
  if isExternalSrc s then (c.srcSdi s).isSome || (c.srcFlow s).isSome else c.internalOn s

/-- Whether a source is an ST 2110-22 flow (R25). -/
def Chip.is22 (c : Chip) (s : Nat) : Bool :=
  isExternalSrc s && (match c.srcFlow s with | some f => flowKind (c.record tyRx f) == 1 | none => false)

/-- The format of a source, when it is known. -/
def Chip.srcFormat (c : Chip) (s : Nat) : Option Format :=
  if isExternalSrc s then
    match c.srcFlow s with
    | some f => if flowKind (c.record tyRx f) = 0 then some (flowFormat (bytesAt (c.record tyRx f) 96 16)) else (c.src s).format
    | none => if (c.srcSdi s).isSome then (c.src s).format else none
  else if c.internalOn s then
    (if isGenerator s then rasterFormat (u8 (c.record tyGens (s - 1024)) 2) (c.tdRate (c.internalTd s))
     else if isComposer s then
       some ⟨c.cmpWidth (s - 1056), c.cmpHeight (s - 1056), u8 (c.record tyComposers (s - 1056)) 6, 0, 10, c.tdRate (c.internalTd s)⟩
     else (c.src s).format)
  else none

/-- The nominal rate of a source, when it is known (R67). -/
def Chip.srcRate (c : Chip) (s : Nat) : Option Nat :=
  if isExternalSrc s then
    (if c.is22 s then
       match c.srcFlow s with
       | some f => some (u8 (c.record tyRx f) 101)
       | none => none
     else (c.srcFormat s).map Format.rate)
  else if c.internalOn s then some (c.tdRate (c.internalTd s)) else none

/-- The lead of a source against a domain (R66). -/
def Chip.lead (c : Chip) (s td : Nat) : SrcLead := Tbl.get SrcLead.reset (c.src s).leads td

/-- Whether a source lies in the line window of a domain, by the lead measured at the domain's latest tick (R66, R67). -/
def Chip.inWindow (c : Chip) (s td : Nat) : Bool :=
  if isExternalSrc s then c.srcRate s == some (c.tdRate td) && (c.src s).freqLock && (c.lead s td).inWindow
  else c.internalOn s && c.internalTd s == td

/-- The path on which a source is served to a destination now (R25, R67, R81, R101). -/
def Chip.servePath (c : Chip) (s d td : Nat) (dev : Option Nat) : Path :=
  if dev.isSome then .line
  else if c.packetCapture d then .packet
  else if !(c.bound s) then .none
  else if c.is22 s then .packet
  else if isLayerInput d then .frame
  else if !(c.fullIn td) then .line
  else if c.srcMode s = 0 then .line
  else if c.srcMode s = 1 then .frame
  else if c.inWindow s td then .line else .frame

/-! ## Line slots (R31) -/

/-- The key of a pair of source and domain; a source of another device has pairs of its own. -/
def pairKey (dev : Option Nat) (s td : Nat) : Nat :=
  match dev with
  | none => s * 4 + td
  | some v => ((v + 1) * 2048 + s) * 4 + td

/-- The pairs that a route on a level reads from the line store (R31). -/
def routePairs (d lvl td s : Nat) (dev : Option Nat) (p : Path) : List Nat :=
  if isLayerInput d then []
  else match p with
    | .none => []
    | .packet => []
    | .line => if lvl = 2 then [] else [pairKey dev s td]
    | .frame => [pairKey dev s td]

/-- The levels of a mask. -/
def levelsOf (mask : Nat) : List Nat := [0, 1, 2].filter (fun l => bit mask l)

/-- The routes in force: destination, level, route. -/
def Chip.routesList (c : Chip) : List (Nat × Nat × Route) :=
  c.xpt.routes.filterMap (fun e => e.2.map (fun r => (e.1 / 4, e.1 % 4, r)))

/-- The level of a destination by number. -/
def Dst.lvl (x : Dst) (l : Nat) : Level := if l = 0 then x.video else if l = 1 then x.anc else x.follow

/-- A destination with one of its levels changed. -/
def Dst.withLvl (x : Dst) (l : Nat) (v : Level) : Dst :=
  if l = 0 then { x with video := v } else if l = 1 then { x with anc := v } else { x with follow := v }

/-- The alternate sources in use (R99): destination, level, source, path. -/
def Chip.altsList (c : Chip) : List (Nat × Nat × Nat × Path) :=
  c.xpt.dsts.flatMap (fun e => ([0, 1, 2].filter (fun l => (e.2.lvl l).state == .alt)).map
    (fun l => (e.1, l, c.dstAlt e.1, (e.2.lvl l).altPath)))

/-- The pairs that a take claims from acceptance on (R31). -/
def Chip.takePairs (c : Chip) (q : Take) : List Nat :=
  if q.held ∨ q.deferred then []
  else (levelsOf q.levels).flatMap (fun l => routePairs q.dst l (c.dstTd q.dst) q.src q.dev q.path)

/-- The pairs in use or claimed: by routes in force, by accepted takes, by accepted changes of domain (R31, R675). -/
def Chip.pairs (c : Chip) : List Nat :=
  dedup (c.routesList.flatMap (fun e => routePairs e.1 e.2.1 (c.dstTd e.1) e.2.2.src e.2.2.dev e.2.2.path)
    ++ c.altsList.flatMap (fun e => routePairs e.1 e.2.1 (c.dstTd e.1) e.2.2.1 none e.2.2.2)
    ++ c.xpt.queue.flatMap c.takePairs
    ++ (c.xpt.dsts.flatMap (fun e => match e.2.newTd with
        | none => []
        | some n => (c.routesList.filter (fun r => r.1 == e.1)).flatMap
            (fun r => routePairs e.1 r.2.1 n.1 r.2.2.src r.2.2.dev (c.servePath r.2.2.src e.1 n.1 r.2.2.dev)))))

/-- The line slots used, those of the export streams included (R31, R402). -/
def Chip.slotsUsed (c : Chip) : Nat := c.pairs.length + c.spl.exports.length

/-- The line slots of the device (R30). -/
def lineSlots : Nat := 1152

/-! ## Read-out engines and slot tables (R42, R131, R148, R149, R156) -/

/-- Whether a route on the frame path is served by a read-out engine of its pair. -/
def readoutPairs (d td s : Nat) (dev : Option Nat) (p : Path) : List Nat :=
  if !(isLayerInput d) && p == .frame && dev.isNone then [s * 4 + td] else []

/-- The pairs served by read-out engines, or claimed by accepted takes; an export has an engine of its own, at 2^20 above its pair's key (R402). -/
def Chip.readouts (c : Chip) : List Nat :=
  dedup (c.routesList.flatMap (fun e => readoutPairs e.1 (c.dstTd e.1) e.2.2.src e.2.2.dev e.2.2.path)
    ++ c.altsList.flatMap (fun e => readoutPairs e.1 (c.dstTd e.1) e.2.2.1 none e.2.2.2)
    ++ c.xpt.queue.flatMap (fun q => if q.held ∨ q.deferred then [] else readoutPairs q.dst (c.dstTd q.dst) q.src q.dev q.path)
    ++ c.spl.exports.map (fun x => 2 ^ 20 + x.src * 4 + x.td)
    ++ (c.xpt.dsts.flatMap (fun e => match e.2.newTd with
        | none => []
        | some n => (c.routesList.filter (fun r => r.1 == e.1)).flatMap
            (fun r => readoutPairs e.1 n.1 r.2.2.src r.2.2.dev (c.servePath r.2.2.src e.1 n.1 r.2.2.dev)))))

/-- The raw bytes of a frame of a format; an unknown format counts as 2160p60 4:2:2 10-bit (R118, R149). -/
def frameBytes (f : Option Format) : Nat := match f with | some f => lineBytes f * f.height | none => 20736000

/-- The raw bytes of a format's pyramid (R128, R130). -/
def pyramidBytes (f : Option Format) : Nat :=
  match f with
  | some f =>
    let w1 := ceilDiv f.width 2; let h1 := ceilDiv f.height 2
    lineBytes { f with width := w1 } * h1 + lineBytes { f with width := ceilDiv w1 2 } * ceilDiv h1 2
  | none => 6480000

/-- The frame period that a format's bandwidth is reckoned with: 60 Hz where it is unknown (R149). -/
def formatPeriod (f : Option Format) : Nat := match f with | some f => framePeriod f.rate | none => 450000000

/-- A common multiple of every frame period, so that bandwidths of different rates add up exactly. -/
def periodLcm : Nat := 27027000000000

/-- The slots of a total bandwidth, as a sum of bytes per frame over period (R149): ceil(B · 125 µs / (64 · 512)). -/
def slotsFor (l : List (Nat × Nat)) : Nat :=
  ceilDiv ((l.map (fun e => e.1 * 3375000 * (periodLcm / max e.2 1))).sum) (32768 * periodLcm)

/-- The bound external sources that ingress writes as essence (R25, R149). -/
def Chip.ingestSources (c : Chip) : List Nat :=
  dedup (((c.listed tySdi).filterMap (fun l => if bit (u8 (c.record tySdi l) 2) 0 then some (u16 (c.record tySdi l) 4) else none))
    ++ ((c.listed tyRx).filterMap (fun f =>
        if flowOn (c.record tyRx f) && (flowKind (c.record tyRx f) == 0 || flowKind (c.record tyRx f) == 5)
        then some (u16 (c.record tyRx f) 4) else none)))

/-- The slots per channel of `INGEST` (R149). -/
def Chip.ingestSlots (c : Chip) : Nat :=
  slotsFor (c.ingestSources.map (fun s => (frameBytes (c.srcFormat s) + pyramidBytes (c.srcFormat s), formatPeriod (c.srcFormat s))))

/-- The slots per channel of `READOUT` for given read-out pairs (R149). -/
def Chip.readoutSlots (c : Chip) (ps : List Nat) : Nat :=
  slotsFor (ps.map (fun k => (frameBytes (c.srcFormat (k % 2 ^ 20 / 4)), formatPeriod (c.srcFormat (k % 2 ^ 20 / 4)))))

/-- The slots of `CMPF` and of `STAGE` (R149). -/
def cmpfSlots : Nat := 1215
def stageSlots : Nat := 458

/-- The slots owned with given read-out pairs (R149, R156). -/
def Chip.ownedWith (c : Chip) (ps : List Nat) : Nat := c.ingestSlots + c.readoutSlots ps + cmpfSlots + stageSlots

/-- The largest number of owned slots (R148). -/
def ownedLimit : Nat := 14641

/-! ## Composer geometry and fetch (R185 to R192) -/

/-- The least power of two p, up to 2^fuel, with num / (unit · p) ≤ 2 (R185). -/
def prefilter (num unit : Nat) : Nat → Nat → Nat
  | 0, p => p
  | fuel + 1, p => if num ≤ 2 * unit * p then p else prefilter num unit fuel (2 * p)

/-- A layer's scaling (R185): crop width and height in source samples, level, prefilter factors, width after the prefilter. -/
structure Scale where
  cw : Nat
  ch : Nat
  level : Nat
  ph : Nat
  pv : Nat
  width : Nat
  deriving DecidableEq, Repr

/-- The scaling of a layer record at a given level. -/
def scaleAt (r : List Byte) (sw sh level : Nat) : Scale :=
  let cw := max 1 (ceilDiv (u16 r 20 * sw) 32768)
  let ch := max 1 (ceilDiv (u16 r 22 * sh) 32768)
  let ph := prefilter cw (2 ^ level * u16 r 12) 16 1
  let pv := prefilter ch (2 ^ level * u16 r 14) 16 1
  { cw := cw, ch := ch, level := level, ph := ph, pv := pv, width := ceilDiv (ceilDiv cw (2 ^ level)) ph }

/-- The proxy level that R185 computes. -/
def scaleLevel (r : List Byte) (sw sh : Nat) : Nat :=
  let cw := max 1 (ceilDiv (u16 r 20 * sw) 32768)
  let ch := max 1 (ceilDiv (u16 r 22 * sh) 32768)
  if u8 r 0 = 1 ∧ 4 * u16 r 12 ≤ cw ∧ 4 * u16 r 14 ≤ ch then 2
  else if u8 r 0 = 1 ∧ 2 * u16 r 12 ≤ cw ∧ 2 * u16 r 14 ≤ ch then 1 else 0

/-- The parameters of R185. -/
def layerParams (r : List Byte) (sw sh : Nat) : Scale := scaleAt r sw sh (scaleLevel r sw sh)

/-- Whether a layer's ratios lie outside the limits of R185: 1/8 to 64. -/
def scaleRangeBad (r : List Byte) (sw sh : Nat) : Bool :=
  let p := layerParams r sw sh
  !(decide (u16 r 12 ≤ 8 * p.cw) && decide (p.cw ≤ 64 * u16 r 12) && decide (u16 r 14 ≤ 8 * p.ch) && decide (p.ch ≤ 64 * u16 r 14))

/-- The position, in 1/256 of a prefiltered sample, of the centre of output pixel `x` of `n` in `m` prefiltered samples (R186). -/
def mapPos (x n cnt unit : Nat) : Int :=
  Int.ofNat ((2 * x + 1) * cnt * 256) / Int.ofNat (2 * max n 1 * max unit 1) - 128

/-- Keeps a sample number within the crop: samples outside it repeat its edge (R186). -/
def clampTo (v : Int) (n : Nat) : Nat := if v < 0 then 0 else min v.toNat (n - 1)

/-- The level tiles along one axis (tile size `ts`) that output pixels `x0` to `x1` of a rectangle of `n` pixels reach, for a crop of
`cnt` source samples starting at source sample `o` (R186, R190). -/
def axisTiles (x0 x1 n o cnt level p ts : Nat) : List Nat :=
  let m := ceilDiv (ceilDiv cnt (2 ^ level)) p
  let lo := clampTo (mapPos x0 n cnt (2 ^ level * p) / 256) m
  let hi := clampTo (mapPos x1 n cnt (2 ^ level * p) / 256 + 1) m
  let base := o / 2 ^ level
  let a := (base + lo * p) / ts
  let b := (base + min (hi * p + p - 1) (ceilDiv cnt (2 ^ level) - 1)) / ts
  (List.range (b + 1 - a)).map (fun i => a + i)

/-- Whether a layer record covers an output tile of 64 pixels by 16 lines. -/
def covers (r : List Byte) (tx ty : Nat) : Bool :=
  u8 r 0 != 0 && decide (tx * 64 < u16 r 8 + u16 r 12) && decide (u16 r 8 < tx * 64 + 64)
    && decide (ty * 16 < u16 r 10 + u16 r 14) && decide (u16 r 10 < ty * 16 + 16)

/-- Whether a layer is opaque at an output tile (R190); `full` tells whether every contributing surface pixel has full alpha. -/
def opaqueAt (w h : Nat) (r : List Byte) (full : Bool) (tx ty : Nat) : Bool :=
  decide (u16 r 8 ≤ tx * 64) && decide (min (tx * 64 + 64) w ≤ u16 r 8 + u16 r 12)
    && decide (u16 r 10 ≤ ty * 16) && decide (min (ty * 16 + 16) h ≤ u16 r 10 + u16 r 14)
    && u16 r 24 == 1023 && ((u8 r 26 == 0 && u8 r 0 != 0) || (u8 r 0 == 2 && u8 r 26 == 2 && full))

/-- The top opaque layer of an output tile, plus one; 0 for none (R190). Layers are given from 0 upward. -/
def topOf (w h : Nat) (layers : List (List Byte × Bool)) (tx ty : Nat) : Nat :=
  (layers.zipIdx.foldl (fun a p => if opaqueAt w h p.1.1 p.1.2 tx ty then p.2 + 1 else a) 0)

/-- The level tiles (column, row) that a layer fetches: those that its needed output tiles reach (R190); `top` is the occlusion map. -/
def layerTiles (w h : Nat) (top : Nat → Nat → Nat) (l : Nat) (r : List Byte) (sw sh : Nat) (p : Scale) : List (Nat × Nat) :=
  let ox := u16 r 16 * sw / 32768
  let oy := u16 r 18 * sh / 32768
  ((List.range (ceilDiv h 16)).flatMap (fun ty => (List.range (ceilDiv w 64)).flatMap (fun tx =>
    if covers r tx ty && decide (top tx ty ≤ l + 1) then
      let x0 := max (tx * 64) (u16 r 8) - u16 r 8
      let x1 := min (tx * 64 + 64) (u16 r 8 + u16 r 12) - 1 - u16 r 8
      let y0 := max (ty * 16) (u16 r 10) - u16 r 10
      let y1 := min (ty * 16 + 16) (u16 r 10 + u16 r 14) - 1 - u16 r 10
      (axisTiles y0 y1 (u16 r 14) oy p.ch p.level p.pv 16).flatMap (fun b =>
        (axisTiles x0 x1 (u16 r 12) ox p.cw p.level p.ph 64).map (fun a => (a, b)))
    else []))).foldl (fun a x => if a.contains x then a else a ++ [x]) []

/-- The raw size of a tile of a format in bytes (R115). -/
def tileBytes (f : Option Format) : Nat := match f with | some f => ceilDiv (lineBytes { f with width := 64 } * 16) 64 * 64 | none => 2560

/-- The state of a layer. -/
def Chip.layer (c : Chip) (cmp l : Nat) : Layer := Tbl.get Layer.reset c.cmp.layers (cmp * 16 + l)

/-- Changes the state of a layer. -/
def Chip.modLayer (c : Chip) (cmp l : Nat) (f : Layer → Layer) : Chip :=
  { c with cmp := { c.cmp with layers := Tbl.upd Layer.reset c.cmp.layers (cmp * 16 + l) f } }

/-- A graphics surface, if it is allocated. -/
def Chip.surface (c : Chip) (i : Nat) : Option Surface := Tbl.get none c.cmp.surfaces i

/-- The layer records of a composer's layout in force. -/
def Chip.recordsOf (c : Chip) (cmp : Nat) : List (List Byte) := (List.range 16).map (fun l => (c.layer cmp l).record)

/-- Layer records with those of a layout put over them (R194). -/
def overlay (base : List (List Byte)) (body : List Byte) : List (List Byte) :=
  base.zipIdx.map (fun p => ((layoutRecords body).find? (fun q => q.1 == p.2)).elim p.1 Prod.snd)

/-- The layer records of a composer once every layout that waits for it has taken effect (R193). -/
def Chip.pendingRecords (c : Chip) (cmp : Nat) : List (List Byte) :=
  (c.cmp.layouts.filter (fun y => y.cmp == cmp && !y.held)).foldl (fun a y => overlay a y.body) (c.recordsOf cmp)

/-- The sources of a composer's layer inputs once every accepted take has applied. -/
def Chip.pendingSources (c : Chip) (cmp : Nat) : List Nat :=
  (List.range 16).map (fun l =>
    let d := 1024 + 16 * cmp + l
    (c.xpt.queue.filter (fun q => q.dst == d && !q.held && !q.deferred)).foldl (fun _ q => q.src) (c.routeSrc d 0))

/-- The size and format with which a layer is reckoned (R192): its source's, or its surface's. -/
def Chip.layerSize (c : Chip) (r : List Byte) (s : Nat) : Nat × Nat :=
  if u8 r 0 = 2 then match c.surface (u16 r 4) with | some g => (g.width, g.height) | none => (16, 16)
  else match c.srcFormat s with | some f => (f.width, f.height) | none => (3840, 2160)

/-- One layer as its fetch is reckoned (R192): record, size of what it shows, level (none: the one of R185), raw tile size, and whether it
fetches at all. -/
structure FetchItem where
  record : List Byte
  width : Nat
  height : Nat
  level : Option Nat
  bytes : Nat
  fetches : Bool
  deriving DecidableEq, Repr

/-- The bytes that the layers of a raster fetch in the worst case: a surface layer with alpha is never opaque (R192). -/
def fetchItems (w h : Nat) (items : List FetchItem) : Nat :=
  let ls := items.map (fun i => (i.record, false))
  ((items.zipIdx.map (fun p =>
    if p.1.fetches then
      let sc := match p.1.level with
        | some v => scaleAt p.1.record p.1.width p.1.height v
        | none => layerParams p.1.record p.1.width p.1.height
      (layerTiles w h (topOf w h ls) p.2 p.1.record p.1.width p.1.height sc).length * p.1.bytes
    else 0)).sum)

/-- The frame store writes of the internal sources that SOURCE layers show, once for each (R36, R192). -/
def Chip.internalWrites (c : Chip) (recs : List (List Byte)) (srcs : List Nat) : Nat :=
  ((dedup ((recs.zipIdx.filter (fun p => u8 p.1 0 == 1)).map (fun p => srcs.getD p.2 noSource))).filter
      (fun s => decide (1024 ≤ s) && decide (s < 1120) && c.bound s)).foldl
      (fun a s => a + frameBytes (c.srcFormat s) + pyramidBytes (c.srcFormat s)) 0

/-- The worst-case fetch F of layer records with given sources, at the levels R185 computes (R192). -/
def Chip.fetchF (c : Chip) (cmp : Nat) (recs : List (List Byte)) (srcs : List Nat) : Nat :=
  fetchItems (c.cmpWidth cmp) (c.cmpHeight cmp) (recs.zipIdx.map (fun p =>
    let s := srcs.getD p.2 noSource
    let sz := c.layerSize p.1 s
    { record := p.1, width := sz.1, height := sz.2, level := none, bytes := if u8 p.1 0 = 2 then 4096 else tileBytes (c.srcFormat s),
      fetches := u8 p.1 0 == 2 || (u8 p.1 0 == 1 && s != noSource && c.bound s) }))
  + c.internalWrites recs srcs

/-- The fetch budget of a composer in bytes per frame (R192). -/
def fetchBudget : Nat := 165888000

/-- Whether the output of composer `j` feeds composer `i`, directly or through others, by routes in force and accepted takes
(R37). -/
def Chip.feeds (c : Chip) : Nat → Nat → Nat → Bool
  | 0, _, _ => false
  | fuel + 1, j, i =>
    j == i || (List.range 32).any (fun k =>
      ((c.pendingSources k).contains (1056 + j) || (List.range 16).any (fun l => c.routeSrc (1024 + 16 * k + l) 0 == 1056 + j))
        && k != j && c.feeds fuel k i)

/-- Whether a take of `s` to layer input `d` would close a loop of composers (R37). -/
def Chip.closesLoop (c : Chip) (s d : Nat) : Bool := isComposer s && c.feeds 33 (layerCmp d) (s - 1056)

/-- The sources with a pyramid set in use or claimed (R129). -/
def Chip.pyramids (c : Chip) : List Nat :=
  dedup (((List.range 512).map (fun i => c.routeSrc (1024 + i) 0)).filter (fun s => s != noSource && c.bound s)
    ++ (c.xpt.queue.filter (fun q => isLayerInput q.dst && !q.held && !q.deferred && c.bound q.src)).map Take.src)

/-- The pyramid sets of the device (R129). -/
def pyramidSets : Nat := 512

/-! ## Acceptance of takes (R85 to R87) -/

/-- The take queue entries in use, audio takes included (R89, R225). -/
def Chip.queueUsed (c : Chip) : Nat := c.xpt.queue.length + c.xpt.audQueue.length

/-- The entries of the take queue (R89). -/
def queueSize : Nat := 16384

/-- The origin device of a take: none for a local source (R541). -/
def Chip.originOf (c : Chip) (dev : Nat) : Option Nat := if dev = 0xFFFF ∨ dev = c.deviceId then none else some dev

/-- Whether the take's layer input belongs to a composer that is not enabled (R177). -/
def Chip.cmpOff (c : Chip) (d : Nat) : Bool := isLayerInput d && !(c.cmpOn (layerCmp d))

/-- Whether a not-before time lies more than 3600 s after device time (R85, check 12). -/
def Chip.badTime (c : Chip) (nb : Option (Nat × Nat)) : Bool :=
  match nb with
  | none => false
  | some p => decide (c.deviceQ + 3600 * qSec < qOf p.1 p.2)

/-! ## Splice steps and reservations (R328 to R330, R405 to R409) -/

/-- The steps of a splice port. -/
def Chip.stepSt (c : Chip) (p : Nat) : StepSt := Tbl.get StepSt.reset c.lne.ports p

/-- Changes the steps of a splice port. -/
def Chip.modStep (c : Chip) (p : Nat) (f : StepSt → StepSt) : Chip :=
  { c with lne := { c.lne with ports := Tbl.upd StepSt.reset c.lne.ports p f } }

/-- The `MAX_STEP` of a splice port. -/
def Chip.maxStep (c : Chip) (p : Nat) : Nat := u8 (c.record tySplice p) 1

/-- The port rate of a step in 0.1 Gb/s (R328). -/
def stepRate (s : Nat) : Nat := 500 * 2 ^ s

/-- The rate a port offers in 0.1 Gb/s: during a step change half the port rate of the lower step (R407). -/
def Chip.portRate (c : Chip) (p : Nat) : Nat :=
  match (c.stepSt p).change with
  | some x => stepRate (min x.old x.new) / 2
  | none => stepRate (c.fld Reg.SPL_P_STATE_STEP p)

/-- The reserved transmit total of a port in 0.1 Gb/s: its exports, and the streams it relays that way (R407). -/
def Chip.txTotal (c : Chip) (p : Nat) : Nat :=
  ((c.spl.exports.filter (fun x => x.ports.contains p)).map Export.reserve).sum + ((c.spl.relays.filter (fun x => x.outPort == p)).map Relay.reserve).sum

/-- The reserved receive total of a port: the streams imported and relayed from it, each once (R407). -/
def Chip.rxTotal (c : Chip) (p : Nat) : Nat :=
  ((c.spl.imports.filter (fun x => x.port == p)).map Import.reserve).sum
    + ((c.spl.relays.filter (fun x => x.inPort == p && !(c.spl.imports.any (fun y => y.port == p && y.dev == x.origin && y.stream == x.stream)))).map Relay.reserve).sum

/-- The reserved total of the busier direction of a port (R409). -/
def Chip.busier (c : Chip) (p : Nat) : Nat := max (c.txTotal p) (c.rxTotal p)

/-- Whether a reservation more fits a direction's 90 % of the rate the port offers (R407). -/
def Chip.fits (c : Chip) (p total reserve : Nat) : Bool := decide (10 * (total + reserve) ≤ 9 * c.portRate p)

/-- `AUTO_STEP` of this device (R425). -/
def Chip.autoStep (c : Chip) : Bool := bit (u8 (c.record tySpl 0) 3) 1

/-- The target step of a port (R329, R409). -/
def Chip.targetStep (c : Chip) (p : Nat) : Nat :=
  let x := c.stepSt p
  match x.farMax with
  | none => 0
  | some m =>
    let top := min (c.maxStep p) m
    let s := c.fld Reg.SPL_P_STATE_STEP p
    let low := match x.lowSince with | some u => decide (u + secU 60 ≤ c.now) | none => false
    let ask := if 40 * stepRate s < 100 * c.busier p ∨ x.wanting = true then s + 1 else if low then s - 1 else s
    if c.autoStep && x.farAuto then min top (max (u8 (c.record tySplPorts p) 1) ask) else top

/-- Judges a port's load after its reservations or its step have changed (R409). -/
def Chip.judgeLoad (c : Chip) (p : Nat) : Chip :=
  let low := decide (100 * c.busier p ≤ 15 * stepRate (c.fld Reg.SPL_P_STATE_STEP p))
  let c1 := c.modStep p (fun x => { x with lowSince := if low then (if x.lowSince.isSome then x.lowSince else some c.now) else none })
  c1.set Reg.SPL_P_STATE_TARGET p (c1.targetStep p)

/-- Judges every port's load (R409). -/
def Chip.judgeLoads (c : Chip) : Chip := (List.range 8).foldl (fun a p => if (a.stepSt p).farMax.isSome then a.judgeLoad p else a) c

/-- Whether this device is the standby of a twin pair (R420). -/
def Chip.standby (c : Chip) : Bool := c.twinOn && c.fld Reg.SPL_TWIN_ROLE 0 == 2

/-- Whether a twin device holds its handover outputs and its flows: it is not the active one (R419, R420). -/
def Chip.twinHeld (c : Chip) : Bool := c.twinOn && c.fld Reg.SPL_TWIN_ROLE 0 != 1

/-- Whether the DPLL is led by a splice system, or by the active twin, in place of the priority table (R410, R412, R420). -/
def Chip.spliceLed (c : Chip) : Bool := c.standby || (decide (1 < c.spl.members.length) && c.spl.master != some c.deviceId)

/-- The alignment epoch of this device (R414). -/
def Chip.epoch (c : Chip) : Nat := c.fld Reg.SPL_EPOCH_EPOCH 0

/-- What is known of a device of the topology (R395). -/
def Chip.linkState (c : Chip) (dev : Nat) : Option LinkState := c.spl.topo.find? (fun x => x.id == dev)

/-- Check 11 of R85 by what this device knows of a crossing route: the conditions of R405, but for the capacity of its own port. -/
def Chip.pathRefused (c : Chip) (dev td : Nat) (r : Remote) : Bool :=
  !r.granted || c.spl.master.isNone || c.twinOn || !(c.tdOn td) || c.budgetNs td == 0 || decide (c.budgetNs td < r.latency)
    || (match c.linkState dev with | some x => x.epoch != c.epoch | none => true)

/-- Whether only the capacity of its own port stands in the way of a crossing route (R407, R409). -/
def Chip.portFull (c : Chip) (dev src td : Nat) (r : Remote) : Bool :=
  !(c.spl.imports.any (fun x => x.pair == pairKey (some dev) src td)) && !(c.fits r.port (c.rxTotal r.port) r.reserve)

/-- What stands for an exchange that returns nothing (R406). -/
def noRemote (granted : Bool) : Remote :=
  { is22 := false, rate := none, lineMode := false, inWindow := false, readout := true, granted := granted, port := 0, reserve := 0, stream := 0,
    latency := 0, path := [], format := none }

/-- Check 9 of R85: a read-out engine and a line slot for a new pair. -/
def Chip.check9 (c : Chip) (q : TakeAsk) (td : Nat) (path : Path) (rf : Option Remote) : Option Nat :=
  let dev := c.originOf q.dev
  let ro := (readoutPairs q.dst td q.src dev path).filter (fun k => !(c.readouts.contains k))
  let ps := ((levelsOf q.levels).flatMap (fun l => routePairs q.dst l td q.src dev path)).filter (fun k => !(c.pairs.contains k))
  firstCode [((match rf with | some r => !r.readout | none => false), 0x0209), (!ro.isEmpty && (c.isSet Reg.ARB_CTRL_HOST_TBL 0 || decide (ownedLimit < c.ownedWith (c.readouts ++ ro))), 0x0209),
    (decide (lineSlots < c.slotsUsed + (dedup ps).length), 0x0214)]

/-- Check 10 of R85: a pyramid set, then the fetch budget (R193). -/
def Chip.check10 (c : Chip) (q : TakeAsk) : Option Nat :=
  if isLayerInput q.dst then
    let cmp := layerCmp q.dst
    firstCode [(c.bound q.src && !(c.pyramids.contains q.src) && decide (pyramidSets ≤ c.pyramids.length), 0x0215),
      (decide (fetchBudget < c.fetchF cmp (c.pendingRecords cmp) ((c.pendingSources cmp).set (layerNo q.dst) q.src)), 0x020A)]
  else none

/-- Whether a take names a source of another device of the part, so that a reservation exchange runs first (R406). -/
def Chip.remoteInPart (c : Chip) (q : TakeAsk) : Bool :=
  match c.originOf q.dev with | none => false | some v => c.spl.members.contains v

/-- Checks 2 to 8 of R85 in order: `BAD_INDEX` to `LOOP`. `rf` holds what the origin of a remote source returned. -/
def Chip.checkEarly (c : Chip) (q : TakeAsk) (rf : Option Remote) : Option Nat :=
  let td := c.dstTd q.dst
  let off := c.cmpOff q.dst
  let pk := c.packetCapture q.dst
  let localSrc := (c.originOf q.dev).isNone
  let rate := match rf with | some r => r.rate | none => c.srcRate q.src
  let outside := match rf with
    | some r => r.lineMode && !r.inWindow
    | none => c.srcMode q.src == 0 && c.bound q.src && (c.srcRate q.src).isSome && !(c.inWindow q.src td)
  match firstCode [
    (decide (1119 < q.src) || decide (1567 < q.dst) || (decide (4095 < q.dev) && q.dev != 0xFFFF), 0x0202),
    (!(levelsOk q.dst q.levels), 0x0203),
    (isExternalDst q.dst && (c.dst q.dst).newTd.isSome, 0x0217)] with
  | some code => some code
  | none =>
    if !localSrc && rf.isNone then some 0x020B
    else firstCode [
      ((match rf with
        | some r => r.is22
        | none => c.is22 q.src && ((isExternalDst q.dst && (c.dstFlow q.dst).isNone) || isLayerInput q.dst || (isCapture q.dst && !pk))), 0x0204),
      (pk && !(localSrc && isExternalSrc q.src && (c.srcFlow q.src).isSome), 0x0205),
      (!off && !pk && (match rate with | some r => r != c.tdRate td | none => false), 0x0206),
      (!off && !pk && outside, 0x0207),
      (isLayerInput q.dst && localSrc && c.closesLoop q.src q.dst, 0x0208)]

/-- The checks of R85 in order, from `BAD_INDEX` to `QUEUE_FULL`. Pilot service in the destination's domain defers checks 9 to 11
(R101); a layer input of a composer that is not enabled leaves out checks 6, 7 and 9 to 11 (R177). -/
def Chip.checkTake (c : Chip) (q : TakeAsk) (nb : Option (Nat × Nat)) (rf : Option Remote) : Option Nat :=
  let td := c.dstTd q.dst
  let late := c.cmpOff q.dst || !(c.fullIn td)
  match c.checkEarly q (if c.fullIn td || (c.originOf q.dev).isNone then rf else some (rf.getD (noRemote true))) with
  | some code => some code
  | none =>
    match (if late then none else c.check9 q td (c.servePath q.src q.dst td (c.originOf q.dev)) rf) with
    | some code => some code
    | none =>
      match (if late then none else c.check10 q) with
      | some code => some code
      | none => firstCode [(!late && (match rf, c.originOf q.dev with
            | some r, some v => c.pathRefused v td r || c.portFull v q.src td r
            | _, _ => false), 0x020B), (c.badTime nb, 0x020C),
          (decide (queueSize ≤ c.queueUsed), 0x020D)]

/-- A source that pilot service can carry (R101): bound by SDI with its receiver on, at 2.97 Gb/s or below, in mode `LINE` or
`AUTO`. -/
def Chip.pilotSrc (c : Chip) (s : Nat) (locked : Nat → Option Nat) : Bool :=
  isExternalSrc s && c.srcMode s != 1 &&
  (match c.srcSdi s with
   | none => false
   | some l =>
     let n := 2 ^ u8 (c.record tySdi l) 1
     if bit (u8 (c.record tySdi l) 2) 2 then
       (List.range n).all (fun i => match locked (l + i) with | none => true | some f => decide (f ≤ 3))
     else decide (u8 (c.record tySdi l) 3 ≤ 3))

/-- A destination that pilot service can carry (R101). -/
def Chip.pilotDst (c : Chip) (d : Nat) : Bool :=
  isExternalDst d &&
  (match c.dstSdi d with
   | none => false
   | some l =>
     match sdiFamily (u8 (c.record tySdi l) 8) (u8 (c.record tySdi l) 9) (u8 (c.record tySdi l) 1) with
     | some f => decide (f ≤ 3)
     | none => false)

/-- The family an SDI lane's receiver is locked to, if it is locked (`LNE.L_SDI`, R343). SDI lane n is lane 152 + n. -/
def Chip.sdiLocked (c : Chip) (l : Nat) : Option Nat :=
  let x := Tbl.get LaneSt.reset c.lne.lanes (152 + l)
  if x.lock then some x.family else none

/-- Whether a take is held at acceptance (R101): pilot service in the destination's domain, and not both ends capable of it or a
held take for the destination ahead. -/
def Chip.mustHold (c : Chip) (q : TakeAsk) : Bool :=
  !(c.fullIn (c.dstTd q.dst)) &&
    (!(c.pilotSrc q.src c.sdiLocked && c.pilotDst q.dst && (c.originOf q.dev).isNone)
      || c.xpt.queue.any (fun x => x.held && x.dst == q.dst))

/-- Puts an accepted take in the queue. -/
def Chip.enqueue (c : Chip) (q : TakeAsk) (id : Nat) (nb : Option (Nat × Nat)) (notify : Bool) (slot session salvo : Nat)
    (held : Bool) : Chip :=
  { c with xpt := { c.xpt with queue := c.xpt.queue ++
      [{ id := id, dst := q.dst, src := q.src, dev := c.originOf q.dev, levels := q.levels, accepted := c.now, notBefore := nb,
         notify := notify, slot := slot, session := session, held := held, salvo := salvo, staged := false,
         deferred := c.cmpOff q.dst, path := c.servePath q.src q.dst (c.dstTd q.dst) (c.originOf q.dev), always := false }] } }

/-- Keeps the reservation that an accepted remote take has made (R96, R407). -/
def Chip.reserveFor (c : Chip) (q : TakeAsk) (rf : Option Remote) : Chip :=
  match rf with
  | none => c
  | some r =>
    let k := pairKey (c.originOf q.dev) q.src (c.dstTd q.dst)
    if c.spl.imports.any (fun x => x.pair == k) then c
    else ({ c with spl := { c.spl with imports := c.spl.imports ++
      [⟨k, r.port, r.reserve, r.stream, (c.originOf q.dev).getD 0, r.latency, r.path, r.format⟩] } } : Chip).judgeLoads

/-- Whether the pair and the read-out engine that a level needs on a path are free or can be claimed (R31, R42). -/
def Chip.canClaim (c : Chip) (d lvl td s : Nat) (dev : Option Nat) (p : Path) : Bool :=
  (routePairs d lvl td s dev p).all (fun k => c.pairs.contains k || decide (c.slotsUsed < lineSlots)) &&
  (readoutPairs d td s dev p).all (fun k => c.readouts.contains k ||
    (!(c.isSet Reg.ARB_CTRL_HOST_TBL 0) && decide (c.ownedWith (c.readouts ++ [k]) ≤ ownedLimit)))

/-- Keeps the peaks of the queue and of the line slots (R108). -/
def Chip.peaks (c : Chip) : Chip :=
  (((c.peak Reg.XPT_QUEUE_PEAK 0 c.queueUsed).peak Reg.XPT_SLOTS_PEAK 0 c.slotsUsed).peak Reg.FST_PYR_SETS_PEAK 0 c.pyramids.length)

/-- Checks the takes of a salvo in order, each against what the earlier ones have claimed (R86, R87): the module with all of them
queued, or the first failing code with its position. Each remote take takes the next of the facts that its exchange returned. -/
def Chip.admitAll (c : Chip) (id : Nat) (nb : Option (Nat × Nat)) (notify : Bool) (slot session salvo : Nat) (held : Bool) :
    Nat → List Remote → List TakeAsk → Except (Nat × Nat) Chip
  | _, _, [] => .ok c
  | i, fs, q :: r =>
    let rf := if c.remoteInPart q then fs.head? else none
    match c.checkTake q nb rf with
    | some code => .error (code, i)
    | none => ((c.enqueue q id nb notify slot session salvo held).reserveFor q rf).admitAll id nb notify slot session salvo held
        (i + 1) (if c.remoteInPart q then fs.drop 1 else fs) r

/-- The slot tables that the allocator builds from the current sources and read-out engines (R149). -/
def Chip.buildTables (c : Chip) : SlotTables :=
  { built := true, ingest := c.ingestSlots, readout := c.readoutSlots c.readouts, writes := [] }

/-- Rebuilds the shadow and requests a swap, which the allocator does when the engines in use change, unless register writes own
the shadow (R149, R156, R157). -/
def Chip.requestSwap (c : Chip) : Chip :=
  if c.isSet Reg.ARB_CTRL_HOST_TBL 0 then c else { c with arb := { c.arb with shadow := c.buildTables, swapPend := true } }

/-- Requests a swap when the read-out engines in use differ from before (R156). -/
def Chip.swapIfChanged (c before : Chip) : Chip := if c.readouts = before.readouts then c else c.requestSwap

end Sys2Proof.Machine
end

