-- ==== Sys2Proof/Machine/Requests.lean ====
section
/-! DEFINITION. The gate every request passes before the checks of its own chapter (R540), and the answers to requests of unknown
type. -/

namespace Sys2Proof.Machine

/-- The phase of R516: 0 boot ROM, 1 pilot service, 2 full service, 3 pilot-only service, 4 ROM recovery. -/
def Chip.phase (c : Chip) : Nat := c.fld Reg.BOOT_STATUS_PHASE 0

/-- Whether a warm restart is in progress (R538, R562). -/
def Chip.restarting (c : Chip) : Bool := c.isSet Reg.XPT_STATUS_RESTART 0

/-- Whether the restarts of a while have brought the device to a halt (R568). -/
def Chip.halted (c : Chip) : Bool := c.isSet Reg.FLT_STATUS_HALTED 0

/-- Whether the service cores are down: a warm restart, or the halt that stands in its place (R563, R568). -/
def Chip.stalled (c : Chip) : Bool := c.restarting || c.halted

/-- Whether a firmware or settings activation is under way: requests wait in their windows (R538, R605). -/
def Chip.activating (c : Chip) : Bool := match c.upd.act with | some a => decide (2 ≤ a.state) | none => false

/-- Whether the service cores do not work: they are down, or an activation holds them (R563, R605). -/
def Chip.suspended (c : Chip) : Bool := c.stalled || c.activating

/-- A notice of what has applied: while the service cores do not work it waits for them (R565, R605). -/
def Chip.noticeKept (c : Chip) (slot session code : Nat) (body : List Byte) : Chip :=
  if c.suspended then { c with flt := { c.flt with notices := c.flt.notices ++ [(slot, session, code, body)] } } else c.noticeTo slot session code body

/-- The message types of R539. -/
def knownType (m : Nat) : Bool :=
  [0x0001, 0x0002, 0x0003, 0x0101, 0x0102, 0x0103, 0x0104, 0x0105, 0x0106, 0x0107, 0x0108, 0x0109, 0x010A].contains m
    || [0x0201, 0x0301, 0x0302, 0x0401, 0x0402, 0x0501, 0x0502, 0x0601, 0x0701, 0x0801, 0x0802].contains m

/-- The requests that pilot service refuses with `BOOT_PILOT`: `CONFIGURE`, `SAVE`, register writes (R514). -/
def pilotRefused (m : Nat) : Bool := m == 0x0401 || m == 0x0402 || m == 0x0302

/-- The requests that a warm restart still serves (R538). -/
def restartServed (m : Nat) : Bool := m == 0x0001 || m == 0x0002 || m == 0x0003 || m == 0x0301 || m == 0x0501

/-- The checks of R540 after `LAN_TYPE`, in order: privilege, ROM recovery (`rec`: whether recovery serves the request), pilot
service, length, warm restart or halt (R568). -/
def Chip.gateCode (c : Chip) (slot m need : Nat) (rec lenOk : Bool) : Option Nat :=
  firstCode [(decide ((c.session slot).priv < need), 0x1102), (c.phase == 4 && !rec, 0x1003),
    ((c.phase == 1 || c.phase == 3) && pilotRefused m, 0x1001), (!lenOk, 0x1103),
    (c.stalled && !(restartServed m), if c.halted then 0x1202 else 0x0201)]

/-- Whether a session awaits a reservation exchange (R406): its next request waits. -/
def Chip.exchanging (c : Chip) (slot : Nat) : Bool := c.spl.exchanges.any (fun e => e.slot == slot)

/-- Whether a session's next request is processed now: the session is open, no earlier request of it awaits a reservation exchange, and no
activation makes requests wait (R530, R538). -/
def Chip.serves (c : Chip) (slot : Nat) : Bool := (c.session slot).state == .opened && !c.activating && !(c.exchanging slot)

/-- The requests that an active twin mirrors when it accepts them (R421). -/
def mirroredRequest (m : Nat) : Bool := m == 0x0101 || m == 0x0102 || m == 0x0104 || m == 0x0105 || m == 0x0401

/-- Takes the response just sent back from what the command sends: it waits with an entry of `spl.mirror`. -/
def Chip.withhold (after : Chip) (slot m q since : Nat) : Chip :=
  let keep := after.sent.filter (fun o => match o with | .message sl ch mt _ sq _ => !(sl == slot && ch == 2 && mt == m && sq == q) | _ => true)
  let len := match (after.session slot).responses.find? (fun r => r.seq == q) with | some r => r.body.length | none => 0
  ({ after with sent := keep, spl := { after.spl with mirror := after.spl.mirror ++ [(slot, q, since)] } } : Chip).modSession slot (fun s =>
    { s with txCtr := s.txCtr - datagrams s.maxDgram len })

/-- The response to a request that the synchronised standby must first acknowledge is withheld, and the request goes out as mirror cells (R421); so is a response behind
one that is withheld (R532). -/
def Chip.mirrorOut (after before : Chip) (slot m : Nat) : Chip :=
  let q := (before.session slot).done + 1
  let mine := (after.session slot).responses.filter (fun r => r.seq == q && r.msgType == m)
  if mirroredRequest m && after.spl.act && after.isSet Reg.SPL_TWIN_SYNCED 0 && mine.any (fun r => decide (r.status % 65536 ≤ 2)) then
    let body := match (before.session slot).complete.find? (fun r => r.1 == q) with | some r => r.2.2 | none => []
    (after.withhold slot m q after.now).emit (.cell 7 5 ([slot, q, m] ++ body.map BitVec.toNat))
  else if after.spl.mirror.any (fun x => x.1 == slot) && mine != [] then after.withhold slot m q 0
  else after

/-- Answers the requests of unknown type that are next in the session's order (R530, R540). -/
def Chip.answerUnknown (slot : Nat) : Nat → Chip → Chip
  | 0, c => c
  | n + 1, c =>
    match (c.session slot).complete.find? (fun r => r.1 == (c.session slot).done + 1) with
    | some r => if knownType r.2.1 then c else Chip.answerUnknown slot n ((c.refuse slot r.2.1 0x1101 wholeIndex).mirrorOut c slot r.2.1)
    | none => c

/-- Processes the next request of a session: the checks of R540, then `f`, which answers it. -/
def Chip.request (c : Chip) (slot m need : Nat) (rec lenOk : Bool) (f : Chip → Chip) : Chip :=
  if c.serves slot then
    Chip.answerUnknown slot 256 ((match c.gateCode slot m need rec lenOk with
      | some code => c.refuse slot m code wholeIndex
      | none => if mirroredRequest m && c.standby then c.refuse slot m 0x0C03 wholeIndex else f c).mirrorOut c slot m)
  else c

/-- The number of the request being processed. -/
def Chip.reqSeq (c : Chip) (slot : Nat) : Nat := (c.session slot).done + 1

end Sys2Proof.Machine
end

