-- ==== Sys2Proof/Machine/Watch.lean ====
section
/-! DEFINITION. What observers keep of the media path: flow watch (R440 to R445) and the control rings of capture sets (R464). -/

namespace Sys2Proof.Machine

/-! ## Control rings (R464, R671) -/

/-- A capture set. -/
def Chip.capSet (c : Chip) (i : Nat) : CapSet := Tbl.get CapSet.reset c.cap.sets i

/-- Changes a capture set. -/
def Chip.modSet (c : Chip) (i : Nat) (f : CapSet → CapSet) : Chip :=
  { c with cap := { c.cap with sets := Tbl.upd CapSet.reset c.cap.sets i f } }

/-- Whether a set records: it is `ARMED` or `TRIGGERED` (R465). -/
def CapSet.live (x : CapSet) : Bool := x.state == 1 || x.state == 2

/-- The sets that record. -/
def Chip.liveSets (c : Chip) : List Nat := (c.cap.sets.filter (fun e => e.2.live)).map Prod.fst

/-- The domain of a set. -/
def CapSet.td (x : CapSet) : Nat := u8 x.body 2

/-- The channels of a set. -/
def CapSet.channels (x : CapSet) : List Nat := (List.range 32).filter (fun i => bit (u32 x.body 4) i)

/-- The watched outputs of a set. -/
def CapSet.watched (x : CapSet) : List Nat := (List.range (u8 x.body 20)).map (fun i => u16 x.body (24 + 2 * i))

/-- Whether a set's control ring follows a destination: one of its channels, or a watched destination. -/
def CapSet.follows (x : CapSet) (d : Nat) : Bool := (isCapture d && x.channels.contains (d - 1536)) || (isExternalDst d && x.watched.contains d)

/-- Hands over a control ring entry of a set, stamped with an uptime (R464). -/
def Chip.ctlAt (c : Chip) (set : Nat) (e : Ev) (uptime : Nat) (payload : List Nat) : Chip :=
  { c with log := { c.log with handed := c.log.handed ++
      [{ sev := e.sev, block := e.block, code := e.code, seq := 0, uptime := uptime, sec := secOf c.deviceQ,
         ns := nsOf c.deviceQ, repeats := 0, spanMs := 0, payload := payload.map (fun w => w % 4294967296),
         latest := uptime, committed := false, ctl := some set }] } }

/-- Hands over a control ring entry of a set now. -/
def Chip.ctl (c : Chip) (set : Nat) (e : Ev) (payload : List Nat) : Chip := c.ctlAt set e c.uptime payload

/-- Hands over an entry for every recording set that satisfies `p`. -/
def Chip.ctlFor (c : Chip) (p : CapSet → Bool) (e : Ev) (payload : List Nat) : Chip :=
  (c.liveSets.filter (fun i => p (c.capSet i))).foldl (fun a i => a.ctl i e payload) c

/-- Words 8 to 11 of `CAP_CTL_TAKE` (R672). -/
def ctlTakeWords (d src : Nat) (dev : Option Nat) (levels path cause frame : Nat) : List Nat :=
  [d * 65536 + src, (dev.getD 0xFFF) % 4096 + levels * 65536 + path * 1048576 + cause * 16777216, frame / 4294967296 % 65536, frame]

/-- A take, a fallback or a return applies to a channel or watched destination (R464). -/
def Chip.ctlTake (c : Chip) (d src : Nat) (dev : Option Nat) (levels path cause : Nat) : Chip :=
  c.ctlFor (fun x => x.follows d) Ev.capCtlTake (ctlTakeWords d src dev levels path cause (c.dom (c.dstTd d)).frame)

/-- The 32-bit words of bytes, padded with 0. -/
def wordsOf (l : List Byte) : List Nat := (List.range (ceilDiv l.length 4)).map (fun i => u32 l (4 * i))

/-- The records of one layout (R464): one for each layer record. -/
def layoutWords (body : List Byte) : List (List Nat) :=
  let rs := layoutRecords body
  rs.zipIdx.map (fun p => [u8 body 0 + p.1.1 * 256 + flag (p.2 + 1 == rs.length) * 65536, u32 body 4] ++ wordsOf p.1.2)

/-- A layout takes effect on a watched composer (R464). -/
def Chip.ctlLayout (c : Chip) (cmp : Nat) (body : List Byte) : Chip :=
  (layoutWords body).foldl (fun a w => a.ctlFor (fun x => x.watched.contains (0x8000 + cmp)) Ev.capCtlLayout w) c

/-- A record of an accepted `CONFIGURE` message, in parts (R464). -/
def Chip.ctlConfig (c : Chip) (type td : Nat) (r : List Byte) : Chip :=
  let n := max 1 (ceilDiv r.length 212)
  (List.range n).foldl (fun a i =>
    a.ctlFor (fun _ => true) Ev.capCtlConfig
      ([type + i * 65536 + flag (i + 1 == n) * 16777216 + td % 16 * 268435456, r.length, 0] ++ wordsOf (bytesAt r (212 * i) 212))) c

/-- A source frame is completed for the route of a channel (R464). -/
def Chip.ctlArrival (c : Chip) (s n missing : Nat) : Chip :=
  c.ctlFor (fun x => x.channels.any (fun k => [0, 1, 2].any (fun l => match c.route (1536 + k) l with
      | some r => r.src == s && r.dev.isNone
      | none => false)))
    Ev.capCtlArrival [s, n / 4294967296 % 65536, n, missing]

/-- Whether a recording set takes in what a destination sends: a channel of it, or a watched destination (R461, R464). -/
def Chip.recorded (c : Chip) (d : Nat) : Bool := c.liveSets.any (fun i => (c.capSet i).follows d)

/-- A line that a capture input or a watched destination sends goes to its frame in progress (R461, R464). -/
def Chip.noteLine (c : Chip) (d line : Nat) (samples anc : List Nat) : Chip :=
  if c.recorded d then
    { c with cap := { c.cap with lines := Tbl.put [] c.cap.lines d (Tbl.ins (Tbl.get [] c.cap.lines d) line (samples, anc)) } }
  else c

/-- The check value of a composite that a recording set watches (R464). -/
def Chip.noteComposite (c : Chip) (cmp crc : Nat) : Chip :=
  if c.liveSets.any (fun i => (c.capSet i).watched.contains (0x8000 + cmp)) then
    { c with cap := { c.cap with composed := Tbl.ins c.cap.composed cmp crc } }
  else c

/-! ## Check values (R445) -/

/-- One bit of CRC-32C, reflected. -/
def crcBit (v : Nat) : Nat := if v % 2 = 1 then (v / 2) ^^^ 0x82F63B78 else v / 2

/-- One byte of CRC-32C. -/
def crcByte (v b : Nat) : Nat := crcBit (crcBit (crcBit (crcBit (crcBit (crcBit (crcBit (crcBit (v ^^^ b))))))))

/-- The register of CRC-32C after bytes; it is a number before the next byte is taken. -/
def crcRun : List Nat → Nat → Nat
  | [], v => v
  | b :: r, v => match crcByte v (b % 256) with
    | 0 => crcRun r 0
    | n + 1 => crcRun r (n + 1)

/-- CRC-32C of bytes. -/
def crc32c (l : List Nat) : Nat := crcRun l 0xFFFFFFFF ^^^ 0xFFFFFFFF

/-- A sample brought to 10 bits (R214). -/
def tenBits (depth v : Nat) : Nat := if depth = 8 then 4 * v else if depth = 12 then min ((v + 2) / 4) 1023 else v

/-- The check value of rows of samples. -/
def rowsCrc (depth : Nat) (rows : List (List Nat)) : Nat := crc32c (rows.flatMap (fun r => r.flatMap (fun v => [tenBits depth v / 256, tenBits depth v % 256])))

/-- The frame counter of a frame identity packet in a line's ancillary words (R437): DID 0x5E, SDID 0x4B, 16 user words. -/
def identOf : List Nat → Option Nat
  | [] => none
  | x :: r =>
    if x % 256 = 0x5E ∧ (r.headD 0) % 256 = 0x4B ∧ ((r.drop 1).headD 0) % 256 = 16 then
      some (((r.drop 6).take 6).foldl (fun a w => a * 256 + w % 256) 0)
    else identOf r

/-- Keeps the sixteen newest of a list. -/
def keep16 {α : Type} (x : α) (l : List α) : List α := (x :: l).take 16

/-- Flow watch notes a row that has arrived of the frame in progress of a source, and an identity. -/
def Chip.watchRow (c : Chip) (s row : Nat) (samples : List Nat) (anc : List (List Nat)) : Chip :=
  { c with fwa := { c.fwa with
      rows := Tbl.put [] c.fwa.rows s (Tbl.put [] (Tbl.get [] c.fwa.rows s) row samples),
      ident := match identOf anc.flatten with | some n => Tbl.ins c.fwa.ident s n | none => c.fwa.ident } }

/-- The frame in progress is noted as begun anew: its rows are gone. -/
def Chip.watchClear (c : Chip) (s : Nat) : Chip :=
  { c with fwa := { c.fwa with rows := Tbl.del c.fwa.rows s, ident := Tbl.del c.fwa.ident s } }

/-- The check value of some rows of the frame in progress: a free value where a row did not arrive, whose samples the spec does not give. -/
def Chip.checkOf (c : Chip) (s depth : Nat) (rows : List Nat) (damaged : Bool) : Nat :=
  if damaged then c.openVal 32 else rowsCrc depth (rows.map (fun r => Tbl.get [] (Tbl.get [] c.fwa.rows s) r))

/-- Flow watch stores the check values of a frame that ends (R445): one for each field of an interlaced or PsF frame. -/
def Chip.watchFrame (c : Chip) (s : Nat) (f : Format) (n : Nat) (missing : List Nat) : Chip :=
  if f.sampling ≠ 0 ∨ !(isExternalSrc s) then c.watchClear s
  else
    let fields := if f.scan = 0 then [List.range f.height]
      else [(List.range (f.height / 2)).map (fun i => 2 * i), (List.range (f.height / 2)).map (fun i => 2 * i + 1)]
    let c1 := fields.zipIdx.foldl (fun a p =>
      let bad := p.1.any (fun r => missing.contains r)
      let v : Check := { crc := a.checkOf s f.depth p.1 bad, frame := n, ident := Tbl.find c.fwa.ident s, damaged := bad || !missing.isEmpty, field := p.2 == 1 }
      let b := if bad then a.nextFree else a
      { b with fwa := { b.fwa with checks := Tbl.put [] b.fwa.checks s (keep16 v (Tbl.get [] b.fwa.checks s)) } }) c
    c1.watchClear s

/-! ## Intervals (R442) -/

/-- Changes what flow watch counts of a source. -/
def Chip.modWatch (c : Chip) (s : Nat) (f : Watch → Watch) : Chip :=
  { c with fwa := { c.fwa with watch := Tbl.upd Watch.reset c.fwa.watch s f } }

/-- A source is bound anew: its interval is not whole, and the check of paths starts again. -/
def Chip.watchRebound (c : Chip) (s : Nat) : Chip :=
  let b := c.watchClear s
  { b with fwa := { b.fwa with rebound := dedup (b.fwa.rebound ++ [s]), watch := Tbl.put Watch.reset b.fwa.watch s Watch.reset,
                               checks := Tbl.put [] b.fwa.checks s [] } }

/-- Widens a pair of bounds. -/
def widen (b : Option (Int × Int)) (v : Int) : Option (Int × Int) :=
  match b with | none => some (v, v) | some (lo, hi) => some (min lo v, max hi v)

/-- The histogram bin of a gap in ns (R442). -/
def histBin (gap : Nat) : Nat :=
  if gap < 64 then 0
  else (((List.range 14).map (fun b => b + 1)).find? (fun b => decide (gap < 64 * 2 ^ b))).getD 15

end Sys2Proof.Machine
end

