-- ==== Sys2Proof/Machine/AudioOps.lean ====
section
/-! DEFINITION. Shared operations of the audio crosspoint: bindings, channel lists, audio maps, follow positions (R214 to R226). -/

namespace Sys2Proof.Machine

/-! ## Bindings (R215, R216, R241) -/

/-- Whether a channel record binds at 96 kHz. -/
def audAt96 (r : List Byte) : Bool := bit (u8 r 3) 0

/-- Whether a channel record binds a transparent pair (R217): kind 2, or an input or output taken as a pair. -/
def audIsPair (r : List Byte) : Bool := u8 r 2 == 2 || bit (u8 r 3) 1

/-- The positions that a channel record takes, from its own upward. -/
def audSpan (r : List Byte) : Nat := (if audAt96 r then 2 else 1) * (if audIsPair r then 2 else 1)

/-- The record that binds a position, with the place of the position in it. -/
def Chip.audBind (c : Chip) (dstSide : Bool) (pos : Nat) : Option (List Byte × Nat) :=
  (([0, 1, 2, 3].filter (fun k => decide (k ≤ pos))).find? (fun k =>
    let r := c.record (if dstSide then tyDstCh else tySrcCh) (pos - k)
    r != [] && decide (k < audSpan r))).map (fun k => (c.record (if dstSide then tyDstCh else tySrcCh) (pos - k), k))

/-- Whether a position is bound. -/
def Chip.audBound (c : Chip) (dstSide : Bool) (pos : Nat) : Bool := (c.audBind dstSide pos).isSome

/-- Whether a position is bound at 96 kHz. -/
def Chip.audRate96 (c : Chip) (dstSide : Bool) (pos : Nat) : Bool := (c.audBind dstSide pos).any (fun b => audAt96 b.1)

/-- Whether a position is half of a transparent pair. -/
def Chip.audPair (c : Chip) (dstSide : Bool) (pos : Nat) : Bool := (c.audBind dstSide pos).any (fun b => audIsPair b.1)

/-- Whether a position is the upper half of a channel at 96 kHz (R215). -/
def Chip.audUpper (c : Chip) (dstSide : Bool) (pos : Nat) : Bool := c.audRate96 dstSide pos && pos % 2 == 1

/-- The channel of its target that a position carries: the record's `INDEX`, and the second one for the upper half of a pair; a kind 2 record counts
pairs. -/
def audChannel (r : List Byte) (place : Nat) : Nat :=
  (if u8 r 2 = 2 then 2 * u8 r 6 else u8 r 6) + (if audIsPair r then place / (if audAt96 r then 2 else 1) else 0)

/-! ## Lists and maps (R218, R219) -/

/-- The positions bound to a kind and target, in order of `INDEX`. -/
def Chip.audByIndex (c : Chip) (ty kind target : Nat) : List Nat :=
  (List.range 64).filterMap (fun i => (c.listed ty).find? (fun p =>
    u8 (c.record ty p) 2 == kind && u16 (c.record ty p) 4 == target && u8 (c.record ty p) 6 == i))

/-- The channel list of a source (R218, R438, R475). -/
def Chip.audList (c : Chip) (s : Nat) : List Nat :=
  if isComposer s then []
  else if !(isExternalSrc s) then c.audByIndex tySrcCh 7 s
  else if c.hasRec tyLists s then listEntries (c.record tyLists s)
  else if (c.srcSdi s).isSome then c.audByIndex tySrcCh 3 s
  else []

/-- The audio map of a destination. -/
def Chip.audMap (c : Chip) (d : Nat) : List (Nat × Nat) := mapEntries (c.record tyMaps d)

/-- The destination whose audio map names a destination position (R222). -/
def Chip.mapOwner (c : Chip) (pos : Nat) : Option Nat := (c.listed tyMaps).find? (fun d => (c.audMap d).any (fun e => e.2 == pos))

/-! ## Destination positions -/

/-- The state of a destination position. -/
def Chip.audDst (c : Chip) (p : Nat) : AudDst := Tbl.get AudDst.reset c.aud.dsts p

/-- Changes the state of a destination position. -/
def Chip.modAud (c : Chip) (p : Nat) (f : AudDst → AudDst) : Chip :=
  { c with aud := { c.aud with dsts := Tbl.upd AudDst.reset c.aud.dsts p f } }

/-- Gives a destination channel a new source at the next house sample tick (R222); a channel at 96 kHz has two positions. -/
def Chip.setAudSrc (c : Chip) (p : Nat) (g : AudSig) : Chip :=
  let c1 := c.modAud p (fun x => { x with next := some g })
  if c.audRate96 true p then
    c1.modAud (p + 1) (fun x => { x with next := some (match g with | .live q => .live (q + 1) | .follow s td e => .follow s td e | y => y) })
  else c1

/-- Gives a destination channel new gain, mute and polarity at the next house sample tick (R228). -/
def Chip.setAudLevel (c : Chip) (p : Nat) (gain : Int) (mute invert : Bool) : Chip :=
  let c1 := c.modAud p (fun x => { x with nextLevel := some (gain, mute, invert) })
  if c.audRate96 true p then c1.modAud (p + 1) (fun x => { x with nextLevel := some (gain, mute, invert) }) else c1

/-! ## Audio-follow (R219 to R221) -/

/-- What a destination's audio-follow level is served from now (R84, R97): source, origin device, path; none for silence. -/
def Chip.followService (c : Chip) (d : Nat) : Option (Nat × Option Nat × Path) :=
  let v := (c.dst d).follow
  match c.route d 2 with
  | none => none
  | some r =>
    match v.state with
    | .normal => some (r.src, r.dev, r.path)
    | .hold => some (r.src, r.dev, r.path)
    | .alt => some (c.dstAlt d, none, v.altPath)
    | _ => none

/-- The key of a follow position. -/
def followKey (s td e : Nat) : Nat := (s * 4 + td) * 64 + e

/-- The follow positions that the applied audio-follow routes of a destination read (R221). -/
def Chip.followsOf (c : Chip) (d : Nat) : List Nat :=
  match c.followService d with
  | some (s, none, .frame) => ((c.audMap d).filter (fun e => decide (e.1 < (c.audList s).length))).map (fun e => followKey s (c.dstTd d) e.1)
  | _ => []

/-- Releases the follow positions that no applied route reads any longer (R221). -/
def Chip.releaseFollows (c : Chip) : Chip :=
  let used := (c.listed tyMaps).flatMap c.followsOf
  { c with aud := { c.aud with follows := c.aud.follows.filter (fun e => used.contains (e.2 - 1)) } }

/-- The least follow index that is free. -/
def freeIndex (t : Tbl Nat) : Nat → Nat → Option Nat
  | 0, _ => none
  | fuel + 1, i => if Tbl.has t i then freeIndex t fuel (i + 1) else some i

/-- Takes a follow position when none holds the key yet: the module, and whether there is one. -/
def Chip.takeFollow (c : Chip) (k : Nat) : Chip × Bool :=
  if c.aud.follows.any (fun e => e.2 == k + 1) then (c, true)
  else match freeIndex c.aud.follows 16384 0 with
    | some i => ({ c with aud := { c.aud with follows := Tbl.put 0 c.aud.follows i (k + 1) } }, true)
    | none => (c, false)

/-- Sets every channel of a destination's audio map from its audio-follow level (R78, R219 to R221). -/
def Chip.followAudio (c : Chip) (d : Nat) : Chip :=
  let td := c.dstTd d
  let c0 := c.releaseFollows
  (c.audMap d).foldl (fun a e =>
    match a.followService d with
    | none => a.setAudSrc e.2 .silence
    | some (s, some v, _) => a.setAudSrc e.2 (.remote (pairKey (some v) s td) e.1)
    | some (s, none, p) =>
      match (a.audList s)[e.1]? with
      | none => a.setAudSrc e.2 .silence
      | some pos =>
        if a.audBound false pos && a.audRate96 false pos != a.audRate96 true e.2 then
          (a.count Reg.AUD_DST_MISMATCH_COUNT e.2 1).setAudSrc e.2 .silence
        else if p = .frame then
          let r := a.takeFollow (followKey s td e.1)
          if r.2 then r.1.setAudSrc e.2 (.follow s td e.1)
          else ((r.1.setAudSrc e.2 .silence).mark Reg.AUD_STATUS_FOLLOW_FULL).event Ev.audFollowFull [d * 65536 + e.1, s]
        else a.setAudSrc e.2 (.live pos)) c0

/-- Sets a destination's channels again when what serves its audio-follow level has changed. -/
def Chip.followIfChanged (c before : Chip) (d : Nat) : Chip :=
  if c.followService d = before.followService d ∧ c.dstTd d = before.dstTd d then c else c.followAudio d

/-! ## Audio takes (R222, R225, R226) -/

/-- Whether a channel record leaves the source unchanged. -/
def audKeeps (r : List Byte) : Bool := bit (u8 r 6) 4

/-- Whether a record of an audio take breaks check 2 (R225, R226). -/
def Chip.audIndexBad (c : Chip) (r : List Byte) : Bool :=
  let d := u16 r 0
  let s := u16 r 2
  decide (16383 < d) || (decide (16383 < s) && s != 0x7FFF) || !(c.audBound true d) || c.audUpper true d
    || (s != 0x7FFF && c.audUpper false s)
    || !(u16 r 4 == 0x8000 || (decide (-9600 ≤ signed 16 (u16 r 4)) && decide (signed 16 (u16 r 4) ≤ 2400)))
    || decide (31 < u8 r 6) || u8 r 7 != 0

/-- Whether a record joins positions of different rates (R225, check 3). -/
def Chip.audRateBad (c : Chip) (r : List Byte) : Bool :=
  !(audKeeps r) && u16 r 2 != 0x7FFF && c.audBound false (u16 r 2) && c.audRate96 false (u16 r 2) != c.audRate96 true (u16 r 0)

/-- Whether a record breaks check 4 (R225, R226). -/
def Chip.audPairBad (c : Chip) (r : List Byte) : Bool :=
  (!(audKeeps r) && u16 r 2 != 0x7FFF && c.audPair false (u16 r 2) && !(c.audPair true (u16 r 0)))
    || (c.audPair true (u16 r 0) && (u16 r 4 != 0x8000 || bit (u8 r 6) 0 || bit (u8 r 6) 2))

/-- The first record that fails, with a code. -/
def firstBad (rs : List (List Byte)) (code : Nat) (bad : Nat → List Byte → Bool) : Option (Nat × Nat) :=
  (rs.zipIdx.find? (fun p => bad p.2 p.1)).map (fun p => (code, p.2))

/-- The checks of R225 from `AUD_INDEX` to `QUEUE_FULL`. -/
def Chip.checkAud (c : Chip) (rs : List (List Byte)) (nb : Option (Nat × Nat)) : Option (Nat × Nat) :=
  if rs = [] ∨ 256 < rs.length then some (0x0601, wholeIndex)
  else match firstBad rs 0x0601 (fun _ r => c.audIndexBad r) with
    | some x => some x
    | none => match firstBad rs 0x0602 (fun _ r => c.audRateBad r) with
      | some x => some x
      | none => match firstBad rs 0x0603 (fun _ r => c.audPairBad r) with
        | some x => some x
        | none => match firstBad rs 0x0604 (fun i r => (rs.take i).any (fun q => u16 q 0 == u16 r 0)) with
          | some x => some x
          | none => (firstCode [(c.badTime nb, 0x020C), (decide (queueSize ≤ c.queueUsed), 0x020D)]).map (fun k => (k, wholeIndex))

/-- Applies one channel record: it takes effect at the next house sample tick (R222, R228). -/
def Chip.applyRecord (c : Chip) (r : List Byte) : Chip :=
  let p := u16 r 0
  let x := c.audDst p
  let lv := x.nextLevel.getD (x.gain, x.mute, x.invert)
  let c1 := if audKeeps r then c else c.setAudSrc p (if u16 r 2 = 0x7FFF then .silence else .live (u16 r 2))
  if u16 r 4 != 0x8000 || bit (u8 r 6) 0 || bit (u8 r 6) 2 then
    c1.setAudLevel p (if u16 r 4 = 0x8000 then lv.1 else signed 16 (u16 r 4)) (if bit (u8 r 6) 0 then bit (u8 r 6) 1 else lv.2.1)
      (if bit (u8 r 6) 2 then bit (u8 r 6) 3 else lv.2.2)
  else c1

/-- Whether an instant is at or after a not-before time (R90). -/
def Chip.timeReached (c : Chip) (nb : Option (Nat × Nat)) (u : Nat) : Bool :=
  match nb with
  | none => true
  | some p => decide (qOf p.1 p.2 ≤ c.deviceQAt u)

/-- Whether an audio take may apply at an instant: not held, accepted 1.0 ms before it, its time reached (R222). -/
def Chip.audReady (c : Chip) (q : AudTake) (u : Nat) : Bool := !q.held && decide (q.accepted + msU 1 ≤ u) && c.timeReached q.notBefore u

/-- Whether an earlier audio take for a channel of a destination's map has still to wait, so that a later take of the destination waits too
(R78). -/
def Chip.audBlocks (c : Chip) (d accepted u : Nat) : Bool :=
  c.xpt.audQueue.any (fun q => decide (q.accepted < accepted) && !(c.audReady q u)
    && q.records.any (fun r => c.mapOwner (u16 r 0) == some d))

/-- Removes channel records that have applied: a take with none left frees its entry. -/
def Chip.dropRecords (c : Chip) (id : Nat) (gone : List Byte → Bool) : Chip :=
  { c with xpt := { c.xpt with audQueue :=
      ((c.xpt.audQueue.map (fun q => if q.id = id then { q with records := q.records.filter (fun r => !(gone r)) } else q)).filter
        (fun q => q.records != [])) } }

/-- Applies the audio takes that are due for the channels of a destination's map, of those accepted before `before`, in acceptance order, until one
for the destination must wait (R78, R222). -/
def Chip.audSwitch (d before : Nat) : List AudTake → Chip → Chip
  | [], c => c
  | q :: rest, c =>
    let mine := q.records.filter (fun r => c.mapOwner (u16 r 0) == some d)
    if mine = [] then Chip.audSwitch d before rest c
    else if q.accepted < before ∧ c.audReady q c.now = true then
      Chip.audSwitch d before rest ((mine.foldl Chip.applyRecord c).dropRecords q.id (fun r => c.mapOwner (u16 r 0) == some d))
    else c

/-- Applies, at a house sample tick, the audio takes that are due for channels in no map (R222): each after every earlier one for its channel. -/
def Chip.audDirect : List AudTake → List Nat → Chip → Chip
  | [], _, c => c
  | q :: rest, blocked, c =>
    let mine := q.records.filter (fun r => (c.mapOwner (u16 r 0)).isNone && !(blocked.contains (u16 r 0)))
    if c.audReady q c.now then
      Chip.audDirect rest blocked ((mine.foldl Chip.applyRecord c).dropRecords q.id (fun r => mine.contains r))
    else Chip.audDirect rest (blocked ++ mine.map (fun r => u16 r 0)) c

end Sys2Proof.Machine
end

