-- ==== Sys2Proof/Machine/TakeOps.lean ====
section
/-! DEFINITION. Shared operations of the take queue: staging (R60, R90 to R92), commitment, application at a switch point,
fallbacks (R97 to R100) and path moves (R82, R83). -/

namespace Sys2Proof.Machine

/-! ## Frames and switch points -/

/-- The destinations assigned to a domain whose switch points R60 counts: external destinations, capture inputs of enabled
channels, layer inputs of enabled composers. -/
def Chip.domainDsts (c : Chip) (td : Nat) : List Nat :=
  (List.range 1568).filter (fun d => c.dstTd d == td &&
    (if isLayerInput d then c.cmpOn (layerCmp d) else if isCapture d then c.capOn (d - 1536) else true))

/-- The earliest switch point of a domain after its tick, in units (R60); none when the domain has no destination. -/
def Chip.earliestOffset (c : Chip) (td : Nat) : Option Nat :=
  ((c.domainDsts td).map (fun d => c.switchAt d 0)).foldl (fun a v => some (match a with | none => v | some m => min m v)) none

/-- The frame whose take application job opens now, and the instant of its tick: the coming frame, or the frame in progress when
every switch point lies 1.0 ms or more after the tick (R60). -/
def Chip.jobFrameOf (c : Chip) (td : Nat) : Nat × Nat :=
  let m := c.dom td
  match c.earliestOffset td with
  | some off => if msU 1 ≤ off then (m.frame, m.tickAt) else (m.frame + 1, m.nextTick)
  | none => (m.frame + 1, m.nextTick)

/-- Decides which takes of domain `td` apply in the frame that starts at `tick` (R90, R92), in acceptance order: `blocked` holds the destinations
of earlier takes that do not apply in it, `salvos` the salvos judged and whether each applies. -/
def Chip.stageList (c : Chip) (td tick : Nat) (all : List Take) : List Nat → List (Nat × Bool) → List Take → List Take
  | _, _, [] => []
  | blocked, salvos, q :: r =>
    if c.dstTd q.dst ≠ td then q :: c.stageList td tick all blocked salvos r
    else if q.held ∨ q.deferred then { q with staged := false } :: c.stageList td tick all (q.dst :: blocked) salvos r
    else if q.salvo = 0 then
      let at_ := c.switchAt q.dst tick
      let ok := decide (q.accepted + msU 1 ≤ at_) && c.timeReached q.notBefore at_ && !(blocked.contains q.dst) && !(c.audBlocks q.dst q.accepted at_)
      { q with staged := ok } :: c.stageList td tick all (if ok then blocked else q.dst :: blocked) salvos r
    else
      let part := all.filter (fun x => x.id == q.id && c.dstTd x.dst == td)
      let ok := match salvos.find? (fun p => p.1 == q.id) with
        | some p => p.2
        | none => part.all (fun x => decide (x.accepted + msU 1 ≤ c.switchAt x.dst tick) && c.timeReached x.notBefore (c.switchAt x.dst tick)
            && !(blocked.contains x.dst) && !(c.audBlocks x.dst x.accepted (c.switchAt x.dst tick)))
      { q with staged := ok } :: c.stageList td tick all (if ok then blocked else q.dst :: blocked) ((q.id, ok) :: salvos) r

/-- Stages the takes of a domain for the frame that starts at `tick`. -/
def Chip.stage (c : Chip) (td tick : Nat) : Chip :=
  { c with xpt := { c.xpt with queue := c.stageList td tick c.xpt.queue [] [] c.xpt.queue } }

/-- Stages again while a take application job of the domain is open and uncommitted: a take accepted before its own acceptance
cut still applies in that frame (R61). -/
def Chip.restage (c : Chip) (td : Nat) : Chip :=
  let m := c.dom td
  match m.jobFrame with
  | none => c
  | some n =>
    if m.commit = some n then c
    else c.stage td (if n = m.frame then m.tickAt else m.nextTick)

/-- Takes back the staging of a domain's takes: they stay queued in acceptance order (R62). -/
def Chip.unstage (c : Chip) (td : Nat) : Chip :=
  { c with xpt := { c.xpt with queue := c.xpt.queue.map (fun q => if c.dstTd q.dst = td then { q with staged := false } else q) } }

/-! ## Reservations of imported streams -/

/-- Releases the reservations of imported streams that no route and no accepted take needs any longer (R96, R408). -/
def Chip.releaseImports (c : Chip) : Chip :=
  let ps := c.pairs
  let gone := c.spl.imports.filter (fun x => !(ps.contains x.pair))
  if gone = [] then c
  else (gone.foldl (fun (a : Chip) x => a.emit (.cell x.port 2 [x.dev, x.stream, x.pair % 8192]))
    ({ c with spl := { c.spl with imports := c.spl.imports.filter (fun x => ps.contains x.pair) } } : Chip)).judgeLoads

/-- Whether a route is severed: a route whose exchange has succeeded is restored at the first switch point at least 1 ms after it (R417, R418). -/
def Chip.isSevered (c : Chip) (key : Nat) : Bool :=
  c.spl.severed.contains key && (match Tbl.find c.spl.restores key with | some u => decide (c.now < u) | none => true)

/-- Forgets the severing of the routes of a destination that a switch point restores (R418). -/
def Chip.dropRestored (c : Chip) (d : Nat) : Chip :=
  let keys := [4 * d, 4 * d + 1, 4 * d + 2].filter (fun k => c.spl.severed.contains k && !(c.isSevered k))
  if keys = [] then c
  else { c with spl := { c.spl with severed := c.spl.severed.filter (fun k => !(keys.contains k)), restores := keys.foldl (fun m k => Tbl.del m k) c.spl.restores } }

/-- What follows a change of routes or of the queue: peaks, a swap when read-outs changed, reservations released. -/
def Chip.settle (c before : Chip) : Chip := (c.releaseImports.peaks).swapIfChanged before

/-! ## Application -/

/-- Whether the read-out of a pair has a complete frame latched (R84, R126). -/
def Chip.readoutHasFrame (c : Chip) (s td : Nat) : Bool :=
  (Tbl.get Decision.reset (Tbl.get Sync.reset c.fst.syncs s).decisions td).latched.isSome

/-- The state in which a level's route enters service on a path: `AWAIT` on a read-out without a complete frame (R84), or on a line path whose
SDI source is not locked during pilot service (R512). -/
def Chip.entryState (c : Chip) (d s td : Nat) (dev : Option Nat) (p : Path) : LevelState :=
  if p = .frame ∧ dev = none ∧ !(isLayerInput d) ∧ !(c.readoutHasFrame s td) then .await
  else if !(c.fullIn td) && (match c.srcSdi s with | some l => (c.sdiLocked l).isNone | none => false) then .await
  else .normal

/-- Serves a level of a destination from a source: route, path of R81, state. -/
def Chip.serveLevel (c : Chip) (d lvl s : Nat) (dev : Option Nat) : Chip :=
  let td := c.dstTd d
  let p := c.servePath s d td dev
  (c.setRoute d lvl (some ⟨s, dev, p⟩)).modDst d (fun x => x.withLvl lvl ⟨c.entryState d s td dev p, .none, .none⟩)

/-- The body of `TAKE_APPLIED` (R551). -/
def appliedBody (id td frame : Nat) : List Byte := beBytes 8 id ++ beBytes 1 td ++ beBytes 3 0 ++ beBytes 8 frame

/-- The identifiers of the takes that a layout carries: beyond the 64-bit range of `TAKE_ID`, since a layout carries none (R545). -/
def layoutTakeId (serial : Nat) : Nat := 2 ^ 64 + serial

/-- Sends `TAKE_APPLIED` (R94, R535): to the accepting session when the take asked for it, and to every session subscribed to
class 0 when the destination's flag calls for it. -/
def Chip.sendApplied (c : Chip) (q : Take) (td : Nat) (always : Bool) : Chip :=
  let body := appliedBody q.id td (c.dom td).frame
  (List.range 16).foldl (fun a i =>
    if (always && bit (c.session i).mask 0) || (q.notify && i == q.slot && (c.session i).id == q.session) then a.noticeKept i (c.session i).id 0x8001 body
    else a) c

/-- Changes the layer that a destination feeds, if it is a layer input. -/
def Chip.modLayerOf (c : Chip) (d : Nat) (f : Layer → Layer) : Chip :=
  if isLayerInput d then c.modLayer (layerCmp d) (layerNo d) f else c

/-- The code of a path in `XPT.DST_STATE.PATH` (R108). -/
def Path.code : Path → Nat
  | .none => 0 | .line => 1 | .frame => 2 | .packet => 3

/-- Applies one take at its destination's switch point (R90, R100): its routes on its levels, its entry freed, the notice when it is the last of
its part; a layout's takes have no notice of their own (R197). -/
def Chip.applyTake (c : Chip) (q : Take) : Chip :=
  let td := c.dstTd q.dst
  let c1 := (levelsOf q.levels).foldl (fun a l =>
    { (a.serveLevel q.dst l q.src q.dev) with
      spl := { a.spl with
        severed := a.spl.severed.filter (fun k => k != q.dst * 4 + l) ++
          (if q.dev.isSome && !(a.spl.imports.any (fun x => x.pair == pairKey q.dev q.src td)) then [q.dst * 4 + l] else []),
        restores := Tbl.del a.spl.restores (q.dst * 4 + l) },
      boot := { a.boot with pilotDue := a.boot.pilotDue.filter (fun k => k != q.dst * 4 + l) } }) c
  let c2 := { c1 with xpt := { c1.xpt with
    queue := c1.xpt.queue.filter (fun x => !(x.id == q.id && x.dst == q.dst)),
    pilotSet := if c.fullIn td then c1.xpt.pilotSet else dedup (c1.xpt.pilotSet ++ (levelsOf q.levels).map (fun l => q.dst * 4 + l)) } }
  let c3 := ((c2.countWrap Reg.XPT_APPLIED_COUNT 0 1).modLayerOf q.dst (fun y => { y with accepted := c.srcFormat q.src })).ctlTake
    q.dst q.src q.dev q.levels (c2.servePath q.src q.dst td q.dev).code 0
  let always := q.always || c.dstAlways q.dst
  let rest := c3.xpt.queue.any (fun x => x.id == q.id && c3.dstTd x.dst == td)
  if rest then
    { c3 with xpt := { c3.xpt with queue := c3.xpt.queue.map (fun x =>
      if x.id = q.id ∧ c3.dstTd x.dst = td then { x with always := always } else x) } }
  else if 2 ^ 64 ≤ q.id then c3
  else c3.sendApplied q td always

/-- Applies the staged takes of a destination, in acceptance order (R91), and between them the audio takes for the channels of its map (R78,
R222). -/
def Chip.applyStaged (c : Chip) (d : Nat) : Chip :=
  let c1 := (c.xpt.queue.filter (fun q => q.dst == d && q.staged)).foldl (fun a q =>
    match a.xpt.queue.find? (fun x => x.id == q.id && x.dst == q.dst) with
    | some x =>
      let b := (Chip.audSwitch d q.accepted a.xpt.audQueue a).applyTake x
      if bit q.levels 2 then b.followAudio d else b
    | none => a) c
  let wait := c1.xpt.queue.find? (fun q => q.dst == d)
  Chip.audSwitch d (match wait with | some q => q.accepted | none => c1.now) c1.xpt.audQueue c1

/-! ## Fallbacks -/

/-- The condition of R98 in which a source is for a route of a destination in domain `td`: of a level that is in fallback with
cause `now`, the restoring condition is what ends it. -/
def Chip.condition (c : Chip) (key td s : Nat) (dev : Option Nat) (now : Cause) : Cause :=
  let L := c.lead s td
  if c.isSevered key then .severed
  else if dev.isSome ∨ !(c.bound s) ∨ c.is22 s then .none
  else if (c.src s).lost then .lost
  else if (match c.srcRate s with | some r => r != c.tdRate td | none => false) || (now == .rate && decide (L.rateRun < 2)) then .rate
  else if isExternalSrc s ∧ c.srcMode s = 0 ∧ (if now = .window then L.inRun < 2 else 2 ≤ L.outRun) then .window
  else .none

/-- The state of a level in fallback, and the path of its alternate source (R97, R99): `dst` in domain `td`, route on path `p`. -/
def Chip.fallbackOf (c : Chip) (d lvl td : Nat) (p : Path) : LevelState × Path :=
  if lvl = 2 ∧ c.dstFallback d ≠ 2 then (.black, .none)
  else if c.dstFallback d = 1 ∧ p = .frame then (.hold, .none)
  else if c.dstFallback d = 2 then
    let s := c.dstAlt d
    let ap := c.servePath s d td none
    let refused := (c.checkEarly ⟨d, s, 0xFFFF, 2 ^ lvl⟩ none).isSome || !(c.canClaim d lvl td s none ap)
    let pilotBad := !(c.fullIn td) && !(c.pilotSrc s c.sdiLocked)
    if refused || pilotBad || c.condition (8 * 65536) td s none .none != .none then (.black, .none) else (.alt, ap)
  else (.black, .none)

/-- Whether a level is in fallback. -/
def Level.fallen (v : Level) : Bool := v.state == .black || v.state == .hold || v.state == .alt

/-- The code of a level state in `XPT.DST_STATE.STATE` (R108). -/
def LevelState.code : LevelState → Nat
  | .normal => 0 | .await => 1 | .black => 2 | .hold => 3 | .alt => 4

/-- The code of a cause in `XPT.DST_STATE.CAUSE` (R108). -/
def Cause.code : Cause → Nat
  | .none => 0 | .lost => 1 | .rate => 2 | .window => 3 | .severed => 4

/-- Judges one level of a destination at its switch point (R98): it enters, keeps or leaves its fallback. A layer input has no
fallback of its own, and keeps the condition of its source only (R199). -/
def Chip.judgeLevel (c : Chip) (d lvl : Nat) : Chip :=
  match c.route d lvl with
  | none => c
  | some r =>
    let td := c.dstTd d
    let v := (c.dst d).lvl lvl
    let cause := c.condition (d * 4 + lvl) td r.src r.dev v.cause
    if isLayerInput d then c.modDst d (fun x => x.withLvl lvl { v with cause := cause })
    else if cause = .none then
      (if v.fallen then c.modDst d (fun x => x.withLvl lvl ⟨c.entryState d r.src td r.dev r.path, .none, .none⟩) else c)
    else if v.fallen ∧ !(v.state == .alt && c.condition (8 * 65536) td (c.dstAlt d) none .none != .none) then
      c.modDst d (fun x => x.withLvl lvl { v with cause := cause })
    else
      let f := c.fallbackOf d lvl td r.path
      c.modDst d (fun x => x.withLvl lvl ⟨f.1, cause, f.2⟩)

/-- An `XPT_FALLBACK` or `XPT_RESTORED` record for the levels of a mask (R672). -/
def Chip.fallbackEvent (c : Chip) (d src mask : Nat) (cause : Cause) (st : LevelState) : Chip :=
  (c.event (if st = .normal then Ev.xptRestored else Ev.xptFallback)
    [d * 65536 + src, mask * 256 + st.code * 16 + cause.code, (c.dom (c.dstTd d)).frame]).ctlTake d src
    ((c.route d ((levelsOf mask).headD 0)).bind Route.dev) mask
    (match c.route d ((levelsOf mask).headD 0) with | some r => r.path.code | none => 0) (if st = .normal then 5 else cause.code)

/-- The levels of a destination whose change, from `before`, is of one kind: entered fallback (true) or left it. -/
def changedLevels (before after : Dst) (entered : Bool) : List Nat :=
  [0, 1, 2].filter (fun l => (before.lvl l).fallen != (after.lvl l).fallen && (after.lvl l).fallen == entered)

/-- The records of fallbacks entered and left at a switch point: one for each source and cause, over the levels affected. A fallback
of the audio-follow level alone is silence and no destination fallback (R98). -/
def Chip.fallbackEvents (c : Chip) (d : Nat) (before : Dst) : Chip :=
  let after := c.dst d
  let go := fun (a : Chip) (entered : Bool) =>
    let ls := changedLevels before after entered
    if ls == [2] then a
    else ls.foldl (fun a l =>
      let v := if entered then after.lvl l else before.lvl l
      let same := ls.filter (fun k => c.routeSrc d k == c.routeSrc d l && (if entered then after.lvl k else before.lvl k).cause == v.cause)
      if same.head? == some l then
        a.fallbackEvent d (c.routeSrc d l) ((same.map (fun k => 2 ^ k)).sum) v.cause (if entered then v.state else .normal)
      else a) a
  go (go c true) false

/-! ## Path moves -/

/-- Moves a level's route to a path at a switch point (R82, R83), recording it with its cause. -/
def Chip.movePath (c : Chip) (d lvl cause : Nat) (r : Route) (p : Path) : Chip :=
  let td := c.dstTd d
  if c.canClaim d lvl td r.src r.dev p then
    ((c.setRoute d lvl (some { r with path := p })).modDst d
      (fun x => x.withLvl lvl { (x.lvl lvl) with state := c.entryState d r.src td r.dev p })).event Ev.xptPathMoved
      [cause * 1073741824 + p.code * 268435456 + d * 65536 + r.src, (c.dom td).frame]
  else c

/-- The path moves of one level at its destination's switch point: an `AUTO` source outside the window at two ticks, or a source
whose mode has changed (R82, R83); a route whose source has become bound or unbound takes the path that R81 would choose. During pilot
service no move is made (R513). -/
def Chip.moveLevel (c : Chip) (d lvl : Nat) : Chip :=
  match c.route d lvl with
  | none => c
  | some r =>
    let td := c.dstTd d
    if r.dev.isSome ∨ ((c.dst d).lvl lvl).fallen ∨ isLayerInput d ∨ c.packetCapture d then c
    else if (r.path = .none) ≠ (c.servePath r.src d td none = .none) ∨ (r.path = .packet) ≠ c.is22 r.src then
      (if c.canClaim d lvl td r.src none (c.servePath r.src d td none) then c.serveLevel d lvl r.src none else c)
    else if !(c.fullIn td) then c
    else if r.path = .line ∧ c.srcMode r.src = 1 then c.movePath d lvl 2 r .frame
    else if r.path = .line ∧ c.srcMode r.src = 2 ∧ isExternalSrc r.src ∧ 2 ≤ (c.lead r.src td).outRun then c.movePath d lvl 1 r .frame
    else if r.path = .frame ∧ c.srcMode r.src = 0 ∧ c.inWindow r.src td then c.movePath d lvl 2 r .line
    else c

/-- The cause `WINDOW` of R83: a frame-path route of a source whose new mode is `LINE` and which lies outside the window. -/
def Chip.modeFallback (c : Chip) (d lvl : Nat) : Chip :=
  match c.route d lvl with
  | none => c
  | some r =>
    let td := c.dstTd d
    if r.path = .frame ∧ r.dev = none ∧ c.fullIn td ∧ !(isLayerInput d) ∧ c.srcMode r.src = 0 ∧ !(c.inWindow r.src td)
        ∧ !((c.dst d).lvl lvl).fallen then
      let f := c.fallbackOf d lvl td r.path
      c.modDst d (fun x => x.withLvl lvl ⟨f.1, .window, f.2⟩)
    else c

/-- Applies `f` to the three levels of a destination in turn. -/
def Chip.eachLevel (c : Chip) (f : Chip → Nat → Chip) : Chip := f (f (f c 0) 1) 2

/-- Judges every level of a destination at its switch point (R83, R98) and records the fallbacks entered and left. -/
def Chip.judge (c : Chip) (d : Nat) : Chip :=
  (((c.eachLevel (fun a l => a.modeFallback d l)).eachLevel (fun a l => a.judgeLevel d l)).fallbackEvents d (c.dst d)).dropRestored d

/-- Carries out an accepted change of domain at a switch point of the new domain (R675). -/
def Chip.changeDomain (c : Chip) (d : Nat) : Chip :=
  match (c.dst d).newTd with
  | none => c
  | some (td, since) =>
    if c.now < since + msU 1 then c
    else
      let c1 := c.modDst d (fun x => { x with td := td, newTd := none })
      c1.eachLevel (fun a l => match a.route d l with | some r => a.serveLevel d l r.src r.dev | none => a)

/-- Applies the pilot routes due at a destination's switch point (R512). -/
def Chip.applyPilot (c : Chip) (d : Nat) : Chip :=
  match c.boot.pilotAt with
  | none => c
  | some u =>
    if c.now < u + msU 1 then c
    else
      let c1 := (c.boot.pilotDue.filter (fun k => k / 4 == d)).foldl (fun a k =>
        let r := (a.record tyPilotRoutes d)
        { (a.serveLevel d (k % 4) (u16 r 2) none) with xpt := { (a.serveLevel d (k % 4) (u16 r 2) none).xpt with
            pilotSet := dedup (a.xpt.pilotSet ++ [k]) } }) c
      { c1 with boot := { c1.boot with pilotDue := c1.boot.pilotDue.filter (fun k => k / 4 != d) } }

/-- Sets the commit flag of the frame in progress when its take application job is open (R61). -/
def Chip.commitFrame (c : Chip) (td : Nat) : Chip :=
  let m := c.dom td
  if m.jobFrame = some m.frame then c.modDom td (fun x => { x with commit := some m.frame, takeOvr := 0 }) else c

/-- Everything that happens at a destination's switch point in its domain (R90, R91, R98, R82). -/
def Chip.switch (c : Chip) (d : Nat) : Chip :=
  let td := c.dstTd d
  let c2 := (c.commitFrame td).applyPilot d
  let c3 := if (c2.dom td).commit = some (c2.dom td).frame then c2.applyStaged d else c2
  ((((c3.eachLevel (fun a l => a.moveLevel d l)).judge d).followIfChanged c3 d).settle c)

/-- A switch point of a destination in domain `td`: its own domain, or the one that an accepted change gives it (R675). -/
def Chip.switchIn (c : Chip) (d td : Nat) : Chip :=
  if td = c.dstTd d then c.switch d
  else match (c.dst d).newTd with
    | some n => if n.1 = td ∧ c.suspended = false then (((c.changeDomain d).judge d).followIfChanged c d).settle c else c
    | none => c

/-! ## Acceptance -/

/-- Counts a refused take or salvo (R108). -/
def Chip.countRefused (c : Chip) (code : Nat) : Chip :=
  (c.count Reg.XPT_REFUSED_COUNT 0 1).markIf (code == 0x020D) Reg.XPT_STATUS_QUEUE_FULL_SEEN

/-- A take has failed check 11 only for want of capacity on a port of this device: the port asks for the next step up (R409). -/
def Chip.wantCapacity (c : Chip) (code : Nat) (asks : List TakeAsk) (facts : List Remote) : Chip :=
  if code = 0x020B then
    ((asks.filter c.remoteInPart).zip facts).foldl (fun a p =>
      let v := (a.originOf p.1.dev).getD 0
      let td := a.dstTd p.1.dst
      if !(a.pathRefused v td p.2) && a.portFull v p.1.src td p.2 then (a.modStep p.2.port (fun x => { x with wanting := true })).judgeLoads else a) c
  else c

/-- Finishes a take or salvo: the checks of R85 and R86 in order, then acceptance, holding (R101) or refusal. -/
def Chip.finishTakes (c : Chip) (slot m : Nat) (asks : List TakeAsk) (nb : Option (Nat × Nat)) (notify salvo : Bool)
    (facts : List Remote) : Chip :=
  let held := asks.any c.mustHold
  let id := c.lan.takeId + 1
  match c.admitAll id nb notify slot (c.session slot).id (if salvo then asks.length else 0) held 0 facts asks with
  | .error (code, i) => ((c.wantCapacity code asks facts).countRefused code).refuse slot m code (if salvo then i else wholeIndex)
  | .ok c1 =>
    if held ∧ c.phase = 3 then (c.countRefused 0x1002).refuse slot m 0x1002 (if salvo then 0 else wholeIndex)
    else
      let c2 := { c1 with lan := { c1.lan with takeId := id } }
      let c3 := (dedup (asks.map (fun q => c.dstTd q.dst))).foldl Chip.restage (c2.settle c)
      if held then c3.held slot m (beBytes 8 id) else c3.done slot m (beBytes 8 id)

/-- A take or salvo request: with a remote source of the part an exchange runs first (R406); else it is finished at once. -/
def Chip.takeRequest (c : Chip) (slot m : Nat) (asks : List TakeAsk) (nb : Option (Nat × Nat)) (notify salvo : Bool) : Chip :=
  if asks.any (fun q => c.remoteInPart q && c.fullIn (c.dstTd q.dst)) then
    { c with spl := { c.spl with exchanges := c.spl.exchanges ++
      [{ slot := slot, session := (c.session slot).id, asks := asks, nb := nb, notify := notify, salvo := salvo, since := c.now }] } }
  else c.finishTakes slot m asks nb notify salvo []

/-! ## Takes checked again: held takes at full service (R102), takes of a composer that is enabled (R177) -/

/-- Checks some takes of the queue with one identifier in full, as one take or salvo that is accepted now: each that passes keeps its
place in acceptance order; a failure removes them all with a notice and a record. `facts` answers the remote takes in order. -/
def Chip.recheck (c : Chip) (q : Take) (part : List Take) (facts : List Remote) : Chip :=
  let asks := part.map (fun x => (⟨x.dst, x.src, x.dev.getD 0xFFFF, x.levels⟩ : TakeAsk))
  let mine := fun (x : Take) => x.id == q.id && part.any (fun y => y.dst == x.dst)
  let without : Chip := { c with xpt := { c.xpt with queue := c.xpt.queue.filter (fun x => !(mine x)) } }
  match without.admitAll q.id q.notBefore q.notify q.slot q.session q.salvo false 0 facts asks with
  | .ok c1 =>
    let fresh := c1.xpt.queue.filter mine
    let queue := c.xpt.queue.map (fun x => if mine x then (fresh.find? (fun y => y.dst == x.dst)).getD x else x)
    { c1 with xpt := { c1.xpt with queue := queue } }
  | .error (code, i) =>
    let st := statusOf code (if q.salvo = 0 then wholeIndex else i)
    (without.noticeTo q.slot q.session 0x8002 (beBytes 8 q.id ++ beBytes 4 st)).event Ev.xptHeldRefused
      [q.id / 4294967296, q.id % 4294967296, st]

/-- Checks every held take and salvo of a domain (R102), in acceptance order. A salvo that reaches into a domain without full service is
left for that domain's first tick (`skip`). -/
def Chip.releaseHeld (td : Nat) : Nat → List Nat → List Remote → Chip → Chip
  | 0, _, _, c => c
  | fuel + 1, skip, facts, c =>
    match c.xpt.queue.find? (fun q => q.held && c.dstTd q.dst == td && !(skip.contains q.id)) with
    | none => c
    | some q =>
      let part := c.xpt.queue.filter (fun x => x.id == q.id)
      if part.all (fun x => c.fullIn (c.dstTd x.dst)) then
        Chip.releaseHeld td fuel (q.id :: skip) (facts.drop ((part.filter (fun x => x.dev.isSome)).length)) (c.recheck q part facts)
      else Chip.releaseHeld td fuel (q.id :: skip) facts c

/-- Checks the takes that waited for a composer of a domain to be enabled (R177), in acceptance order. -/
def Chip.releaseDeferred (td : Nat) : Nat → List Nat → Chip → Chip
  | 0, _, c => c
  | fuel + 1, skip, c =>
    let due := fun (q : Take) => q.deferred && !q.held && !(c.cmpOff q.dst) && c.dstTd q.dst == td
    match c.xpt.queue.find? (fun q => due q && !(skip.contains q.id)) with
    | none => c
    | some q =>
      Chip.releaseDeferred td fuel (q.id :: skip) (c.recheck q (c.xpt.queue.filter (fun x => x.id == q.id && due x)) [])

/-- The exchanges of a rejoin are complete: each route that has succeeded is restored at a switch point at least 1 ms later (R418). -/
def Chip.restored (c : Chip) (asks : List TakeAsk) (facts : List Remote) : Chip :=
  (asks.zip facts).foldl (fun a p =>
    let td := a.dstTd p.1.dst
    let key := p.1.dst * 4 + (levelsOf p.1.levels).headD 0
    if p.2.readout && !(p.2.is22) && !(a.pathRefused p.1.dev td p.2) && !(a.portFull p.1.dev p.1.src td p.2) && a.spl.severed.contains key then
      let b := a.reserveFor p.1 (some p.2)
      { b with spl := { b.spl with restores := Tbl.ins b.spl.restores key (b.now + msU 1) } }
    else a) c

end Sys2Proof.Machine
end

