-- ==== Sys2Proof/Machine/Takes.lean ====
section
/-! DEFINITION. The commands of the crosspoint (R77 to R110): takes, salvos and cancels, the take application job, switch points,
lost sources, line slot reads, and the reservation exchanges of remote takes (R406). -/

namespace Sys2Proof.Machine

/-- The not-before time of a request, when its flag asks for one (R541). -/
def notBeforeOf (flags sec ns : Nat) : Option (Nat × Nat) := if bit flags 1 then some (sec, ns) else none

/-- Whether a `TAKE` body has the length and reserved fields of R541. -/
def takeBodyOk (b : List Byte) : Bool :=
  decide (b.length = 24) && decide (u8 b 7 ≤ 3) && decide (u32 b 16 ≤ 999999999) && zeroAt b 20 4

/-- What a `TAKE` body asks for (R85, R541). -/
def Chip.takeMsg (c : Chip) (slot : Nat) (body : List Byte) : Chip :=
  c.takeRequest slot 0x0101 [⟨u16 body 0, u16 body 2, u16 body 4, u8 body 6⟩] (notBeforeOf (u8 body 7) (u64 body 8) (u32 body 16))
    (bit (u8 body 7) 0) false

/-- TAKE (R85, R541). -/
def execTake (t : Nat) (slot : Fin 16) (body : List Byte) (s : State) : Host.Outcome State Fault Refusal :=
  act t s (fun c => c.request slot 0x0101 1 false (takeBodyOk body) (fun c => c.takeMsg slot body))

/-- The takes of a salvo body (R542). -/
def salvoAsks (b : List Byte) : List TakeAsk :=
  (List.range (u16 b 0)).map (fun i => ⟨u16 b (16 + 8 * i), u16 b (18 + 8 * i), u16 b (20 + 8 * i), u8 b (22 + 8 * i)⟩)

/-- Whether a `SALVO` body has the length and reserved fields of R542. -/
def salvoBodyOk (b : List Byte) : Bool :=
  decide (b.length = 16 + 8 * u16 b 0) && decide (u8 b 2 ≤ 3) && zeroAt b 3 1 && decide (u32 b 4 ≤ 999999999)
    && (List.range (u16 b 0)).all (fun i => zeroAt b (23 + 8 * i) 1)

/-- What a `SALVO` body asks for (R86, R542). -/
def Chip.salvoMsg (c : Chip) (slot : Nat) (body : List Byte) : Chip :=
  let asks := salvoAsks body
  match firstCode [(asks.isEmpty || decide (4096 < asks.length), 0x020E), (hasDup (asks.map TakeAsk.dst), 0x020F)] with
  | some code => (c.countRefused code).refuse slot 0x0102 code wholeIndex
  | none => c.takeRequest slot 0x0102 asks (notBeforeOf (u8 body 2) (u64 body 8) (u32 body 4)) (bit (u8 body 2) 0) true

/-- SALVO (R86, R542). -/
def execSalvo (t : Nat) (slot : Fin 16) (body : List Byte) (s : State) : Host.Outcome State Fault Refusal :=
  act t s (fun c => c.request slot 0x0102 1 false (salvoBodyOk body) (fun c => c.salvoMsg slot body))

/-- CANCEL (R93, R543): the whole take, salvo or audio take leaves the queue, unless a part of it is staged or has applied. -/
def execCancel (t : Nat) (slot : Fin 16) (body : List Byte) (s : State) : Host.Outcome State Fault Refusal :=
  act t s (fun c => c.request slot 0x0103 1 false (decide (body.length = 8)) (fun c =>
    let id := u64 body 0
    let part := c.xpt.queue.filter (fun q => q.id == id)
    let aud := c.xpt.audQueue.filter (fun q => q.id == id)
    match firstCode [(part.isEmpty && aud.isEmpty, 0x0213),
        (part.any (fun q => q.staged) || part.any (fun q => decide (part.length < q.salvo))
          || aud.any (fun q => decide (q.records.length < q.count)), 0x0212)] with
    | some code => c.refuse slot 0x0103 code wholeIndex
    | none =>
      let c1 : Chip := { c with xpt := { c.xpt with
        queue := c.xpt.queue.filter (fun q => q.id != id), audQueue := c.xpt.audQueue.filter (fun q => q.id != id) } }
      let c2 := (dedup (part.map (fun q => c.dstTd q.dst))).foldl Chip.restage (c1.settle c)
      c2.done slot 0x0103 []))

/-- TAKE_JOB_OPEN (R60): the job of the coming frame opens and stages the accepted takes. A disabled domain opens no job (R673). -/
def execTakeJobOpen (t : Nat) (td : Fin 4) (s : State) : Host.Outcome State Fault Refusal :=
  act t s (fun c =>
    if c.tick.running && c.tdOn td && !c.suspended then
      let f := c.jobFrameOf td
      (c.modDom td (fun m => { m with jobFrame := some f.1 })).stage td f.2
    else c)

/-- SWITCH_POINT (R90): the destination's switch point in domain `td`. -/
def execSwitchPoint (t : Nat) (dst : Fin 1568) (td : Fin 4) (s : State) : Host.Outcome State Fault Refusal :=
  act t s (fun c => c.switchIn dst td)

/-- SOURCE_LOST (R98): condition `LOST` begins when `LOSS_FRAMES` frame periods have passed without a complete frame. -/
def execSourceLost (t : Nat) (src : Fin 1120) (s : State) : Host.Outcome State Fault Refusal :=
  act t s (fun c =>
    match c.srcRate src with
    | none => c
    | some r =>
      if c.bound src && !(c.src src).lost
          && decide ((c.src src).lastGood + c.fld Reg.XPT_SRC_CFG_LOSS_FRAMES src * framePeriod r ≤ c.now) then
        c.modSrc src (fun x => { x with lost := true, restore := 0 })
      else c)

/-- What `XPT.CTRL.CLR_CNT` does (R108). -/
def Chip.clrXpt (c : Chip) : Chip :=
  let c1 := c.clearAll [Reg.XPT_REFUSED_COUNT, Reg.XPT_LINE_MISS_COUNT, Reg.XPT_ANC_DROP_COUNT]
  (c1.set Reg.XPT_QUEUE_PEAK 0 c.queueUsed).set Reg.XPT_SLOTS_PEAK 0 c.slotsUsed

/-- XPT_CLR_CNT (R108): the counts clear, and each peak becomes the number in use. -/
def execXptClrCnt (t : Nat) (s : State) : Host.Outcome State Fault Refusal := act t s (fun c => c.clrXpt)

/-- One line of black video of a format (R80): 4:2:2 samples in the order Cb Y Cr Y. -/
def blackLine (f : Option Format) : List Nat :=
  match f with
  | some f => (List.range f.width).flatMap (fun _ => [512, 64])
  | none => []

/-- The key of a line slot: the live slot of a pair, or the slot of its read-out engine (R31). -/
def slotKey (pair : Nat) (readout : Bool) : Nat := 2 * pair + (if readout then 1 else 0)

/-- The line slot that a level of a destination reads now, with whether it is read on the line path; none where it sends black, or
nothing (R31, R84, R98). -/
def Chip.levelSlot (c : Chip) (d lvl : Nat) : Option (Nat × Bool) :=
  match c.route d lvl with
  | none => none
  | some r =>
    let td := c.dstTd d
    let v := (c.dst d).lvl lvl
    let pick := fun (s : Nat) (dev : Option Nat) (p : Path) =>
      match p with
      | .line => some (slotKey (pairKey dev s td) false, true)
      | .frame => some (slotKey (pairKey dev s td) true, false)
      | _ => none
    match v.state with
    | .normal => pick r.src r.dev r.path
    | .hold => pick r.src r.dev r.path
    | .alt => pick (c.dstAlt d) none v.altPath
    | _ => none

/-- The live contents of a line slot. -/
def Chip.slotAt (c : Chip) (k : Nat) : LineSlot := Tbl.get LineSlot.reset c.fst.slots k

/-- RESERVATION_EXCHANGE_DONE (R406): R85 is applied with what the exchange returned, at this instant as the acceptance time. -/
def execReservationExchangeDone (t : Nat) (slot : Fin 17) (facts : List Remote) (s : State) : Host.Outcome State Fault Refusal :=
  act t s (fun c =>
    match c.spl.exchanges.find? (fun e => e.slot == slot.val) with
    | none => c
    | some e =>
      let c1 := { c with spl := { c.spl with exchanges := c.spl.exchanges.filter (fun x => x.slot != slot.val) } }
      if slot.val = 16 then c1.restored e.asks facts
      else if (c.session slot).id = e.session ∧ (c.session slot).state = .opened then
        Chip.answerUnknown slot 256 ((c1.finishTakes slot (if e.salvo then 0x0102 else 0x0101) e.asks e.nb e.notify e.salvo facts).mirrorOut c1 slot
          (if e.salvo then 0x0102 else 0x0101))
      else c1)

/-- RESERVATION_EXCHANGE_TIMEOUT (R406): the exchange has not completed within 200 µs, so check 11 fails with `NO_PATH`; a take that fails an
earlier check still fails with that check's code. -/
def execReservationExchangeTimeout (t : Nat) (slot : Fin 17) (s : State) : Host.Outcome State Fault Refusal :=
  act t s (fun c =>
    match c.spl.exchanges.find? (fun e => e.slot == slot.val) with
    | none => c
    | some e =>
      let c1 := { c with spl := { c.spl with exchanges := c.spl.exchanges.filter (fun x => x.slot != slot.val) } }
      if (c.session slot).id = e.session ∧ (c.session slot).state = .opened then
        Chip.answerUnknown slot 256 ((c1.finishTakes slot (if e.salvo then 0x0102 else 0x0101) e.asks e.nb e.notify e.salvo
          ((e.asks.filter c.remoteInPart).map (fun _ => noRemote false))).mirrorOut c1 slot (if e.salvo then 0x0102 else 0x0101))
      else c1)

end Sys2Proof.Machine
end

