-- ==== Sys2Proof/Machine/FrameStore.lean ====
section
/-! DEFINITION. Frame store and synchronisers (R111 to R143, R674): ingest writers, line slots, decisions, read-outs. -/

namespace Sys2Proof.Machine

/-! ## Rasters -/

/-- The row of the active picture, woven from both fields, that a line of a format's raster carries (R120, R674). -/
def activeRow (f : Format) (line : Nat) : Option Nat :=
  let span := fun (a b base step : Nat) => if a ≤ line ∧ line ≤ b then some (base + step * (line - a)) else none
  let or2 := fun (x y : Option Nat) => match x with | some v => some v | none => y
  if f.height = 486 then or2 (span 21 263 0 2) (span 283 525 1 2)
  else if f.height = 576 then or2 (span 23 310 0 2) (span 336 623 1 2)
  else if f.height = 720 then span 26 745 0 1
  else if f.height = 1080 then (if f.scan = 0 then span 42 1121 0 1 else or2 (span 21 560 0 2) (span 584 1123 1 2))
  else if f.height = 2160 then span 83 2242 0 1
  else if line = 0 then none else span 1 f.height 0 1

/-- The first and the last active line of a format's raster (R674). -/
def activeSpan (f : Format) : Nat × Nat :=
  if f.height = 486 then (21, 525) else if f.height = 576 then (23, 623) else if f.height = 720 then (26, 745)
  else if f.height = 1080 then (if f.scan = 0 then (42, 1121) else (21, 1123))
  else if f.height = 2160 then (83, 2242) else (1, f.height)

/-- The carrier raster of a composer output (R180): its total lines, and the first active line of each field (0: no second field). -/
def carrier (f : Format) : Nat × Nat × Nat :=
  if f.scan = 0 then
    (if 7 ≤ f.rate ∧ f.rate ≤ 9 ∧ f.height ≤ 720 then (750, 26, 0) else if f.height ≤ 1080 then (1125, 42, 0) else (2250, 83, 0))
  else if f.height ≤ 1080 then (1125, 21, 584) else (2250, 41, 1166)

/-- The row of a picture that a line carries: in the carrier raster for a composer output (R180), else in the format's own raster. -/
def sourceRow (s : Nat) (f : Format) (line : Nat) : Option Nat :=
  if isComposer s then
    let k := carrier f
    let span := fun (a n base step : Nat) => if a ≤ line ∧ line < a + n then some (base + step * (line - a)) else none
    if k.2.2 = 0 then span k.2.1 f.height 0 1
    else match span k.2.1 (f.height / 2) 0 2 with
      | some r => some r
      | none => span k.2.2 (f.height / 2) 1 2
  else activeRow f line

/-- Whether a line lies in the second field, or the format has one field only. -/
def lastField (f : Format) (line : Nat) : Bool :=
  f.scan == 0 || (if f.height = 486 then decide (264 < line) else if f.height = 576 then decide (311 < line) else decide (561 < line))

/-- The samples of one pixel of black (R23): Cb or Cr, then Y; a 4:4:4 pixel Cb, Y, Cr; an RGB pixel G, B, R. -/
def blackPixel (f : Format) : List Nat :=
  let k := if f.depth = 8 then 1 else if f.depth = 12 then 16 else 4
  if f.sampling = 0 then [128 * k, 16 * k] else if f.sampling = 1 then [128 * k, 16 * k, 128 * k] else [16 * k, 16 * k, 16 * k]

/-- One row of black. -/
def blackRow (f : Format) : List Nat := (List.range f.width).flatMap (fun _ => blackPixel f)

/-! ## Synchroniser state -/

/-- The synchroniser of a source. -/
def Chip.sync (c : Chip) (s : Nat) : Sync := Tbl.get Sync.reset c.fst.syncs s

/-- Changes the synchroniser of a source. -/
def Chip.modSync (c : Chip) (s : Nat) (f : Sync → Sync) : Chip :=
  { c with fst := { c.fst with syncs := Tbl.upd Sync.reset c.fst.syncs s f } }

/-- The decision for a source in a domain. -/
def Chip.decision (c : Chip) (s td : Nat) : Decision := Tbl.get Decision.reset (c.sync s).decisions td

/-- The bank of the decision registers for a pair: the value of `FST.SYNC_SEL` (R141). -/
def pairBank (s td : Nat) : Nat := s + 4096 * td

/-- A frame buffer of a source. -/
def Sync.buf (y : Sync) (b : Nat) : Buffer := Tbl.get Buffer.reset y.bufs b

/-- Replaces a frame buffer. -/
def Sync.setBuf (y : Sync) (b : Nat) (v : Buffer) : Sync := { y with bufs := Tbl.put Buffer.reset y.bufs b v }

/-- Whether a domain latches buffer `b` at instant `now` (R121). -/
def Sync.latchedAt (y : Sync) (now b : Nat) : Bool :=
  y.decisions.any (fun e => e.2.latched == some b || (e.2.oldLatch == some b && decide (now < e.2.oldUntil)))

/-- The buffer that the writer chooses for a new frame (R121); none when the frame is lost. -/
def Sync.choose (y : Sync) (now : Nat) : Option Nat :=
  let free := [0, 1, 2].filter (fun b => y.newest != some b && !(y.latchedAt now b))
  match free.find? (fun b => (y.buf b).frame.isNone) with
  | some b => some b
  | none => free.foldl (fun a b => match a with
      | none => some b
      | some x => if (y.buf b).frame.getD 0 < (y.buf x).frame.getD 0 then some b else some x) none

/-- Whether a source is written into the frame store (R28, R36, R129): a route reads it through the frame path, or it is taken to a layer input or
to a capture input at essence level. A take to a layer input counts from its acceptance. -/
def Chip.written (c : Chip) (s : Nat) : Bool :=
  c.fst.ready && (c.routesList.any (fun e => e.2.2.src == s && e.2.2.dev.isNone &&
      (e.2.2.path == .frame || isLayerInput e.1 || (isCapture e.1 && !(c.packetCapture e.1))))
    || c.altsList.any (fun e => e.2.2.1 == s && e.2.2.2 == .frame) || c.spl.exports.any (fun x => x.src == s)
    || c.xpt.queue.any (fun q => q.src == s && q.dev.isNone && isLayerInput q.dst && !q.held && !q.deferred))

/-- Whether the pyramid of a source is written (R128, R129). -/
def Chip.pyramidOn (c : Chip) (s : Nat) : Bool := c.pyramids.contains s

/-- Starts a frame of a source (R119, R121). -/
def Chip.startFrame (c : Chip) (s : Nat) : Chip :=
  let y := c.sync s
  let n := y.nextFrame
  let base := fun (y : Sync) => { y with nextFrame := (n + 1) % 2 ^ 48, active := true, discard := false, arrived := [], firstAt := c.now, writing := none }
  if c.written s then
    match y.choose c.now with
    | none =>
      (((c.modSync s (fun y => { base y with discard := true })).count Reg.FST_WR_COLLIDE_COUNT s 1).mark
        Reg.FST_STATUS_COLLIDE_SEEN).event Ev.fstWriteCollide [s, n]
    | some b =>
      c.modSync s (fun y => { (base y).setBuf b { Buffer.reset with pyramid := c.pyramidOn s, format := c.srcFormat s } with writing := some b })
  else c.modSync s base

/-- The rows of a frame that did not arrive. -/
def missingRows (f : Format) (arrived : List Nat) : List Nat := (List.range f.height).filter (fun r => !(arrived.contains r))

/-- Fills the tiles that hold a missing row from the newest complete frame, or with black (R123). -/
def substitute (f : Format) (prev : Option Buffer) (b : Buffer) (rows : List Nat) : Buffer :=
  let tileRows := dedup (rows.map (fun r => r / 16))
  let fill := (List.range f.height).filter (fun r => tileRows.contains (r / 16))
  { b with
    lines := fill.foldl (fun t r =>
      Tbl.put [] t r (match prev with | some p => Tbl.get (blackRow f) p.lines r | none => blackRow f)) b.lines,
    subst := tileRows.flatMap (fun tr => (List.range (ceilDiv f.width 64)).map (fun i => tr * 64 + i)) }

/-- A complete frame of a source has arrived: what R98 counts from it. -/
def Chip.frameArrived (c : Chip) (s : Nat) : Chip :=
  c.modSrc s (fun x =>
    let n := if x.lost then x.restore + 1 else 0
    { x with lastGood := c.now, lost := x.lost && decide (n < 2), restore := if n < 2 then n else 0 })

/-- Ends the frame in progress of a source (R120, R122, R123). -/
def Chip.endFrame (c : Chip) (s : Nat) (f : Format) : Chip :=
  let y := c.sync s
  let n := (y.nextFrame + 2 ^ 48 - 1) % 2 ^ 48
  let rows := missingRows f y.arrived
  let missing := rows.length
  let idle := fun (y : Sync) => { y with active := false, discard := false, writing := none, arrived := [] }
  if y.active then
    if c.fld Reg.FST_SRC_CFG_MISS_LINES s < missing then
      let c1 := (c.modSync s (fun y => idle (match y.writing with | some b => y.setBuf b Buffer.reset | none => y))).watchFrame s f n rows
      ((c1.modSrc s (fun x => { x with restore := 0 })).count Reg.FST_WR_INCOMPLETE_COUNT s 1).event Ev.fstFrameIncomplete [s, n, missing]
    else
      let c1 := match y.writing with
        | none => c.modSync s idle
        | some b =>
          let prev := y.newest.map (fun k => y.buf k)
          let done := { substitute f prev (y.buf b) rows with frame := some n }
          (c.modSync s (fun y => idle { y.setBuf b done with newest := some b })).count Reg.FST_WR_SUBST_COUNT s done.subst.length
      let c2 := if y.discard then c1 else (c1.count Reg.FST_WR_FRAMES_COUNT s 1).ctlArrival s n missing
      (c2.watchFrame s f n rows).frameArrived s
  else c

/-! ## Ingress -/

/-- The bytes of an ancillary packet of 10-bit words. -/
def ancBytesOf (p : List Nat) : Nat := ceilDiv (10 * p.length) 8

/-- Keeps the newest eight lines of a slot. -/
def keepEight (t : Tbl (List Nat)) (newest : Nat) : Tbl (List Nat) :=
  if 8 < t.length then
    match (t.filter (fun e => decide (newest < e.1))).head? with
    | some e => Tbl.del t e.1
    | none => t.drop 1
  else t

/-- Puts a complete line into a line slot, with the ancillary packets that fit in its 5 KiB area (R33, R34): the slot, and the number
of packets discarded. -/
def LineSlot.write (x : LineSlot) (line : Nat) (samples : List Nat) (anc : List (List Nat)) (activeLine : Bool) : LineSlot × Nat :=
  let lines := keepEight (Tbl.ins x.lines line samples) line
  let early := fun (l : Nat) => decide (line < l) || decide (l + 400 < line)
  let others := (x.anc.filter (fun e => e.1 != line && (early e.1 || lines.any (fun l => l.1 == e.1))))
  let mine := if line = x.newest ∨ Tbl.has x.lines line then [] else Tbl.get [] x.anc line
  let used := (others.map (fun e => ancBytesOf e.2)).sum
  let kept := anc.foldl (fun a p =>
    if activeLine = false ∨ used + ancBytesOf a.1 + ancBytesOf p ≤ 5120 then (a.1 ++ p, a.2) else (a.1, a.2 + 1)) (mine, 0)
  ({ x with newest := line, lines := lines, anc := Tbl.put [] others line kept.1,
            ancBytes := used + ancBytesOf kept.1 }, kept.2)

/-- Adds ancillary packets to a line of a slot by themselves (R254): those of a line more than 400 lines behind the newest one belong to the frame
that comes next. -/
def LineSlot.addAnc (x : LineSlot) (line : Nat) (anc : List (List Nat)) : LineSlot × Nat :=
  let used := (x.anc.map (fun e => ancBytesOf e.2)).sum
  let kept := anc.foldl (fun a p => if used + ancBytesOf a.1 + ancBytesOf p ≤ 5120 then (a.1 ++ p, a.2) else (a.1, a.2 + 1)) ([], 0)
  ({ x with anc := Tbl.put [] x.anc line (Tbl.get [] x.anc line ++ kept.1), ancBytes := used + ancBytesOf kept.1 }, kept.2)

/-- Changes a line slot. -/
def Chip.setSlot (c : Chip) (k : Nat) (v : LineSlot) : Chip :=
  { c with fst := { c.fst with slots := Tbl.put LineSlot.reset c.fst.slots k v } }

/-- Writes a line into the live slots of a source: one for each domain whose pair is read on the line path or claimed (R31). -/
def Chip.writeLive (c : Chip) (s line : Nat) (samples : List Nat) (anc : List (List Nat)) (activeLine : Bool) : Chip :=
  ((List.range 4).filter (fun td => c.pairs.contains (s * 4 + td))).foldl (fun a td =>
    let r := (a.slotAt (slotKey (s * 4 + td) false)).write line samples anc activeLine
    (a.setSlot (slotKey (s * 4 + td) false) r.1).count Reg.XPT_ANC_DROP_COUNT s r.2) c

/-- The most ancillary bytes of a frame's side area (R113). -/
def sideAncLimit : Nat := 508 * 1024

/-- Writes a row and its ancillary packets into the frame buffer being written (R113, R253). -/
def Chip.writeStore (c : Chip) (s line row : Nat) (samples : List Nat) (anc : List (List Nat)) : Chip :=
  let y := c.sync s
  let c0 := c.modSync s (fun y => { y with arrived := if y.arrived.contains row then y.arrived else y.arrived ++ [row] })
  let c1 := if isExternalSrc s then c0.watchRow s row samples anc else c0
  match y.writing with
  | none => c1
  | some b =>
    let buf := y.buf b
    let used := (buf.anc.map (fun e => ancBytesOf e.2)).sum
    let kept := anc.foldl (fun a p =>
      if used + ancBytesOf a.1 + ancBytesOf p ≤ sideAncLimit then (a.1 ++ p, a.2) else (a.1, a.2 + 1)) ([], 0)
    (c1.modSync s (fun y => y.setBuf b { buf with
      lines := Tbl.put [] buf.lines row samples,
      anc := Tbl.put [] buf.anc line (Tbl.get [] buf.anc line ++ kept.1) })).count Reg.FST_ANC_DROP_COUNT s kept.2

/-- Places the ancillary packets of a line outside the active picture into the frame buffer being written; flow watch looks for an identity
in them (R445). -/
def Chip.storeAnc (c0 : Chip) (s line : Nat) (anc : List (List Nat)) : Chip :=
  let c : Chip := { c0 with fwa := { c0.fwa with ident := match identOf anc.flatten with | some n => Tbl.ins c0.fwa.ident s n | none => c0.fwa.ident } }
  match (c.sync s).writing with
  | none => c
  | some b => c.modSync s (fun y => y.setBuf b { y.buf b with anc := Tbl.put [] (y.buf b).anc line (Tbl.get [] (y.buf b).anc line ++ anc.flatten) })

/-- A line of the active picture joins the frame of its source: the first active line of the next frame ends the one in progress, the last one ends
its own (R120, R674). -/
def Chip.frameLine (c : Chip) (s : Nat) (f : Format) (line row : Nat) (samples : List Nat) (anc : List (List Nat)) (marker : Bool) : Chip :=
  let c1 := if (c.sync s).active ∧ line = (activeSpan f).1 ∧ (c.sync s).arrived ≠ [] then c.endFrame s f else c
  let c2 := if (c1.sync s).active then c1 else c1.startFrame s
  let c3 := c2.writeStore s line row samples anc
  if line = (activeSpan f).2 ∨ (marker = true ∧ lastField f line = true) then c3.endFrame s f else c3

/-- One line of a source's essence arrives (R24, R253): its line slots, and its frame. -/
def Chip.ingest (c : Chip) (s line : Nat) (samples : List Nat) (anc : List (List Nat)) (marker : Bool) : Chip :=
  match c.srcFormat s with
  | none => c
  | some f =>
    match activeRow f line with
    | none => (c.writeLive s line samples anc false).storeAnc s line anc
    | some row => (c.writeLive s line samples anc true).frameLine s f line row samples anc marker

/-- LINE_WRITE (R253): ingress writes a line of a bound external source. -/
def execLineWrite (t : Nat) (src : Fin 1024) (line : Nat) (samples : List Nat) (anc : List (List Nat)) (marker : Bool) (s : State) :
    Host.Outcome State Fault Refusal :=
  act t s (fun c => if c.bound src && !(c.is22 src) then c.ingest src line samples anc marker else c)

/-! ## Decisions -/

/-- The sources for which a decision exists in a domain (R127). -/
def Chip.decisionSources (c : Chip) (td : Nat) : List Nat :=
  dedup ((c.routesList.filter (fun e => c.dstTd e.1 == td && e.2.2.dev.isNone && e.2.2.path == .frame)).map (fun e => e.2.2.src)
    ++ (c.altsList.filter (fun e => c.dstTd e.1 == td && e.2.2.2 == .frame)).map (fun e => e.2.2.1)
    ++ (c.spl.exports.filter (fun x => x.td == td)).map (fun x => x.src))

/-- One decision (R126) at a tick, with the release time of the latch before it (R121). -/
def Chip.decideFrame (c : Chip) (s td : Nat) : Chip :=
  let y := c.sync s
  let fresh := !(Tbl.has y.decisions td)
  let c0 := if fresh then (c.set Reg.FST_SYNC_REPEAT_COUNT (pairBank s td) 0).set Reg.FST_SYNC_DROP_COUNT (pairBank s td) 0 else c
  let c1 := if fresh then c0.set Reg.FST_SYNC_TILE_SUB_COUNT (pairBank s td) 0 else c0
  let d := Tbl.get Decision.reset y.decisions td
  let put := fun (c : Chip) (v : Decision) => c.modSync s (fun y => { y with decisions := Tbl.ins y.decisions td { v with live := true } })
  match y.newest with
  | none => put c1 { d with await := true, repeated := false, dropped := false }
  | some b =>
    let f := (y.buf b).frame.getD 0
    let gap := match d.last with | some l => (f + 2 ^ 48 - l) % 2 ^ 48 | none => 1
    let rep := d.last.isSome && gap == 0
    let drop := d.last.isSome && decide (1 < gap)
    let c2 := if rep then c1.count Reg.FST_SYNC_REPEAT_COUNT (pairBank s td) 1
              else if drop then c1.count Reg.FST_SYNC_DROP_COUNT (pairBank s td) (gap - 1) else c1
    put c2 { d with latched := some b, last := some f, await := false, repeated := rep, dropped := drop, sideLate := false,
                    oldLatch := if d.latched = some b then none else d.latched, oldUntil := c.now + nsU (c.dom td).outDelay }

/-- Levels of destinations that waited for a first frame and have one now (R84). -/
def Chip.leaveAwait (c : Chip) (td : Nat) : Chip :=
  (c.routesList.filter (fun e => c.dstTd e.1 == td && e.2.2.path == .frame)).foldl (fun a e =>
    let v := (a.dst e.1).lvl e.2.1
    if v.state = .await ∧ a.readoutHasFrame e.2.2.src td then
      (let b := a.modDst e.1 (fun x => x.withLvl e.2.1 { v with state := .normal })
       if e.2.1 = 2 then b.followAudio e.1 else b)
    else a) c

/-- The SYNC job of a tick (R60, R126): every decision of the domain; decisions no longer needed end. -/
def Chip.syncJob (c : Chip) (td : Nat) : Chip :=
  let ss := c.decisionSources td
  let c1 : Chip := { c with fst := { c.fst with syncs := c.fst.syncs.map (fun e =>
    if ss.contains e.1 then e else (e.1, { e.2 with decisions := Tbl.del e.2.decisions td })) } }
  (ss.foldl (fun a s => a.decideFrame s td) c1).leaveAwait td

/-- What an abandoned SYNC job leaves (R62): every read-out engine reads the buffer it read for the frame before, and the frame counts
as a repeat. -/
def Chip.syncAbandoned (c : Chip) (td : Nat) : Chip :=
  (c.decisionSources td).foldl (fun a s =>
    if (a.decision s td).latched.isSome then
      (a.count Reg.FST_SYNC_REPEAT_COUNT (pairBank s td) 1).modSync s (fun y =>
        { y with decisions := Tbl.ins y.decisions td { Tbl.get Decision.reset y.decisions td with repeated := true, dropped := false } })
    else a) c

/-! ## Read-out -/

/-- The samples of one pixel column group: the slice of a row that a tile column holds (R115). -/
def tileSlice (f : Format) (row : List Nat) (col : Nat) : List Nat :=
  let n := 64 * (if f.sampling = 0 then 2 else 3)
  (row.drop (col * n)).take n

/-- A row with some tile columns replaced. -/
def patchRow (f : Format) (row : List Nat) (cols : List Nat) (other : List Nat) : List Nat :=
  (List.range (ceilDiv f.width 64)).flatMap (fun col => if cols.contains col then tileSlice f other col else tileSlice f row col)

/-- The complete frame that stands in for a poisoned tile of buffer `b` (R134): the preceding one, else the following one. -/
def Sync.standIn (y : Sync) (b : Nat) : Option Nat :=
  let n := (y.buf b).frame.getD 0
  let others := [0, 1, 2].filter (fun k => k != b && (y.buf k).frame.isSome && y.writing != some k)
  match others.filter (fun k => decide ((y.buf k).frame.getD 0 < n)) with
  | [] => others.head?
  | l => l.foldl (fun a k => match a with
      | none => some k
      | some x => if (y.buf x).frame.getD 0 < (y.buf k).frame.getD 0 then some k else some x) none

/-- Records uncorrectable frame store errors (R133). -/
def Chip.eccErrors (c : Chip) (corrected : Nat) (errors : List TileError) : Chip :=
  let c1 := (c.count Reg.FST_ECC_CE_COUNT 0 corrected).count Reg.FST_ECC_UE_COUNT 0 errors.length
  match errors.getLast? with
  | none => c1
  | some e => ((c1.set Reg.FST_ECC_ADDR_LO_ADDR 0 e.addr).set Reg.FST_ECC_ADDR_HI_ADDR 0 (e.addr / 4294967296)).mark Reg.FST_STATUS_UE_SEEN

/-- Poisons tiles of a buffer and records their loss (R133, R134). -/
def Chip.poisonTiles (c : Chip) (s td b row : Nat) (pyramid : Bool) (errors : List TileError) : Chip :=
  if errors = [] then c
  else
    let c1 := c.modSync s (fun y => y.setBuf b { y.buf b with poison := dedup ((y.buf b).poison ++ errors.map (fun e => row / 16 * 64 + e.col)) })
    let c2 := (c1.set Reg.FST_SRC_FLAGS_TILE_LOST s 1).count Reg.FST_SYNC_TILE_SUB_COUNT (pairBank s td) errors.length
    errors.foldl (fun a e => (a.faultIs Ev.fstTileLost 1).event Ev.fstTileLost [s + b * 4096 + flag pyramid * 16384, e.addr / 4294967296 % 32, e.addr]) c2

/-- Sends a line that the read-out of an export has read as essence cells, on each port its stream leaves by (R402): words of this device's ID, stream and line, then the
line's samples and ancillary words. -/
def Chip.exportLine (c : Chip) (src td line : Nat) (samples anc : List Nat) : Chip :=
  match c.spl.exports.find? (fun x => x.src == src && x.td == td) with
  | none => c
  | some x => x.ports.foldl (fun a p => a.emit (.cell p 1 ([c.deviceId, x.stream, line] ++ samples ++ anc))) c

/-- READOUT_LINE (R131): the read-out engine of a pair reads a line of its latched frame into its slot, with the line's ancillary
packets, unless its side data came late (R132); tiles lost are taken from another frame (R134). -/
def execReadoutLine (t : Nat) (src : Fin 1120) (td : Fin 4) (line corrected : Nat) (errors : List TileError) (sideLate : Bool) (s : State) :
    Host.Outcome State Fault Refusal :=
  act t s (fun c =>
    let y := c.sync src
    match (c.decision src td).latched with
    | none => c
    | some b =>
      let buf := y.buf b
      if c.readouts.any (fun k => k % 2 ^ 20 == src.val * 4 + td.val) then
        let f := buf.format.getD ((c.srcFormat src).getD ⟨0, 0, 0, 0, 10, 0⟩)
        let key := slotKey (src * 4 + td) true
        let anc := if sideLate then [] else [Tbl.get [] buf.anc line]
        let c00 := (c.eccErrors corrected errors).count Reg.FST_SIDE_LATE_COUNT 0 (flag sideLate)
        let c0 := if sideLate then c00.modSync src (fun y =>
          { y with decisions := Tbl.ins y.decisions td { Tbl.get Decision.reset y.decisions td with sideLate := true } }) else c00
        match sourceRow src f line with
        | none => (c0.setSlot key ((c0.slotAt key).write line [] anc false).1).exportLine src td line [] anc.flatten
        | some row =>
          let c1 := c0.poisonTiles src td b row false errors
          let bad := ((c1.sync src).buf b).poison.filterMap (fun k => if k / 64 = row / 16 then some (k % 64) else none)
          let stand := match y.standIn b with | some k => Tbl.get (blackRow f) (y.buf k).lines row | none => blackRow f
          let samples := if bad = [] then Tbl.get (blackRow f) buf.lines row else patchRow f (Tbl.get (blackRow f) buf.lines row) bad stand
          let r := (c1.slotAt key).write line samples anc true
          ((c1.setSlot key r.1).count Reg.XPT_ANC_DROP_COUNT src r.2).exportLine src td line samples (anc.flatten)
      else c)

/-- SCRUB_PASS (R136): a pass of the scrubber ends; it counts passes while `SCRUB_EN` is 1. -/
def execScrubPass (t : Nat) (corrected : Nat) (errors : List TileError) (s : State) : Host.Outcome State Fault Refusal :=
  act t s (fun c =>
    if c.isSet Reg.FST_CTRL_SCRUB_EN 0 then (c.eccErrors corrected errors).countWrap Reg.FST_SCRUB_PASSES 0 1 else c)

/-- What `FST.CTRL.CLR_CNT` clears (R141). -/
def Chip.clrFst (c : Chip) : Chip :=
  c.clearAll [Reg.FST_ECC_CE_COUNT, Reg.FST_ECC_UE_COUNT, Reg.FST_PYR_SETS_PEAK, Reg.FST_SCRUB_PASSES,
    Reg.FST_SIDE_LATE_COUNT, Reg.FST_WR_FRAMES_COUNT, Reg.FST_WR_INCOMPLETE_COUNT, Reg.FST_WR_SUBST_COUNT, Reg.FST_WR_COLLIDE_COUNT,
    Reg.FST_ANC_DROP_COUNT, Reg.FST_SYNC_REPEAT_COUNT, Reg.FST_SYNC_DROP_COUNT, Reg.FST_SYNC_TILE_SUB_COUNT]

/-- FST_CLR_CNT (R141): every counter of the block and `PYR_SETS.PEAK`. -/
def execFstClrCnt (t : Nat) (s : State) : Host.Outcome State Fault Refusal := act t s (fun c => c.clrFst)

/-- FRAME_STORE_TRAINING_DONE (R137): the store is in service, or the failing channels are marked and it stays unused. -/
def execFrameStoreTrainingDone (t : Nat) (fail : Nat) (s : State) : Host.Outcome State Fault Refusal :=
  act t s (fun c =>
    if fail % 2 ^ 64 = 0 then { (c.mark Reg.FST_STATUS_READY) with fst := { c.fst with ready := true } }
    else
      (((c.mark Reg.FST_STATUS_TRAIN_FAIL).set Reg.FST_TRAIN_MAP_LO_FAIL 0 fail).set Reg.FST_TRAIN_MAP_HI_FAIL 0 (fail / 4294967296)).event
        Ev.fstTrainFail [fail, fail / 4294967296])

/-- The counters of a source and of its decisions clear and its decisions start again when its binding changes (R143); R98 counts from now. -/
def Chip.rebind (c : Chip) (s : Nat) : Chip :=
  let c1 := [Reg.FST_WR_FRAMES_COUNT, Reg.FST_WR_INCOMPLETE_COUNT, Reg.FST_WR_SUBST_COUNT, Reg.FST_WR_COLLIDE_COUNT, Reg.FST_ANC_DROP_COUNT].foldl
    (fun a f => a.set f s 0) c
  let c2 := ((List.range 4).flatMap (fun td => [(Reg.FST_SYNC_REPEAT_COUNT, td), (Reg.FST_SYNC_DROP_COUNT, td), (Reg.FST_SYNC_TILE_SUB_COUNT, td)])).foldl
    (fun a p => a.set p.1 (pairBank s p.2) 0) c1
  ((c2.modSync s (fun y => { Sync.reset with decisions := y.decisions.map (fun e => (e.1, { Decision.reset with live := true })) })).modSrc s
    (fun _ => { Source.reset with lastGood := c.now })).watchRebound s

/-- The frame in progress of a source is lost: it counts as incomplete (R122, R125, R251). -/
def Chip.frameLost (c : Chip) (s : Nat) : Chip :=
  match c.srcFormat s with
  | none => c
  | some old =>
    if (c.sync s).active then
      let y := c.sync s
      let n := (y.nextFrame + 2 ^ 48 - 1) % 2 ^ 48
      let c1 := c.modSync s (fun y => { (match y.writing with | some b => y.setBuf b Buffer.reset | none => y) with
        active := false, discard := false, writing := none, arrived := [] })
      ((c1.watchFrame s old n (missingRows old y.arrived)).count Reg.FST_WR_INCOMPLETE_COUNT s 1).event Ev.fstFrameIncomplete
        [s, n, (missingRows old y.arrived).length]
    else c

/-- The format of an external source changes (R125): the frame in progress counts as incomplete, R98 counts from now, and the
allocator requests a swap (R149). -/
def Chip.formatChange (c : Chip) (s : Nat) (f : Option Format) : Chip :=
  let c1 := c.frameLost s
  let c2 := (c1.modSrc s (fun x => { x with format := f, lastGood := c.now, restore := 0 })).requestSwap
  match f with
  | none => c2
  | some g =>
    (c2.set Reg.FST_SRC_FLAGS_FORMAT_CHANGED s 1).event Ev.fstFormatChange
      [s, g.width * 65536 + g.height, g.scan * 16777216 + g.sampling * 65536 + g.depth * 256 + g.rate]

end Sys2Proof.Machine
end

