-- ==== Sys2Proof/Machine/Arb.lean ====
section
/-! DEFINITION. Memory scheduling (R144 to R174): slot tables and their swap, slot frame boundaries, the best-effort arbiters. -/

namespace Sys2Proof.Machine

/-! ## Slot tables -/

/-- The slot count of R146: one for each slot time of 6.827 ns (146.484375 MHz) since reset release. -/
def Chip.slotCount (c : Chip) : Nat := (c.now - c.released) * 25 / 4608 % 4294967296

/-- The owner code at a slot of a channel (R147). -/
def SlotTables.owner (x : SlotTables) (ch slot : Nat) : Nat :=
  match Tbl.find x.writes (ch * 32768 + slot) with
  | some v => v - 1
  | none => if x.built = true ∧ slot < 18288 then Config.allocOwner x.ingest x.readout slot % 5 else 0

/-- The slots that the allocator owns on every channel (R149). -/
def SlotTables.allocated (x : SlotTables) : Nat := if x.built then x.ingest + x.readout + cmpfSlots + stageSlots else 0

/-- The owned slots of a channel: the allocator's, with those that register writes have changed. -/
def SlotTables.owned (x : SlotTables) (ch : Nat) : Nat :=
  let mine := x.writes.filter (fun e => e.1 / 32768 == ch)
  let plain := { x with writes := [] }
  x.allocated + (mine.filter (fun e => decide (1 < e.2))).length - (mine.filter (fun e => plain.owner ch (e.1 % 32768) != 0)).length

/-- Whether an owner code stands in the tail of a channel (R148). -/
def SlotTables.tailOwned (x : SlotTables) (ch : Nat) : Bool :=
  x.writes.any (fun e => e.1 / 32768 == ch && decide (18288 ≤ e.1 % 32768) && decide (1 < e.2))

/-- The channels whose shadow is not valid (R148, R153). -/
def SlotTables.invalid (x : SlotTables) : List Nat :=
  (List.range 64).filter (fun ch => decide (ownedLimit < x.owned ch) || x.tailOwned ch)

/-- TABLE_SWAP (R152, R153): at the boundary gap, every channel swaps, or none when a shadow is not valid. -/
def execTableSwap (t : Nat) (s : State) : Host.Outcome State Fault Refusal :=
  act t s (fun c =>
    if c.arb.swapPend && c.fst.ready then
      match c.arb.shadow.invalid with
      | [] =>
        ({ c with arb := { c.arb with active := c.arb.shadow, swapPend := false },
                  boot := { c.boot with swapped := true } }).countWrap Reg.ARB_SWAPS_COUNT 0 1
      | ch :: _ =>
        (({ c with arb := { c.arb with swapPend := false } }).mark Reg.ARB_STATUS_SWAP_REFUSED).event Ev.arbSwapRefused
          [ch + flag (c.arb.shadow.tailOwned ch) * 256, c.arb.shadow.owned ch]
    else c)

/-- A swap is requested (R152). -/
def Chip.arbSwap (c : Chip) : Chip :=
  { c with arb := { c.arb with swapPend := true } }

/-- ARB_SWAP (R152): a request made while one is pending is merged with it. -/
def execArbSwap (t : Nat) (s : State) : Host.Outcome State Fault Refusal := act t s (fun c => c.arbSwap)

/-- A write of `ARB.CTRL.HOST_TBL` (R157). -/
def Chip.hostTbl (c : Chip) (value : Bool) : Chip :=
  let was := c.isSet Reg.ARB_CTRL_HOST_TBL 0
  let c1 := c.set Reg.ARB_CTRL_HOST_TBL 0 (flag value)
  if was && !value then c1.requestSwap else c1

/-- ARB_HOST_TBL (R157): register writes own the shadow while it is 1; when it returns to 0 the allocator rebuilds the shadow and requests
a swap. -/
def execArbHostTbl (t : Nat) (value : Bool) (s : State) : Host.Outcome State Fault Refusal := act t s (fun c => c.hostTbl value)

/-- What `ARB.CTRL.CLR_CNT` clears (R172). -/
def Chip.clrArb (c : Chip) : Chip :=
  c.clearAll ((List.range 4).map Reg.ARB_RT_ABANDON_COUNT ++ (List.range 6).map Reg.ARB_BE_BEATS_COUNT
    ++ (List.range 6).map Reg.ARB_BE_WAIT_MAX_SLOTS ++ (List.range 6).map Reg.ARB_BE_EVENTS_HOG_CUTS
    ++ (List.range 6).map Reg.ARB_BE_EVENTS_LOCK_TRUNC)

/-- ARB_CLR_CNT (R172). -/
def execArbClrCnt (t : Nat) (s : State) : Host.Outcome State Fault Refusal := act t s (fun c => c.clrArb)

/-! ## Slot frame boundary -/

/-- Whether a real-time owner has engines at work (R147). -/
def Chip.ownerBusy (c : Chip) (owner : Nat) : Bool :=
  if owner = 1 then c.ingestSources != []
  else if owner = 2 then c.readouts != []
  else if owner = 3 then (List.range 32).any c.cmpOn
  else if owner = 4 then (List.range 32).any (fun i => c.capOn i || c.playerOn i)
  else false

/-- The owner codes whose work of the slot frame is abandoned: late ones, and masked ones with work (R56, R154). -/
def Chip.abandoned (c : Chip) (late : List Nat) : List Nat :=
  [1, 2, 3, 4].filter (fun o => late.contains o || (bit c.arb.maskLive (o - 1) && c.ownerBusy o))

/-! ## Best-effort arbiters -/

/-- An arbiter: of channel `k` below 64, or a local one at 64 + 8 × channel + client. -/
def Chip.arbiter (c : Chip) (k : Nat) : Arbiter := Tbl.get Arbiter.reset c.arb.arbiters k

/-- Changes an arbiter. -/
def Chip.modArbiter (c : Chip) (k : Nat) (f : Arbiter → Arbiter) : Chip :=
  { c with arb := { c.arb with arbiters := Tbl.upd Arbiter.reset c.arb.arbiters k f } }

/-- Whether stamp `a` is older than stamp `b` (R160). -/
def older (a b : Nat) : Bool := decide (signed 32 (unsigned 32 ((a : Int) - (b : Int))) < 0)

/-- Whether a request precedes another in age: stamp, then client, then leaf (R160). -/
def BeReq.before (a b : BeReq) : Bool :=
  older a.stamp b.stamp || (a.stamp == b.stamp && (decide (a.client < b.client) || (a.client == b.client && decide (a.leaf < b.leaf))))

/-- The oldest request of a list. -/
def oldestOf (l : List BeReq) : Option BeReq :=
  l.foldl (fun a r => match a with | none => some r | some x => if r.before x then some r else some x) none

/-- The request with most credit, ties to the oldest stamp (R162). -/
def richest (credit : BeReq → Nat) (l : List BeReq) : Option BeReq :=
  l.foldl (fun a r => match a with
    | none => some r
    | some x => if credit x < credit r ∨ (credit x = credit r ∧ r.before x) then some r else some x) none

/-- The decision of R162: `who` tells the contenders apart, `credit` is what each has left, `barred` requests cannot be granted now (R165).
The arbiter after it and the request granted. -/
def Arbiter.decideNext (a : Arbiter) (who : BeReq → Nat) (credit : BeReq → Nat) (barred : BeReq → Bool) : Arbiter × Option BeReq :=
  let oldest := oldestOf a.waiting
  let cand := a.waiting.filter (fun r => !(a.off.contains (who r)) || oldest == some r)
  if cand.all barred then (a, none)
  else
    let n := (a.grants + 1) % 16
    let able := cand.filter (fun r => !(barred r))
    let w := if n = 0 then oldestOf (if oldest.any barred then able else oldest.toList) else richest credit able
    match w with
    | none => (a, none)
    | some r =>
      let losers := cand.filter (fun x => x != r)
      let next := fun (t : Tbl Nat) (x : BeReq) => Tbl.put 1 t (who x) (min (2 * Tbl.get 1 t (who x)) 1024)
      ({ a with grants := n, waiting := a.waiting.filter (fun x => x != r),
                backoff := Tbl.put 1 (losers.foldl next a.backoff) (who r) 1,
                off := dedup (a.off ++ losers.map who) }, some r)

/-- The weight in force of a client (R167). -/
def Chip.weight (c : Chip) (client : Nat) : Nat :=
  match Tbl.get 0 c.arb.weightLive client with
  | 0 => (Reg.ARB_BE_CFG_WEIGHT client).reset
  | v => v - 1

/-- The credit that a client has left on a channel (R161). -/
def Chip.credit (c : Chip) (ch client : Nat) : Nat := c.weight client * 512 - Tbl.get 0 (c.arbiter ch).spent client

/-- Whether a client has a local arbiter: `DEEP`, `GFX`, `BULK` (R169). -/
def hasLeaves (client : Nat) : Bool := client == 1 || client == 2 || client == 3

/-- The leaves of a client (R158). -/
def leavesOf (client : Nat) : Nat := if client = 1 then 8 else if client = 2 then 32 else if client = 3 then 4 else 1

/-- The key of a local arbiter. -/
def localKey (ch client : Nat) : Nat := 64 + 8 * ch + client

/-- A local arbiter presents a request to its channel when none of its is presented (R169). -/
def Chip.present (c : Chip) (ch client : Nat) : Chip :=
  let a := c.arbiter (localKey ch client)
  match a.grant with
  | some _ => c
  | none =>
    let r := a.decideNext BeReq.leaf (fun x => Config.leafWeight * 512 - Tbl.get 0 a.spent x.leaf) (fun _ => false)
    match r.2 with
    | none => c
    | some q =>
      (c.modArbiter (localKey ch client) (fun _ => { r.1 with
        grant := some q,
        spent := Tbl.put 0 r.1.spent q.leaf (Tbl.get 0 r.1.spent q.leaf + q.beats) })).modArbiter ch
        (fun x => { x with waiting := x.waiting ++ [q] })

/-- BE_REQUEST (R159, R160): the leaf's request receives its age stamp. A client in quarantine, or a store out of service, answers
with an error and nothing moves (R166, R174). -/
def execBeRequest (t : Nat) (ch : Fin 64) (client : Fin 6) (leaf : Fin 32) (beats : Nat) (lock write : Bool) (s : State) :
    Host.Outcome State Fault Refusal :=
  act t s (fun c =>
    let q : BeReq := ⟨client, leaf, c.slotCount, beats, lock, write⟩
    let key := if hasLeaves client then localKey ch client else ch.val
    let busy := ((c.arbiter key).waiting ++ (c.arbiter key).grant.toList).any (fun x => x.client == client.val && x.leaf == leaf.val)
    if !c.fst.ready || bit (c.fld Reg.ARB_QUAR_CLIENT 0) client || decide (leavesOf client ≤ leaf.val) || busy then c
    else
      let c1 := c.modArbiter key (fun a => { a with waiting := a.waiting ++ [q] })
      if hasLeaves client then c1.present ch client else c1)

/-- The beats of a grant: at most the hog limit (R166). -/
def Chip.grantBeats (c : Chip) (q : BeReq) : Nat := min q.beats (c.fld Reg.ARB_HOG_LIMIT_BEATS 0)

/-- Grants a request on a channel: credit, beats, longest wait, truncated locks (R161, R165, R172); its local arbiter decides again. -/
def Chip.grantRequest (c : Chip) (ch : Nat) (q : BeReq) : Chip :=
  let n := c.grantBeats q
  let c1 := c.modArbiter ch (fun a => { a with grant := some q, spent := Tbl.put 0 a.spent q.client (Tbl.get 0 a.spent q.client + n) })
  let c2 := (c1.countWrap (Reg.ARB_BE_BEATS_COUNT q.client) 0 n).peak (Reg.ARB_BE_WAIT_MAX_SLOTS q.client) 0
    (unsigned 32 ((c.slotCount : Int) - (q.stamp : Int)))
  let c3 := c2.count (Reg.ARB_BE_EVENTS_LOCK_TRUNC q.client) 0 (flag (q.lock && decide (64 < q.beats)))
  if hasLeaves q.client then (c3.modArbiter (localKey ch q.client) (fun a => { a with grant := none })).present ch q.client else c3

/-- Adds a catch-up credit of an owner on a channel. -/
def Chip.addCatchUp (c : Chip) (ch owner : Nat) : Chip :=
  { c with arb := { c.arb with catchUp := Tbl.put 0 c.arb.catchUp (ch * 8 + owner) (Tbl.get 0 c.arb.catchUp (ch * 8 + owner) + 1) } }

/-- ARBITER_DECISION (R150, R151, R162): at a slot that no real-time owner takes, the channel arbiter chooses the next best-effort grant. -/
def execArbiterDecision (t : Nat) (ch : Fin 64) (slot : Fin 18304) (ready : List (Fin 5)) (s : State) : Host.Outcome State Fault Refusal :=
  act t s (fun c =>
    if !c.fst.ready then c
    else
      let owner := c.arb.active.owner ch slot
      let masked := fun (o : Nat) => bit c.arb.maskLive (o - 1)
      let works := fun (o : Nat) => (ready.map Fin.val).contains o && !(masked o)
      let locked := match (c.arbiter ch).grant with | some q => q.lock | none => false
      let a := c.arbiter ch
      let decideBe := fun (c : Chip) =>
        let r := a.decideNext BeReq.client (fun q => c.credit ch q.client) (fun q => q.lock && decide (18288 ≤ slot.val))
        match r.2 with
        | none => c.modArbiter ch (fun x => { x with grant := none })
        | some q => (c.modArbiter ch (fun _ => r.1)).grantRequest ch q
      if owner ≠ 0 ∧ works owner = true then
        (if locked then decideBe (c.addCatchUp ch owner) else c)
      else
        let c1 := if owner ≠ 0 ∧ masked owner = false then c.addCatchUp ch owner else c
        match [1, 2, 3, 4].find? (fun o => o != owner && works o && decide (0 < Tbl.get 0 c1.arb.catchUp (ch * 8 + o))) with
        | some o =>
          { c1 with arb := { c1.arb with catchUp := Tbl.put 0 c1.arb.catchUp (ch * 8 + o) (Tbl.get 0 c1.arb.catchUp (ch * 8 + o) - 1) } }
        | none => decideBe c1)

/-- BACKOFF_EXPIRY (R163): the client takes part in decisions again. -/
def execBackoffExpiry (t : Nat) (ch : Fin 64) (client : Fin 6) (s : State) : Host.Outcome State Fault Refusal :=
  act t s (fun c => c.modArbiter ch (fun a => { a with off := a.off.filter (fun x => x != client.val) }))

/-- One slot time in units, rounded up (R144). -/
def slotU : Nat := 185

/-- CREDIT_REFILL (R161, R167): at the start of a window every client's credit is refilled, with the weights written at least one
slot before. -/
def execCreditRefill (t : Nat) (s : State) : Host.Outcome State Fault Refusal :=
  act t s (fun c =>
    let due := (c.arb.weightAt.filter (fun e => decide (e.2 + slotU ≤ c.now))).map Prod.fst
    { c with arb := { c.arb with
      arbiters := c.arb.arbiters.map (fun e => (e.1, { e.2 with spent := [] })),
      weightLive := due.foldl (fun a i => Tbl.put 0 a i (c.fld (Reg.ARB_BE_CFG_WEIGHT i) 0 + 1)) c.arb.weightLive,
      weightAt := c.arb.weightAt.filter (fun e => !(due.contains e.1)) } })

/-- Drops every request of a client (R166). -/
def Chip.dropClient (c : Chip) (client : Nat) : Chip :=
  { c with arb := { c.arb with arbiters := c.arb.arbiters.map (fun e =>
    if 64 ≤ e.1 then (if (e.1 - 64) % 8 = client then (e.1, { e.2 with waiting := [], grant := none }) else e)
    else (e.1, { e.2 with
      waiting := e.2.waiting.filter (fun q => q.client != client),
      grant := if e.2.grant.any (fun q => q.client == client) then none else e.2.grant })) } }

/-- HOG_CUT (R166): the grant reaches the hog limit while its client asks for more; it is ended and the client quarantined. -/
def execHogCut (t : Nat) (ch : Fin 64) (s : State) : Host.Outcome State Fault Refusal :=
  act t s (fun c =>
    match (c.arbiter ch).grant with
    | none => c
    | some q =>
      if c.fld Reg.ARB_HOG_LIMIT_BEATS 0 < q.beats then
        let c1 := c.dropClient q.client
        let c2 := (c1.set Reg.ARB_QUAR_CLIENT 0 (c1.fld Reg.ARB_QUAR_CLIENT 0 ||| 2 ^ q.client)).mark Reg.ARB_STATUS_HOG_SEEN
        (c2.count (Reg.ARB_BE_EVENTS_HOG_CUTS q.client) 0 1).event Ev.arbHogCut
          [q.client + ch * 256 + q.leaf * 65536, c.fld Reg.ARB_HOG_LIMIT_BEATS 0]
      else c)

/-- A write of ones to `ARB.QUAR` (R169). -/
def Chip.clearQuar (c : Chip) (mask : Nat) : Chip :=
  let q := c.fld Reg.ARB_QUAR_CLIENT 0
  let cleared := (List.range 6).filter (fun i => bit q i && bit mask i)
  let c1 := c.set Reg.ARB_QUAR_CLIENT 0 (q - (q &&& mask))
  cleared.foldl (fun a i =>
    let b := a.dropClient i
    { b with arb := { b.arb with arbiters := b.arb.arbiters.map (fun e =>
      if e.1 < 64 then (e.1, { e.2 with backoff := Tbl.put 1 e.2.backoff i 1, off := e.2.off.filter (fun x => x != i) }) else e) } })
    c1

/-- ARB_QUAR_CLEAR (R166): each client cleared starts with backoff 1 and no waiting request. -/
def execArbQuarClear (t : Nat) (mask : Fin 64) (s : State) : Host.Outcome State Fault Refusal := act t s (fun c => c.clearQuar mask)

end Sys2Proof.Machine
end

