-- ==== Sys2Proof/Machine/Pixels.lean ====
section
/-! DEFINITION. The arithmetic of a composite: proxy pyramids (R128), scaling (R186), colour (R188), alpha and key (R189), blending and the
output conversion (R181). -/

namespace Sys2Proof.Machine

/-- Rows of samples, as a frame buffer or a surface holds them. -/
abbrev Rows := Tbl (List Nat)

/-- The sample of component `k` (0 Y′ or R′, 1 Cb or G′, 2 Cr or B′) in column `x` of a row of a format, `x` counted in the component's own plane. -/
def rowSample (f : Format) (row : List Nat) (k x : Nat) : Nat :=
  if f.sampling = 0 then (if k = 0 then row.getD (2 * x + 1) 0 else if k = 1 then row.getD (4 * x) 0 else row.getD (4 * x + 2) 0)
  else if f.sampling = 1 then row.getD (3 * x + (if k = 0 then 1 else if k = 1 then 0 else 2)) 0
  else row.getD (3 * x + k) 0

/-- The width of a component's plane at a pyramid level: halved with rounding up at each level, and once more for 4:2:2 chroma. -/
def planeWidth (f : Format) (k level : Nat) : Nat :=
  let w := ceilDiv f.width (2 ^ level)
  if f.sampling = 0 ∧ k ≠ 0 then ceilDiv w 2 else w

/-- The height of a pyramid level. -/
def planeHeight (f : Format) (level : Nat) : Nat := ceilDiv f.height (2 ^ level)

/-- A sample of a pyramid level (R128): (a + b + c + d + 2) >> 2 of the 2 × 2 block beneath it; the last column or line repeats. -/
def planeAt (f : Format) (rows : Rows) (k : Nat) : Nat → Nat → Nat → Nat
  | 0, x, y => rowSample f (Tbl.get (blackRow f) rows (min y (f.height - 1))) k (min x (planeWidth f k 0 - 1))
  | level + 1, x, y =>
    let x1 := min (2 * x + 1) (planeWidth f k level - 1)
    let y1 := min (2 * y + 1) (planeHeight f level - 1)
    (planeAt f rows k level (2 * x) (2 * y) + planeAt f rows k level x1 (2 * y) + planeAt f rows k level (2 * x) y1
      + planeAt f rows k level x1 y1 + 2) / 4

/-- Twice a 4:4:4 sample at pixel `x` of a level: chroma between two co-sited samples is their mean (R186). -/
def fullSample2 (f : Format) (rows : Rows) (k level x y : Nat) : Nat :=
  if f.sampling = 0 ∧ k ≠ 0 then
    planeAt f rows k level (x / 2) y + planeAt f rows k level (if x % 2 = 0 then x / 2 else min (x / 2 + 1) (planeWidth f k level - 1)) y
  else 2 * planeAt f rows k level x y

/-- What a layer shows, as samples: a frame of a format, or a surface with its alpha. -/
structure Picture where
  isSurface : Bool
  format : Format
  rows : Rows
  deriving DecidableEq, Repr

/-- Twice the sample of component `k` (3 alpha) of a picture at a level. -/
def Picture.sample2 (p : Picture) (k level x y : Nat) : Nat :=
  if p.isSurface then
    let v := (Tbl.get [] p.rows y).getD x 0
    if p.format.depth = 8 then 2 * (if k = 3 then v / 16777216 else v / 2 ^ (16 - 8 * k) % 256)
    else 2 * (if k = 3 then v / 1073741824 else v / 2 ^ (20 - 10 * k) % 1024)
  else fullSample2 p.format p.rows k level x y

/-- The sum over one prefilter box, twice over: samples outside the crop repeat its edge (R185, R186). -/
def boxSum2 (p : Picture) (k : Nat) (s : Scale) (ox oy i j : Nat) : Nat :=
  let nx := ceilDiv s.cw (2 ^ s.level)
  let ny := ceilDiv s.ch (2 ^ s.level)
  ((List.range s.pv).flatMap (fun b => (List.range s.ph).map (fun a =>
    p.sample2 k s.level (ox / 2 ^ s.level + min (i * s.ph + a) (nx - 1)) (oy / 2 ^ s.level + min (j * s.pv + b) (ny - 1))))).sum

/-- The two neighbouring prefiltered samples of an output position and the weight of the second, in 1/256 (R186). -/
def bilinear (x n cnt unit m : Nat) : Nat × Nat × Nat :=
  let p := mapPos x n cnt unit
  (clampTo (p / 256) m, clampTo (p / 256 + 1) m, (p % 256).toNat)

/-- Component `k` of a layer's pixel at column `u`, line `v` of its destination rectangle, scaled to 16 bits and rounded once (R186, R188). -/
def layerComponent (p : Picture) (r : List Byte) (s : Scale) (k u v : Nat) : Nat :=
  let bx := bilinear u (u16 r 12) s.cw (2 ^ s.level * s.ph) s.width
  let by_ := bilinear v (u16 r 14) s.ch (2 ^ s.level * s.pv) (ceilDiv (ceilDiv s.ch (2 ^ s.level)) s.pv)
  let ox := u16 r 16 * p.format.width / 32768
  let oy := u16 r 18 * p.format.height / 32768
  let at_ := fun (i j : Nat) => boxSum2 p k s ox oy i j
  let total := at_ bx.1 by_.1 * (256 - bx.2.2) * (256 - by_.2.2) + at_ bx.2.1 by_.1 * bx.2.2 * (256 - by_.2.2)
    + at_ bx.1 by_.2.1 * (256 - bx.2.2) * by_.2.2 + at_ bx.2.1 by_.2.1 * bx.2.2 * by_.2.2
  let depth := if k = 3 then (if p.format.depth = 8 then 8 else 2) else p.format.depth
  (roundDiv (Int.ofNat (total * 2 ^ (16 - depth))) (131072 * s.ph * s.pv)).toNat

/-- Clips to 0–65,535 (R188). -/
def clip16 (v : Int) : Nat := if v < 0 then 0 else min v.toNat 65535

/-- One entry of a curve of a LUT set: set 0 is the fixed identity (R188, R209). -/
def lutEntry (set : List Byte) (curve i : Nat) : Nat := if set = [] then min (64 * i) 65535 else u16 set (4 + 2050 * curve + 2 * i)

/-- A component through its curve (R188). -/
def lutApply (set : List Byte) (curve x : Nat) : Nat :=
  let e0 : Int := lutEntry set curve (x / 64)
  let e1 : Int := lutEntry set curve (x / 64 + 1)
  (roundDiv (e0 * 64 + (e1 - e0) * (x % 64 : Nat)) 64).toNat

/-- Offset, matrix and curves of R188. -/
def colourOf (r set : List Byte) (c0 c1 c2 : Nat) : Nat × Nat × Nat :=
  let o := fun (i : Nat) => signed 16 (u16 r (50 + 2 * i))
  let m := fun (i j : Nat) => signed 16 (u16 r (32 + 6 * i + 2 * j))
  let a : Int := c0 - o 0
  let b : Int := c1 - o 1
  let d : Int := c2 - o 2
  let row := fun (i : Nat) => lutApply set i (clip16 (roundDiv (m i 0 * a + m i 1 * b + m i 2 * d) 4096))
  (row 0, row 1, row 2)

/-- The alpha of a layer pixel as a fraction (R189): `y16` is its Y′ and `a16` its surface alpha, in 16 bits. -/
def alphaOf (r : List Byte) (p : Picture) (y16 a16 : Nat) : Nat × Nat :=
  if u8 r 26 = 1 then
    let lo := u16 r 28 * 64
    let hi := u16 r 30 * 64
    if y16 ≤ lo then (0, 1) else if hi ≤ y16 then (u16 r 24, 1023) else (u16 r 24 * (y16 - lo), 1023 * (hi - lo))
  else if u8 r 26 = 2 then
    let full := if p.format.depth = 8 then 255 * 256 else 3 * 16384
    (u16 r 24 * min a16 full, 1023 * full)
  else (u16 r 24, 1023)

/-- One blend step (R181): a × L + (1 − a) × B, rounded to the nearest value. -/
def blend (a : Nat × Nat) (l b : Nat) : Nat := (roundDiv (Int.ofNat (a.1 * l + (a.2 - a.1) * b)) a.2).toNat

/-- What one layer draws: its record, LUT set, and picture with scaling; no picture where it shows one plain colour. -/
structure Drawn where
  record : List Byte
  set : List Byte
  pict : Option (Picture × Scale)
  plain : Nat × Nat × Nat
  late : List (Nat × Nat)
  deriving DecidableEq, Repr

/-- The level tile that an output position of a layer reads first (R190). -/
def tileOf (p : Picture) (r : List Byte) (s : Scale) (u v : Nat) : Nat × Nat :=
  let i := clampTo (mapPos u (u16 r 12) s.cw (2 ^ s.level * s.ph) / 256) s.width
  let j := clampTo (mapPos v (u16 r 14) s.ch (2 ^ s.level * s.pv) / 256) (ceilDiv (ceilDiv s.ch (2 ^ s.level)) s.pv)
  ((u16 r 16 * p.format.width / 32768 / 2 ^ s.level + i * s.ph) / 64, (u16 r 18 * p.format.height / 32768 / 2 ^ s.level + j * s.pv) / 16)

/-- Blends one layer over a pixel at output column `x`, line `y`; a tile that came late lets the layers below show through (R191). -/
def Drawn.overs (d : Drawn) (x y : Nat) (under : Nat × Nat × Nat) : Nat × Nat × Nat :=
  let r := d.record
  if u16 r 8 ≤ x ∧ x < u16 r 8 + u16 r 12 ∧ u16 r 10 ≤ y ∧ y < u16 r 10 + u16 r 14 ∧ u8 r 0 ≠ 0 then
    let put := fun (a : Nat × Nat) (l : Nat × Nat × Nat) => (blend a l.1 under.1, blend a l.2.1 under.2.1, blend a l.2.2 under.2.2)
    match d.pict with
    | none => put (u16 r 24, 1023) d.plain
    | some (p, s) =>
      let u := x - u16 r 8
      let v := y - u16 r 10
      if d.late.contains (tileOf p r s u v) then under
      else
        let c0 := layerComponent p r s 0 u v
        let l := colourOf r d.set c0 (layerComponent p r s 1 u v) (layerComponent p r s 2 u v)
        put (alphaOf r p c0 (if u8 r 26 = 2 then layerComponent p r s 3 u v else 0)) l
  else under

/-- The composite of one output pixel (R181): the background, then the layers from 0 upward; the occlusion map leaves out those beneath the
top opaque layer. -/
def compositePixel (bg : Nat × Nat × Nat) (layers : List Drawn) (top : Nat) (x y : Nat) : Nat × Nat × Nat :=
  (layers.drop (top - 1)).foldl (fun a d => d.overs x y a) bg

/-- The luma of working R′G′B′ times 10,000 (R181): BT.709, or BT.2020 non-constant luminance. -/
def luma (bt2100 : Bool) (p : Nat × Nat × Nat) : Nat :=
  if bt2100 then 2627 * p.1 + 6780 * p.2.1 + 593 * p.2.2 else 2126 * p.1 + 7152 * p.2.1 + 722 * p.2.2

/-- The narrow-range 10-bit Y′ code. -/
def codeY (bt2100 : Bool) (p : Nat × Nat × Nat) : Nat := (64 + roundDiv (Int.ofNat (876 * luma bt2100 p)) 655350000).toNat

/-- The numerator of Cb (k = 1) or Cr (k = 2): 10,000 times the colour difference. -/
def diff (bt2100 : Bool) (k : Nat) (p : Nat × Nat × Nat) : Int :=
  10000 * (if k = 1 then Int.ofNat p.2.2 else Int.ofNat p.1) - Int.ofNat (luma bt2100 p)

/-- The narrow-range 10-bit chroma code at an even column: the co-sited [1 2 1]/4 filter over three pixels (R181). -/
def codeC (bt2100 : Bool) (k : Nat) (a b c : Nat × Nat × Nat) : Nat :=
  let scale := if bt2100 then (if k = 1 then 18814 else 14746) else (if k = 1 then 18556 else 15748)
  (512 + roundDiv (896 * (diff bt2100 k a + 2 * diff bt2100 k b + diff bt2100 k c)) (4 * scale * 65535)).toNat

/-- A line of composite pixels as 4:2:2 samples Cb Y Cr Y (R181). -/
def encodeLine (bt2100 : Bool) (px : List (Nat × Nat × Nat)) : List Nat :=
  let n := px.length
  let at_ := fun (i : Nat) => px.getD i (0, 0, 0)
  (List.range (n / 2)).flatMap (fun i =>
    let a := at_ (2 * i - 1)
    let b := at_ (2 * i)
    let c := at_ (min (2 * i + 1) (n - 1))
    [codeC bt2100 1 (if i = 0 then b else a) b c, codeY bt2100 b, codeC bt2100 2 (if i = 0 then b else a) b c, codeY bt2100 c])

end Sys2Proof.Machine
end

