-- ==== Sys2Proof/Machine/Composers.lean ====
section
/-! DEFINITION. Composers (R175 to R213): layouts, the CMP and OCCL jobs, the composite, graphics surfaces. -/

namespace Sys2Proof.Machine

/-! ## Internal sources (R36) -/

/-- The carrier line on which row `r` of a composer's picture leaves (R180). -/
def carrierLine (f : Format) (r : Nat) : Nat :=
  let k := carrier f
  if k.2.2 = 0 then k.2.1 + r else if r % 2 = 0 then k.2.1 + r / 2 else k.2.2 + r / 2

/-- Supplies one whole frame of an internal source: its lines go to the line slots of its pairs, and its rows to its synchroniser while it is
written (R36, R207). `lines` gives, row by row, the line number and the samples. -/
def Chip.internalFrame (c : Chip) (s : Nat) (f : Format) (lines : List (Nat × List Nat)) (anc : List (Nat × List Nat)) : Chip :=
  let slot : LineSlot :=
    { newest := ((lines.getLast?).map Prod.fst).getD 0,
      lines := lines.foldl (fun t e => Tbl.ins t e.1 e.2) [],
      anc := anc.foldl (fun t e => Tbl.put [] t e.1 e.2) [],
      ancBytes := (anc.map (fun e => ancBytesOf e.2)).sum }
  let c1 := ((List.range 4).filter (fun td => c.pairs.contains (s * 4 + td))).foldl (fun a td => a.setSlot (slotKey (s * 4 + td) false) slot) c
  if c.written s then
    let c2 := c1.startFrame s
    (lines.zipIdx.foldl (fun a e => a.writeStore s e.1.1 e.2 e.1.2 ((anc.filter (fun x => x.1 == e.1.1)).map Prod.snd)) c2).endFrame s f
  else c1

/-! ## Layout acceptance (R195) -/

/-- The source that a layer would show under a layout: the one its record takes, else the one that pending takes leave. -/
def Chip.layoutSource (c : Chip) (cmp l : Nat) (r : List Byte) : Nat :=
  if u8 r 1 = 1 then u16 r 2 else (c.pendingSources cmp).getD l noSource

/-- The first layer whose record fails `bad`, with a code. -/
def firstLayer (body : List Byte) (code : Nat) (bad : Nat → List Byte → Bool) : Option (Nat × Nat) :=
  ((layoutRecords body).find? (fun p => bad p.1 p.2)).map (fun p => (code, p.1))

/-- The first answer of a list. -/
def firstSome : List (Option (Nat × Nat)) → Option (Nat × Nat)
  | [] => none
  | some x :: _ => some x
  | none :: r => firstSome r

/-- Checks 2 to 9 of R195: a code with the layer it concerns. -/
def Chip.checkLayoutEarly (c : Chip) (body : List Byte) : Option (Nat × Nat) :=
  let cmp := u8 body 0
  if layoutIndexBad body then some (0x0501, wholeIndex)
  else if !(c.cmpOn cmp) then some (0x0502, wholeIndex)
  else
    let size := fun (l : Nat) (r : List Byte) => c.layerSize r (c.layoutSource cmp l r)
    let scaled := fun (r : List Byte) => u8 r 0 == 1 || u8 r 0 == 2
    firstSome [
      firstLayer body 0x0505 (fun _ r => layerBad (c.cmpWidth cmp) (c.cmpHeight cmp) r),
      firstLayer body 0x0508 (fun _ r => u8 r 0 == 2 && !((c.surface (u16 r 4)).any (fun g => g.owner == cmp))),
      firstLayer body 0x0509 (fun _ r => u8 r 7 != 0 && !(c.hasRec tyLuts (u8 r 7))),
      firstLayer body 0x050A (fun _ r => keyBad r),
      firstLayer body 0x0506 (fun l r => scaled r && scaleRangeBad r (size l r).1 (size l r).2),
      firstLayer body 0x0507 (fun l r => scaled r && decide (4096 < (layerParams r (size l r).1 (size l r).2).width))]

/-- The takes that a layout carries (R197), with their layers. -/
def layoutAsks (body : List Byte) : List (Nat × TakeAsk) :=
  ((layoutRecords body).filter (fun p => u8 p.2 1 == 1)).map (fun p => (p.1, ⟨1024 + 16 * u8 body 0 + p.1, u16 p.2 2, 0xFFFF, 1⟩))

/-- Checks 10 and 11 of R195 and acceptance: the module with the layout pending and its takes queued, or the code with its layer. -/
def Chip.admitLayout (c : Chip) (y : Layout) : Except (Nat × Nat) Chip :=
  let asks := layoutAsks y.body
  let formats := (layoutRecords y.body).foldl (fun t p => Tbl.put none t p.1 (c.srcFormat (c.layoutSource y.cmp p.1 p.2))) []
  let c1 : Chip := { c with cmp := { c.cmp with layouts := c.cmp.layouts ++ [{ y with held := false, accepted := c.now, formats := formats }] } }
  match c1.admitAll (layoutTakeId y.serial) none false y.slot y.session asks.length false 0 [] (asks.map Prod.snd) with
  | .error (code, i) => .error (code, ((asks.map Prod.fst).getD i wholeIndex))
  | .ok c2 =>
    if fetchBudget < c2.fetchF y.cmp (c2.pendingRecords y.cmp) (c2.pendingSources y.cmp) then .error (0x020A, wholeIndex) else .ok c2

/-- The layout of a body, with the next number. -/
def Chip.newLayout (c : Chip) (slot : Nat) (body : List Byte) (held : Bool) : Layout :=
  { serial := c.cmp.serial, cmp := u8 body 0, body := body, accepted := c.now, notify := bit (u8 body 1) 0, slot := slot,
    session := (c.session slot).id, held := held, formats := [] }

/-- Takes the next layout number. -/
def Chip.nextSerial (c : Chip) : Chip := { c with cmp := { c.cmp with serial := c.cmp.serial + 1 } }

/-- What a `LAYOUT` body asks for (R196, R545). -/
def Chip.layoutMsg (c : Chip) (slot : Nat) (body : List Byte) : Chip :=
  match c.checkLayoutEarly body with
  | some (code, l) => c.refuse slot 0x0105 code l
  | none =>
    if !(c.fullIn (c.cmpTd (u8 body 0))) then
      (if c.phase = 3 then c.refuse slot 0x0105 0x1002 wholeIndex
       else
        let y := c.newLayout slot body true
        ({ c with cmp := { c.cmp with layouts := c.cmp.layouts ++ [y] } }.nextSerial).held slot 0x0105 [])
    else
      match c.admitLayout (c.newLayout slot body false) with
      | .error (code, l) => c.refuse slot 0x0105 code l
      | .ok c1 => ((c1.nextSerial.settle c).restage (c.cmpTd (u8 body 0))).done slot 0x0105 []

/-- LAYOUT (R194 to R198, R545). -/
def execLayout (t : Nat) (slot : Fin 16) (body : List Byte) (s : State) : Host.Outcome State Fault Refusal :=
  act t s (fun c => c.request slot 0x0105 1 false (decide (8 ≤ body.length) && decide (u8 body 1 ≤ 1)) (fun c => c.layoutMsg slot body))

/-! ## Layouts take effect -/

/-- Puts a layout in force at a tick (R196, R213). -/
def Chip.applyLayout (c : Chip) (y : Layout) : Chip :=
  let c1 := (layoutRecords y.body).foldl (fun a p =>
    (([Reg.CMP_L_REPEATED_COUNT, Reg.CMP_L_FILLED_COUNT, Reg.CMP_L_DEMOTIONS_COUNT].foldl (fun b f => b.set f (y.cmp * 16 + p.1) 0) a).modLayer
      y.cmp p.1 (fun v => { v with record := p.2, demoted := false, level := 0, accepted := Tbl.get none y.formats p.1 }))) c
  let c2 : Chip := { c1 with cmp := { c1.cmp with layouts := c1.cmp.layouts.filter (fun x => x.serial != y.serial) } }
  let c3 := (c2.set Reg.CMP_C_LAYOUT_ID_ID y.cmp (u32 y.body 4)).ctlLayout y.cmp y.body
  if y.notify then
    c3.noticeKept y.slot y.session 0x8003
      (beBytes 1 y.cmp ++ beBytes 3 0 ++ bytesAt y.body 4 4 ++ beBytes 8 (c.dom (c.cmpTd y.cmp)).frame)
  else c3

/-- Whether a layout is due at a tick: accepted 1.0 ms before it, with none of its takes still queued (R196, R197). -/
def Chip.layoutDue (c : Chip) (y : Layout) (tick : Nat) : Bool :=
  !y.held && decide (y.accepted + msU 1 ≤ tick) && !(c.xpt.queue.any (fun q => q.id == layoutTakeId y.serial))

/-- Puts the due layouts of a composer in force, in acceptance order, until one is not due. -/
def Chip.swapLayouts (cmp tick : Nat) : Nat → Chip → Chip
  | 0, c => c
  | fuel + 1, c =>
    match c.cmp.layouts.find? (fun y => y.cmp == cmp && !y.held) with
    | none => c
    | some y => if c.layoutDue y tick then Chip.swapLayouts cmp tick fuel (c.applyLayout y) else c

/-- The layouts of `CMP_LAYOUTS` for the composers of a domain at its first tick of full service (R210): each takes effect at once, or is skipped
with a record. -/
def Chip.sectionLayouts (c : Chip) (td : Nat) : Chip :=
  ((c.listed tyLayouts).filter (fun i => c.cmpTd (u8 (c.record tyLayouts i) 0) == td)).foldl (fun a i =>
    let body := a.record tyLayouts i
    let skip := fun (st : Nat) => a.event Ev.cmpLayoutSkipped [u8 body 0, u32 body 4, st]
    match a.checkLayoutEarly body with
    | some (code, l) => skip (statusOf code l)
    | none =>
      let y := { a.newLayout 0 body false with notify := false }
      match a.admitLayout y with
      | .error (code, l) => skip (statusOf code l)
      | .ok b =>
        let b1 := (b.xpt.queue.filter (fun q => q.id == layoutTakeId y.serial)).foldl (fun e q => e.applyTake q) b.nextSerial
        match b1.cmp.layouts.find? (fun x => x.serial == y.serial) with
        | some x => b1.applyLayout x
        | none => b1) c

/-- Checks the held layouts of a domain at its first tick of full service, in acceptance order (R198). -/
def Chip.releaseLayouts (c : Chip) (td : Nat) : Chip :=
  (c.cmp.layouts.filter (fun y => y.held && c.cmpTd y.cmp == td)).foldl (fun a y =>
    let b : Chip := { a with cmp := { a.cmp with layouts := a.cmp.layouts.filter (fun x => x.serial != y.serial) } }
    let fail := fun (st : Nat) =>
      (b.noticeTo y.slot y.session 0x8004 (beBytes 1 y.cmp ++ beBytes 3 0 ++ bytesAt y.body 4 4 ++ beBytes 4 st)).event
        Ev.cmpHeldRefused [y.cmp, u32 y.body 4, st]
    match b.checkLayoutEarly y.body with
    | some (code, l) => fail (statusOf code l)
    | none =>
      match b.admitLayout y with
      | .error (code, l) => fail (statusOf code l)
      | .ok b1 => b1) c

/-! ## The CMP job (R199 to R203) -/

/-- The buffer that the decision for a source in a domain has latched, with its frame number. -/
def Chip.latchedOf (c : Chip) (s td : Nat) : Option (Nat × Nat) :=
  match (c.decision s td).latched with
  | none => none
  | some b => ((c.sync s).buf b).frame.map (fun n => (b, n))

/-- The format with which a layer's source is reckoned at a CMP job: that of the latched frame (R201). -/
def Chip.layerFormat (c : Chip) (s td : Nat) : Option Format :=
  match c.latchedOf s td with
  | some (b, _) => (((c.sync s).buf b).format).orElse (fun _ => c.srcFormat s)
  | none => c.srcFormat s

/-- The size with which a layer is reckoned at a CMP job. -/
def Chip.jobSize (c : Chip) (r : List Byte) (s td : Nat) : Nat × Nat :=
  if u8 r 0 = 1 then match c.layerFormat s td with | some f => (f.width, f.height) | none => (3840, 2160) else c.layerSize r s

/-- The level at which the line buffer holds a layer: the computed one, else the first coarser one that fits, else 3 (R187, R201). -/
def lineLevel (r : List Byte) (sw sh : Nat) : Nat :=
  let base := scaleLevel r sw sh
  (([base, base + 1, base + 2].filter (fun l => decide (l ≤ 2) && (l == base || u8 r 0 == 1))).find?
    (fun l => decide ((scaleAt r sw sh l).width ≤ 4096))).getD 3

/-- A layer at a CMP job: record, source, size, level computed, level so far (3 fill colour), whether its format is not the accepted one, and
the cause of a demotion (0 none, 1 line buffer, 2 fetch budget). -/
structure JobLayer where
  record : List Byte
  src : Nat
  width : Nat
  height : Nat
  bytes : Nat
  live : Bool
  base : Nat
  level : Nat
  changed : Bool
  cause : Nat
  deriving DecidableEq, Repr

/-- The layers of a composer as its CMP job first sees them (R201). -/
def Chip.jobLayers (c : Chip) (cmp td : Nat) : List JobLayer :=
  (List.range 16).map (fun l =>
    let y := c.layer cmp l
    let s := c.routeSrc (1024 + 16 * cmp + l) 0
    let r := y.record
    let live := u8 r 0 == 2 || (u8 r 0 == 1 && s != noSource && c.bound s)
    let f := c.layerFormat s td
    let z := c.jobSize r s td
    let lev := if live then lineLevel r z.1 z.2 else 0
    let base := if live then scaleLevel r z.1 z.2 else 0
    { record := r, src := s, width := z.1, height := z.2, bytes := if u8 r 0 = 2 then 4096 else tileBytes f, live := live,
      base := base, level := lev, changed := u8 r 0 == 1 && live && f != y.accepted, cause := if lev = base then 0 else 1 })

/-- F of job layers (R192). -/
def Chip.jobF (c : Chip) (cmp : Nat) (ls : List JobLayer) : Nat :=
  fetchItems (c.cmpWidth cmp) (c.cmpHeight cmp) (ls.map (fun j =>
    { record := j.record, width := j.width, height := j.height, level := if j.level ≤ 2 then some j.level else none, bytes := j.bytes,
      fetches := j.live && decide (j.level ≤ 2) }))
  + c.internalWrites (ls.map JobLayer.record) (ls.map JobLayer.src)

/-- The highest layer that satisfies `p`. -/
def highest (ls : List JobLayer) (p : JobLayer → Bool) : Option Nat :=
  (ls.zipIdx.foldl (fun a x => if p x.1 then some x.2 else a) none)

/-- Demotes the layers whose format has changed, one level at a time from the highest index, until F fits the budget (R202). -/
def Chip.fitBudget (c : Chip) (cmp : Nat) : Nat → List JobLayer → List JobLayer
  | 0, ls => ls
  | fuel + 1, ls =>
    if c.jobF cmp ls ≤ fetchBudget then ls
    else
      let raise := fun (i v : Nat) => ls.zipIdx.map (fun x => if x.2 = i then { x.1 with level := v, cause := 2 } else x.1)
      match highest ls (fun j => j.changed && decide (j.level < 2)) with
      | some i => c.fitBudget cmp fuel (raise i ((ls.map JobLayer.level).getD i 0 + 1))
      | none =>
        match highest ls (fun j => j.changed && j.level == 2) with
        | some i => c.fitBudget cmp fuel (raise i 3)
        | none => ls

/-- Word 8 of a demotion or restoration record (R203). -/
def demotionWord (cmp l before after cause width : Nat) : Nat :=
  cmp * 134217728 + l * 8388608 + before * 2097152 + after * 524288 + cause * 65536 + width % 8192

/-- Records the demotion or the restoration of a layer (R201 to R203). -/
def Chip.noteLevel (c : Chip) (cmp l td : Nat) (j : JobLayer) : Chip :=
  let y := c.layer cmp l
  let width := (scaleAt j.record j.width j.height j.base).width
  let c1 :=
    if j.level ≠ j.base then
      (if y.demoted && y.level == j.level then c
       else (((c.event Ev.layerDemoted [demotionWord cmp l j.base j.level j.cause width, (c.dom td).frame]).count
         Reg.CMP_L_DEMOTIONS_COUNT (cmp * 16 + l) 1).mark Reg.CMP_STATUS_DEMOTED_SEEN))
    else if y.demoted && j.live then
      c.event Ev.layerRestored [demotionWord cmp l y.level j.base 0 (scaleAt j.record j.width j.height (min y.level 2)).width, (c.dom td).frame]
    else c
  c1.modLayer cmp l (fun v => { v with level := j.level, demoted := j.level != j.base })

/-- Whether the frame a layer showed is still held, at the level in use (R200). -/
def Chip.frameHeld (c : Chip) (shown : Option (Nat × Nat × Nat)) (level : Nat) : Bool :=
  match shown with
  | none => false
  | some (s, b, n) => ((c.sync s).buf b).frame == some n && (level == 0 || ((c.sync s).buf b).pyramid)

/-- Shows a layer's fill colour for a frame (R200). -/
def Chip.layerFill (c : Chip) (cmp l : Nat) : Chip :=
  (c.count Reg.CMP_L_FILLED_COUNT (cmp * 16 + l) 1).modLayer cmp l (fun v => { v with ready := false, fill := true })

/-- Readiness, repeat and fill of one layer (R199, R200). -/
def Chip.latchLayer (c : Chip) (cmp l td : Nat) (j : JobLayer) : Chip :=
  let y := c.layer cmp l
  if u8 j.record 0 ≠ 1 then
    c.modLayer cmp l (fun v => { v with ready := true, fill := false, shown := none, repeats := 0, episode := false })
  else if j.src = noSource then c.layerFill cmp l
  else if !j.live then c.modLayer cmp l (fun v => { v with ready := false, fill := false, shown := none, repeats := 0, episode := false })
  else if j.level = 3 then c.layerFill cmp l
  else
    let cause := ((c.dst (1024 + 16 * cmp + l)).lvl 0).cause
    let inCondition := cause == .lost || cause == .rate || cause == .severed
    let fresh := match c.latchedOf j.src td with
      | none => none
      | some (b, n) =>
        if (j.level = 0 ∨ ((c.sync j.src).buf b).pyramid = true) ∧ (match y.shown with | some (s', _, n') => s' != j.src || n' != n | none => true) = true
        then some (j.src, b, n) else none
    if fresh.isSome ∧ inCondition = false then
      c.modLayer cmp l (fun v => { v with ready := true, fill := false, shown := fresh, repeats := 0, episode := false })
    else if y.repeats + 1 ≤ u8 j.record 6 ∧ c.frameHeld y.shown j.level = true then
      (c.count Reg.CMP_L_REPEATED_COUNT (cmp * 16 + l) 1).modLayer cmp l
        (fun v => { v with ready := false, fill := false, repeats := v.repeats + 1, episode := false })
    else
      let why := if inCondition then 4 else if y.shown = none then 3 else if u8 j.record 6 < y.repeats + 1 then 1 else 2
      let c1 := c.layerFill cmp l
      if y.episode then c1
      else ((c1.modLayer cmp l (fun v => { v with episode := true })).mark Reg.CMP_STATUS_FILL_SEEN).event Ev.cmpLayerFill
        [cmp * 134217728 + l * 8388608 + why * 65536, (c.dom td).frame]

/-- The CMP job of one composer at a tick (R179): due layouts, levels, readiness. -/
def Chip.cmpJobOf (c : Chip) (cmp td : Nat) : Chip :=
  let c1 := Chip.swapLayouts cmp (c.dom td).tickAt 16384 c
  let ls := c1.fitBudget cmp 64 (c1.jobLayers cmp td)
  let c2 := c1.set Reg.CMP_C_BUDGET_BYTES cmp (c1.jobF cmp ls)
  ls.zipIdx.foldl (fun a p => (a.noteLevel cmp p.2 td p.1).latchLayer cmp p.2 td p.1) c2

/-- The readiness latch of one composer while the service cores are down (R563): no layout is swapped. -/
def Chip.latchOnly (c : Chip) (cmp td : Nat) : Chip :=
  ((c.jobLayers cmp td).zipIdx).foldl (fun a p => a.latchLayer cmp p.2 td { p.1 with level := (c.layer cmp p.2).level }) c

/-- The composers that are enabled in a domain. -/
def Chip.composersOf (c : Chip) (td : Nat) : List Nat := (List.range 32).filter (fun i => c.cmpOn i && c.cmpTd i == td)

/-- The CMP job of a domain. -/
def Chip.cmpJob (c : Chip) (td : Nat) : Chip := (c.composersOf td).foldl (fun a i => a.cmpJobOf i td) c

/-- The switch points of the layer inputs of a domain's enabled composers, which are its tick (R197), and the takes that waited for a
composer to be enabled (R177). -/
def Chip.tickSwitches (c : Chip) (td : Nat) : Chip :=
  ((c.composersOf td).flatMap (fun i => (List.range 16).map (fun l => 1024 + 16 * i + l))).foldl (fun a d => a.switch d)
    (if c.suspended then c else Chip.releaseDeferred td 16384 [] c)

/-! ## The OCCL job (R190) -/

/-- What a layer shows once the job has latched it. -/
def Chip.viewNow (c : Chip) (cmp l : Nat) : View :=
  let y := c.layer cmp l
  { record := y.record, src := c.routeSrc (1024 + 16 * cmp + l) 0, shown := y.shown, level := y.level, fill := y.fill }

/-- Whether every surface pixel that contributes to an output tile has full alpha, by the opacity bits of the tiles it reaches (R190). -/
def Chip.surfaceFull (c : Chip) (r : List Byte) (tx ty : Nat) : Bool :=
  match c.surface (u16 r 4) with
  | none => false
  | some g =>
    if u8 r 0 = 2 then
      let p := layerParams r g.width g.height
      let x0 := tx * 64 - u16 r 8
      let y0 := ty * 16 - u16 r 10
      (axisTiles y0 (y0 + 15) (u16 r 14) (u16 r 18 * g.height / 32768) p.ch 0 p.pv 16).all (fun b =>
        (axisTiles x0 (x0 + 63) (u16 r 12) (u16 r 16 * g.width / 32768) p.cw 0 p.ph 64).all (fun a =>
          g.opaqueTiles.contains (b * 64 + a) && !(g.poison.contains (b * 64 + a))))
    else false

/-- The key of an output tile in the occlusion map. -/
def occlKey (cmp tx ty : Nat) : Nat := cmp * 65536 + ty * 64 + tx

/-- Builds the occlusion map of a composer from its records (R190). -/
def Chip.occlude (c : Chip) (cmp : Nat) : Chip :=
  let w := c.cmpWidth cmp
  let h := c.cmpHeight cmp
  let rs := c.recordsOf cmp
  let keep := c.cmp.occl.filter (fun e => e.1 / 65536 != cmp)
  let map := (List.range (ceilDiv h 16)).foldl (fun t ty => (List.range (ceilDiv w 64)).foldl (fun t tx =>
    Tbl.put 0 t (occlKey cmp tx ty) (topOf w h (rs.map (fun r => (r, c.surfaceFull r tx ty))) tx ty)) t) keep
  (List.range 16).foldl (fun a l => a.modLayer cmp l (fun v => { v with view := c.viewNow cmp l })) { c with cmp := { c.cmp with occl := map } }

/-- OCCL_JOB (R60, R190): the maps of the domain's enabled composers. -/
def execOcclJob (t : Nat) (td : Fin 4) (s : State) : Host.Outcome State Fault Refusal :=
  act t s (fun c =>
    if (c.dom td).occlOpen then
      (c.composersOf td).foldl (fun a i => a.occlude i) (c.modDom td (fun m => { m with occlOpen := false }))
    else c)

/-- What an abandoned OCCL job leaves (R62): a composer whose layout has not changed composes the new frames under the old map; one whose
layout has changed composes as before. -/
def Chip.occlAbandoned (c : Chip) (td : Nat) : Chip :=
  (c.composersOf td).foldl (fun a i =>
    if (List.range 16).all (fun l => (a.layer i l).view.record == (a.layer i l).record && (a.layer i l).view.src == a.routeSrc (1024 + 16 * i + l) 0) then
      (List.range 16).foldl (fun b l => b.modLayer i l (fun v => { v with view := b.viewNow i l })) a
    else a) c

/-! ## The composite (R179 to R191) -/

/-- The key of a poisoned tile at a pyramid level. -/
def poisonKey (level col row : Nat) : Nat := level * 65536 + row * 64 + col

/-- Rows with the area of some tiles of a level taken from other rows (R134): the same area of the frame beneath. -/
def patchTiles (f : Format) (rows other : Rows) (level : Nat) (tiles : List (Nat × Nat)) : Rows :=
  tiles.foldl (fun t e =>
    (List.range (16 * 2 ^ level)).foldl (fun t i =>
      let r := e.2 * 16 * 2 ^ level + i
      if r < f.height then
        Tbl.put [] t r (patchRow f (Tbl.get (blackRow f) t r) ((List.range (2 ^ level)).map (fun k => e.1 * 2 ^ level + k)) (Tbl.get (blackRow f) other r))
      else t) t) rows

/-- A surface as a picture; a poisoned tile reads as black with alpha 0 (R135). -/
def Surface.picture (g : Surface) : Picture :=
  { isSurface := true,
    format := ⟨g.width, g.height, 0, 2, if g.format = 0 then 8 else 10, 0⟩,
    rows := (List.range g.height).map (fun y => (y, (List.range g.width).map (fun x =>
      if g.poison.contains (y / 16 * 64 + x / 64) then 0 else Tbl.get 0 g.front (y * 4096 + x)))) }

/-- A held frame as a picture at a level, with its poisoned tiles replaced (R134). -/
def Chip.framePicture (c : Chip) (s b level : Nat) : Picture :=
  let y := c.sync s
  let buf := y.buf b
  let f := buf.format.getD ((c.srcFormat s).getD ⟨0, 0, 0, 0, 10, 0⟩)
  let bad := buf.poison.filterMap (fun k => if k / 65536 = level then some (k % 64, k % 65536 / 64) else none)
  let other := match y.standIn b with
    | some k => if level = 0 ∨ (y.buf k).pyramid = true then (y.buf k).lines else []
    | none => []
  { isSurface := false, format := f, rows := patchTiles f buf.lines other level bad }

/-- What a layer draws (R182). -/
def Chip.drawnOf (c : Chip) (cmp l : Nat) (late : List LayerTile) : Drawn :=
  let v := (c.layer cmp l).view
  let r := v.record
  let fill := (u16 r 56, u16 r 58, u16 r 60)
  let set := if u8 r 7 = 0 then [] else c.record tyLuts (u8 r 7)
  let plain := fun (p : Nat × Nat × Nat) => ({ record := r, set := set, pict := none, plain := p, late := [] } : Drawn)
  let lost := (late.filter (fun e => e.layer == l)).map (fun e => (e.col, e.row))
  if u8 r 0 = 2 then
    match c.surface (u16 r 4) with
    | some g => { record := r, set := set, pict := some (g.picture, layerParams r g.width g.height), plain := fill, late := lost }
    | none => { plain (0, 0, 0) with record := [] }
  else if u8 r 0 = 1 then
    if v.src = noSource ∨ v.fill = true then plain fill
    else match v.shown with
      | none => plain (0, 0, 0)
      | some (s, b, n) =>
        if ((c.sync s).buf b).frame = some n then
          let p := c.framePicture s b v.level
          { record := r, set := set, pict := some (p, scaleAt r p.format.width p.format.height v.level), plain := fill, late := lost }
        else plain fill
  else plain fill

/-- The layer tiles that a composer does not fetch because of occlusion (`CMP.C_SKIPPED`). -/
def Chip.skippedTiles (c : Chip) (cmp : Nat) (ds : List Drawn) : Nat :=
  let w := c.cmpWidth cmp
  let h := c.cmpHeight cmp
  (ds.zipIdx.map (fun p =>
    match p.1.pict with
    | none => 0
    | some (g, s) =>
      (layerTiles w h (fun _ _ => 0) p.2 p.1.record g.format.width g.format.height s).length
        - (layerTiles w h (fun tx ty => Tbl.get 0 c.cmp.occl (occlKey cmp tx ty)) p.2 p.1.record g.format.width g.format.height s).length)).sum

/-- Replaces a surface. -/
def Chip.setSurface (c : Chip) (i : Nat) (g : Option Surface) : Chip :=
  { c with cmp := { c.cmp with surfaces := Tbl.put none c.cmp.surfaces i g } }

/-- Records the uncorrectable errors that a composer's reads have found (R133 to R135). -/
def Chip.layerErrors (c : Chip) (cmp corrected : Nat) (errors : List LayerError) : Chip :=
  errors.foldl (fun a e =>
    let v := (a.layer cmp e.layer).view
    if u8 v.record 0 = 2 then
      match a.surface (u16 v.record 4) with
      | some g => a.setSurface (u16 v.record 4) (some { g with poison := dedup (g.poison ++ [e.row * 64 + e.col]) })
      | none => a
    else match v.shown with
      | some (s, b, _) =>
        let a1 := a.modSync s (fun y => y.setBuf b { y.buf b with poison := dedup ((y.buf b).poison ++ [poisonKey v.level e.col e.row]) })
        (((a1.faultIs Ev.fstTileLost 1).set Reg.FST_SRC_FLAGS_TILE_LOST s 1).count Reg.FST_SYNC_TILE_SUB_COUNT (pairBank s (c.cmpTd cmp)) 1).event Ev.fstTileLost
          [s + b * 4096 + flag (v.level != 0) * 16384, e.addr / 4294967296 % 32, e.addr]
      | none => a) (c.eccErrors corrected (errors.map (fun e => ⟨e.col, e.addr⟩)))

/-- The composite of a composer (R181), row by row. -/
def Chip.compositeRows (c : Chip) (cmp : Nat) (ds : List Drawn) : List (List Nat) :=
  let r := c.record tyComposers cmp
  let bg := (u16 r 10, u16 r 12, u16 r 14)
  (List.range (c.cmpHeight cmp)).map (fun y =>
    let holes := c.cmp.holes.filter (fun h => h.1 == cmp && h.2.2.1 == y)
    encodeLine (u8 r 7 == 1) ((List.range (c.cmpWidth cmp)).map (fun x =>
      let out := (holes.filter (fun h => decide (h.2.2.2.1 ≤ x) && decide (x < h.2.2.2.1 + h.2.2.2.2))).map (fun h => h.2.1)
      if out = [] then compositePixel bg ds (Tbl.get 0 c.cmp.occl (occlKey cmp (x / 64) (y / 16))) x y
      else compositePixel bg (ds.zipIdx.map (fun e => if out.contains e.2 then { e.1 with record := [] } else e.1)) 0 x y)))

/-- COMPOSE_FRAME (R179, R181, R191): an enabled composer in full service composes its frame. -/
def execComposeFrame (t : Nat) (cmp : Fin 32) (late : List LayerTile) (corrected : Nat) (errors : List LayerError) (stored : Nat) (s : State) :
    Host.Outcome State Fault Refusal :=
  act t s (fun c =>
    if c.cmpOn cmp && c.fullIn (c.cmpTd cmp) then
      let c1 := c.layerErrors cmp corrected errors
      let ds := (List.range 16).map (fun l => c1.drawnOf cmp l late)
      let f : Format := ⟨c.cmpWidth cmp, c.cmpHeight cmp, u8 (c.record tyComposers cmp) 6, 0, 10, c.tdRate (c.cmpTd cmp)⟩
      let rows := c1.compositeRows cmp ds
      let c2 := (c1.internalFrame (1056 + cmp) f (rows.zipIdx.map (fun p => (carrierLine f p.2, p.1))) []).noteComposite cmp (rowsCrc 10 rows)
      let c3 := (({ c2 with cmp := { c2.cmp with holes := c2.cmp.holes.filter (fun h => h.1 != cmp) } }.set Reg.CMP_C_FETCHED_BYTES cmp stored).set Reg.CMP_C_SKIPPED_TILES cmp (c1.skippedTiles cmp ds)).countWrap
        Reg.CMP_C_FRAMES_COUNT cmp 1
      if late = [] then c3
      else ((c3.count Reg.CMP_C_LATE_TILES cmp late.length).mark Reg.CMP_STATUS_LATE_SEEN).event Ev.cmpFetchLate
        [cmp, late.length, (c.dom (c.cmpTd cmp)).frame]
    else c)

/-- What `CMP.CTRL.CLR_CNT` clears (R212). -/
def Chip.clrCmp (c : Chip) : Chip :=
  c.clearAll [Reg.CMP_C_FRAMES_COUNT, Reg.CMP_C_LATE_TILES, Reg.CMP_L_REPEATED_COUNT, Reg.CMP_L_FILLED_COUNT,
    Reg.CMP_L_DEMOTIONS_COUNT]

/-- CMP_CLR_CNT (R212). -/
def execCmpClrCnt (t : Nat) (s : State) : Host.Outcome State Fault Refusal := act t s (fun c => c.clrCmp)

/-! ## Graphics surfaces (R204 to R206) -/

/-- The granules of a surface (R204). -/
def surfaceGranules (w h : Nat) : Nat := ceilDiv (2 * (ceilDiv w 64 * ceilDiv h 16) * 4096) 65536

/-- Whether a layout in force or pending names a surface (R206). -/
def Chip.surfaceNamed (c : Chip) (i : Nat) : Bool :=
  let names := fun (r : List Byte) => u8 r 0 == 2 && u16 r 4 == i
  c.cmp.layers.any (fun e => names e.2.record) || c.cmp.layouts.any (fun y => (layoutRecords y.body).any (fun p => names p.2))

/-- A record of type 0x0580 (R548): the surface is allocated or freed, or the code of R204, R206 or R211. -/
def Chip.surfaceRecord (c : Chip) (r : List Byte) : Except Nat Chip :=
  let i := u16 r 0
  if r.length ≠ 8 ∨ 1023 < i then .error 0x050D
  else if u8 r 2 = 0xFF then
    if !(zeroAt r 3 5) then .error 0x050D
    else match c.surface i with
      | none => .error 0x0508
      | some g =>
        if c.surfaceNamed i then .error 0x050C
        else .ok ((c.setSurface i none).set Reg.FST_GEN_FREE_GRANULES 0 (c.fld Reg.FST_GEN_FREE_GRANULES 0 + surfaceGranules g.width g.height))
  else if 31 < u8 r 2 ∨ 1 < u8 r 3 ∨ !(within (u16 r 4) 16 3840) ∨ !(within (u16 r 6) 16 2160) then .error 0x050D
  else if (c.surface i).isSome then .error 0x050C
  else
    let n := surfaceGranules (u16 r 4) (u16 r 6)
    if c.fld Reg.FST_GEN_FREE_GRANULES 0 < n then .error 0x050B
    else
      let g : Surface :=
        { owner := u8 r 2, width := u16 r 4, height := u16 r 6, format := u8 r 3, front := [], back := [],
          opaqueTiles := [], poison := [], loads := [] }
      .ok ((c.setSurface i (some g)).set Reg.FST_GEN_FREE_GRANULES 0 (c.fld Reg.FST_GEN_FREE_GRANULES 0 - n))

/-- Whether a rectangle of a surface meets the rules of R552. -/
def surfaceRectOk (g : Surface) (x y w h : Nat) : Bool :=
  x % 64 == 0 && y % 16 == 0 && decide (1 ≤ w) && decide (1 ≤ h) && decide (x + w ≤ g.width) && decide (y + h ≤ g.height)
    && (w % 64 == 0 || x + w == g.width) && (h % 16 == 0 || y + h == g.height)

/-- Writes a rectangle of pixels, row by row. -/
def writeRect (t : Tbl Nat) (x y w : Nat) (px : List Nat) : Tbl Nat :=
  px.zipIdx.foldl (fun t p => Tbl.put 0 t ((y + p.2 / max w 1) * 4096 + x + p.2 % max w 1) p.1) t

/-- The pixels of a rectangle, row by row. -/
def readRect (t : Tbl Nat) (x y w h : Nat) : List Nat :=
  (List.range h).flatMap (fun j => (List.range w).map (fun i => Tbl.get 0 t ((y + j) * 4096 + x + i)))

/-- Writes the first waiting load of a surface into its back buffer. -/
def Surface.startLoad (g : Surface) : Surface :=
  match g.loads with
  | [] => g
  | l :: r => { g with back := writeRect g.back l.x l.y l.w l.pixels, loads := { l with pixels := [] } :: r }

/-- Whether a client of the best-effort arbiters is in quarantine (R166). -/
def Chip.quarantined (c : Chip) (client : Nat) : Bool := bit (c.fld Reg.ARB_QUAR_CLIENT 0) client

/-- The 4-byte pixels of a body from offset `o`. -/
def pixelsOf (b : List Byte) (o : Nat) : List Nat := (List.range ((b.length - o) / 4)).map (fun i => u32 b (o + 4 * i))

/-- Whether a bulk write body has its header and at most 262,144 bytes of data (R552). -/
def bulkWriteOk (b : List Byte) : Bool := decide (16 ≤ b.length) && zeroAt b 1 3 && decide (b.length ≤ 16 + 262144)

/-- Whether a bulk read body has its header and a length in range (R552). -/
def bulkReadOk (b : List Byte) : Bool := decide (b.length = 20) && zeroAt b 1 3 && within (u32 b 16) 1 262144

/-- SURFACE_LOAD (R205, R552): target 1 of `BULK_WRITE`; a target that the table of R552 does not list is refused here. -/
def execSurfaceLoad (t : Nat) (slot : Fin 16) (body : List Byte) (s : State) : Host.Outcome State Fault Refusal :=
  act t s (fun c =>
    if u8 body 0 = 2 ∨ u8 body 0 = 3 then c
    else c.request slot 0x0801 1 false
      (bulkWriteOk body && (u8 body 0 != 1 || decide (body.length = 16 + 4 * (u16 body 12 * u16 body 14)))) (fun c =>
      match (if u8 body 0 = 1 then c.surface (u32 body 4) else none) with
      | none => c.refuse slot 0x0801 0x1108 wholeIndex
      | some g =>
        if !(surfaceRectOk g (u16 body 8) (u16 body 10) (u16 body 12) (u16 body 14)) then c.refuse slot 0x0801 0x1108 wholeIndex
        else if c.quarantined 2 then c.refuse slot 0x0801 0x1105 wholeIndex
        else
          let l : SurfLoad := ⟨u16 body 8, u16 body 10, u16 body 12, u16 body 14, slot, (c.session slot).id, c.reqSeq slot, pixelsOf body 16⟩
          let g1 := { g with loads := g.loads ++ [l] }
          (c.setSurface (u32 body 4) (some (if g.loads = [] then g1.startLoad else g1))).started slot 0x0801 []))

/-- Whether a surface pixel has full alpha. -/
def fullAlpha (format v : Nat) : Bool := if format = 0 then v / 16777216 == 255 else v / 1073741824 == 3

/-- The opacity bits of a surface after a load of a rectangle (R190). -/
def Surface.opacity (g : Surface) (l : SurfLoad) : List Nat :=
  let tiles := (List.range (ceilDiv l.h 16)).flatMap (fun j => (List.range (ceilDiv l.w 64)).map (fun i => (l.x / 64 + i, l.y / 16 + j)))
  let full := tiles.filter (fun e => (readRect g.front (e.1 * 64) (e.2 * 16) (min 64 (g.width - e.1 * 64)) (min 16 (g.height - e.2 * 16))).all
    (fullAlpha g.format))
  g.opaqueTiles.filter (fun k => !(tiles.any (fun e => e.2 * 64 + e.1 == k))) ++ full.map (fun e => e.2 * 64 + e.1)

/-- SURFACE_SWAP (R205): at a CMP job of the owning composer the buffers swap, the rectangle is copied into the new back buffer, the load
completes, and the next load of the surface is taken. -/
def execSurfaceSwap (t : Nat) (surface : Fin 1024) (s : State) : Host.Outcome State Fault Refusal :=
  act t s (fun c =>
    match c.surface surface with
    | none => c
    | some g =>
      match g.loads with
      | [] => c
      | l :: r =>
        if c.cmpOn g.owner then
          let g1 := { g with front := g.back, back := writeRect g.front l.x l.y l.w (readRect g.back l.x l.y l.w l.h), loads := r }
          let inRect := fun (k : Nat) => decide (l.x ≤ k % 64 * 64) && decide (k % 64 * 64 < l.x + l.w) && decide (l.y ≤ k / 64 * 16)
            && decide (k / 64 * 16 < l.y + l.h)
          let g2 := { g1 with opaqueTiles := g1.opacity l, poison := g1.poison.filter (fun k => !(inRect k)) }
          (c.setSurface surface (some g2.startLoad)).opDone l.slot l.session l.reqSeq (statusOf 0 wholeIndex)
        else c)

/-- SURFACE_READ (R552): target 7 of `BULK_READ`, the front buffer of a surface; a target that the table of R552 does not list is refused
here. -/
def execSurfaceRead (t : Nat) (slot : Fin 16) (body : List Byte) (s : State) : Host.Outcome State Fault Refusal :=
  act t s (fun c =>
    if u8 body 0 = 2 ∨ u8 body 0 = 4 ∨ u8 body 0 = 5 ∨ u8 body 0 = 6 then c
    else c.request slot 0x0802 1 false (bulkReadOk body) (fun c =>
      match (if u8 body 0 = 7 then c.surface (u32 body 4) else none) with
      | none => c.refuse slot 0x0802 0x1108 wholeIndex
      | some g =>
        let x := u16 body 8
        let y := u16 body 10
        let w := u16 body 12
        let h := u16 body 14
        if !(surfaceRectOk g x y w h) || u32 body 16 != w * h * 4 then c.refuse slot 0x0802 0x1108 wholeIndex
        else if c.quarantined 3 then c.refuse slot 0x0802 0x1105 wholeIndex
        else c.done slot 0x0802 ((readRect g.front x y w h).zipIdx.flatMap (fun p =>
          beBytes 4 (if g.poison.contains ((y + p.2 / max w 1) / 16 * 64 + (x + p.2 % max w 1) / 64) then 0 else p.1)))))

end Sys2Proof.Machine
end

