-- ==== Sys2Proof/Machine/Audio.lean ====
section
/-! DEFINITION. Audio takes and local audio ports (R225, R234 to R240, R245). -/

namespace Sys2Proof.Machine

/-- Whether an `AUDIO_TAKE` body has the length and reserved fields of its header (R542, R544). -/
def audioBodyOk (b : List Byte) : Bool :=
  decide (b.length = 16 + 8 * u16 b 0) && decide (u8 b 2 ≤ 3) && zeroAt b 3 1 && decide (u32 b 4 ≤ 999999999)

/-- The channel records of an `AUDIO_TAKE` body. -/
def audioRecords (b : List Byte) : List (List Byte) := (List.range (u16 b 0)).map (fun i => bytesAt b (16 + 8 * i) 8)

/-- Whether an audio take is held (R101, R225): full service has not begun in every domain it concerns. -/
def Chip.audMustHold (c : Chip) (rs : List (List Byte)) : Bool :=
  rs.any (fun r => match c.mapOwner (u16 r 0) with | some d => !(c.fullIn (c.dstTd d)) | none => !(c.fullIn 0))

/-- What an `AUDIO_TAKE` body asks for (R223, R544). -/
def Chip.audioTakeMsg (c : Chip) (slot : Nat) (body : List Byte) : Chip :=
  let rs := audioRecords body
  let nb := notBeforeOf (u8 body 2) (u64 body 8) (u32 body 4)
  let held := c.audMustHold rs
  match c.checkAud rs nb with
  | some (code, i) => (c.countRefused code).refuse slot 0x0104 code i
  | none =>
    if held ∧ c.phase = 3 then (c.countRefused 0x1002).refuse slot 0x0104 0x1002 wholeIndex
    else
      let id := c.lan.takeId + 1
      let q : AudTake := { id := id, records := rs, count := rs.length, accepted := c.now, notBefore := nb, slot := slot,
                           session := (c.session slot).id, held := held }
      let c1 : Chip := { c with lan := { c.lan with takeId := id }, xpt := { c.xpt with audQueue := c.xpt.audQueue ++ [q] } }
      if held then c1.peaks.held slot 0x0104 (beBytes 8 id) else c1.peaks.done slot 0x0104 (beBytes 8 id)

/-- AUDIO_TAKE (R225, R544). -/
def execAudioTake (t : Nat) (slot : Fin 16) (body : List Byte) (s : State) : Host.Outcome State Fault Refusal :=
  act t s (fun c => c.request slot 0x0104 1 false (audioBodyOk body) (fun c => c.audioTakeMsg slot body))

/-- Checks the held audio takes whose domains have full service (R102, R225), in acceptance order. -/
def Chip.releaseAudio (c : Chip) : Chip :=
  (c.xpt.audQueue.filter (fun q => q.held && !(c.audMustHold q.records))).foldl (fun a q =>
    let b : Chip := { a with xpt := { a.xpt with audQueue := a.xpt.audQueue.filter (fun x => x.id != q.id) } }
    match b.checkAud q.records q.notBefore with
    | some (code, i) =>
      let st := statusOf code i
      (b.noticeTo q.slot q.session 0x8002 (beBytes 8 q.id ++ beBytes 4 st)).event Ev.xptHeldRefused
        [q.id / 4294967296, q.id % 4294967296, st]
    | none =>
      { a with xpt := { a.xpt with audQueue := a.xpt.audQueue.map (fun x => if x.id = q.id then { x with held := false, accepted := a.now } else x) } }) c

/-! ## Ports -/

/-- A local audio port. -/
def Chip.audPort (c : Chip) (p : Nat) : AudPort := Tbl.get AudPort.reset c.aud.ports p

/-- Changes a local audio port. -/
def Chip.modPort (c : Chip) (p : Nat) (f : AudPort → AudPort) : Chip :=
  { c with aud := { c.aud with ports := Tbl.upd AudPort.reset c.aud.ports p f } }

/-- Whether a port is enabled (R243). -/
def Chip.portOn (c : Chip) (p : Nat) : Bool := bit (u8 (c.record tyAudPorts p) 2) 4

/-- Whether a port is a clock master (R234). -/
def Chip.portMaster (c : Chip) (p : Nat) : Bool := decide (p < 8) && bit (u8 (c.record tyAudPorts p) 2) 0

/-- Whether a port runs at 96 kHz. -/
def Chip.portAt96 (c : Chip) (p : Nat) : Bool := bit (u8 (c.record tyAudPorts p) 2) 1

/-- Whether a port's input is asynchronous: a slave I2S/TDM port or an AES3 input (R237). -/
def Chip.portAsync (c : Chip) (p : Nat) : Bool := c.portOn p && (if p < 8 then !(c.portMaster p) else decide (p < 12))

/-- The nominal rates of the classes in 0.1 Hz (R238). -/
def classNominal (k : Nat) : Nat := ([0, 320000, 441000, 480000, 882000, 960000, 1764000, 1920000] : List Nat).getD k 0

/-- The class of a rate: the nominal within 2 %, else 0 (R238). The classes lie further apart than that. -/
def rateClass (rate : Nat) : Nat :=
  (([1, 2, 3, 4, 5, 6, 7] : List Nat).find? (fun k =>
    let n := classNominal k
    decide (98 * n ≤ 100 * rate) && decide (100 * rate ≤ 102 * n))).getD 0

/-- Whether two rates differ by more than 0.1 % of the first. -/
def ratesDiffer (base rate : Nat) : Bool := decide (base < 1000 * (max base rate - min base rate))

/-- PORT_CLOCK_STOP (R239): the input fades out from the last sample received. -/
def execPortClockStop (t : Nat) (port : Fin 12) (s : State) : Host.Outcome State Fault Refusal :=
  act t s (fun c =>
    if c.portAsync port && (c.audPort port).clock != 0 then
      let last := (c.audPort port).measured.getD 0
      let c1 := c.modPort port (fun x => { x with clock := 0, muted := true, windows := [], odd := false })
      ((((c1.set Reg.AUD_PORT_RATE_RATE port 0).count Reg.AUD_PORT_EVENTS_CLOCK_LOSSES port 1).mark Reg.AUD_STATUS_CLOCK_LOST_SEEN).event
        Ev.audClockLost [port, last])
    else c)

/-- Whether five windows agree with one another within 0.1 %. -/
def windowsAgree (l : List Nat) : Bool :=
  decide (l.length = 5) && l.all (fun a => l.all (fun b => !(ratesDiffer a b)))

/-- PORT_CLOCK_WINDOW (R239): a 10 ms window is judged: a glitch, a rate change, or a resume. -/
def execPortClockWindow (t : Nat) (port : Fin 12) (rate : Nat) (s : State) : Host.Outcome State Fault Refusal :=
  act t s (fun c =>
    if c.portAsync port then
      let x := c.audPort port
      if x.clock = 2 then
        if ratesDiffer x.rate rate then
          if x.odd then
            (c.modPort port (fun x => { x with clock := 1, muted := true, odd := false, windows := [rate] })).count
              Reg.AUD_PORT_EVENTS_RATE_CHANGES port 1
          else c.modPort port (fun x => { x with odd := true })
        else if x.odd then (c.modPort port (fun x => { x with odd := false })).count Reg.AUD_PORT_ERRORS_COUNT port 1
        else c
      else
        let w := (x.windows ++ [rate]).drop (x.windows.length - 4)
        let c1 := c.modPort port (fun x => { x with clock := 1, windows := w })
        if windowsAgree w && rateClass rate == (if c.portAt96 port then 5 else 3) then
          (c1.modPort port (fun x => { x with
            clock := 2, muted := false, rate := rate, odd := false, windows := [],
            input := { x.input with frames := [], filling := true },
            output := { x.output with frames := [], filling := true } })).event
            Ev.audClockRestored [port, x.measured.getD 0]
        else c1
    else c)

/-- PORT_RATE_MEASUREMENT (R238, R240): the measured rate is reported and classified. -/
def execPortRateMeasurement (t : Nat) (port : Fin 12) (rate : Nat) (s : State) : Host.Outcome State Fault Refusal :=
  act t s (fun c =>
    if c.portOn port then
      let x := c.audPort port
      let stopped := c.portAsync port && x.clock == 0
      let r := if stopped then 0 else rate
      let k := rateClass r
      let changed := x.measured.isSome && k != x.cls
      let far := k != 0 && ratesDiffer (classNominal k) r
      let near := k != 0 && decide (10000 * (max r (classNominal k) - min r (classNominal k)) ≤ 8 * classNominal k)
      let drifted := far && (!x.drift || changed)
      let c1 := (c.modPort port (fun x => { x with cls := k, measured := some r, drift := if far then true else if near then false else x.drift })).set
        Reg.AUD_PORT_RATE_RATE port r
      let note := fun (a : Chip) (e : Ev) =>
        ((a.mark Reg.AUD_STATUS_RATE_SEEN).event e [port + x.cls * 256 + k * 4096, r]).noticeClass 1 0x8005
          (beBytes 1 port ++ beBytes 1 k ++ beBytes 2 0 ++ beBytes 4 r)
      let c2 := if changed then note (c1.count Reg.AUD_PORT_EVENTS_RATE_CHANGES port 1) Ev.audRateChange else c1
      if drifted then note c2 Ev.audRateDrift else c2
    else c)

/-- Records a slip of an asynchronous port (R237): `repeats`, or a drop; `out` for the output of a slave port. -/
def Chip.portSlip (c : Chip) (p : Nat) (repeats out : Bool) : Chip :=
  (c.count (if repeats then Reg.AUD_PORT_SLIP_PORT_REPEATS else Reg.AUD_PORT_SLIP_PORT_DROPS) p 1).event Ev.audSlip
    [p, flag repeats + 2 * flag out]

/-- Adds a frame to a FIFO (R237): above 48 samples one is dropped. -/
def AudFifo.push (f : AudFifo) (w : List Nat) : AudFifo × Bool :=
  if 48 < (f.frames ++ [w]).length ∧ f.filling = false then ({ f with frames := (f.frames ++ [w]).drop 1 }, true)
  else
    let n := (f.frames ++ [w]).drop ((f.frames ++ [w]).length - 64)
    ({ f with frames := n, filling := f.filling && decide (n.length < 32) }, false)

/-- Takes a frame from a FIFO (R237): below 16 samples the last one is repeated; nothing is taken while it is being refilled. -/
def AudFifo.pop (f : AudFifo) : AudFifo × Bool :=
  if f.filling then (f, false)
  else if f.frames.length < 16 then (f, true)
  else match f.frames with
    | [] => (f, true)
    | w :: r => ({ f with frames := r, last := w }, false)

/-- AUDIO_INPUT_SAMPLE (R234, R235, R237): a frame enters the FIFO of an asynchronous input; on a slave I2S/TDM port a frame of its output
leaves with it. -/
def execAudioInputSample (t : Nat) (port : Fin 12) (words : List Nat) (errors : Nat) (s : State) : Host.Outcome State Fault Refusal :=
  act t s (fun c =>
    if c.portAsync port then
      let c1 := c.count Reg.AUD_PORT_ERRORS_COUNT port errors
      if (c.audPort port).clock = 2 then
        let r := (c.audPort port).input.push words
        let c2 := c1.modPort port (fun x => { x with input := r.1 })
        let c3 := if r.2 then c2.portSlip port false false else c2
        if port.val < 8 then
          let o := (c3.audPort port).output.pop
          let c4 := c3.modPort port (fun x => { x with output := o.1 })
          let c5 := if o.2 then c4.portSlip port true true else c4
          o.1.last.zipIdx.foldl (fun a p => a.emit (.audio (65536 + port * 16 + p.2) p.1)) c5
        else c3
      else c1
    else c)

/-- What `AUD.CTRL.CLR_CNT` clears (R245). -/
def Chip.clrAud (c : Chip) : Chip :=
  c.clearAll [Reg.AUD_DST_CLIP_COUNT, Reg.AUD_DST_MISMATCH_COUNT, Reg.AUD_SRC_MISSING_COUNT, Reg.AUD_SRC_LATE_COUNT,
    Reg.AUD_SRC_EARLY_COUNT, Reg.AUD_SRC_SLIP_COUNT, Reg.AUD_PORT_SLIP_PORT_REPEATS, Reg.AUD_PORT_SLIP_PORT_DROPS,
    Reg.AUD_PORT_EVENTS_CLOCK_LOSSES, Reg.AUD_PORT_EVENTS_RATE_CHANGES, Reg.AUD_PORT_ERRORS_COUNT]

/-- AUD_CLR_CNT (R245). -/
def execAudClrCnt (t : Nat) (s : State) : Host.Outcome State Fault Refusal := act t s (fun c => c.clrAud)

/-! ## One sample of a destination position (R214, R223, R224, R227, R228) -/

/-- Full scale of a word of `w` bits, and saturation to it. -/
def satWord (w : Nat) (v : Int) : Int := max (-(2 ^ (w - 1) : Int)) (min ((2 ^ (w - 1) : Int) - 1) v)

/-- The largest y with y^2000 · 10^down ≤ m^2000 · 10^up, found bit by bit from bit `n` − 1: the integer part of m · 10^((up − down)/2000). -/
def expRoot (m up down : Nat) : Nat → Nat → Nat
  | 0, y => y
  | n + 1, y =>
    if (y + 2 ^ n) ^ 2000 * 10 ^ down ≤ m ^ 2000 * 10 ^ up then expRoot m up down n (y + 2 ^ n) else expRoot m up down n y

/-- The integer part of m · 10^(g/2000), for results of at most `n` bits. -/
def gainFloor (m n : Nat) (g : Int) : Nat := expRoot m g.toNat (-g).toNat n 0

/-- A sample times 10^(g/2000), rounded to the nearest word (R227): half the integer part of twice the product, rounded up. -/
def gainWord (g : Int) (x : Int) : Int :=
  let v : Int := (gainFloor (2 * x.natAbs) 38 g + 1) / 2
  if x < 0 then -v else v

/-- The coefficient k in 1/2^64 (R227). -/
def coefficient (gain : Int) (mute invert : Bool) : Int :=
  if mute then 0 else let k : Int := gainFloor (2 ^ 64) 70 gain; if invert then -k else k

/-- One step of a ramp of k (R228): sample i of 64, from `k0` to `k1` in 1/2^64. -/
def rampStep (k0 k1 : Int) (i : Nat) : Int := (k0 * (63 - i : Nat) + k1 * (i + 1 : Nat)) / 64

/-- The output word of a sample x at full precision (R227, R228), before saturation. -/
def AudDst.level (d : AudDst) (x : Int) : Int :=
  if d.rampAt < 64 then roundDiv (x * rampStep d.kFrom (coefficient d.gain d.mute d.invert) d.rampAt) (2 ^ 64)
  else if d.mute then 0
  else if d.invert then -(gainWord d.gain x) else gainWord d.gain x

/-- One step of a crossfade (R223): sample i of 64. -/
def crossfade (old new : Int) (i : Nat) : Int := roundDiv (old * (63 - i : Nat) + new * (i + 1 : Nat)) 64

/-- A word rounded to the width of a narrower output, ties away from zero, and saturated there (R214), as 32 bits. -/
def narrowWord (width : Nat) (v : Int) : Int := satWord width (roundDiv v (2 ^ (32 - width))) * 2 ^ (32 - width)

end Sys2Proof.Machine
end

