-- ==== Sys2Proof/Machine/Digest.lean ====
section
/-! DEFINITION. SHA-512 (FIPS 180-4, which R469, R495 and R545 name) and where the banks of the flash lie (R493 to R495). -/

namespace Sys2Proof.Machine

/-! ## SHA-512 -/

/-- The first 64 bits of the fractional part of the cube root of `p`, found bit by bit. -/
def cubeBits (p : Nat) : Nat → Nat → Nat
  | 0, acc => acc
  | n + 1, acc => if (acc + 2 ^ n) ^ 3 ≤ p * 2 ^ 192 then cubeBits p n (acc + 2 ^ n) else cubeBits p n acc

/-- The first 64 bits of the fractional part of the square root of `p`. -/
def squareBits (p : Nat) : Nat → Nat → Nat
  | 0, acc => acc
  | n + 1, acc => if (acc + 2 ^ n) ^ 2 ≤ p * 2 ^ 128 then squareBits p n (acc + 2 ^ n) else squareBits p n acc

/-- The first 80 primes: the round constants come from their cube roots, the initial words from the square roots of the first eight. -/
def shaPrimes : List Nat := (List.range 410).filter (fun n => decide (2 ≤ n) && (List.range n).all (fun d => decide (d < 2) || n % d != 0))

/-- The round constants. -/
def shaK : List (BitVec 64) := shaPrimes.map (fun p => BitVec.ofNat 64 (cubeBits p 68 0))

/-- The initial hash words. -/
def shaH : List (BitVec 64) := (shaPrimes.take 8).map (fun p => BitVec.ofNat 64 (squareBits p 70 0))

/-- The 80 words of a block's schedule, newest first while it grows. -/
def shaSchedule : Nat → List (BitVec 64) → List (BitVec 64)
  | 0, w => w
  | n + 1, w =>
    let x := w.getD 1 0
    let y := w.getD 14 0
    let s1 := (x.rotateRight 19) ^^^ (x.rotateRight 61) ^^^ (x >>> 6)
    let s0 := (y.rotateRight 1) ^^^ (y.rotateRight 8) ^^^ (y >>> 7)
    shaSchedule n ((s1 + w.getD 6 0 + s0 + w.getD 15 0) :: w)

/-- One round on the eight working words. -/
def shaRound (v : List (BitVec 64)) (kw : BitVec 64) : List (BitVec 64) :=
  let a := v.getD 0 0
  let b := v.getD 1 0
  let c := v.getD 2 0
  let e := v.getD 4 0
  let f := v.getD 5 0
  let g := v.getD 6 0
  let t1 := v.getD 7 0 + ((e.rotateRight 14) ^^^ (e.rotateRight 18) ^^^ (e.rotateRight 41)) + ((e &&& f) ^^^ (~~~e &&& g)) + kw
  let t2 := ((a.rotateRight 28) ^^^ (a.rotateRight 34) ^^^ (a.rotateRight 39)) + ((a &&& b) ^^^ (a &&& c) ^^^ (b &&& c))
  [t1 + t2, a, b, c, v.getD 3 0 + t1, e, f, g]

/-- One block of 128 bytes. -/
def shaBlock (h : List (BitVec 64)) (blk : List Byte) : List (BitVec 64) :=
  let w := ((List.range 16).map (fun i => BitVec.ofNat 64 (u64 blk (8 * i)))).reverse
  let sched := (shaSchedule 64 w).reverse
  let out := (sched.zip shaK).foldl (fun v p => shaRound v (p.1 + p.2)) h
  List.zipWith (fun x y => x + y) h out

/-- The blocks of a padded message. -/
def shaBlocks : Nat → List Byte → List (BitVec 64) → List (BitVec 64)
  | 0, _, h => h
  | n + 1, l, h => shaBlocks n (l.drop 128) (shaBlock h (l.take 128))

/-- The SHA-512 of bytes. -/
def sha512 (l : List Byte) : List Byte :=
  let zeros := (239 - l.length % 128) % 128
  let padded := l ++ [128] ++ List.replicate zeros 0 ++ beBytes 16 (8 * l.length)
  (shaBlocks (padded.length / 128) padded shaH).flatMap (fun w => beBytes 8 w.toNat)

/-! ## The banks (R493 to R495) -/

/-- The bytes of a block of the image container. -/
def blockBytes : Nat := 65536

/-- The flash offset of a bank: kind 1 firmware, 2 settings; bank 1 A, 2 B. -/
def bankOffset (kind bank : Nat) : Nat := if kind = 1 then (if bank = 2 then 0x03000000 else 0) else (if bank = 2 then 0x07000000 else 0x06000000)

/-- Block `k` of a bank. -/
def bankBlock (m : Tbl Byte) (kind bank k : Nat) : List Byte := memRead m (flashBase + bankOffset kind bank + blockBytes * k) blockBytes

/-- The manifest of a bank. -/
def manifest (m : Tbl Byte) (kind bank : Nat) : List Byte := bankBlock m kind bank 0

/-- The whole image of a bank: the manifest and its data blocks. -/
def bankImage (m : Tbl Byte) (kind bank : Nat) : List Byte :=
  memRead m (flashBase + bankOffset kind bank) (blockBytes * (u32 (memRead m (flashBase + bankOffset kind bank) 32) 20 % 1024 + 1))

/-- The bank in use of a kind (R613, R516): 0 when none verified. -/
def Chip.bankInUse (c : Chip) (kind : Nat) : Nat := if kind = 1 then c.fld Reg.BOOT_STATUS_FW_BANK 0 else c.fld Reg.BOOT_STATUS_SET_BANK 0

/-- The SHA-512 of the manifest of the firmware bank in use; zeros when there is none. -/
def Chip.fwDigest (c : Chip) (m : Tbl Byte) : List Byte :=
  if c.bankInUse 1 = 0 then List.replicate 64 0 else sha512 (manifest m 1 (c.bankInUse 1))

/-- The SHA-512 of the settings image in use; zeros when there is none. -/
def Chip.setDigest (c : Chip) (m : Tbl Byte) : List Byte :=
  if c.bankInUse 2 = 0 then List.replicate 64 0 else sha512 (bankImage m 2 (c.bankInUse 2))

end Sys2Proof.Machine
end

