-- ==== Sys2Proof/Machine/Generators.lean ====
section
/-! DEFINITION. Pattern generators (R432 to R439): patterns, the frame code, identity packets, tones, check values. -/

namespace Sys2Proof.Machine

/-- A generator. -/
def Chip.gen (c : Chip) (g : Nat) : Gen := Tbl.get Gen.reset c.fwa.gens g

/-- Changes a generator. -/
def Chip.modGen (c : Chip) (g : Nat) (f : Gen → Gen) : Chip := { c with fwa := { c.fwa with gens := Tbl.upd Gen.reset c.fwa.gens g f } }

/-! ## Patterns (R434 to R436) -/

/-- A row from its pixels' Y′, Cb and Cr: 4:2:2, the colour difference values of the even pixels. -/
def packRow (w : Nat) (px : Nat → Nat × Nat × Nat) : List Nat :=
  (List.range w).flatMap (fun x => let p := px x; [if x % 2 = 0 then p.2.1 else (px (x - 1)).2.2, p.1])

/-- Whether bar `i` of white, yellow, cyan, green, magenta, red, blue, black holds red, green, blue. -/
def barPrimaries (i : Nat) : Nat × Nat × Nat :=
  (([(1, 1, 1), (1, 1, 0), (0, 1, 1), (0, 1, 0), (1, 0, 1), (1, 0, 0), (0, 0, 1)] : List (Nat × Nat × Nat)).getD i (0, 0, 0))

/-- Y′, Cb and Cr of a bar at 75 % amplitude, from the weights of red and blue in 1/10000. -/
def barCode (kr kb : Nat) (i : Nat) : Nat × Nat × Nat :=
  let p := barPrimaries i
  let y : Int := ((kr * p.1 + (10000 - kr - kb) * p.2.1 + kb * p.2.2 : Nat) : Int)
  let code := fun (v : Int) (k : Nat) => (512 + roundDiv (896 * 3 * v) (8 * (10000 - k))).toNat
  ((64 + roundDiv (876 * 3 * y) 40000).toNat, code (((10000 * p.2.2 : Nat) : Int) - y) kb, code (((10000 * p.1 : Nat) : Int) - y) kr)

/-- The bar of a pixel: eight of equal width, the last with the remainder. -/
def barAt (w x : Nat) : Nat := min (x / max (w / 8) 1) 7

/-- One step of the PRBS-23 register x^23 + x^18 + 1: the new bit enters at the low end, and is the sequence's next bit. -/
def prbsStep (v : Nat) : Nat := (v * 2 + (v / 2 ^ 22 + v / 2 ^ 17) % 2) % 2 ^ 23

/-- The next 10 bits, most significant first: the register, and the value. -/
def prbsTen : Nat → Nat → Nat → Nat × Nat
  | 0, v, x => (v, x)
  | n + 1, v, x => let v' := prbsStep v; prbsTen n v' (2 * x + v' % 2)

/-- A row of `n` samples of `PRBS23`: the register after it, and the row. -/
def prbsRow : Nat → Nat → List Nat → Nat × List Nat
  | 0, v, l => (v, l.reverse)
  | n + 1, v, l => let r := prbsTen 10 v 0; prbsRow n r.1 ((4 + r.2 % 1016) :: l)

/-- Where a motion of `step` from 0 that reverses before it would pass `room` stands at frame `n` (R436). -/
def bounce (room step n : Nat) : Nat :=
  let k := room / step
  if k = 0 then 0 else let m := n % (2 * k); step * (if m ≤ k then m else 2 * k - m)

/-- A pixel of `BOX` at frame counter `n`. -/
def boxPixel (w h n row x : Nat) : Nat × Nat × Nat :=
  let bw := w / 16 * 2
  let bh := h / 16 * 2
  let bx := bounce (w - bw) 8 n
  let bY := bounce (h - bh) 4 n
  let blk := x / max (w / 48) 1
  if h - h / 16 ≤ row ∧ blk < 48 then (if bit n (47 - blk) then 940 else 64, 512, 512)
  else (if bx ≤ x ∧ x < bx + bw ∧ bY ≤ row ∧ row < bY + bh then 940 else 64, 512, 512)

/-- Whether a row lies in the first half of the active lines of its field. -/
def firstHalf (f : Format) (row : Nat) : Bool := if f.scan = 0 then decide (2 * row < f.height) else decide (4 * (row / 2) < f.height)

/-- A row of a pattern other than `PRBS23`. -/
def patternRow (r : List Byte) (f : Format) (n row : Nat) : List Nat :=
  let w := f.width
  match u8 r 3 with
  | 1 => let k := if u8 r 2 ≤ 1 then (2990, 1140) else (2126, 722); packRow w (fun x => barCode k.1 k.2 (barAt w x))
  | 2 => (List.range (2 * w)).map (fun i => Config.bt2111 (bit (u8 r 4) 2) (u8 r 2) row i % 1024)
  | 3 => packRow w (fun x => ((64 + roundDiv ((876 * x : Nat) : Int) (w - 1)).toNat, 512, 512))
  | 4 => packRow w (fun _ => (u16 r 6, u16 r 8, u16 r 10))
  | 5 => packRow w (fun _ => if firstHalf f row then (0x198, 0x300, 0x300) else (0x110, 0x200, 0x200))
  | 7 => packRow w (fun x => boxPixel w f.height n row x)
  | _ => packRow w (fun _ => (64, 512, 512))

/-- The rows of a format in raster order: field by field. -/
def rasterOrder (f : Format) : List Nat :=
  if f.scan = 0 then List.range f.height
  else (List.range (f.height / 2)).map (fun i => 2 * i) ++ (List.range (f.height / 2)).map (fun i => 2 * i + 1)

/-- The rows of a frame in order of row number, and the sequence register after it (R434, R435). -/
def patternFrame (r : List Byte) (f : Format) (n prbs : Nat) : List (List Nat) × Nat :=
  if u8 r 3 = 6 then
    let out := (rasterOrder f).foldl (fun a row => let x := prbsRow (2 * f.width) a.2 []; (Tbl.ins a.1 row x.2, x.1)) (([] : Tbl (List Nat)), prbs)
    ((List.range f.height).map (fun row => Tbl.get [] out.1 row), out.2)
  else ((List.range f.height).map (patternRow r f n), prbs)

/-! ## Identity packets (R437) -/

/-- A word of ST 291-1 with the parity of its byte. -/
def parityWord (b : Nat) : Nat :=
  let p := ((List.range 8).filter (fun i => bit b i)).length % 2
  b % 256 + 256 * p + 512 * (1 - p)

/-- The checksum word of ST 291-1 of the words from DID on. -/
def ancChecksum (l : List Nat) : Nat := let s := (l.map (fun w => w % 512)).sum % 512; s + (1 - s / 256) * 512

/-- A frame identity packet: DID, SDID, data count, user words, checksum. -/
def identPacket (g td n sec ns : Nat) : List Nat :=
  let body := [0x5E, 0x4B, 16, 1, g, td, 0] ++ (beBytes 6 n ++ beBytes 2 sec ++ beBytes 4 ns).map BitVec.toNat
  let words := body.map parityWord
  words ++ [ancChecksum words]

/-! ## Frames (R433, R439) -/

/-- The check values of a frame whose rows are whole: one for each field of an interlaced or PsF frame (R445). -/
def frameChecks (f : Format) (rows : List (List Nat)) : List Nat :=
  let at_ := fun (l : List Nat) => rowsCrc f.depth (l.map (fun r => rows.getD r []))
  if f.scan = 0 then [at_ (List.range f.height)]
  else [at_ ((List.range (f.height / 2)).map (fun i => 2 * i)), at_ ((List.range (f.height / 2)).map (fun i => 2 * i + 1))]

/-- The line of the raster on which a row of a format lies. -/
def rowAtLine (f : Format) (row : Nat) : Nat :=
  let base := (activeSpan f).1
  if f.scan = 0 then base + row
  else if row % 2 = 0 then base + row / 2
  else (if f.height = 486 then 283 else if f.height = 576 then 336 else 584) + row / 2

/-- A generator composes its frame at a tick of its domain (R433, R435, R437, R439): a change that waits takes effect first. -/
def Chip.genFrame (c : Chip) (g td : Nat) : Chip :=
  let x := c.gen g
  let x1 := match x.next with | some (r, u) => if u + msU 1 ≤ c.now then { x with record := r, next := none } else x | none => x
  if bit (u8 x1.record 4) 0 = false then c.modGen g (fun _ => { x1 with running := false })
  else
    let x2 := if x1.running then { x1 with frame := (x1.frame + 1) % 2 ^ 48 }
      else { x1 with running := true, frame := 0, prbs := u32 x1.record 12, since := c.tick.samples }
    match rasterFormat (u8 x2.record 2) (c.dom td).rate with
    | none => c.modGen g (fun _ => x2)
    | some f =>
      let r := patternFrame x2.record f x2.frame x2.prbs
      let anc := if bit (u8 x2.record 4) 1 then
          [((switchLine f).1 + 1, identPacket g td x2.frame (secOf (c.deviceQAt (c.dom td).tickAt) % 65536) (nsOf (c.deviceQAt (c.dom td).tickAt)))]
        else []
      let x3 := { x2 with prbs := r.2, checks := (frameChecks f r.1).foldl (fun a v => keep16 (v, x2.frame) a) x2.checks }
      (c.modGen g (fun _ => x3)).internalFrame (1024 + g) f (r.1.zipIdx.map (fun p => (rowAtLine f p.2, p.1))) anc

/-- The generators of a domain at its tick, from full service on (R433). -/
def Chip.genTick (c : Chip) (td : Nat) : Chip :=
  if c.fullIn td then
    ((List.range 32).filter (fun g => u8 (c.record tyGens g) 1 == td && c.hasRec tyGens g)).foldl (fun a g => a.genFrame g td) c
  else c

/-! ## Tones (R438) -/

/-- π in units of 2^−128. -/
def piFix : Nat := 1069028584064966747859680373161870783300

/-- The terms of the sine series from term `k` on: `term` is the k-th, `xx` the square of the angle, in units of 2^−128. -/
def sineSeries (xx : Int) : Nat → Nat → Int → Int → Int
  | 0, _, _, acc => acc
  | n + 1, k, term, acc => sineSeries xx n (k + 1) (-(term * xx / 2 ^ 128) / (((2 * k + 2) * (2 * k + 3) : Nat) : Int)) (acc + term)

/-- sin(2π · m / 48,000) in units of 2^−128. -/
def sineFix (m : Nat) : Int :=
  let q := m % 48000
  let fold := fun (a : Nat) => if a ≤ 12000 then a else 24000 - a
  let x : Int := ((piFix * fold (q % 24000) / 24000 : Nat) : Int)
  let v := sineSeries (x * x / 2 ^ 128) 20 0 x 0
  if q < 24000 then v else -v

/-- A sample of a tone: `level` in 0.1 dBFS, frequency, and the sample counted from the generator's enabling. -/
def toneSample (level : Int) (hz n : Nat) : Int :=
  let a : Nat := gainFloor (2 ^ 64) 70 (10 * level) * (2 ^ 31 - 1)
  roundDiv ((a : Int) * sineFix (hz * n)) (2 ^ 192)

/-- Whether channel `k` identifies itself by silence at a sample: k + 1 times 100 ms in intervals of 200 ms, every 4 s. -/
def identSilence (k n : Nat) : Bool := let m := n % 192000; decide (m / 9600 ≤ k) && decide (m % 9600 < 4800)

/-- The word of channel `k` of a generator at a house sample tick. -/
def Chip.genWord (c : Chip) (g k : Nat) : Int :=
  let x := c.gen g
  let r := c.record tyTones (g * 16 + k)
  let n := c.tick.samples - x.since
  if x.running = false ∨ bit (u8 r 6) 0 = false ∨ (bit (u8 r 6) 1 = true ∧ identSilence k n = true) then 0
  else toneSample (signed 16 (u16 r 4)) (u16 r 2) n

end Sys2Proof.Machine
end

