-- ==== Sys2Proof/Machine/Net.lean ====
section
/-! DEFINITION. Ethernet, IP, UDP and RTP headers: reading them in received frames and building them (R249, R250, R271, R273, R289,
R294). -/

namespace Sys2Proof.Machine

/-! ## Checksums -/

/-- The sum of 16-bit words, the last one padded with a zero byte. -/
def sumWords : List Byte → Nat
  | [] => 0
  | [a] => a.toNat * 256
  | a :: b :: r => a.toNat * 256 + b.toNat + sumWords r

/-- Folds the carries of a ones' complement sum. -/
def foldCarry (n : Nat) : Nat :=
  let a := n / 65536 + n % 65536
  let b := a / 65536 + a % 65536
  b / 65536 + b % 65536

/-- The internet checksum of bytes. -/
def checksum (l : List Byte) : Nat := 65535 - foldCarry (sumWords l)

/-- Replaces bytes at an offset. -/
def putAt (l : List Byte) (o : Nat) (v : List Byte) : List Byte := l.take o ++ v ++ l.drop (o + v.length)

/-! ## Received frames -/

/-- A received frame taken apart: addresses, VLAN (0xFFFF untagged), tags found, type, and what follows it. -/
structure EthFrame where
  dst : Nat
  src : Nat
  vlan : Nat
  tags : Nat
  etype : Nat
  body : List Byte
  deriving DecidableEq, Repr

/-- Reads a frame's header; a tag with VLAN identifier 0 is treated as no tag (R291). -/
def readEth (b : List Byte) : EthFrame :=
  let dst := beNat (bytesAt b 0 6)
  let src := beNat (bytesAt b 6 6)
  if u16 b 12 = 0x8100 then
    { dst := dst, src := src, vlan := if u16 b 14 % 4096 = 0 then 0xFFFF else u16 b 14 % 4096,
      tags := if u16 b 16 = 0x8100 then 2 else 1, etype := u16 b 16, body := b.drop 18 }
  else { dst := dst, src := src, vlan := 0xFFFF, tags := 0, etype := u16 b 12, body := b.drop 14 }

/-- An IP packet: version 6, header checksum right, addresses, protocol, what it carries, hop limit. -/
structure IpPacket where
  v6 : Bool
  sumOk : Bool
  src : Nat
  dst : Nat
  proto : Nat
  hops : Nat
  data : List Byte
  deriving DecidableEq, Repr

/-- Reads an IP packet; an IPv6 hop-by-hop header is stepped over. -/
def readIp (e : EthFrame) : Option IpPacket :=
  let b := e.body
  if e.etype = 0x0800 ∧ u8 b 0 / 16 = 4 then
    let n := 4 * (u8 b 0 % 16)
    some { v6 := false, sumOk := checksum (bytesAt b 0 n) == 0, src := u32 b 12, dst := u32 b 16, proto := u8 b 9, hops := u8 b 8,
           data := bytesAt b n (u16 b 2 - n) }
  else if e.etype = 0x86DD ∧ u8 b 0 / 16 = 6 then
    let d := bytesAt b 40 (u16 b 4)
    let hop := u8 b 6 == 0
    some { v6 := true, sumOk := true, src := beNat (bytesAt b 8 16), dst := beNat (bytesAt b 24 16),
           proto := if hop then u8 d 0 else u8 b 6, hops := u8 b 7, data := if hop then d.drop (8 + 8 * u8 d 1) else d }
  else none

/-- The bytes of an address of either version. -/
def ipBytes (v6 : Bool) (a : Nat) : List Byte := if v6 then beBytes 16 a else beBytes 4 a

/-- The pseudo-header over which UDP and ICMPv6 checksums run. -/
def pseudoHeader (v6 : Bool) (src dst proto len : Nat) : List Byte :=
  if v6 then ipBytes true src ++ ipBytes true dst ++ beBytes 4 len ++ beBytes 4 proto
  else ipBytes false src ++ ipBytes false dst ++ beBytes 1 0 ++ beBytes 1 proto ++ beBytes 2 len

/-- Whether the UDP checksum is right; 0 is accepted with IPv4 (R250). -/
def udpSumOk (p : IpPacket) : Bool :=
  if u16 p.data 6 = 0 then !p.v6
  else checksum (pseudoHeader p.v6 p.src p.dst 17 (u16 p.data 4) ++ p.data.take (u16 p.data 4)) == 0

/-- An RTP packet: version, marker, payload type, sequence number, timestamp, SSRC, payload. -/
structure Rtp where
  version : Nat
  marker : Bool
  pt : Nat
  seq : Nat
  ts : Nat
  ssrc : Nat
  payload : List Byte
  deriving DecidableEq, Repr

/-- Reads an RTP packet; CSRC entries, a header extension and padding are stepped over. -/
def readRtp (b : List Byte) : Rtp :=
  let n := 12 + 4 * (u8 b 0 % 16)
  let o := if bit (u8 b 0) 4 then n + 4 + 4 * u16 b (n + 2) else n
  let pad := if bit (u8 b 0) 5 then u8 b (b.length - 1) else 0
  { version := u8 b 0 / 64, marker := bit (u8 b 1) 7, pt := u8 b 1 % 128, seq := u16 b 2, ts := u32 b 4, ssrc := u32 b 8,
    payload := (b.take (b.length - pad)).drop o }

/-! ## Bit streams of samples -/

/-- Sample `i` of `depth` bits in a packed bit stream, the most significant bit first. -/
def packedSample (b : List Byte) (depth i : Nat) : Nat :=
  let first := i * depth / 8
  let span := (i * depth % 8 + depth + 7) / 8
  beNat (bytesAt b first span) / 2 ^ (8 * span - i * depth % 8 - depth) % 2 ^ depth

/-- The samples of a packed bit stream. -/
def unpackSamples (depth : Nat) (b : List Byte) : List Nat := (List.range (8 * b.length / depth)).map (packedSample b depth)

/-- Packs samples of `depth` bits, the most significant bit first, padded with zero bits to whole bytes. -/
def packSamples (depth : Nat) (l : List Nat) : List Byte :=
  let total := l.length * depth
  let n := ceilDiv total 8
  beBytes n (l.foldl (fun a v => a * 2 ^ depth + v % 2 ^ depth) 0 * 2 ^ (8 * n - total))

/-! ## Building headers -/

/-- An Ethernet header with an optional tag. -/
def ethHeader (dst src vlan pcp etype : Nat) : List Byte :=
  beBytes 6 dst ++ beBytes 6 src ++ (if vlan = 0xFFFF then [] else beBytes 2 0x8100 ++ beBytes 2 (pcp * 8192 + vlan)) ++ beBytes 2 etype

/-- An IPv4 header with DF set and identification 0 (R273), options given. -/
def ipv4Header (src dst proto tos ttl len : Nat) (options : List Byte) : List Byte :=
  let n := 20 + options.length
  let h := beBytes 1 (64 + n / 4) ++ beBytes 1 tos ++ beBytes 2 (n + len) ++ beBytes 2 0 ++ beBytes 2 0x4000 ++ beBytes 1 ttl ++ beBytes 1 proto
    ++ beBytes 2 0 ++ beBytes 4 src ++ beBytes 4 dst ++ options
  putAt h 10 (beBytes 2 (checksum h))

/-- An IPv6 header. -/
def ipv6Header (src dst proto tclass hops len : Nat) : List Byte :=
  beBytes 4 (6 * 268435456 + tclass * 1048576) ++ beBytes 2 len ++ beBytes 1 proto ++ beBytes 1 hops ++ beBytes 16 src ++ beBytes 16 dst

/-- An IP header of either version. -/
def ipHeader (v6 : Bool) (src dst proto tos ttl len : Nat) : List Byte :=
  if v6 then ipv6Header src dst proto tos ttl len else ipv4Header src dst proto tos ttl len []

/-- A UDP datagram; the checksum is computed for IPv6 and is 0 for IPv4. -/
def udpDatagram (v6 : Bool) (src dst sport dport : Nat) (data : List Byte) : List Byte :=
  let h := beBytes 2 sport ++ beBytes 2 dport ++ beBytes 2 (8 + data.length) ++ beBytes 2 0
  if v6 then
    let k := checksum (pseudoHeader true src dst 17 (8 + data.length) ++ h ++ data)
    putAt (h ++ data) 6 (beBytes 2 (if k = 0 then 65535 else k))
  else h ++ data

/-- The Ethernet address of a multicast group. -/
def groupMac (v6 : Bool) (a : Nat) : Nat := if v6 then 0x333300000000 + a % 4294967296 else 0x01005E000000 + a % 8388608

/-- Whether an address is multicast. -/
def isGroup (v6 : Bool) (a : Nat) : Bool := if v6 then decide (a / 2 ^ 120 = 255) else decide (a / 268435456 = 14)

/-! ## Segmentation (R271, R294) -/

/-- The lengths and checksums of a segment's headers recomputed (R294): IPv4 total length and header checksum, IPv6 payload length, UDP length and
checksum. `hdr` is the length of the template. -/
def fixHeaders (hdr : Nat) (udpSum : Bool) (f : List Byte) : List Byte :=
  let l2 := if u16 f 12 = 0x8100 then 18 else 14
  let et := u16 f (l2 - 2)
  let udpAt := if et = 0x0800 then l2 + 4 * (u8 f l2 % 16) else l2 + 40
  let proto := if et = 0x0800 then u8 f (l2 + 9) else u8 f (l2 + 6)
  let f1 := if et = 0x0800 then
      (let g := putAt (putAt f (l2 + 2) (beBytes 2 (f.length - l2))) (l2 + 10) (beBytes 2 0)
       putAt g (l2 + 10) (beBytes 2 (checksum (bytesAt g l2 (4 * (u8 f l2 % 16))))))
    else if et = 0x86DD then putAt f (l2 + 4) (beBytes 2 (f.length - l2 - 40)) else f
  if (et = 0x0800 ∨ et = 0x86DD) ∧ proto = 17 ∧ udpAt + 8 ≤ hdr then
    let v6 := et == 0x86DD
    let f2 := putAt (putAt f1 (udpAt + 4) (beBytes 2 (f.length - udpAt))) (udpAt + 6) (beBytes 2 0)
    if v6 || udpSum then
      let src := if v6 then beNat (bytesAt f (l2 + 8) 16) else u32 f (l2 + 12)
      let dst := if v6 then beNat (bytesAt f (l2 + 24) 16) else u32 f (l2 + 16)
      let k := checksum (pseudoHeader v6 src dst 17 (f.length - udpAt) ++ f2.drop udpAt)
      putAt f2 (udpAt + 6) (beBytes 2 (if k = 0 then 65535 else k))
    else f2
  else f1

/-- Whether the template's UDP checksum is non-zero (R294). -/
def templateSum (t : List Byte) : Bool :=
  let l2 := if u16 t 12 = 0x8100 then 18 else 14
  u16 t (l2 - 2) == 0x0800 && u16 t (l2 + 4 * (u8 t l2 % 16) + 6) != 0

/-- Adds to a big-endian field of a template. -/
def bumpField (t : List Byte) (pos size n : Nat) : List Byte :=
  if size = 0 then t else putAt t pos (beBytes size ((beNat (bytesAt t pos size) + n) % 256 ^ size))

/-- The segments of a payload, in order. -/
def segments (n : Nat) : Nat → List Byte → List (List Byte)
  | 0, _ => []
  | _, [] => []
  | fuel + 1, l => l.take n :: segments n fuel (l.drop n)

/-- The frames of a send, without padding and FCS (R293, R294). -/
def sendFrames (r : SendReq) : List (List Byte) :=
  let parts : List (List Byte) := match segments (max r.segLen 1) 262145 r.payload with | [] => [[]] | l => l
  if r.segment then
    parts.zipIdx.map (fun p =>
      fixHeaders r.template.length (templateSum r.template)
        (bumpField (bumpField r.template r.seqPos r.seqSize p.2) r.offPos r.offSize (p.2 * r.segLen) ++ p.1))
  else [r.template ++ r.payload]

end Sys2Proof.Machine
end

