-- ==== Sys2Proof/Machine/Mac.lean ====
section
/-! DEFINITION. Shared operations of the Ethernet MACs (R284 to R311): settings, addresses, queues, pause, gates. -/

namespace Sys2Proof.Machine

/-! ## Ports -/

/-- The key of a MAC, and the bank of its registers. -/
def macKey (port breakout : Nat) : Nat := port * 8 + breakout

/-- The state of a MAC. -/
def Chip.mac (c : Chip) (k : Nat) : Mac := Tbl.get Mac.reset c.net.macs k

/-- Changes the state of a MAC. -/
def Chip.modMac (c : Chip) (k : Nat) (f : Mac → Mac) : Chip :=
  { c with net := { c.net with macs := Tbl.upd Mac.reset c.net.macs k f } }

/-- The record of a port; a port not listed has the defaults of R306. -/
def Chip.macRec (c : Chip) (p : Nat) : List Byte :=
  if c.hasRec tyMacPorts p then c.record tyMacPorts p
  else beBytes 1 p ++ beBytes 1 0 ++ beBytes 2 1518 ++ beBytes 2 1024 ++ beBytes 1 1 ++ beBytes 1 0 ++ beBytes 2 20 ++ beBytes 6 0

/-- Whether a port is a host port. -/
def isHostPort (p : Nat) : Bool := decide (16 ≤ p)

/-- The mode of a port (R284). -/
def Chip.portMode (c : Chip) (p : Nat) : Nat := u8 (c.macRec p) 1

/-- The breakouts of a port (R284). -/
def Chip.breakouts (c : Chip) (p : Nat) : Nat := if isHostPort p then 1 else 2 ^ c.portMode p

/-- The maximum frame of a port (R290). -/
def Chip.maxFrame (c : Chip) (p : Nat) : Nat := u16 (c.macRec p) 2

/-- The host ports of ROM recovery (R505): HPA by default. -/
def Chip.recoveryPort (c : Chip) (p : Nat) : Bool := let r := u8 (c.record tyBoot 0) 0; if p = 16 then r == 0 || r == 2 else r == 1 || r == 2

/-- Whether a port is enabled; ROM recovery brings up the host ports of `BOOT_GLOBAL` and no other (R515). -/
def Chip.macOn (c : Chip) (p : Nat) : Bool := if c.phase = 4 then isHostPort p && c.recoveryPort p else bit (u8 (c.macRec p) 6) 0

/-- The priorities of a port's `PFC_MASK`. -/
def Chip.pfcMask (c : Chip) (p : Nat) : Nat := u8 (c.macRec p) 7

/-- The rate of a breakout in Gb/s (R284). -/
def Chip.macRate (c : Chip) (p : Nat) : Nat := if isHostPort p then (if c.phase = 4 then 100 else 400) else 1600 / 2 ^ c.portMode p

/-- The code of a breakout's speed (`MAC.P_STATE.SPEED`). -/
def Chip.macSpeed (c : Chip) (p : Nat) : Nat := if isHostPort p then (if c.phase = 4 then 4 else 1) else 3 - c.portMode p

/-- The time that bytes take on a breakout, in units. -/
def Chip.byteTime (c : Chip) (p n : Nat) : Nat := ceilDiv (n * 216) (c.macRate p)

/-- The time of a frame of `n` bytes without padding and FCS, with preamble and gap (R297). -/
def Chip.frameTime (c : Chip) (p n : Nat) : Nat := c.byteTime p (max (n + 4) 64 + 20)

/-! ## Own addresses (R286, R287) -/

/-- The address record of a breakout. -/
def Chip.addrRec (c : Chip) (p b : Nat) : List Byte := c.record tyMacAddrs (macKey p b)

/-- The MAC address of a breakout. -/
def Chip.macAddr (c : Chip) (p b : Nat) : Nat :=
  let own := beNat (bytesAt (c.addrRec p b) 4 6)
  if own ≠ 0 then own else (Config.otpBaseMac + (if isHostPort p then 128 + (p - 16) else 8 * p + b)) % 2 ^ 48

/-- The VLAN of a breakout's address record, 0xFFFF untagged. -/
def Chip.macVlan (c : Chip) (p b : Nat) : Nat := if c.hasRec tyMacAddrs (macKey p b) then u16 (c.addrRec p b) 2 else 0xFFFF

/-- The IPv4 address of a breakout, if it has one. -/
def Chip.ipv4 (c : Chip) (p b : Nat) : Option Nat :=
  let r := c.addrRec p b
  if r ≠ [] then (if u8 r 10 = 0 then none else some (u32 r 12))
  else if isHostPort p then
    let m := c.macAddr p b
    some (169 * 16777216 + 254 * 65536 + (1 + m / 256 % 256 % 254) * 256 + (1 + m % 256 % 254))
  else none

/-- The IPv6 address of a breakout, if it has one; the default of a host port is link-local by the modified EUI-64 rule. -/
def Chip.ipv6 (c : Chip) (p b : Nat) : Option Nat :=
  let r := c.addrRec p b
  if r ≠ [] then (if u8 r 11 = 0 then none else some (beNat (bytesAt r 16 16)))
  else if isHostPort p then
    let m := c.macAddr p b
    let hi := m / 2 ^ 24 ^^^ 0x020000
    some (0xFE80 * 2 ^ 112 + hi * 2 ^ 40 + 0xFFFE * 2 ^ 24 + m % 2 ^ 24)
  else none

/-- The address of a family, the unspecified one where there is none (R287). -/
def Chip.ownIp (c : Chip) (v6 : Bool) (p b : Nat) : Nat := ((if v6 then c.ipv6 p b else c.ipv4 p b).getD 0)

/-! ## Counters -/

/-- Adds to a 64-bit counter held in two registers; it wraps. -/
def Chip.count64 (c : Chip) (lo hi : Fld) (bank n : Nat) : Chip :=
  let v := c.fld hi bank * 4294967296 + c.fld lo bank + n
  (c.set lo bank v).set hi bank (v / 4294967296)

/-! ## Queues (R285, R293 to R297) -/

/-- Keeps frames by launch time in the launch queue, after those with the same time; other queues are first in, first out (R296). -/
def insertFrame (x : TxFrame) : List TxFrame → List TxFrame
  | [] => [x]
  | y :: r => if x.queue = 7 ∧ y.queue = 7 ∧ x.launch.getD 0 < y.launch.getD 0 then x :: y :: r else y :: insertFrame x r

/-- Hands frames to a MAC: they are queued, or discarded and counted while its link is down (R285). -/
def Chip.handFrames (c : Chip) (k : Nat) (fs : List TxFrame) : Chip :=
  if (c.mac k).up then c.modMac k (fun m => { m with frames := fs.foldl (fun l x => insertFrame x l) m.frames })
  else
    (c.count Reg.MAC_TX_LINK_DISCARD_COUNT k fs.length).modMac k (fun m =>
      { m with sends := m.sends.map (fun s => let n := (fs.filter (fun x => x.send == s.id)).length
                 if n = 0 then s else { s with left := s.left - n, code := max s.code 2 }) })

/-- The tag of a breakout's own frames of a queue (R289, R296). -/
def Chip.ownHeader (c : Chip) (p b queue dst etype : Nat) : List Byte := ethHeader dst (c.macAddr p b) (if queue = 5 ∨ queue = 6 then c.macVlan p b else 0xFFFF) queue etype

/-- Queues a frame that the MAC sends by itself: a report or a reply. -/
def Chip.sendOwn (c : Chip) (p b queue : Nat) (bytes : List Byte) : Chip :=
  c.handFrames (macKey p b) [{ queue := queue, bytes := bytes, launch := none, send := 0, tsTag := none, oneStep := none, bad := false }]

/-- The queue of replies (R296). -/
def replyQueue (p : Nat) : Nat := if isHostPort p then 4 else 5

/-- Removes every frame that waits on a MAC whose link has gone down (R285). -/
def Chip.discardFrames (c : Chip) (k : Nat) : Chip :=
  (c.count Reg.MAC_TX_LINK_DISCARD_COUNT k (c.mac k).frames.length).modMac k (fun m =>
    { m with
      frames := [], current := none,
      sends := m.sends.map (fun s => if 0 < s.left then { s with left := 0, code := max s.code 2 } else s) })

/-- Brings a breakout's link down (R285). -/
def Chip.linkDown (c : Chip) (p b : Nat) : Chip :=
  let k := macKey p b
  if (c.mac k).up then
    ((c.modMac k (fun m => { m with up := false, pauseUntil := [], pauseSince := [], pausing := false })).discardFrames k).event Ev.macLinkDown
      [p + b * 256 + c.macSpeed p * 4096]
  else c

/-- Brings a breakout's link up (R285, R326). -/
def Chip.linkUp (c : Chip) (p b : Nat) : Chip :=
  let k := macKey p b
  if (c.mac k).up then c
  else (c.modMac k (fun m => { m with up := true })).event Ev.macLinkUp [p + b * 256 + c.macSpeed p * 4096]

/-- Sends a frame now: its outputs and counters (R292, R304). -/
def Chip.putFrame (c : Chip) (k : Nat) (bad : Bool) (bytes : List Byte) : Chip :=
  let len := max (bytes.length + 4) 64
  let padded := bytes ++ List.replicate (60 - bytes.length) 0
  (((c.countWrap Reg.MAC_TX_FRAMES_COUNT k 1).count64 Reg.MAC_TX_BYTES_LO_COUNT Reg.MAC_TX_BYTES_HI_COUNT k len).count
    Reg.MAC_TX_PAD_COUNT k (flag (decide (bytes.length < 60)))).emit (.frame (k / 8) (k % 8) (flag bad) padded)

/-- Adds a transmit stamp to the buffer of 16 (R304). -/
def Chip.stampFrame (c : Chip) (k : Nat) (tag : Nat) : Chip :=
  let x := (nsOf c.deviceQ, secOf c.deviceQ % 4294967296, tag)
  let full := decide (16 ≤ (c.mac k).stamps.length)
  (c.modMac k (fun m => { m with stamps := (if full then m.stamps.drop 1 else m.stamps) ++ [x] })).count Reg.MAC_TS_CAP_TAG_TS_LOST k (flag full)

/-- Inserts the transmit time in a frame (R305). -/
def insertTime (q : Nat) (o : OneStep) (f : List Byte) : List Byte :=
  let g := if o.timestamp then putAt f o.pos (beBytes 6 (secOf q) ++ beBytes 4 (nsOf q))
    else
      let tx := q / 27
      putAt f o.pos (beBytes 8 (unsigned 64 (signed 64 (beNat (bytesAt f o.pos 8)) + ((tx : Int) - (o.ingress : Int)))))
  let l2 := if u16 f 12 = 0x8100 then 18 else 14
  if u16 f (l2 - 2) = 0x0800 then putAt g (l2 + 4 * (u8 f l2 % 16) + 6) (beBytes 2 0)
  else if u16 f (l2 - 2) = 0x86DD then
    let u := l2 + 40
    let h := putAt g (g.length - 2) (beBytes 2 0)
    putAt h (h.length - 2) (beBytes 2 (checksum (pseudoHeader true (beNat (bytesAt h (l2 + 8) 16)) (beNat (bytesAt h (l2 + 24) 16)) 17 (h.length - u) ++ h.drop u)))
  else g

/-! ## Pause (R300 to R302) -/

/-- The time of a number of pause quanta on a breakout, in units (512 bit times each). -/
def Chip.quanta (c : Chip) (p n : Nat) : Nat := n * 512 * 27 / c.macRate p

/-- Honours a pause frame of a kind (0 to 7 a priority, 8 for 802.3x), unless its kind is being ignored (R302). -/
def Chip.honourPause (c : Chip) (p b kind n : Nat) : Chip :=
  let k := macKey p b
  if c.now < Tbl.get 0 (c.mac k).ignoreUntil kind then c
  else if n = 0 then c.modMac k (fun m => { m with pauseUntil := Tbl.del m.pauseUntil kind, pauseSince := Tbl.del m.pauseSince kind })
  else c.modMac k (fun m => { m with
    pauseUntil := Tbl.ins m.pauseUntil kind (c.now + c.quanta p n),
    pauseSince := if Tbl.has m.pauseSince kind then m.pauseSince else Tbl.ins m.pauseSince kind c.now })

/-- Whether a queue is stopped by pause (R300): the launch queue of a media port never stops. -/
def Mac.stopped (m : Mac) (q : Nat) : Bool := Tbl.has m.pauseUntil 8 || Tbl.has m.pauseUntil q

/-- Sends a pause frame of given quanta: 802.3x, or PFC for the priorities of `PFC_MASK` (R301). -/
def Chip.sendPause (c : Chip) (p n : Nat) : Chip :=
  let pfc := bit (u8 (c.macRec p) 6) 3
  let body := if pfc then beBytes 2 0x0101 ++ beBytes 2 (c.pfcMask p) ++ (List.range 8).flatMap (fun i => beBytes 2 (if bit (c.pfcMask p) i then n else 0))
    else beBytes 2 1 ++ beBytes 2 n
  (c.count Reg.MAC_PAUSE_EVENTS_TX_PAUSE_SENT (macKey p 0) 1).emit
    (.frame p 0 0 (ethHeader 0x0180C2000001 (c.macAddr p 0) 0xFFFF 0 0x8808 ++ body ++ List.replicate (46 - body.length) 0))

/-- Judges the fill of a host port's receive buffer (R301). -/
def Chip.judgeFill (c : Chip) (p fill : Nat) : Chip :=
  if isHostPort p ∧ bit (u8 (c.macRec p) 6) 2 = true then
    let k := macKey p 0
    if (c.mac k).pausing then
      (if fill < 65536 then (c.modMac k (fun m => { m with pausing := false })).sendPause p 0 else c)
    else if 196608 < fill then (c.modMac k (fun m => { m with pausing := true })).sendPause p 0xFFFF
    else c
  else c

/-! ## Gates (R298, R299) -/

/-- The entries of a gate list up to the first of duration 0. -/
def gateList (l : List (Nat × Nat)) : List (Nat × Nat) := l.takeWhile (fun e => e.1 != 0)

/-- Whether a shadow gate list can be swapped in (R299). -/
def gatesOk (l : List (Nat × Nat)) : Bool :=
  ((gateList l).map Prod.fst).sum == 125000 && (l.drop (gateList l).length).all (fun e => e.1 == 0)

/-- The time for which leading entries stay open. -/
def leadOpen : List (Nat × Bool) → Nat
  | [] => 0
  | (d, o) :: r => if o then d + leadOpen r else 0

/-- How long a queue stays open from a position in the schedule (R298): through the slot frame boundary when the first entry opens it too. -/
def gateRun (whole : List (Nat × Bool)) : List (Nat × Bool) → Nat → Nat
  | [], _ => 0
  | (d, o) :: r, pos =>
    if pos < d then (if o then (d - pos) + leadOpen r + (if r.all Prod.snd then leadOpen whole else 0) else 0)
    else gateRun whole r (pos - d)

/-- The lengthening of the slot frame in progress: that which an alignment of TD0 adds when the aligned tick falls in it (R52). -/
def Chip.stretchNow (c : Chip) : Nat :=
  if (c.dom 0).arriving && decide (c.tick.slotAt + 6 * samplePeriod + c.tick.stretch < (c.dom 0).nextTick) then 0 else c.tick.stretch

/-- How long queue `q` of a media breakout stays open from now, in units; a lengthened slot frame lengthens the last entry (R52, R298). -/
def Chip.gateOpen (c : Chip) (k q : Nat) : Nat :=
  let es := (c.mac k).gates
  let n := es.length
  let l := es.zipIdx.map (fun e => (nsU e.1.1 + (if e.2 + 1 = n then c.stretchNow else 0), bit e.1.2 q))
  gateRun l l (c.now - c.tick.slotAt)

end Sys2Proof.Machine
end

