-- ==== Sys2Proof/Machine/Pmi.lean ====
section
/-! DEFINITION. Packet media receive (R247 to R259, R267, R274): matching, checks, the merge, delivery as essence or to a ring, memberships. -/

namespace Sys2Proof.Machine

/-! ## Flows and paths -/

/-- A receive flow. -/
def Chip.rx (c : Chip) (f : Nat) : RxFlow := Tbl.get RxFlow.reset c.net.rx f

/-- Changes a receive flow. -/
def Chip.modRx (c : Chip) (f : Nat) (g : RxFlow → RxFlow) : Chip :=
  { c with net := { c.net with rx := Tbl.upd RxFlow.reset c.net.rx f g } }

/-- The path block of a flow record: A, or B (R275). -/
def flowPath (r : List Byte) (b : Bool) : List Byte := bytesAt r (if b then 56 else 16) 40

/-- Whether a flow uses IPv6. -/
def flowV6 (r : List Byte) : Bool := bit (u8 r 3) 2

/-- Whether a flow has two paths. -/
def flowDual (r : List Byte) : Bool := bit (u8 r 3) 1

/-- The destination address of a path. -/
def pathDst (v6 : Bool) (q : List Byte) : Nat := if v6 then beNat (bytesAt q 4 16) else u32 q 16

/-- The source address of a receive path, 0 where it has none. -/
def pathSrc (v6 : Bool) (q : List Byte) : Nat := if v6 then beNat (bytesAt q 20 16) else u32 q 32

/-- The paths of a flow record: false for A, true for B. -/
def flowPaths (r : List Byte) : List Bool := if flowDual r then [false, true] else [false]

/-- Whether a packet matches a path by the key of R249; `exact` asks for a path with a source address. -/
def pathMatches (v6 : Bool) (q : List Byte) (port breakout vlan : Nat) (p : IpPacket) (exact : Bool) : Bool :=
  u8 q 0 == port && u8 q 1 == breakout && u16 q 2 == vlan && p.v6 == v6 && pathDst v6 q == p.dst && u16 q 36 == u16 p.data 2
    && (if exact then pathSrc v6 q != 0 && pathSrc v6 q == p.src else pathSrc v6 q == 0)

/-- The enabled receive flows. -/
def Chip.rxFlows (c : Chip) : List Nat := (c.listed tyRx).filter (fun f => flowOn (c.record tyRx f))

/-- The flow and path that a packet matches (R249): a path that names its source before one that names none. -/
def Chip.matchFlow (c : Chip) (port breakout vlan : Nat) (p : IpPacket) : Option (Nat × Bool) :=
  let all := c.rxFlows.flatMap (fun f => (flowPaths (c.record tyRx f)).map (fun b => (f, b)))
  let go := fun (exact : Bool) => all.find? (fun e =>
    pathMatches (flowV6 (c.record tyRx e.1)) (flowPath (c.record tyRx e.1) e.2) port breakout vlan p exact)
  match go true with | some e => some e | none => go false

/-- A number of 32 bits less another, as a signed one. -/
def diff32 (a b : Nat) : Int := signed 32 ((a + 4294967296 - b % 4294967296) % 4294967296)

/-! ## Sample rows (R250, R252, R253) -/

/-- The bits of a pixel of a format as ST 2110-20 packs it. -/
def pixelBits (f : Format) : Nat := f.depth * (if f.sampling = 0 then 2 else 3)

/-- A sample row of a packet: second field, row, first pixel, bytes. -/
structure SampleRow where
  second : Bool
  row : Nat
  pixel : Nat
  data : List Byte
  deriving DecidableEq, Repr

/-- Reads the sample row data headers of a payload, up to three, from offset `o`, and the data that stands behind them. -/
def readRowHeaders (b : List Byte) : Nat → Nat → List (Nat × Bool × Nat × Nat) × Nat
  | 0, o => ([], o)
  | n + 1, o =>
    let h := (u16 b o, bit (u16 b (o + 2)) 15, u16 b (o + 2) % 32768, u16 b (o + 4) % 32768)
    if bit (u16 b (o + 4)) 15 then let r := readRowHeaders b n (o + 6); (h :: r.1, r.2) else ([h], o + 6)

/-- Cuts the data behind the headers into rows. -/
def cutRows (b : List Byte) : List (Nat × Bool × Nat × Nat) → Nat → List SampleRow
  | [], _ => []
  | h :: r, o => { second := h.2.1, row := h.2.2.1, pixel := h.2.2.2, data := bytesAt b o h.1 } :: cutRows b r (o + h.1)

/-- The sample rows of a kind 0 payload, behind its extended sequence number. -/
def readRows (b : List Byte) : List SampleRow := let h := readRowHeaders b 3 2; cutRows b h.1 h.2

/-- Whether a sample row lies in the raster of a format. -/
def rowInside (f : Format) (r : SampleRow) : Bool :=
  decide (r.row < (if f.scan = 0 then f.height else f.height / 2)) && !(r.second && f.scan == 0)
    && decide (r.pixel * pixelBits f + 8 * r.data.length ≤ f.width * pixelBits f)

/-- The line of a format's raster that carries a row of a field (R253, R674). -/
def rowLine (f : Format) (second : Bool) (row : Nat) : Nat :=
  if f.scan = 0 then (activeSpan f).1 + row
  else if second then (if f.height = 486 then 283 else if f.height = 576 then 336 else 584) + row
  else (activeSpan f).1 + row

/-- How far from byte `pos` on the segments cover a line. -/
def coverFrom (segs : List (Nat × List Byte)) : Nat → Nat → Nat
  | 0, pos => pos
  | n + 1, pos =>
    match segs.find? (fun s => decide (s.1 ≤ pos) && decide (pos < s.1 + s.2.length)) with
    | some s => coverFrom segs n (s.1 + s.2.length)
    | none => pos

/-- The bytes of a line from its segments. -/
def joinSegments (n : Nat) (segs : List (Nat × List Byte)) : List Byte :=
  (segs.foldl (fun a s => putAt a s.1 s.2) (List.replicate n 0)).take n

/-- Puts the lines that a frame begun early has completed into the frame store, once the frame before it has ended (R258). -/
def Chip.flushAhead (c : Chip) (fl s : Nat) (f : Format) : Chip :=
  let x := c.rx fl
  match x.ahead with
  | none => c
  | some _ =>
    let c1 := c.modRx fl (fun y => { y with
      ahead := none, aheadLines := [],
      lines := (y.lines.filter (fun e => decide (65536 ≤ e.1))).map (fun e => (e.1 - 65536, e.2)) })
    x.aheadLines.foldl (fun a e => match activeRow f e.1 with
      | some row => a.frameLine s f e.1 row e.2.1 [] e.2.2
      | none => a) c1

/-- Writes one sample row (R253): a line is complete when every byte of its samples has arrived; `early` for a frame that has begun while the later
path still completes the one before. -/
def Chip.putRow (c : Chip) (fl s : Nat) (f : Format) (early : Bool) (p : Rtp) (r : SampleRow) : Chip :=
  let line := rowLine f r.second r.row
  let key := line + (if early then 65536 else 0)
  let tagged := (p.ts, r.pixel * pixelBits f / 8, r.data) :: (Tbl.get [] (c.rx fl).lines key).filter (fun g => g.1 == p.ts)
  let segs := tagged.map Prod.snd
  if lineBytes f ≤ coverFrom segs segs.length 0 then
    let c1 := c.modRx fl (fun y => { y with lines := Tbl.put [] y.lines key [] })
    let samples := unpackSamples f.depth (joinSegments (lineBytes f) segs)
    if early then (c1.writeLive s line samples [] true).modRx fl (fun y => { y with aheadLines := y.aheadLines ++ [(line, samples, p.marker)] })
    else
      let c2 := c1.ingest s line samples [] p.marker
      if (c2.sync s).active then c2 else c2.flushAhead fl s f
  else c.modRx fl (fun y => { y with lines := Tbl.put [] y.lines key tagged })

/-- Delivers a kind 0 packet (R253, R258). With both paths up, the first active line of the next frame ends a frame only when the later path
delivers it: until then the lines of the next frame are kept apart. -/
def Chip.putVideo (c : Chip) (fl s : Nat) (f : Format) (pathB : Bool) (p : Rtp) : Chip :=
  let rows := readRows p.payload
  let first := rows.any (fun r => rowLine f r.second r.row == (activeSpan f).1)
  let x := c.rx fl
  let opens := first && x.upA && x.upB && (c.sync s).active && (c.sync s).arrived != [] && x.ahead.isNone
    && x.frameTs.any (fun v => decide (0 < diff32 p.ts v))
  let c1 := if opens then c.modRx fl (fun y => { y with ahead := some (p.ts, pathB), frameTs := some p.ts })
    else if (c.sync s).active && !first then c
    else c.modRx fl (fun y => { y with frameTs := some p.ts })
  let early := match (c1.rx fl).ahead with | some a => decide (0 ≤ diff32 p.ts a.1) | none => false
  rows.foldl (fun a r => a.putRow fl s f early p r) c1

/-- The later path delivers the first active line of a frame that has begun early: the frame before it ends (R258). -/
def Chip.laterPath (c : Chip) (fl s : Nat) (f : Format) (pathB : Bool) (p : Rtp) : Chip :=
  match (c.rx fl).ahead with
  | none => c
  | some a =>
    if (a.2 != pathB || !(c.rx fl).upA || !(c.rx fl).upB) && decide (0 ≤ diff32 p.ts a.1)
        && (readRows p.payload).any (fun r => rowLine f r.second r.row == (activeSpan f).1) then
      (c.endFrame s f).flushAhead fl s f
    else c

/-! ## Ancillary data, audio, ring (R232, R254, R267) -/

/-- Reads the ancillary packets of an ST 2110-40 payload, `n` of them from word-aligned offset `o`: line and 10-bit words from DID to
checksum (assumption log: the layout is that of RFC 8331). -/
def readAnc (b : List Byte) : Nat → Nat → List (Nat × List Nat)
  | 0, _ => []
  | n + 1, o =>
    let words := unpackSamples 10 (bytesAt b (o + 4) 325)
    let count := 4 + words.getD 2 0 % 256
    (u32 b o / 1048576 % 2048, words.take count) :: readAnc b n (o + 4 + ceilDiv (10 * count) 32 * 4)

/-- Delivers a kind 4 packet: each ancillary packet at the line that its header names (R254). -/
def Chip.putAncillary (c : Chip) (s : Nat) (p : Rtp) : Chip :=
  (readAnc p.payload (u8 p.payload 4) 8).foldl (fun a e =>
    let b := ((List.range 4).filter (fun td => a.pairs.contains (s * 4 + td))).foldl (fun k td =>
      let key := slotKey (s * 4 + td) false
      let r := (k.slotAt key).addAnc e.1 [e.2]
      (k.setSlot key r.1).count Reg.XPT_ANC_DROP_COUNT s r.2) a
    b.storeAnc s e.1 [e.2]) c

/-- The word of R217 of an AM824 subframe (assumption log: bit places of ST 2110-31). -/
def am824Word (v : Nat) : Nat := v % 16777216 * 256 + flag (bit v 24) * 8 + flag (bit v 25) * 4 + flag (bit v 26) * 2 + flag (bit v 29)

/-- The words of one sample set of a kind 2 or 3 flow. -/
def sampleSet (kind depth : Nat) (b : List Byte) : List Nat :=
  if kind = 3 then (List.range (b.length / 4)).map (fun i => am824Word (u32 b (4 * i)))
  else (List.range (b.length / (depth / 8))).map (fun i => beNat (bytesAt b (i * (depth / 8)) (depth / 8)) * 2 ^ (32 - depth))

/-- The channels of an audio flow: a pair has two. -/
def flowChannels (r : List Byte) : Nat := u8 r 96 * (if flowKind r = 3 then 2 else 1)

/-- The source positions bound to a receive flow (R241). -/
def Chip.flowPositions (c : Chip) (fl : Nat) : List Nat :=
  (c.listed tySrcCh).filter (fun p => (u8 (c.record tySrcCh p) 2 == 1 || u8 (c.record tySrcCh p) 2 == 2) && u16 (c.record tySrcCh p) 4 == fl)

/-- The number of 48 kHz samples of device time now, and the playout delay of a flow in samples (R232). -/
def Chip.audioNow (c : Chip) : Nat := c.deviceQ * 48000 / qSec
def playoutSamples (r : List Byte) : Nat := u16 r 100 * 6 / 125

/-- Delivers a kind 2 or 3 packet (R232): late and early packets are discarded and counted at the flow's positions. -/
def Chip.putAudio (c : Chip) (fl : Nat) (r : List Byte) (p : Rtp) : Chip :=
  let ahead := diff32 (p.ts + playoutSamples r) c.audioNow
  let note := fun (g : Fld) => (c.flowPositions fl).foldl (fun a q => a.count g q 1) c
  if ahead ≤ 0 then note Reg.AUD_SRC_LATE_COUNT
  else if 96 < ahead then note Reg.AUD_SRC_EARLY_COUNT
  else
    let width := flowChannels r * (if flowKind r = 3 then 4 else u8 r 98 / 8)
    c.modRx fl (fun x => { x with audio := (List.range (p.payload.length / max width 1)).foldl (fun t i =>
      Tbl.put [] t ((p.ts + i) % 4294967296) (sampleSet (flowKind r) (u8 r 98) (bytesAt p.payload (i * width) width))) x.audio })

/-- The bytes of a packet ring (R267). -/
def ringBytes : Nat := 65536

/-- Keeps the newest packets that fit a ring. -/
def trimRing : Nat → List RingPkt → List RingPkt
  | 0, l => l
  | n + 1, l => if ringBytes < (l.map (fun p => p.payload.length)).sum then trimRing n (l.drop 1) else l

/-- Enters a packet in its ring (R267). -/
def Chip.putRing (c : Chip) (fl : Nat) (p : Rtp) : Chip :=
  c.modRx fl (fun x =>
    let l := x.ring ++ [{ idx := x.ringNext, arrived := c.now, seq := p.seq, ts := p.ts, marker := p.marker, payload := p.payload }]
    { x with ring := trimRing l.length l, ringNext := x.ringNext + 1 })

/-- Delivers a merged packet (R256). The lines of a kind 5 flow come by LINE_WRITE, as an SDI receiver's do (R255). -/
def Chip.deliver (c : Chip) (fl : Nat) (r : List Byte) (pathB : Bool) (p : Rtp) : Chip :=
  let c1 := c.set Reg.PMI_F_LAST_TS_TS fl p.ts
  match flowKind r with
  | 0 => c1.putVideo fl (u16 r 4) (flowFormat (bytesAt r 96 16)) pathB p
  | 1 => c1.putRing fl p
  | 2 => c1.putAudio fl r p
  | 3 => c1.putAudio fl r p
  | 4 => c1.putAncillary (u16 r 4) p
  | _ => c1

/-! ## The merge (R256) -/

/-- The depth of the merge window. -/
def mergeDepth : Nat := 8192

/-- The extended sequence number of a packet: the 32-bit one of kind 0; else the RTP number extended by the wraps counted. -/
def RxFlow.extended (x : RxFlow) (kind : Nat) (p : Rtp) : Nat :=
  if kind = 0 then u16 p.payload 0 * 65536 + p.seq
  else match x.top with
    | none => p.seq
    | some t => unsigned 32 ((t : Int) + signed 16 ((p.seq + 65536 - t % 65536) % 65536))

/-- What the merge does with a packet. -/
inductive MergeOut where
  | deliver | duplicate | tooOld
  deriving DecidableEq, Repr

/-- One step of the merge: the flow, the outcome, whether the window was cleared, and the numbers lost. A number before the first packet of a window
is none that was missed. -/
def RxFlow.merge (x : RxFlow) (s : Nat) : RxFlow × MergeOut × Bool × Nat :=
  let start := { x with top := some s, low := s, marks := [s] }
  match x.top with
  | none => (start, .deliver, false, 0)
  | some top =>
    let d := diff32 s top
    if (mergeDepth : Int) < d then (start, .deliver, true, 0)
    else if 0 < d then
      let leaving := (List.range d.toNat).map (fun (k : Nat) => unsigned 32 ((top : Int) - (mergeDepth : Int) + 1 + (k : Int)))
      let lost := (leaving.filter (fun n => decide (0 ≤ diff32 n x.low) && !(x.marks.contains n))).length
      ({ x with top := some s, marks := s :: x.marks.filter (fun n => !(leaving.contains n)) }, .deliver, false, lost)
    else if d ≤ -(mergeDepth : Int) then (x, .tooOld, false, 0)
    else if x.marks.contains s then (x, .duplicate, false, 0)
    else ({ x with marks := s :: x.marks }, .deliver, false, 0)

/-- Notes the arrival of a numbered packet on a path: the skew in ns once both copies have arrived (R259). -/
def RxFlow.arrive (x : RxFlow) (s now : Nat) (pathB : Bool) : RxFlow × Option Int :=
  match Tbl.find x.arrivals s with
  | some (b, at_) =>
    if b = pathB then (x, none)
    else
      let skew : Int := if pathB then ((now - at_) / 27 : Nat) else -(((now - at_) / 27 : Nat) : Int)
      ({ x with arrivals := Tbl.del x.arrivals s, skewSum := x.skewSum + skew, skewN := x.skewN + 1 }, some skew)
  | none => ({ x with arrivals := Tbl.ins (x.arrivals.filter (fun e => decide (now < e.2.2 + secU 1))) s (pathB, now) }, none)

/-- What a matched packet came to, for the taps of flow watch, deep analysers and packet capture. -/
structure Tap where
  flow : Nat
  pathB : Bool
  rtp : Rtp
  seq : Nat
  discard : Bool
  dup : Bool
  skew : Option Int
  lost : Nat
  udp : List Byte
  deriving DecidableEq, Repr

/-- The checks of R250 on a matched packet. -/
def headerBad (r : List Byte) (p : IpPacket) (rtp : Rtp) : Bool :=
  !p.sumOk || !(udpSumOk p) || rtp.version != 2 || (u8 r 6 != 255 && rtp.pt != u8 r 6)
    || (flowKind r == 0 && !((readRows rtp.payload).all (rowInside (flowFormat (bytesAt r 96 16)))))

/-- A packet of a path brings it up (R257). -/
def Chip.pathSeen (c : Chip) (fl : Nat) (pathB : Bool) : Chip :=
  let x := c.rx fl
  let up := if pathB then x.upB else x.upA
  let c1 := c.countWrap (if pathB then Reg.PMI_F_PKTS_B_COUNT else Reg.PMI_F_PKTS_A_COUNT) fl 1
  let c2 := c1.modRx fl (fun y => if pathB then { y with lastB := c.now, upB := true } else { y with lastA := c.now, upA := true })
  c2.eventIf (!up) Ev.pmiPathUp [fl + flag pathB * 65536]

/-- Discards a packet of a flow under R250 or R251. -/
def Chip.headerError (c : Chip) (fl : Nat) : Chip := c.count Reg.PMI_F_ERRORS_HDR_ERR fl 1

/-- Whether a packet's SSRC is the flow's (R251): the first packet sets it; another one that arrives alone is remembered with its first arrival. -/
def RxFlow.judgeSsrc (x : RxFlow) (ssrc now : Nat) : RxFlow × Bool :=
  match x.ssrc with
  | none => ({ x with ssrc := some ssrc, other := none }, true)
  | some v =>
    if v = ssrc then ({ x with other := none }, true)
    else match x.other with
      | some o => if o.1 = ssrc then (x, false) else ({ x with other := some (ssrc, now) }, false)
      | none => ({ x with other := some (ssrc, now) }, false)

/-- A matched packet is checked, merged and delivered (R250, R251, R256 to R259). -/
def Chip.mediaPacket (c : Chip) (fl : Nat) (pathB : Bool) (p : IpPacket) : Chip × Tap :=
  let r := c.record tyRx fl
  let udp := bytesAt p.data 8 (u16 p.data 4 - 8)
  let rtp := readRtp udp
  let c1 := c.pathSeen fl pathB
  let tap : Tap := { flow := fl, pathB := pathB, rtp := rtp, seq := (c.rx fl).extended (flowKind r) rtp, discard := true, dup := false, skew := none,
                     lost := 0, udp := udp }
  if headerBad r p rtp then (c1.headerError fl, tap)
  else
    let j := (c1.rx fl).judgeSsrc rtp.ssrc c.now
    let c2 := c1.modRx fl (fun _ => j.1)
    if !j.2 then (c2.headerError fl, tap)
    else
      let s := j.1.extended (flowKind r) rtp
      let a := j.1.arrive s c.now pathB
      let m := a.1.merge s
      let c3 := (c2.modRx fl (fun _ => m.1)).count Reg.PMI_F_LOST_COUNT fl m.2.2.2
      let c4 := if m.2.2.1 then c3.count Reg.PMI_F_ERRORS_SEQ_JUMPS fl 1 else c3
      let c5 := if flowKind r = 0 then c4.laterPath fl (u16 r 4) (flowFormat (bytesAt r 96 16)) pathB rtp else c4
      let t := { tap with seq := s, discard := false, skew := a.2, lost := m.2.2.2 }
      match m.2.1 with
      | .deliver => (c5.deliver fl r pathB rtp, t)
      | .duplicate => (c5.count Reg.PMI_F_DUP_COUNT fl 1, { t with dup := true })
      | .tooOld => (c5.count Reg.PMI_F_TOO_OLD_COUNT fl 1, t)

/-- SSRC_ADOPTION (R251): a flow adopts the SSRC that has arrived alone for 50 ms. -/
def execSsrcAdoption (t : Nat) (flow : Fin 4096) (s : State) : Host.Outcome State Fault Refusal :=
  act t s (fun c =>
    let x := c.rx flow
    let r := c.record tyRx flow
    match x.other with
    | none => c
    | some o =>
      if c.now < o.2 + msU 50 then c
      else
        let c1 := c.modRx flow (fun y => { y with ssrc := some o.1, other := none, top := none, low := 0, marks := [], arrivals := [], lines := [], ahead := none, aheadLines := [] })
        let c2 := if flowKind r = 0 ∨ flowKind r = 5 then c1.frameLost (u16 r 4) else c1
        (c2.count Reg.PMI_F_ERRORS_SSRC_CHANGES flow 1).event Ev.pmiSsrcChange [flow, x.ssrc.getD 0, o.1])

/-- PATH_DOWN (R257): a path on which no packet has matched for 10 ms, or for 3 frame periods with kind 4. -/
def execPathDown (t : Nat) (flow : Fin 4096) (pathB : Bool) (s : State) : Host.Outcome State Fault Refusal :=
  act t s (fun c =>
    let r := c.record tyRx flow
    let x := c.rx flow
    let limit := if flowKind r = 4 then 3 * framePeriod (u8 r 101) else msU 10
    if (if pathB then x.upB else x.upA) && decide ((if pathB then x.lastB else x.lastA) + limit ≤ c.now) then
      let c1 := c.modRx flow (fun y => if pathB then { y with upB := false, bothUp := false } else { y with upA := false, bothUp := false })
      let c2 := ((c1.mark Reg.PMI_STATUS_PATH_DOWN_SEEN).event Ev.pmiPathDown [flow + flag pathB * 65536])
      if flowKind r = 2 ∨ flowKind r = 3 then c2 else c2.modWatch (u16 r 4) (fun w => { w with down := true })
    else c)

/-- SKEW_MEASUREMENT (R259): the average skew of the past second is reported and checked. -/
def execSkewMeasurement (t : Nat) (flow : Fin 4096) (s : State) : Host.Outcome State Fault Refusal :=
  act t s (fun c =>
    let r := c.record tyRx flow
    let x := c.rx flow
    if flowOn r && flowDual r then
      let c1 := c.modRx flow (fun y => { y with skewSum := 0, skewN := 0, bothUp := y.upA && y.upB })
      if x.bothUp && decide (0 < x.skewN) then
        let v := roundDiv x.skewSum x.skewN
        let wide := decide (1000 * u16 r 12 < v.natAbs)
        let c2 := (c1.set Reg.PMI_F_SKEW_SKEW_NS flow (unsigned 32 v)).modRx flow (fun y => { y with skewHigh := wide })
        if wide && !x.skewHigh then (c2.mark Reg.PMI_STATUS_SKEW_SEEN).event Ev.pmiSkewHigh [flow, unsigned 32 v] else c2
      else c1.set Reg.PMI_F_SKEW_SKEW_NS flow 0x7FFFFFFF
    else c)

/-- What `PMI.CTRL.CLR_CNT` clears (R280). -/
def Chip.clrPmi (c : Chip) : Chip :=
  c.clearAll [Reg.PMI_RX_UNMATCHED_COUNT, Reg.PMI_IGMP_QUERIES, Reg.PMI_IGMP_OLD_QUERIES, Reg.PMI_F_PKTS_A_COUNT,
    Reg.PMI_F_PKTS_B_COUNT, Reg.PMI_F_DUP_COUNT, Reg.PMI_F_TOO_OLD_COUNT, Reg.PMI_F_LOST_COUNT, Reg.PMI_F_ERRORS_HDR_ERR,
    Reg.PMI_F_ERRORS_SSRC_CHANGES, Reg.PMI_F_ERRORS_SEQ_JUMPS]

/-- PMI_CLR_CNT (R280): every counter of the block. -/
def execPmiClrCnt (t : Nat) (s : State) : Host.Outcome State Fault Refusal := act t s (fun c => c.clrPmi)

/-! ## Memberships (R274) -/

/-- The memberships that the enabled receive paths need, those of one port, VLAN and group merged into one. -/
def Chip.neededMembers (c : Chip) : List Member :=
  (c.rxFlows.flatMap (fun f => (flowPaths (c.record tyRx f)).map (fun b => (c.record tyRx f, b)))).foldl (fun l e =>
    let v6 := flowV6 e.1
    let q := flowPath e.1 e.2
    if isGroup v6 (pathDst v6 q) then
      let m : Member := { port := u8 q 0, breakout := u8 q 1, vlan := u16 q 2, v6 := v6, group := pathDst v6 q,
                          srcs := if pathSrc v6 q = 0 then [] else [pathSrc v6 q] }
      let same := fun (x : Member) => x.port == m.port && x.breakout == m.breakout && x.vlan == m.vlan && x.v6 == m.v6 && x.group == m.group
      if l.any same then l.map (fun x => if same x then { x with srcs := if x.srcs = [] ∨ m.srcs = [] then [] else dedup (x.srcs ++ m.srcs) } else x)
      else l ++ [m]
    else l) []

/-- Whether two memberships name one group on one port and VLAN. -/
def Member.same (a b : Member) : Bool := a.port == b.port && a.breakout == b.breakout && a.vlan == b.vlan && a.v6 == b.v6 && a.group == b.group

/-- Brings the memberships to those that the flows need: a change is reported at once and once more; one left is reported twice. -/
def Chip.syncMembers (c : Chip) : Chip :=
  let need := c.neededMembers
  let left := c.net.members.filter (fun m => !(need.any m.same))
  let new := need.filter (fun m => !(c.net.members.contains m))
  { c with net := { c.net with
      members := need,
      reports := (c.net.reports.filter (fun r => !(left.any r.member.same) && !(new.any r.member.same)))
        ++ new.map (fun m => { member := m, leave := false, answer := false, times := 2 })
        ++ left.map (fun m => { member := m, leave := true, answer := false, times := 2 }) } }

/-- The record type of a report: state change (3 to include, 4 to exclude mode) or current state (1, 2); a membership left becomes an
empty include list. -/
def Report.kind (r : Report) : Nat :=
  if r.leave then 3 else if r.member.srcs = [] then (if r.answer then 2 else 4) else (if r.answer then 1 else 3)

/-- One group record of a report, of IGMPv3 or MLDv2. -/
def Report.record (r : Report) : List Byte :=
  let srcs := if r.leave then [] else r.member.srcs
  beBytes 1 r.kind ++ beBytes 1 0 ++ beBytes 2 srcs.length ++ ipBytes r.member.v6 r.member.group ++ srcs.flatMap (ipBytes r.member.v6)

/-- The frame of a report: DSCP 48 and the router alert option (assumption log: the layouts are those of RFC 3376 and RFC 3810). -/
def Chip.reportFrame (c : Chip) (r : Report) : List Byte :=
  let m := r.member
  if m.v6 then
    let dst := 0xFF02 * 2 ^ 112 + 0x16
    let src := c.ownIp true m.port m.breakout
    let body := beBytes 1 143 ++ beBytes 1 0 ++ beBytes 2 0 ++ beBytes 2 0 ++ beBytes 2 1 ++ r.record
    let sum := checksum (pseudoHeader true src dst 58 body.length ++ body)
    let hop := beBytes 1 58 ++ beBytes 1 0 ++ beBytes 2 0x0502 ++ beBytes 2 0 ++ beBytes 2 0x0100
    c.ownHeader m.port m.breakout 5 (groupMac true dst) 0x86DD ++ ipv6Header src dst 0 192 1 (8 + body.length) ++ hop ++ putAt body 2 (beBytes 2 sum)
  else
    let dst := 224 * 16777216 + 22
    let body := beBytes 1 0x22 ++ beBytes 1 0 ++ beBytes 2 0 ++ beBytes 2 0 ++ beBytes 2 1 ++ r.record
    c.ownHeader m.port m.breakout 5 (groupMac false dst) 0x0800
      ++ ipv4Header (c.ownIp false m.port m.breakout) dst 2 192 1 body.length (beBytes 4 0x94040000) ++ putAt body 2 (beBytes 2 (checksum body))

/-- MEMBERSHIP_REPORT (R274): the reports that wait on a breakout are sent. -/
def execMembershipReport (t : Nat) (port : Fin 16) (breakout : Fin 8) (s : State) : Host.Outcome State Fault Refusal :=
  act t s (fun c =>
    let mine := fun (r : Report) => r.member.port == port.val && r.member.breakout == breakout.val
    let c1 := (c.net.reports.filter mine).foldl (fun a r => a.sendOwn port breakout 5 (c.reportFrame r)) c
    { c1 with net := { c1.net with reports := c1.net.reports.filterMap (fun r =>
      if mine r then (if r.times ≤ 1 then none else some { r with times := r.times - 1 }) else some r) } })

end Sys2Proof.Machine
end

