-- ==== Sys2Proof/Machine/Pmo.lean ====
section
/-! DEFINITION. Packet media transmit (R260 to R273): building egress packets, ST 2110-22 pass-through, test injection. -/

namespace Sys2Proof.Machine

/-! ## Transmit flows -/

/-- A transmit flow. -/
def Chip.tx (c : Chip) (f : Nat) : TxFlow := Tbl.get TxFlow.reset c.net.tx f

/-- Changes a transmit flow. -/
def Chip.modTx (c : Chip) (f : Nat) (g : TxFlow → TxFlow) : Chip :=
  { c with net := { c.net with tx := Tbl.upd TxFlow.reset c.net.tx f g } }

/-- The format of a kind 0 flow. -/
def txFormat (r : List Byte) : Format := flowFormat (bytesAt r 96 16)

/-- The UDP payload limit of a flow (R277). -/
def udpMax (r : List Byte) : Nat := if u16 r 108 = 0 then 1460 else u16 r 108

/-- The bytes and pixels of a pixel group of ST 2110-20. -/
def pixelGroup (f : Format) : Nat × Nat :=
  if f.sampling = 0 then (f.depth / 2, 2) else if f.depth = 10 then (15, 4) else if f.depth = 12 then (9, 2) else (3, 1)

/-- The sample bytes of a full packet (R262). -/
def packetBytes (r : List Byte) : Nat :=
  let g := (pixelGroup (txFormat r)).1
  (udpMax r - 20) / max g 1 * g

/-- The packets of one line (R262). -/
def packetsPerLine (r : List Byte) : Nat := ceilDiv (lineBytes (txFormat r)) (max (packetBytes r) 1)

/-- The SDI bit rate of a kind 5 flow. -/
def sdiBits (code : Nat) : Nat := if code = 0 then 270000000 else if code ≤ 2 then 1485000000 else 2970000000

/-- The datagrams of one frame of a kind 5 flow, each of 1,376 bytes of the SDI stream (assumption log: ST 2022-6). -/
def datagramsPerFrame (r : List Byte) : Nat :=
  let rate := u8 r 101
  let nominal := if fractRate rate ∧ 0 < u8 r 96 then framePeriod rate * 1000 / 1001 else framePeriod rate
  ceilDiv (sdiBits (u8 r 96) * nominal / 27000000000) 11008

/-- The packets of one frame, N of R263 and R264. -/
def packetsPerFrame (r : List Byte) : Nat :=
  if flowKind r = 0 then packetsPerLine r * (txFormat r).height else datagramsPerFrame r

/-- The transmit offset of a kind 0 flow, in units (R263). -/
def txOffset (r : List Byte) (period : Nat) : Nat :=
  let f := txFormat r
  let n := if u16 r 110 = 0xFFFF then Config.defaultTro f.scan f.height f.rate else u16 r 110
  n * period / (16 * rasterLines f)

/-- The launch time of packet j of a frame that counts from `base` (R263, R264). -/
def launchAt (r : List Byte) (base period j : Nat) : Nat :=
  let n := max (packetsPerFrame r) 1
  if flowKind r = 0 then
    let f := txFormat r
    let spread := if u8 r 7 = 0 then period * f.height / (if f.height = 486 then 525 else if f.height = 576 then 625 else if f.height = 720 then 750
      else if f.height = 1080 then 1125 else 2250) else period
    base + txOffset r period + j * spread / n
  else base + j * period / n

/-- Device time at an instant, in units of `deviceQ`, for instants before now too. -/
def Chip.deviceAt (c : Chip) (u : Nat) : Nat :=
  if u ≤ c.now then c.deviceQ - (c.now - u) * 65536 else c.deviceQ + (u - c.now) * 65536

/-- An RTP timestamp of device time `q` at a clock rate (R261). -/
def rtpTime (q rate : Nat) : Nat := q * rate / qSec % 4294967296

/-- The domain of a transmit flow's destination; TD0 for audio. -/
def Chip.txTd (c : Chip) (r : List Byte) : Nat := if flowKind r = 2 ∨ flowKind r = 3 then 0 else c.dstTd (u16 r 4)

/-- Whether a transmit flow may send (R266). -/
def Chip.txOn (c : Chip) (fl : Nat) : Bool := flowOn (c.record tyTx fl) && c.fullIn (c.txTd (c.record tyTx fl))

/-! ## Headers (R273) -/

/-- An RTP header. -/
def rtpHeader (marker : Bool) (pt seq ts ssrc : Nat) : List Byte :=
  beBytes 1 128 ++ beBytes 1 (flag marker * 128 + pt) ++ beBytes 2 seq ++ beBytes 4 ts ++ beBytes 4 ssrc

/-- The frame that carries a UDP payload on one path of a transmit flow. -/
def Chip.txFrame (c : Chip) (r : List Byte) (b : Bool) (data : List Byte) : List Byte :=
  let v6 := flowV6 r
  let q := flowPath r b
  let dst := pathDst v6 q
  let src := c.ownIp v6 (u8 q 0) (u8 q 1)
  let udp := udpDatagram v6 src dst (u16 q 38) (u16 q 36) data
  ethHeader (if isGroup v6 dst then groupMac v6 dst else beNat (bytesAt q 20 6)) (c.macAddr (u8 q 0) (u8 q 1)) (u16 q 2) (u8 r 15 / 32)
    (if v6 then 0x86DD else 0x0800) ++ ipHeader v6 src dst 17 (4 * u8 r 14) (8 * (u8 r 15 % 32)) udp.length ++ udp

/-- A launch-queue frame starts on a breakout, or is discarded while its link is down (R285, R297). -/
def Chip.launchFrame (c : Chip) (k : Nat) (bytes : List Byte) : Chip :=
  if (c.mac k).up then c.putFrame k false bytes else c.count Reg.MAC_TX_LINK_DISCARD_COUNT k 1

/-- Sends one packet of a flow on each of its paths: sequence number, timestamp, counters (R260); on a twin that is not active, and until the next frame after it has become so, the packet is numbered and not sent (R419, R422). `step` is what the sequence number advances by
after it. -/
def Chip.sendPacket (c : Chip) (fl : Nat) (r : List Byte) (marker : Bool) (ts : Nat) (payload : List Byte) : Chip :=
  let x := c.tx fl
  let data := rtpHeader marker (u8 r 6) x.seq ts (u32 r 8) ++ payload
  let hold := c.twinHeld || (x.held && !(x.next == 0 || flowKind r != 0))
  let c1 := if hold then c else (flowPaths r).foldl (fun a b =>
    a.launchFrame (macKey (u8 (flowPath r b) 0) (u8 (flowPath r b) 1)) (c.txFrame r b data)) c
  let wrap := if flowKind r = 0 then 4294967296 else 65536
  (((c1.set Reg.PMO_F_SEQ_SEQ fl x.seq).set Reg.PMO_F_TS_TS fl ts).countWrap Reg.PMO_F_PKTS_COUNT fl 1).modTx fl
    (fun y => { y with seq := (y.seq + 1) % wrap, sending := true, held := hold })

/-- Counts a packet that leaves more than 1 µs after its launch time (R263); `word` names the flow or the injection channel. -/
def Chip.judgeLate (c : Chip) (launch word : Nat) (flow : Option Nat) : Chip :=
  if launch + usU 1 < c.now then
    let c1 := match flow with | some fl => c.count Reg.PMO_F_LATE_COUNT fl 1 | none => c
    (c1.mark Reg.PMO_STATUS_LATE_SEEN).event Ev.pmoLaunchLate [word, min ((c.now - launch) / 27) 0xFFFFFFFF]
  else c

/-! ## Video (R261 to R263, R265) -/

/-- The format in which a destination's video level is served, none where it sends black or what another device sends. -/
def Chip.servedFormat (c : Chip) (d : Nat) : Option Format :=
  match c.route d 0 with
  | none => none
  | some r =>
    match ((c.dst d).lvl 0).state with
    | .alt => c.srcFormat (c.dstAlt d)
    | _ => if r.dev.isSome then none else c.srcFormat r.src

/-- How a served format is converted to a flow's (R265): 0 as it is, 1 by depth, 2 by chroma, 3 not at all. -/
def conversion (from_ upTo : Format) : Nat :=
  if from_ = upTo then 0
  else if { from_ with depth := upTo.depth } = upTo then 1
  else if { from_ with sampling := upTo.sampling } = upTo ∧ from_.sampling ≤ 1 ∧ upTo.sampling ≤ 1 then 2
  else 3

/-- A sample brought from one depth to another (R214, R265). -/
def depthSample (a b v : Nat) : Nat :=
  if a ≤ b then v * 2 ^ (b - a) else min ((v + 2 ^ (a - b - 1)) / 2 ^ (a - b)) (2 ^ b - 1)

/-- A row of 4:4:4 reduced to 4:2:2 by the co-sited [1 2 1]/4 filter (R181, R265). -/
def reduceChroma (row : List Nat) : List Nat :=
  let n := row.length / 3
  let at_ := fun (k i : Nat) => row.getD (3 * min i (n - 1) + k) 0
  (List.range (n / 2)).flatMap (fun i =>
    let ch := fun (k : Nat) => (at_ k (2 * i - 1) + 2 * at_ k (2 * i) + at_ k (2 * i + 1) + 2) / 4
    let ch0 := fun (k : Nat) => if i = 0 then (3 * at_ k 0 + at_ k 1 + 2) / 4 else ch k
    [ch0 0, at_ 1 (2 * i), ch0 2, at_ 1 (2 * i + 1)])

/-- A row of 4:2:2 raised to 4:4:4 by linear interpolation (R265). -/
def raiseChroma (row : List Nat) : List Nat :=
  let n := row.length / 2
  let pair := fun (i k : Nat) => row.getD (4 * min i (n / 2 - 1) + k) 0
  (List.range n).flatMap (fun x =>
    let i := x / 2
    let ch := fun (k : Nat) => if x % 2 = 0 then pair i k else (pair i k + pair (i + 1) k + 1) / 2
    [ch 0, row.getD (2 * x + 1) 0, ch 2])

/-- A row of samples in a flow's format. -/
def convertRow (from_ upTo : Format) (row : List Nat) : List Nat :=
  match conversion from_ upTo with
  | 0 => row
  | 1 => row.map (depthSample from_.depth upTo.depth)
  | 2 => if upTo.sampling = 0 then reduceChroma row else raiseChroma row
  | _ => blackRow upTo

/-- The samples that a destination sends for a row of its format, in a flow's format; black where `black` holds. -/
def Chip.flowRow (c : Chip) (d : Nat) (f : Format) (black : Bool) (row : Nat) : List Nat :=
  match (if black then none else c.levelSlot d 0) with
  | none => blackRow f
  | some (k, _) =>
    let sl := c.slotAt k
    let line := rowLine f (f.scan != 0 && decide (row % 2 = 1)) (if f.scan = 0 then row else row / 2)
    convertRow ((c.servedFormat d).getD f) f ((Tbl.find sl.lines line).getD (Tbl.get (blackRow f) sl.lines sl.newest))

/-- Whether the route of a kind 0 or kind 5 flow's destination takes an ST 2110-22 source, or a kind 1 flow's takes another kind (R269). -/
def Chip.withheld (c : Chip) (r : List Byte) : Bool :=
  match c.route (u16 r 4) 0 with
  | none => false
  | some x => if flowKind r = 1 then x.dev.isSome || (c.bound x.src && !(c.is22 x.src)) else x.dev.isNone && c.is22 x.src

/-- The word that names the source on a destination's video route (R672). -/
def Chip.mismatchEvent (c : Chip) (fl : Nat) (r : List Byte) (bad : Bool) : Chip :=
  let x := c.tx fl
  let c1 := if bad then c.count Reg.PMO_F_MISMATCH_COUNT fl 1 else c
  let c2 := c1.modTx fl (fun y => { y with mismatch := bad, episode := bad })
  if bad && !x.episode then (c2.mark Reg.PMO_STATUS_MISMATCH_SEEN).event Ev.pmoFormatMismatch [fl, c.routeSrc (u16 r 4) 0] else c2

/-- The instant from which the launch times of the frame count that a packet now begins: the domain's latest tick plus the output delay, or the
frame before when its first launch time has not come. -/
def Chip.frameBase (c : Chip) (r : List Byte) : Nat :=
  let m := c.dom (c.txTd r)
  let base := m.tickAt + nsU m.outDelay
  let off := if flowKind r = 0 then txOffset r (framePeriod m.rate) else 0
  if c.now + nsU 10 < base + off then base - framePeriod m.rate else base

/-- Starts a frame of a kind 0 or 5 flow: the description in force, its base and timestamp, and whether it is sent, sent black or withheld. -/
def Chip.startTxFrame (c : Chip) (fl : Nat) : Chip :=
  let r := c.record tyTx fl
  let base := c.frameBase r
  let d := u16 r 4
  let held := c.withheld r
  let wrong := match c.levelSlot d 0 with
    | none => false
    | some _ => match c.servedFormat d with
      | none => false
      | some f => flowKind r == 0 && conversion f (txFormat r) == 3
  let c1 := c.modTx fl (fun x => { x with record := r, base := base, ts := rtpTime (c.deviceAt base) (if flowKind r = 5 then 27000000 else 90000), next := 0 })
  (c1.mismatchEvent fl r (held || wrong)).modTx fl (fun x => { x with sending := !held })

/-- The payload of packet j of a kind 0 frame (R262): extended sequence number, one sample row data header, samples. -/
def Chip.videoPayload (c : Chip) (r : List Byte) (black : Bool) (seq j : Nat) : List Byte × Bool :=
  let f := txFormat r
  let ppl := max (packetsPerLine r) 1
  let n := j / ppl
  let k := j % ppl
  let half := f.height / 2
  let second := f.scan != 0 && decide (half ≤ n)
  let inField := if second then n - half else n
  let row := if f.scan = 0 then n else 2 * inField + flag second
  let data := bytesAt (packSamples f.depth (c.flowRow (u16 r 4) f black row)) (k * packetBytes r) (packetBytes r)
  let g := pixelGroup f
  let last := decide (k + 1 = ppl) && (decide (n + 1 = f.height) || (f.scan == 1 && decide (n + 1 = half)))
  (beBytes 2 (seq / 65536) ++ beBytes 2 data.length ++ beBytes 2 (flag second * 32768 + inField)
    ++ beBytes 2 (k * packetBytes r / max g.1 1 * g.2) ++ data, last)

/-- Finishes a packet of a frame: the next one, or the end of the frame. -/
def Chip.stepFrame (c : Chip) (fl n : Nat) : Chip :=
  let x := c.tx fl
  if n ≤ x.next + 1 then (c.modTx fl (fun y => { y with next := 0 })).countWrap Reg.PMO_F_FRAMES_COUNT fl 1
  else c.modTx fl (fun y => { y with next := y.next + 1 })

/-- Launches the next packet of a kind 0 or kind 5 flow. -/
def Chip.launchVideo (c : Chip) (fl : Nat) : Chip :=
  let c1 := if (c.tx fl).next = 0 then (if c.txOn fl then c.startTxFrame fl else c.modTx fl (fun x => { x with sending := false })) else c
  let x := c1.tx fl
  let r := x.record
  if !x.sending then c1
  else
    let period := c1.period (c1.txTd r)
    let c2 := c1.judgeLate (launchAt r x.base period x.next) fl (some fl)
    if flowKind r = 0 then
      let f := txFormat r
      let ppl := max (packetsPerLine r) 1
      let second := f.scan == 1 && decide (f.height / 2 ≤ x.next / ppl)
      let ts := if second then rtpTime (c1.deviceAt (x.base + period / 2)) 90000 else x.ts
      let p := c2.videoPayload r x.mismatch x.seq x.next
      (c2.sendPacket fl r p.2 ts p.1).stepFrame fl (packetsPerFrame r)
    else
      let n := packetsPerFrame r
      let data := beBytes 1376 (c2.openVal 11008)
      let head := beBytes 4 (8 * 65536 + (c1.dom (c1.txTd r)).frame % 256 * 256) ++ beBytes 4 0
      ((c2.nextFree).sendPacket fl r (decide (x.next + 1 = n)) x.ts (head ++ data)).stepFrame fl n

/-! ## Ancillary data (R264) -/

/-- The bytes of one ancillary packet of RFC 8331: line, and its 10-bit words, padded to a word. -/
def ancBytes8331 (line : Nat) (words : List Nat) : List Byte :=
  let d := packSamples 10 words
  beBytes 4 (line % 2048 * 1048576) ++ d ++ List.replicate (ceilDiv d.length 4 * 4 - d.length) 0

/-- Takes the ancillary packets that fit a UDP limit, up to the end of a field (an entry without words): the packets, and the rest. -/
def takeAnc (limit : Nat) : List (Nat × List Nat) → Nat → List (Nat × List Nat) × List (Nat × List Nat)
  | [], _ => ([], [])
  | e :: r, used =>
    if e.2 = [] then ([], e :: r)
    else
      let n := (ancBytes8331 e.1 e.2).length
      if used + n ≤ limit then let q := takeAnc limit r (used + n); (e :: q.1, q.2) else ([], e :: r)

/-- The ancillary packets in a run of words: each is DID, SDID, data count, its user words and a checksum. -/
def splitAnc : Nat → List Nat → List (List Nat)
  | 0, _ => []
  | n + 1, l => if l = [] then [] else let k := 4 + l.getD 2 0 % 256; l.take k :: splitAnc n (l.drop k)

/-- Launches the next packet of a kind 4 flow: the ancillary packets read since the last one, in line order; the marker ends a frame or field. -/
def Chip.launchAnc (c : Chip) (fl : Nat) : Chip :=
  let r := c.record tyTx fl
  if !(c.txOn fl) then c.modTx fl (fun x => { x with sending := false, anc := [] })
  else
    let x := c.tx fl
    let base := if x.next = 0 then c.frameBase r else x.base
    let cut := takeAnc (1460 - 20) x.anc 0
    let stops := match cut.2 with | e :: _ => e.2 == [] | [] => false
    let second := decide (x.next = 2)
    let period := c.period (c.txTd r)
    let ts := rtpTime (c.deviceAt (if second then base + period / 2 else base)) 90000
    let scan := match c.dstFormat (u16 r 4) with | some f => f.scan | none => 0
    let body := cut.1.flatMap (fun e => ancBytes8331 e.1 e.2)
    let head := beBytes 2 0 ++ beBytes 2 body.length ++ beBytes 1 cut.1.length
      ++ beBytes 3 ((if scan = 0 then 0 else if second then 3 else 2) * 4194304)
    let c1 := c.sendPacket fl r stops ts (head ++ body)
    let ends := stops && (scan == 0 || second)
    let c2 := c1.modTx fl (fun y => { y with
      record := r, base := base, ts := ts, anc := if stops then cut.2.drop 1 else cut.2,
      next := if ends then 0 else if stops then 2 else max x.next 1 })
    if ends then c2.countWrap Reg.PMO_F_FRAMES_COUNT fl 1 else c2

/-- The enabled kind 4 flow of a destination. -/
def Chip.ancFlow (c : Chip) (d : Nat) : Option Nat :=
  (c.listed tyTx).find? (fun f => flowOn (c.record tyTx f) && flowKind (c.record tyTx f) == 4 && u16 (c.record tyTx f) 4 == d)

/-- A line of a destination has been read: its ancillary packets wait for the destination's kind 4 flow, and the last line of a frame or field ends
them there (R264). -/
def Chip.queueAnc (c : Chip) (d line : Nat) (anc : List Nat) : Chip :=
  match c.ancFlow d with
  | none => c
  | some fl =>
    match c.dstFormat d with
    | none => c
    | some f =>
      let fieldEnd := line == (activeSpan f).2 || (f.scan == 1 && line == rowLine f false (f.height / 2 - 1))
      c.modTx fl (fun x => { x with anc := x.anc ++ (splitAnc 256 anc).map (fun w => (line, w)) ++ (if fieldEnd then [(line, [])] else []) })

/-! ## A destination reads a line (R33) -/

/-- A destination sends a line, unless its SDI transmitter is a handover output of a twin that is not active (R419, R665). -/
def Chip.emitLine (c : Chip) (d line : Nat) (samples anc : List Nat) : Chip :=
  let held := c.twinHeld && (match c.dstSdi d with | some l => bit (u64 (c.record tyTwin 0) 4) l | none => false)
  let c1 := c.noteLine d line samples anc
  if held || isCapture d then c1 else c1.emit (.line d line samples anc)

/-- LINE_SLOT_READ (R33): the line as it stands in the slot; on the line path, a line that is not complete or has been overwritten is
replaced by the most recent complete line and counted; the ancillary packets go to the destination's kind 4 flow too (R264). -/
def execLineSlotRead (t : Nat) (dst : Fin 1568) (line : Nat) (s : State) : Host.Outcome State Fault Refusal :=
  act t s (fun c0 =>
    let anc0 := match c0.levelSlot dst 1 with
      | some k => Tbl.get [] (c0.slotAt k.1).anc line
      | none => []
    let c := c0.queueAnc dst line anc0
    let anc := anc0
    match c.levelSlot dst 0 with
    | none => c.emitLine dst line (blackLine (c.dstFormat dst)) anc
    | some (k, onLine) =>
      let sl := c.slotAt k
      match Tbl.find sl.lines line with
      | some samples => c.emitLine dst line samples anc
      | none =>
        let c1 := c.emitLine dst line (Tbl.get [] sl.lines sl.newest) anc
        if onLine then
          ((c1.count Reg.XPT_LINE_MISS_COUNT dst 1).mark Reg.XPT_STATUS_LINE_MISS_SEEN).modDst dst (fun x => { x with missed := x.missed + 1 })
        else c1)

/-! ## Audio (R261, R264) -/

/-- The AM824 subframe of a word of R217, parity made afresh (assumption log: bit places of ST 2110-31). -/
def am824 (first second : Bool) (w : Nat) : Nat :=
  let v := w / 256 + flag (bit w 3) * 16777216 + flag (bit w 2) * 33554432 + flag (bit w 1) * 67108864
  let ones := ((List.range 27).filter (fun i => bit v i)).length
  v + (ones % 2) * 134217728 + flag second * 268435456 + flag (first && bit w 0) * 536870912

/-- The destination position of a channel of a transmit flow: kind 1 by `INDEX`, kind 2 the two positions of a pair. -/
def Chip.txPosition (c : Chip) (fl kind ch : Nat) : Option Nat :=
  let idx := if kind = 3 then ch / 2 else ch
  ((c.listed tyDstCh).find? (fun p => u8 (c.record tyDstCh p) 2 == (if kind = 3 then 2 else 1) && u16 (c.record tyDstCh p) 4 == fl
    && u8 (c.record tyDstCh p) 6 == idx)).map (fun p => if kind = 3 then p + ch % 2 else p)

/-- Launches a packet of a kind 2 or 3 flow: the samples before the latest house sample tick. -/
def Chip.launchAudio (c : Chip) (fl : Nat) : Chip :=
  let r := c.record tyTx fl
  if !(c.txOn fl) then c.modTx fl (fun x => { x with sending := false })
  else
    let kind := flowKind r
    let n := if u8 r 97 = 0 then 48 else 6
    let nch := flowChannels r
    let word := fun (ch i : Nat) => match c.txPosition fl kind ch with
      | none => 0
      | some p => let o := (c.audDst p).out; o.getD (o.length - 1 - n + i) 0
    let body := (List.range n).flatMap (fun i => (List.range nch).flatMap (fun ch =>
      let w := word ch i
      if kind = 3 then beBytes 4 (am824 true (ch % 2 == 1) w)
      else beBytes (u8 r 98 / 8) (unsigned 32 (narrowWord (u8 r 98) (signed 32 w)) / 2 ^ (32 - u8 r 98))))
    let ts := (c.deviceAt c.tick.sampleAt * 48000 / qSec + 4294967296 - n) % 4294967296
    ((c.judgeLate (c.tick.sampleAt + usU 5) fl (some fl)).sendPacket fl r false ts body).countWrap Reg.PMO_F_FRAMES_COUNT fl 1

/-- A packet of a transmit flow starts, by its kind (R263, R264). -/
def Chip.launchFlow (c : Chip) (fl : Nat) : Chip :=
  match flowKind (if (c.tx fl).next = 0 then c.record tyTx fl else (c.tx fl).record) with
  | 0 => c.launchVideo fl
  | 5 => c.launchVideo fl
  | 4 => c.launchAnc fl
  | 1 => c
  | _ => if c.record tyTx fl = [] then c else c.launchAudio fl

/-! ## ST 2110-22 pass-through (R267 to R269) -/

/-- The kind 1 receive flow that a kind 1 transmit flow's destination is routed to. -/
def Chip.passSource (c : Chip) (r : List Byte) : Option Nat :=
  match c.route (u16 r 4) 0 with
  | some x => if x.dev.isNone && c.is22 x.src then c.srcFlow x.src else none
  | none => none

/-- Forwards one packet of a ring: the egress number advances by the difference of the source numbers, or by 1 across a change of source. -/
def Chip.forwardPacket (c : Chip) (fl : Nat) (r : List Byte) (p : RingPkt) : Chip :=
  let x := c.tx fl
  let step := match x.srcSeq with | some v => (p.seq + 65536 - v) % 65536 | none => 1
  let seq := (x.seq + step + 65535) % 65536
  let c1 := c.modTx fl (fun y => { y with seq := seq })
  let c2 := (c1.sendPacket fl r p.marker p.ts p.payload).modTx fl (fun y => { y with
    readIdx := p.idx + 1, srcSeq := some p.seq, inFrame := !p.marker, awaitMark := false })
  if p.marker then c2.countWrap Reg.PMO_F_FRAMES_COUNT fl 1 else c2

/-- The packet of a ring that stands at or after a number. -/
def RxFlow.nextIn (x : RxFlow) (idx : Nat) : Option RingPkt := x.ring.find? (fun p => decide (idx ≤ p.idx))

/-- PASS_THROUGH_FORWARD (R268, R269): a kind 1 transmit flow forwards its source's next packet, 20 µs after it arrived. At a switch the old
source goes on to the marker of its frame in progress; then the new one starts after the next marker that arrives. -/
def execPassThroughForward (t : Nat) (flow : Fin 4096) (s : State) : Host.Outcome State Fault Refusal :=
  act t s (fun c =>
    let r := c.record tyTx flow
    let x := c.tx flow
    if flowKind r ≠ 1 ∨ !(c.txOn flow) then c
    else
      let want := c.passSource r
      if c.withheld r ∧ !x.inFrame then c.mismatchEvent flow r true
      else
        let c0 := if x.src ≠ want ∧ !x.inFrame then
            c.modTx flow (fun y => { y with src := want, srcSeq := none, awaitMark := true, episode := false, mismatch := false,
                                             readIdx := match want with | some f => (c.rx f).ringNext | none => 0 })
          else c
        let y := c0.tx flow
        match y.src with
        | none => c0
        | some f =>
          match (c0.rx f).nextIn y.readIdx with
          | none => c0
          | some p =>
            if c0.now < p.arrived + usU 19 then c0
            else if y.awaitMark then
              c0.modTx flow (fun z => { z with readIdx := p.idx + 1, awaitMark := !p.marker })
            else c0.forwardPacket flow r p)

/-- What `PMO.CTRL.CLR_CNT` clears (R282, R283). -/
def Chip.clrPmo (c : Chip) : Chip :=
  c.clearAll [Reg.PMO_INJ_SENT, Reg.PMO_F_PKTS_COUNT, Reg.PMO_F_FRAMES_COUNT, Reg.PMO_F_LATE_COUNT, Reg.PMO_F_MISMATCH_COUNT]

/-- PMO_CLR_CNT (R282, R283): every counter of the block; `F_SEQ` and `F_TS` stay. -/
def execPmoClrCnt (t : Nat) (s : State) : Host.Outcome State Fault Refusal := act t s (fun c => c.clrPmo)

/-! ## Test injection (R270 to R272) -/

/-- The fields of an injection descriptor. -/
def injSegment (d : List Byte) : Bool := bit (u8 d 2) 0
def injSrd (d : List Byte) : Bool := bit (u8 d 2) 1
def injMark (d : List Byte) : Bool := bit (u8 d 2) 2
def injTemplate (d : List Byte) : List Byte := bytesAt d 28 (u8 d 3)

/-- Whether a descriptor's fields lie in the ranges of R270. -/
def Chip.injFields (c : Chip) (d : List Byte) : Bool :=
  decide (u8 d 0 ≤ 15) && decide (u8 d 1 < c.breakouts (u8 d 0)) && decide (u8 d 2 ≤ 7) && within (u8 d 3) 42 126 && within (u16 d 4) 1 8960
    && zeroAt d 6 2 && decide (u32 d 16 ≤ 999999999) && decide (u32 d 20 ≤ 1000000000) && within (u32 d 24) 1 262144

/-- The number of segments of a send. -/
def injCount (d : List Byte) : Nat := if injSegment d then ceilDiv (u32 d 24) (max (u16 d 4) 1) else 1

/-- Whether a send breaks the size rules of R271 and R272. -/
def Chip.injBad (c : Chip) (d : List Byte) (n : Nat) : Bool :=
  decide (c.maxFrame (u8 d 0) < u8 d 3 + u16 d 4 + 4) || u32 d 24 != n || (!(injSegment d) && decide (u16 d 4 < u32 d 24))
    || (injSrd d && (u16 d 4 % max (Config.srdGroup (injTemplate d)).1 1 != 0 || u32 d 24 % max (Config.srdGroup (injTemplate d)).1 1 != 0))

/-- Segment j of an injected send (R271). -/
def Injection.segment (x : Injection) (j : Nat) : List Byte :=
  let d := x.desc
  let t := injTemplate d
  if !(injSegment d) then t ++ x.payload
  else
    let n := u16 d 4
    let data := bytesAt x.payload (j * n) n
    let l2 := if u16 t 12 = 0x8100 then 18 else 14
    let rtp := l2 + (if u16 t (l2 - 2) = 0x0800 then 4 * (u8 t l2 % 16) else 40) + 8
    let mark := injMark d && decide (j + 1 = injCount d)
    let t1 := putAt t (rtp + 1) (beBytes 1 (u8 t (rtp + 1) % 128 + flag mark * 128))
    let ext := (if injSrd d then u16 t (rtp + 12) * 65536 else 0) + u16 t (rtp + 2) + j
    let t2 := putAt t1 (rtp + 2) (beBytes 2 ext)
    let t3 := if injSrd d then
        putAt (putAt (putAt t2 (rtp + 12) (beBytes 2 (ext / 65536))) (rtp + 14) (beBytes 2 data.length)) (rtp + 18)
          (beBytes 2 (u16 t (rtp + 18) + j * n / max (Config.srdGroup t).1 1 * (Config.srdGroup t).2))
      else t2
    fixHeaders t.length (templateSum t) (t3 ++ data)

/-- The first injection channel that is free. -/
def Chip.freeChannel (c : Chip) : Option Nat := (List.range 8).find? (fun i => (Tbl.get none c.net.inject i).isNone)

/-- INJECT (R270 to R272): a channel takes the send. -/
def execInject (t : Nat) (slot : Fin 16) (body : List Byte) (s : State) : Host.Outcome State Fault Refusal :=
  act t s (fun c => c.request slot 0x010A 2 false
      (decide (154 < body.length) && decide (body.length ≤ 154 + 262144) && c.injFields body && zeroAt body (28 + u8 body 3) (126 - u8 body 3)) (fun c =>
    let d := body.take 154
    if qOf (u64 d 8) (u32 d 16) < c.deviceQ + usU 100 * 65536 then c.refuse slot 0x010A 0x0707 wholeIndex
    else if c.injBad d (body.length - 154) then c.refuse slot 0x010A 0x0708 wholeIndex
    else match c.freeChannel with
      | none => c.refuse slot 0x010A 0x020D wholeIndex
      | some i =>
        let x : Injection := { desc := d, payload := body.drop 154, next := 0, slot := slot, session := (c.session slot).id, reqSeq := c.reqSeq slot }
        ({ c with net := { c.net with inject := Tbl.put none c.net.inject i (some x) } }).started slot 0x010A (beBytes 1 i ++ beBytes 3 0)))

/-- A segment of an injection channel starts; with its last one the channel is free and the request completes. -/
def Chip.launchInjected (c : Chip) (i : Nat) : Chip :=
  match Tbl.get none c.net.inject i with
  | none => c
  | some x =>
    let d := x.desc
    let due := qOf (u64 d 8) (u32 d 16) + x.next * u32 d 20 * (27 * 65536)
    let c0 := c.judgeLate (c.now - (c.deviceQ - due) / 65536) (i + 65536) none
    let c1 := if c.twinHeld then c0 else c0.launchFrame (macKey (u8 d 0) (u8 d 1)) (x.segment x.next)
    let c2 := c1.countWrap Reg.PMO_INJ_SENT 0 1
    if injCount d ≤ x.next + 1 then
      ({ c2 with net := { c2.net with inject := Tbl.put none c2.net.inject i none } }).opDone x.slot x.session x.reqSeq (statusOf 0 wholeIndex)
    else { c2 with net := { c2.net with inject := Tbl.put none c2.net.inject i (some { x with next := x.next + 1 }) } }

end Sys2Proof.Machine
end

