-- ==== Sys2Proof/Machine/CaptureOps.lean ====
section
/-! DEFINITION. The capture store: the managed space, records, staging, the control ring, triggers and closing, the header (R456 to R473). -/

namespace Sys2Proof.Machine

/-! ## Drives and rates (R456 to R461) -/

/-- A drive link. -/
def Chip.drive (c : Chip) (l : Nat) : Drive := Tbl.get Drive.reset c.cap.drives l

/-- Changes a drive link. -/
def Chip.modDrive (c : Chip) (l : Nat) (f : Drive → Drive) : Chip :=
  { c with cap := { c.cap with drives := Tbl.upd Drive.reset c.cap.drives l f } }

/-- Whether a drive link exists: the second link of a port does only in two ×4 links (R456). -/
def Chip.linkExists (c : Chip) (l : Nat) : Bool := l % 2 == 0 || u8 (c.record tyPcie 0) (l / 2) == 1

/-- The enabled drives, in drive order (R484). -/
def Chip.enabledDrives (c : Chip) : List Nat := (List.range 4).filter (fun l => c.linkExists l && bit (u8 (c.record tyDrives l) 1) 0)

/-- The admitted rate in MB/s (R460). -/
def Chip.admitted (c : Chip) : Nat :=
  match c.enabledDrives with
  | [] => 0
  | l :: r => (r.length + 1) * r.foldl (fun a k => min a (u16 (c.record tyDrives k) 2)) (u16 (c.record tyDrives l) 2)

/-- Whether every enabled drive carries a label of one store and the labels agree (R459). -/
def Chip.labelsAgree (c : Chip) : Bool :=
  match c.enabledDrives with
  | [] => false
  | l :: r => (l :: r).all (fun k => (c.drive k).present && !(c.drive k).failed && (c.drive k).label.isSome && (c.drive k).label == (c.drive l).label)

/-- The managed extents (R458). -/
def Chip.totalExtents (c : Chip) : Nat := min 29802 ((c.enabledDrives.map (fun l => (c.drive l).extents)).sum)

/-- The extents that hold the catalogue: one on each of the first two drives (R458). -/
def Chip.catalogueExtents (c : Chip) : Nat := min 2 c.enabledDrives.length

/-- The free extents. -/
def Chip.freeExtents (c : Chip) : Nat :=
  if c.cap.ready then c.totalExtents - c.catalogueExtents - (c.cap.sets.map (fun e => e.2.reserved)).sum else 0

/-- The largest format of R252 at a rate, in bytes of packed active frame. -/
def largestFrame (rate : Nat) : Nat :=
  if rate ≤ 9 then lineBytes ⟨3840, 2160, 0, 0, 10, rate⟩ * 2160 else lineBytes ⟨1920, 1080, 0, 1, 12, rate⟩ * 1080

/-- The reserved rate of a channel in bytes/s at a rate of its domain (R461). -/
def Chip.channelRate (c : Chip) (ch rate : Nat) : Nat :=
  if c.capLevel ch = 1 then u16 (c.record tyCapCh ch) 4 * 1000000
  else ceilDiv ((largestFrame rate + 131072) * secU 1) (framePeriod rate)

/-- The staging buffer of a reserved rate, in granules (R471). -/
def stagingGranules (rate : Nat) : Nat := max 256 (ceilDiv (ceilDiv rate 10) 65536)

/-- A channel of a set. -/
def CapSet.chan (x : CapSet) (ch : Nat) : CapChan := Tbl.get CapChan.reset x.chans ch

/-- Changes a channel of a set. -/
def CapSet.modChan (x : CapSet) (ch : Nat) (f : CapChan → CapChan) : CapSet := { x with chans := Tbl.upd CapChan.reset x.chans ch f }

/-- A player. -/
def Chip.player (c : Chip) (p : Nat) : Player := Tbl.get Player.reset c.cap.players p

/-- Whether a player reads its set. -/
def Player.reads (p : Player) : Bool := p.state == 1 || p.state == 2 || p.state == 3

/-- The reserved rate of what a player reads. -/
def Chip.playerRate (c : Chip) (p : Player) : Nat := ((c.capSet p.set).chan p.ch).rate

/-- The reserved rates of a set's channels. -/
def CapSet.rates (x : CapSet) : List Nat := x.channels.map (fun k => (x.chan k).rate)

/-- The sum of the reserved rates in use, in bytes/s (R472): recording channels, reading players, and the channels of a replay. -/
def Chip.reservedRate (c : Chip) : Nat :=
  ((c.liveSets.map (fun i => (c.capSet i).rates.sum)).sum) + ((c.cap.players.map (fun e => if e.2.reads then c.playerRate e.2 else 0)).sum)
    + (match c.cap.replay with | some r => (c.capSet r.set).rates.sum | none => 0)

/-- Whether R472 still holds with `more` bytes/s. -/
def Chip.bandwidthOk (c : Chip) (more : Nat) : Bool :=
  decide (2 * (c.reservedRate + more) ≤ 120000000000) && decide (c.reservedRate + more ≤ c.admitted * 1000000)

/-- The free granules of the general region. -/
def Chip.freeGranules (c : Chip) : Nat := c.fld Reg.FST_GEN_FREE_GRANULES 0

/-- Takes granules from the general region. -/
def Chip.takeGranules (c : Chip) (n : Nat) : Chip := c.set Reg.FST_GEN_FREE_GRANULES 0 (c.freeGranules - n)

/-- Returns granules to the general region. -/
def Chip.giveGranules (c : Chip) (n : Nat) : Chip := c.set Reg.FST_GEN_FREE_GRANULES 0 (c.freeGranules + n)

/-- The staging buffers of a set's channels. -/
def CapSet.granules (x : CapSet) : Nat := (x.rates.map stagingGranules).sum

/-! ## Extents of a set (R458, R460) -/

/-- The bytes of an extent below its trailer. -/
def extentBytes : Nat := 268435456 - 4096

/-- The bytes of records. -/
def recordBytes (l : List CapRec) : Nat := (l.map (fun r => r.bytes.length)).sum

/-- The extents that a channel's ring fills. -/
def CapChan.extents (k : CapChan) : Nat := ceilDiv (recordBytes k.kept + recordBytes k.fresh) extentBytes

/-- The extents that a set has written, its control ring among them. -/
def CapSet.used (x : CapSet) : Nat := 1 + (x.channels.map (fun k => (x.chan k).extents)).sum

/-! ## Records (R463) -/

/-- Pads bytes with zeros to a multiple of `n`. -/
def padTo (n : Nat) (l : List Byte) : List Byte := l ++ List.replicate ((n - l.length % n) % n) 0

/-- The gap record. -/
def gapBytes (cause count first last : Nat) : List Byte :=
  padTo 16 (beBytes 1 3 ++ beBytes 1 cause ++ beBytes 2 0 ++ beBytes 4 (sat 32 count) ++ beBytes 8 first ++ beBytes 8 last)

/-- The room of a channel's staging buffer, in bytes. -/
def CapChan.room (k : CapChan) : Nat := stagingGranules k.rate * 65536

/-- The fill of a channel's staging buffer, per mille. -/
def CapChan.fill (k : CapChan) : Nat := recordBytes k.staged * 1000 / k.room

/-- Notes the fill. -/
def CapChan.notePeak (k : CapChan) : CapChan := { k with peak := max k.peak k.fill }

/-- `CAP_GAP`, once for a set and cause (R473). -/
def Chip.gapEvent (c : Chip) (set ch cause count : Nat) : Chip :=
  let c1 := c.count Reg.CAP_K_GAPS_COUNT ch count
  if (c.capSet set).causes.contains cause then c1
  else ((c1.modSet set (fun x => { x with causes := x.causes ++ [cause] })).mark Reg.CAP_STATUS_GAP_SEEN).event Ev.capGap
    [set + ch * 256 + cause * 65536, sat 32 count]

/-- Writes the gap record of the gathered losses (R473). -/
def Chip.writeGap (c : Chip) (set ch : Nat) : Chip :=
  match ((c.capSet set).chan ch).gap with
  | none => c
  | some (cause, count, first, last) =>
    (c.modSet set (fun x => { (x.modChan ch (fun k => ({ k with
        gap := none, lost := k.lost + count,
        staged := k.staged ++ [{ kind := 3, uptime := first, frame := count, bytes := gapBytes cause count first last }] } : CapChan).notePeak)) with
        gaps := true })).gapEvent set ch cause count

/-- Gathers a loss (R473): one of another cause than those gathered has its own gap record. -/
def Chip.loseRecords (c : Chip) (set ch cause count at_ : Nat) : Chip :=
  let c1 := match ((c.capSet set).chan ch).gap with
    | some (k, _) => if k = cause then c else c.writeGap set ch
    | none => c
  c1.modSet set (fun x => x.modChan ch (fun k => { k with gap := match k.gap with
    | some (_, n, first, _) => some (cause, n + count, first, at_)
    | none => some (cause, count, at_, at_) }))

/-- Whether a channel's staging buffer takes `n` more bytes. -/
def CapChan.takes (k : CapChan) (n : Nat) : Bool := decide (recordBytes k.staged + n ≤ k.room)

/-- A record passes from its channel into staging (R471), or is lost when the buffer is full (R473). -/
def Chip.stageRecord (c : Chip) (set ch : Nat) (r : CapRec) : Chip :=
  let k := (c.capSet set).chan ch
  let need := r.bytes.length + (if k.gap.isSome then 32 else 0)
  if k.takes need then
    (c.writeGap set ch).modSet set (fun x => x.modChan ch (fun k => ({ k with staged := k.staged ++ [r] } : CapChan).notePeak))
  else c.loseRecords set ch (if c.cap.hold then 3 else 2) 1 r.uptime

/-! ## Frame records -/

/-- What serves a level of a destination: source, origin device, path (R131). -/
def Chip.served (c : Chip) (d lvl : Nat) : Option (Nat × Option Nat × Path) :=
  match c.route d lvl with
  | none => none
  | some r =>
    match ((c.dst d).lvl lvl).state with
    | .normal => some (r.src, r.dev, r.path)
    | .hold => some (r.src, r.dev, r.path)
    | .alt => some (c.dstAlt d, none, ((c.dst d).lvl lvl).altPath)
    | _ => none

/-- The format of what serves the video level of a destination. -/
def Chip.servedAs (c : Chip) (d : Nat) : Option Format :=
  match c.served d 0 with
  | none => none
  | some (s, none, _) => c.srcFormat s
  | some (s, some dev, _) => ((c.spl.imports.find? (fun x => x.dev == dev && x.pair == pairKey (some dev) s (c.dstTd d))).map (fun x => x.format)).join

/-- The rows that a destination has sent of the frame in progress, in order of row number; black where a line did not come. -/
def Chip.sentRows (c : Chip) (d s : Nat) (f : Format) : List (List Nat) :=
  let rows : Tbl (List Nat) := (Tbl.get [] c.cap.lines d).foldl (fun t e => match sourceRow s f e.1 with
    | some r => Tbl.ins t r e.2.1
    | none => t) []
  (List.range f.height).map (fun r => match Tbl.find rows r with | some x => x | none => blackRow f)

/-- The check value of a frame in one field: that of the frame, or of the first field (assumption log); 0 for 4:4:4 and RGB. -/
def firstCheck (f : Format) (rows : List (List Nat)) : Nat := if f.sampling = 0 then (frameChecks f rows).headD 0 else 0

/-- The destination position of recorded audio channel `k` of a capture channel (R461). -/
def Chip.capAudioPos (c : Chip) (ch k : Nat) : Option Nat :=
  (c.listed tyDstCh).find? (fun p => u8 (c.record tyDstCh p) 2 == 7 && u16 (c.record tyDstCh p) 4 == 1536 + ch && u8 (c.record tyDstCh p) 6 == k)

/-- The recorded audio words of a channel for the frame in progress: up to the highest channel bound, silence for one not bound. -/
def Chip.capAudio (c : Chip) (ch : Nat) : List (List Nat) :=
  let ps := (List.range 64).map (c.capAudioPos ch)
  let n := ((List.range 64).filter (fun k => (ps.getD k none).isSome)).foldl (fun a k => max a (k + 1)) 0
  let words := (ps.take n).map (fun p => match p with | some q => Tbl.get [] c.cap.audio q | none => [])
  let len := words.foldl (fun a w => max a w.length) 0
  words.map (fun w => w ++ List.replicate (len - w.length) 0)

/-- The ancillary area of a frame record. -/
def ancArea (l : List (Nat × List Nat)) : List Byte :=
  l.flatMap (fun e => (splitAnc 256 e.2).flatMap (fun p => padTo 4 (beBytes 2 e.1 ++ beBytes 2 p.length ++ p.flatMap (fun w => beBytes 2 w))))

/-- The frame record of a channel for the frame that ends at this tick (R463). -/
def Chip.frameRecord (c : Chip) (ch : Nat) : CapRec :=
  let d := 1536 + ch
  let td := c.dstTd d
  let tick := c.dom td
  let up := (tick.tickAt - c.released) / 27
  let fmt := c.servedAs d
  let sv := c.served d 0
  let src := (sv.map (fun x => x.1)).getD noSource
  let rows := match fmt with | some f => c.sentRows d src f | none => []
  let video := match fmt with
    | some f => (rasterOrder f).flatMap (fun r => padTo 16 (packSamples f.depth (rows.getD r [])))
    | none => []
  let anc := ancArea ((Tbl.get [] c.cap.lines d).filterMap (fun e => if e.2.2 = [] then none else some (e.1, e.2.2)))
  let audio := c.capAudio ch
  let len := (audio.headD []).length
  let frameSrc := match sv with
    | some (s, none, .frame) => some s
    | _ => none
  let dec := match frameSrc with | some s => c.decision s td | none => Decision.reset
  let latched := match frameSrc with | some s => c.latchedOf s td | none => none
  let damaged := match frameSrc, latched with | some s, some (b, _) => decide (((c.sync s).buf b).subst ≠ []) | _, _ => false
  let lv := (c.dst d).video
  let flags := flag dec.repeated + 2 * flag dec.dropped + 4 * flag damaged + 8 * flag lv.fallen + 16 * flag (lv.state == .await)
  let areas := video ++ anc ++ audio.flatMap (fun w => w.flatMap (fun v => beBytes 4 v))
  let g := fmt.getD ⟨0, 0, 0, 0, 0, 0⟩
  let total := (64 + areas.length + 15) / 16 * 16
  { kind := 1, uptime := up, frame := tick.frame,
    bytes := padTo 16 (beBytes 1 1 ++ beBytes 1 flags ++ beBytes 2 0 ++ beBytes 4 total ++ beBytes 8 tick.frame ++ beBytes 8 up ++ beBytes 2 src
      ++ beBytes 2 g.width ++ beBytes 2 g.height ++ beBytes 1 g.scan ++ beBytes 1 g.sampling ++ beBytes 1 g.depth ++ beBytes 1 audio.length
      ++ beBytes 2 len ++ beBytes 4 video.length ++ beBytes 4 anc.length
      ++ beBytes 4 (match fmt with | some f => firstCheck f rows | none => 0)
      ++ beBytes 8 (match latched with | some (_, n) => n | none => 2 ^ 64 - 1) ++ areas) }

/-! ## Packet records -/

/-- The packet record of a packet at the flow watch tap (R463). -/
def packetRecord (pathB ancFlow dup : Bool) (arrival : Nat) (udp : List Byte) : CapRec :=
  { kind := 2, uptime := arrival, frame := 0,
    bytes := padTo 16 (beBytes 1 2 ++ beBytes 1 (flag pathB + 2 * flag ancFlow + 4 * flag dup) ++ beBytes 2 udp.length ++ beBytes 8 arrival
      ++ beBytes 4 0 ++ udp) }

/-- A packet of a source's flow reaches the flow watch tap: the packet-level channels that the source is routed to record it on the paths they
name (R461, R462). -/
def Chip.capPacket (c : Chip) (s : Nat) (ancFlow pathB dup : Bool) (udp : List Byte) : Chip :=
  c.liveSets.foldl (fun a i =>
    ((a.capSet i).channels.filter (fun k =>
      let x := (a.capSet i).chan k
      x.level == 1 && bit x.paths (if pathB then 1 else 0) && (match a.served (1536 + k) 0 with | some (r, none, _) => r == s | _ => false))).foldl
      (fun b k => b.stageRecord i k (packetRecord pathB ancFlow dup b.uptime udp)) a) c

/-! ## Snapshots (R464, R470) -/

/-- Bytes 4 to 19 of a channel's table entry, for the routes as they stand. -/
def Chip.routeEntry (c : Chip) (ch : Nat) : List Byte :=
  let d := 1536 + ch
  let dev := match c.route d 0 with | some r => r.dev.getD 0xFFFF | none => 0xFFFF
  let f := (c.servedAs d).getD ⟨0, 0, 0, 0, 0, c.tdRate (c.dstTd d)⟩
  beBytes 2 (c.routeSrc d 0) ++ beBytes 2 (c.routeSrc d 1) ++ beBytes 2 (c.routeSrc d 2) ++ beBytes 2 dev ++ beBytes 2 f.width ++ beBytes 2 f.height
    ++ beBytes 1 f.scan ++ beBytes 1 f.sampling ++ beBytes 1 f.depth ++ beBytes 1 f.rate

/-- The route parts of a snapshot of a set: the three routes and paths of every channel and watched destination. -/
def Chip.snapRoutes (c : Chip) (x : CapSet) : List (List Nat) :=
  (x.channels.map (fun k => 1536 + k) ++ x.watched.filter isExternalDst).flatMap (fun d => [0, 1, 2].map (fun l =>
    let r := c.route d l
    1 :: ctlTakeWords d (c.routeSrc d l) (match r with | some v => v.dev | none => none) (2 ^ l)
      (match r with | some v => Path.code v.path | none => 0) 7 (c.dom (c.dstTd d)).frame))

/-- The queue entry parts of a snapshot. -/
def Chip.snapQueue (c : Chip) (x : CapSet) : List (List Nat) :=
  (c.xpt.queue.filter (fun q => x.follows q.dst)).map (fun q =>
    let nb := q.notBefore.getD (0, 0)
    [2, q.id / 4294967296, q.id, q.dst * 65536 + q.src, q.dev.getD 0xFFF % 4096 + q.levels * 65536, nb.1 / 4294967296, nb.1, nb.2])

/-- The layout records of a snapshot: one for each layer record in force of every watched composer. -/
def Chip.snapLayouts (c : Chip) (x : CapSet) : List (List Nat) :=
  ((List.range 32).filter (fun i => x.watched.contains (0x8000 + i))).flatMap (fun i =>
    let ls := (List.range 16).filter (fun l => (c.layer i l).record != [])
    ls.zipIdx.map (fun p => [i + p.1 * 256 + flag (p.2 + 1 == ls.length) * 65536, c.fld Reg.CMP_C_LAYOUT_ID_ID i] ++ wordsOf (c.layer i p.1).record))

/-- Writes a snapshot of a set (R464). -/
def Chip.snapshot (c : Chip) (i : Nat) : Chip :=
  let x := c.capSet i
  let parts := c.snapRoutes x ++ c.snapQueue x
  let layouts := c.snapLayouts x
  let c1 := c.ctl i Ev.capCtlSnapshot [0, parts.length + layouts.length]
  let c2 := parts.foldl (fun a w => a.ctl i Ev.capCtlSnapshot w) c1
  let c3 := layouts.foldl (fun a w => a.ctl i Ev.capCtlLayout w) c2
  x.channels.foldl (fun a k => a.modSet i (fun y => y.modChan k (fun v => { v with snaps := v.snaps ++ [(c.uptime, c.routeEntry k)] })))
    (c3.modSet i (fun y => { y with snapAt := c.uptime }))

/-! ## The kept recording (R465 to R467) -/

/-- `PRE_MS` and `POST_MS` of a set. -/
def CapSet.preMs (x : CapSet) : Nat := u32 x.body 12
def CapSet.postMs (x : CapSet) : Nat := u32 x.body 16

/-- The uptimes of the snapshots kept. -/
def CapSet.snapTimes (x : CapSet) : List Nat := match x.channels with | k :: _ => (x.chan k).snaps.map Prod.fst | [] => []

/-- Where a recording kept for a trigger at uptime `t` begins (R467). -/
def CapSet.startFor (x : CapSet) (t : Nat) : Nat :=
  (x.snapTimes.filter (fun u => decide (u + x.preMs * 1000000 ≤ t))).foldl max x.armedAt

/-- Releases what lies before uptime `from_`. -/
def CapSet.trim (x : CapSet) (from_ : Nat) : CapSet :=
  let keep := fun (r : CapRec) => decide (from_ ≤ r.uptime)
  { x with
    ctl := x.ctl.filter (fun r => decide (from_ ≤ r.uptime)),
    chans := x.chans.map (fun (e : Nat × CapChan) => (e.1, { e.2 with
      kept := e.2.kept.filter keep, fresh := e.2.fresh.filter keep, staged := e.2.staged.filter keep,
      snaps := e.2.snaps.filter (fun p => decide (from_ ≤ p.1)) })) }

/-- Releases what lies behind uptime `to_`. -/
def CapSet.cut (x : CapSet) (to_ : Nat) : CapSet :=
  let keep := fun (r : CapRec) => decide (r.uptime ≤ to_)
  { x with chans := x.chans.map (fun (e : Nat × CapChan) => (e.1, { e.2 with
      kept := e.2.kept.filter keep, fresh := e.2.fresh.filter keep, staged := e.2.staged.filter keep })) }

/-! ## The header (R469, R470) -/

/-- A field of a header: offset and bytes. -/
def layFields (n : Nat) (fs : List (Nat × List Byte)) : List Byte := fs.foldl (fun a f => putAt a f.1 f.2) (List.replicate n 0)

/-- The channel table entry of a channel (R470); `set` numbers the ring whose first extent it names. -/
def CapSet.entry (x : CapSet) (set k : Nat) : List Byte :=
  if x.channels.contains k then
    let v := x.chan k
    let recs := v.kept.filter (fun r => r.kind != 3)
    let snap := match v.snaps.find? (fun p => p.1 == x.startAt) with | some p => p.2 | none => (v.snaps.headD (0, List.replicate 16 0)).2
    layFields 64 [(0, beBytes 1 k), (1, beBytes 1 v.level), (2, beBytes 1 v.paths), (4, snap),
      (20, beBytes 4 (Config.firstExtent set (k + 1))), (24, beBytes 4 v.extents), (28, beBytes 8 recs.length), (36, beBytes 8 v.lost),
      (44, beBytes 8 (if v.level = 1 then 2 ^ 64 - 1 else match recs with | r :: _ => r.frame | [] => 2 ^ 64 - 1))]
  else layFields 64 [(0, [255])]

/-- The first 2,688 bytes of a set's header; the rest of its 16 KiB is 0 (R469). -/
def Chip.headerOf (c : Chip) (set : Nat) : List Byte :=
  let x := c.capSet set
  layFields 2688 ([(0, beBytes 4 0x544B4353), (4, beBytes 2 1), (6, beBytes 1 x.state), (7, beBytes 1 x.cause), (8, beBytes 4 (c.fld Reg.BOOT_DEV_ID_ID 0)),
    (12, beBytes 4 (c.fld Reg.BOOT_REV_ID_REV 0)), (16, beBytes 2 x.devId), (18, beBytes 1 x.td), (19, beBytes 1 x.rate),
    (20, beBytes 4 (flag x.dirty + 2 * flag x.gaps + 4 * flag x.full)), (24, x.fwDigest), (88, x.setDigest), (152, beBytes 8 x.trigSec),
    (160, beBytes 4 x.trigNs), (168, beBytes 8 (x.trig.getD 0)), (176, beBytes 8 x.startAt), (184, beBytes 8 x.endAt), (192, bytesAt x.body 12 8),
    (200, beBytes 4 (Config.firstExtent set 0)), (208, beBytes 1 (u8 x.body 20))]
    ++ (List.range 32).map (fun k => (512 + 64 * k, x.entry set k))
    ++ x.watched.zipIdx.map (fun p => (2560 + 4 * p.2, beBytes 2 p.1)))

/-- Commits the header of a set and the trailers of its rings (R468). -/
def Chip.commitSet (c : Chip) (i : Nat) : Chip :=
  let c1 := c.modSet i (fun x => { x with
    committedAt := c.uptime, chans := x.chans.map (fun (e : Nat × CapChan) => (e.1, { e.2 with kept := e.2.kept ++ e.2.fresh, fresh := [] })) })
  { c1 with cap := { c1.cap with headers := Tbl.put [] c1.cap.headers i (c1.headerOf i) } }

/-! ## Closing (R467, R468) -/

/-- Closes a set: what it holds no more returns, and the header is committed in the state given. -/
def Chip.closeSet (c : Chip) (i state : Nat) : Chip :=
  let x := c.capSet i
  let c1 := if x.live then c.giveGranules x.granules else c
  let c2 := c1.modSet i (fun y =>
    let z := { y with chans := y.chans.map (fun (e : Nat × CapChan) => (e.1, { e.2 with staged := [], gap := none })), state := state }
    { z with reserved := z.used })
  c2.commitSet i

/-- The set ends its recording at uptime `to_`: its last records are written, and it is `COMPLETE` (R467). -/
def Chip.completeSet (c : Chip) (i to_ : Nat) : Chip :=
  let x := c.capSet i
  let c1 := x.channels.foldl (fun a k => a.writeGap i k) c
  let start := if x.state = 1 then x.startFor to_ else x.startAt
  let c2 := c1.modSet i (fun y => ({ ((y.trim start).cut to_) with startAt := start, endAt := to_ }))
  let c3 := x.channels.foldl (fun a k =>
    (a.countWrap Reg.CAP_K_RECORDS_COUNT k (((a.capSet i).chan k).staged.filter (fun r => r.kind != 3)).length).modSet i (fun y =>
      y.modChan k (fun v => { v with fresh := v.fresh ++ v.staged, staged := [] }))) c2
  c3.closeSet i 3

/-- Closes every set that records as `INTERRUPTED` at its last commit (R468); causes of R672: 1 reset, 2 warm restart, 3 activation, 4 drive
failure. The records written since that commit, and those in staging, are lost. -/
def Chip.interruptSets (c : Chip) (cause : Nat) : Chip :=
  c.liveSets.foldl (fun a i =>
    let start := (a.capSet i).startAt
    let b := a.modSet i (fun y => { y with
      endAt := y.committedAt, startAt := if y.state = 1 then y.startFor y.committedAt else start,
      chans := y.chans.map (fun (e : Nat × CapChan) => (e.1, { e.2 with fresh := [], staged := [] })) })
    let at_ := (b.capSet i).committedAt
    ((b.closeSet i 4).modSet i (fun y => { y with committedAt := at_ })).event Ev.capSetInterrupted [i + cause * 256]) c

/-! ## Triggers (R466) -/

/-- A cause occurs for a set (1 pin, 2 message, 3 event) at uptime `t` and its device time. -/
def Chip.trigger (c : Chip) (i cause t sec ns : Nat) : Chip :=
  let x := c.capSet i
  if x.state = 1 then
    let start := x.startFor t
    c.modSet i (fun y => ({ (y.trim start) with state := 2, cause := cause, trig := some t, trigSec := sec, trigNs := ns, startAt := start }))
  else if x.state = 2 ∧ x.trig = some t ∧ cause < x.cause then c.modSet i (fun y => { y with cause := cause })
  else if x.state = 0 then c
  else c.modSet i (fun y => { y with ignored := min (y.ignored + 1) 0xFFFF })

/-- A cause occurs now. -/
def Chip.triggerNow (c : Chip) (i cause : Nat) : Chip := c.trigger i cause c.uptime (secOf c.deviceQ) (nsOf c.deviceQ)

/-- The causes that a set enables: bit 0 pin, bit 1 message, bit 2 event. -/
def CapSet.causeOn (x : CapSet) (k : Nat) : Bool := bit (u8 x.body 1) k

/-- A record written to the event recorder is a cause for the sets that wait for it (R466). -/
def Chip.trigByEvent (c : Chip) (r : Rec) : Chip :=
  (c.cap.sets.filter (fun e => e.2.causeOn 2 && e.2.state != 0 && r.ctl.isNone && u8 e.2.body 8 == r.block
      && (u16 e.2.body 10 == 0x3FFF || u16 e.2.body 10 == r.code) && decide (u8 e.2.body 3 ≤ r.sev))).foldl
    (fun a e => a.trigger e.1 3 r.uptime r.sec r.ns) c

/-! ## What a tick brings -/

/-- The audio words of a watched destination for the frame in progress, in channel order. -/
def Chip.watchAudio (c : Chip) (d : Nat) : List Nat := (c.audMap d).flatMap (fun e => Tbl.get [] c.cap.audio e.2)

/-- The video check value of a watched output for the frame that ends: composers as composed, destinations as sent, after any conversion (R265). -/
def Chip.watchVideo (c : Chip) (w : Nat) : Nat :=
  if 0x8000 ≤ w then Tbl.get 0 c.cap.composed (w - 0x8000)
  else
    let out := c.dstFormat w
    match c.servedAs w, (c.served w 0).map (fun x => x.1) with
    | some f, some s =>
      let g := out.getD f
      firstCheck g ((c.sentRows w s f).map (convertRow f g))
    | _, _ => match out with | some g => firstCheck g ((List.range g.height).map (fun _ => blackRow g)) | none => 0

/-- The frame of a domain ends: check values of the watched outputs (R464) and frame records (R461) of the sets that record. -/
def Chip.capFrameEnd (c : Chip) (td : Nat) : Chip :=
  let x := c.dom td
  let whole := fun (y : CapSet) => y.td == td && decide (y.armedAt ≤ (x.tickAt - c.released) / 27)
  let mine := c.liveSets.filter (fun i => whole (c.capSet i))
  let c1 := mine.foldl (fun a i => ((a.capSet i).watched).foldl (fun b w =>
    b.ctl i Ev.capCtlWatch [w, x.frame / 4294967296 % 65536, x.frame, c.watchVideo w,
      crc32c ((if w < 1024 then c.watchAudio w else []).flatMap (fun v => (beBytes 4 v).map BitVec.toNat))]) a) c
  let c2 := mine.foldl (fun a i => (((a.capSet i).channels).filter (fun k => ((a.capSet i).chan k).level == 0)).foldl (fun b k =>
    b.stageRecord i k (c.frameRecord k)) a) c1
  let gone := fun (d : Nat) => c.dstTd d == td
  { c2 with cap := { c2.cap with
      lines := c2.cap.lines.filter (fun e => !(gone e.1)),
      composed := c2.cap.composed.filter (fun e => c.cmpTd e.1 != td),
      audio := c2.cap.audio.filter (fun e => !(match c.audBind true e.1 with
        | some b => u8 b.1 2 == 7 && c.dstTd (u16 b.1 4) == td
        | none => false) && !(match c.mapOwner e.1 with | some d => c.dstTd d == td | none => false)) } }

/-- A tick of a domain: `CAP_CTL_TICK`, the snapshot of each whole second since arming, and what the pre-trigger ring releases (R464, R465). -/
def Chip.capTick (c : Chip) (td : Nat) : Chip :=
  (c.liveSets.filter (fun i => (c.capSet i).td == td)).foldl (fun a i =>
    let x := a.capSet i
    let b := a.ctl i Ev.capCtlTick [(a.dom td).frame / 4294967296 % 65536, (a.dom td).frame]
    let d := if (x.snapAt - x.armedAt) / 1000000000 < (a.uptime - x.armedAt) / 1000000000 then b.snapshot i else b
    if x.state = 1 then d.modSet i (fun y => y.trim (y.startFor a.uptime)) else d) c

/-- The destination positions whose words the capture store gathers: recorded audio channels and mapped words of watched outputs. -/
def Chip.capPositions (c : Chip) : List Nat :=
  dedup (c.liveSets.flatMap (fun i => (c.capSet i).channels.flatMap (fun k => (List.range 64).filterMap (c.capAudioPos k))
    ++ ((c.capSet i).watched.filter isExternalDst).flatMap (fun d => (c.audMap d).map Prod.snd)))

/-- The word of a destination position at a house sample tick joins the frame in progress. -/
def Chip.noteWord (c : Chip) (pos word : Nat) : Chip :=
  { c with cap := { c.cap with audio := Tbl.put [] c.cap.audio pos (Tbl.get [] c.cap.audio pos ++ [word]) } }

end Sys2Proof.Machine
end

