-- ==== Sys2Proof/Machine/Capture.lean ====
section
/-! DEFINITION. Capture requests, players and replay (R459, R465 to R482, R549). -/

namespace Sys2Proof.Machine

/-! ## Requests -/

/-- Answers a `CAPTURE` request of an operation (R549): another one's body has no effect here. `need` is its privilege; the checks of R482 come as `check`. -/
def Chip.capture (c : Chip) (slot need : Nat) (mine lenOk : Bool) (check : Chip → Option Nat) (f : Chip → Chip) : Chip :=
  if mine then c.request slot 0x0601 need false lenOk (fun c => match check c with
    | some code => c.refuse slot 0x0601 code wholeIndex
    | none => f c)
  else c

/-- The length of an arming request: the definition with its watch list padded to 4 bytes (R481). -/
def armLength (b : List Byte) : Nat := 28 + ceilDiv (2 * u8 b 24) 4 * 4

/-- Whether a field of a set definition is out of its range, or a reserved bit or byte is not 0 (R481). -/
def armBad (b : List Byte) : Bool :=
  let d := b.drop 4
  let n := u8 d 20
  !(zeroAt b 1 3) || decide (15 < u8 d 1) || decide (3 < u8 d 2) || decide (5 < u8 d 3) || u32 d 4 == 0 || decide (127 < u8 d 8) || u8 d 9 != 0
    || decide (0x3FFF < u16 d 10) || decide (600000 < u32 d 12) || decide (86400000 < u32 d 16) || decide (32 < n) || !(zeroAt d 21 3)
    || (List.range n).any (fun i => let w := u16 d (24 + 2 * i); !(decide (w < 1024) || within w 0x8000 0x801F))
    || !(zeroAt d (24 + 2 * n) (d.length - (24 + 2 * n)))

/-- The extents that an arming reserves (R481). -/
def Chip.armExtents (c : Chip) (d : List Byte) : Nat :=
  let rate := c.tdRate (u8 d 2)
  let ms := u32 d 12 + u32 d 16
  1 + (((List.range 32).filter (fun k => bit (u32 d 4) k)).map (fun k => ceilDiv (ms * c.channelRate k rate) 268435456000)).sum

/-- The checks of R482 on an arming. -/
def Chip.checkArm (c : Chip) (b : List Byte) : Option Nat :=
  let d := b.drop 4
  let chans := (List.range 32).filter (fun k => bit (u32 d 4) k)
  let rates := chans.map (fun k => c.channelRate k (c.tdRate (u8 d 2)))
  firstCode [(armBad b, 0x0F01), (!c.cap.ready, 0x0F02), ((c.capSet (u8 d 0)).state != 0, 0x0F03),
    (chans.any (fun k => !(c.capOn k) || c.dstTd (1536 + k) != u8 d 2 || c.liveSets.any (fun i => (c.capSet i).channels.contains k)), 0x0F04),
    (decide (c.freeExtents < c.armExtents d), 0x0F05),
    (decide (c.freeGranules < (rates.map stagingGranules).sum), 0x0F06), (!(c.bandwidthOk rates.sum), 0x0F07)]

/-- Arms a set (R465, R471): its channels begin, a snapshot is written, and a set without a cause triggers at once (R466). -/
def Chip.armSet (c : Chip) (m : Tbl Byte) (b : List Byte) : Chip :=
  let d := b.drop 4
  let i := u8 d 0
  let rate := c.tdRate (u8 d 2)
  let chans := (List.range 32).filter (fun k => bit (u32 d 4) k)
  let x : CapSet := { CapSet.reset with
    state := 1, body := d, rate := rate, armedAt := c.uptime, startAt := c.uptime, dirty := c.boot.unsaved, fwDigest := c.fwDigest m,
    setDigest := c.setDigest m, reserved := c.armExtents d, devId := c.deviceId,
    chans := chans.map (fun k => (k, { CapChan.reset with
      level := c.capLevel k, paths := u8 (c.record tyCapCh k) 3 / 2 % 4, rate := c.channelRate k rate })) }
  let c1 := (c.modSet i (fun _ => x)).takeGranules x.granules
  let c2 := (c1.snapshot i).commitSet i
  if u8 d 1 % 8 = 0 then c2.trigger i 0 c.uptime (secOf c.deviceQ) (nsOf c.deviceQ) else c2

/-- ARM (R460, R465, R466, R471, R472, R481, R482): `CAPTURE` with `OP` 1; an `OP` the table does not list is refused (R482). -/
def execArm (t : Nat) (slot : Fin 16) (body : List Byte) (s : State) : Host.Outcome State Fault Refusal :=
  actMem t s (fun c m =>
    (if u8 body 0 = 1 then
       c.capture slot 1 true (decide (28 ≤ body.length) && decide (body.length = armLength body)) (fun c => c.checkArm body)
         (fun c => (c.armSet m body).done slot 0x0601 [])
     else c.capture slot 1 (u8 body 0 == 0 || decide (8 < u8 body 0)) true (fun _ => some 0x0F01) (fun c => c), m))

/-- The body of an operation on one set: `OP`, reserved bytes, `SET`, reserved bytes. -/
def setBodyBad (b : List Byte) : Bool := !(zeroAt b 1 3) || !(zeroAt b 5 3)

/-- TRIGGER (R466): a set that is not `ARMED` counts the cause as ignored and refuses the request. -/
def execTrigger (t : Nat) (slot : Fin 16) (body : List Byte) (s : State) : Host.Outcome State Fault Refusal :=
  act t s (fun c => c.capture slot 1 (u8 body 0 == 2) (decide (body.length = 8))
    (fun c => firstCode [(setBodyBad body, 0x0F01), (!c.cap.ready, 0x0F02), ((c.capSet (u8 body 4)).state == 0, 0x0F03)])
    (fun c =>
      let i := u8 body 4
      let on := (c.capSet i).causeOn 1
      let c1 := if on then c.triggerNow i 2 else c
      if (c.capSet i).state = 1 then c1.done slot 0x0601 [] else c1.refuse slot 0x0601 0x0F03 wholeIndex))

/-- STOP (R467): the recording ends now; while the supply hold keeps the last records in staging, the set closes after it (R468). -/
def execStop (t : Nat) (slot : Fin 16) (body : List Byte) (s : State) : Host.Outcome State Fault Refusal :=
  act t s (fun c => c.capture slot 1 (u8 body 0 == 3) (decide (body.length = 8))
    (fun c => firstCode [(setBodyBad body, 0x0F01), (!c.cap.ready, 0x0F02), (!(c.capSet (u8 body 4)).live, 0x0F03)])
    (fun c =>
      let i := u8 body 4
      (if c.cap.hold then c.modSet i (fun x => { x with endAt := c.uptime }) else c.completeSet i c.uptime).done slot 0x0601 []))

/-- Whether a player reads a set, or the replay does. -/
def Chip.setRead (c : Chip) (i : Nat) : Bool := c.cap.players.any (fun e => e.2.reads && e.2.set == i)

/-- DELETE (R476, R482). -/
def execDelete (t : Nat) (slot : Fin 16) (body : List Byte) (s : State) : Host.Outcome State Fault Refusal :=
  act t s (fun c => c.capture slot 3 (u8 body 0 == 4) (decide (body.length = 8))
    (fun c =>
      let i := u8 body 4
      firstCode [(setBodyBad body, 0x0F01), (!c.cap.ready, 0x0F02),
        (!((c.capSet i).state == 3 || (c.capSet i).state == 4) || (match c.cap.replay with | some r => r.set == i | none => false), 0x0F03),
        (c.setRead i, 0x0F04)])
    (fun c =>
      let i := u8 body 4
      ({ c with cap := { c.cap with sets := Tbl.del c.cap.sets i, headers := Tbl.del c.cap.headers i } } : Chip).done slot 0x0601 []))

/-- FORMAT (R459, R482): erases every set; the labels are written before FORMAT_DONE. -/
def execFormat (t : Nat) (slot : Fin 16) (body : List Byte) (s : State) : Host.Outcome State Fault Refusal :=
  act t s (fun c => c.capture slot 3 (u8 body 0 == 5) (decide (body.length = 4))
    (fun c => firstCode [(!(zeroAt body 1 3), 0x0F01), (c.enabledDrives == [], 0x0F02),
      (c.liveSets != [] || c.cap.players.any (fun e => e.2.reads) || c.cap.replay.isSome || c.cap.format.isSome, 0x0F03)])
    (fun c =>
      let j : FlashJob := { slot := slot, session := (c.session slot).id, reqSeq := c.reqSeq slot, entry := 0, inUse := false, ceiling := 0, key := [] }
      (({ c with cap := { c.cap with format := some j, ready := false, sets := [], headers := [] } } : Chip).set Reg.CAP_STATUS_STORE_READY 0 0).started
        slot 0x0601 []))

/-- FORMAT_DONE (R459): every enabled drive that answers carries the label of a new store, whose identifier the spec leaves open. -/
def execFormatDone (t : Nat) (s : State) : Host.Outcome State Fault Refusal :=
  act t s (fun c =>
    match c.cap.format with
    | none => c
    | some j =>
      let id := c.openVal 64
      let c1 := c.enabledDrives.foldl (fun a l => a.modDrive l (fun d => if d.present ∧ d.failed = false then { d with label := some id } else d)) c.nextFree
      let ok := c1.labelsAgree
      let c2 : Chip := { c1 with cap := { c1.cap with format := none, store := id, ready := ok } }
      (c2.set Reg.CAP_STATUS_STORE_READY 0 (flag ok)).opDone j.slot j.session j.reqSeq (statusOf (if ok then 0 else 0x0F02) wholeIndex))

/-! ## Kept frames (R474, R475) -/

/-- The kept frames of an essence-level channel, each with the number of frames that a gap loses behind it. -/
def essenceFrames (l : List CapRec) : List (List CapRec × Nat) :=
  (l.foldl (fun a r =>
    if r.kind = 1 then ([r], 0) :: a
    else match a with
      | (f, n) :: rest => (f, n + r.frame) :: rest
      | [] => []) []).reverse

/-- The RTP packet of a packet record. -/
def recRtp (r : CapRec) : Rtp := readRtp (bytesAt r.bytes 16 (u16 r.bytes 2))

/-- The RTP timestamp of a frame's packets. -/
def frameTs (l : List CapRec) : Nat := match l with | r :: _ => (recRtp r).ts | [] => 0

/-- Adds a packet to the frames, newest first: to one of the latest two of its timestamp, else it begins a frame. -/
def addPacket (frames : List (List CapRec × Nat)) (r : CapRec) : List (List CapRec × Nat) :=
  let ts := (recRtp r).ts
  match frames with
  | (f, n) :: rest =>
    if frameTs f = ts then (f ++ [r], n) :: rest
    else match rest with
      | (g, k) :: older => if frameTs g = ts then (f, n) :: (g ++ [r], k) :: older else ([r], 0) :: frames
      | [] => ([r], 0) :: frames
  | [] => [([r], 0)]

/-- The frames that the timestamps of two frames leave between them at a rate. -/
def framesBetween (rate a b : Nat) : Nat :=
  (roundDiv ((((b + 4294967296 - a) % 4294967296 : Nat) : Int) * 27000000000) (90000 * framePeriod rate)).toNat - 1

/-- The kept frames of a packet-level channel: packets of the video flow and of its ancillary flow by timestamp, without those that merging discards; a gap
repeats the frame before it as often as the timestamps tell (R256, R475). -/
def packetFrames (rate : Nat) (l : List CapRec) : List (List CapRec × Nat) :=
  let r := l.foldl (fun (a : List (List CapRec × Nat) × Bool) r =>
    if r.kind = 3 then (a.1, true)
    else if bit (u8 r.bytes 1) 2 then a
    else
      let fs := addPacket a.1 r
      if fs.length = a.1.length then (fs, a.2)
      else match fs with
        | f :: (g, _) :: rest => if a.2 then (f :: (g, framesBetween rate (frameTs g) (frameTs f.1)) :: rest, false) else (fs, false)
        | _ => (fs, false)) ([], false)
  r.1.reverse

/-- The kept frames of a channel of a set. -/
def CapSet.frames (x : CapSet) (ch : Nat) : List (List CapRec × Nat) :=
  if (x.chan ch).level = 0 then essenceFrames (x.chan ch).kept else packetFrames x.rate (x.chan ch).kept

/-- The ancillary area of a frame record, packet by packet. -/
def readAncArea : Nat → List Byte → List (Nat × List Nat)
  | 0, _ => []
  | n + 1, b =>
    if b.length < 4 then []
    else
      let k := u16 b 2
      (u16 b 0, (List.range k).map (fun i => u16 b (4 + 2 * i))) :: readAncArea n (b.drop ((4 + 2 * k + 3) / 4 * 4))

/-- The frame that a frame record holds: format, rows in order of row number, ancillary packets, audio words by channel. -/
def readFrame (rate : Nat) (b : List Byte) : Option Format × List (List Nat) × List (Nat × List Nat) × List (List Nat) :=
  let f : Format := ⟨u16 b 26, u16 b 28, u8 b 30, u8 b 31, u8 b 32, rate⟩
  let area := b.drop 64
  let lb := (lineBytes f + 15) / 16 * 16
  let order := rasterOrder f
  let n := if f.sampling = 0 then 2 * f.width else 3 * f.width
  let rows : Tbl (List Nat) := order.zipIdx.foldl (fun t p => Tbl.ins t p.1 ((unpackSamples f.depth (bytesAt area (lb * p.2) (lineBytes f))).take n)) []
  let anc := readAncArea 4096 (bytesAt area (u32 b 36) (u32 b 40))
  let au := area.drop (u32 b 36 + u32 b 40)
  let len := u16 b 34
  (if f.width = 0 then none else some f, rows.map Prod.snd, anc,
    (List.range (u8 b 33)).map (fun k => (List.range len).map (fun i => u32 au (4 * (k * len + i)))))

/-- The format with which a packet-level channel was recorded: that of its table entry. -/
def CapSet.startFormat (x : CapSet) (ch : Nat) : Option Format :=
  match (x.chan ch).snaps with
  | (_, e) :: _ => if u16 e 8 = 0 then none else some ⟨u16 e 8, u16 e 10, u8 e 12, u8 e 13, u8 e 14, u8 e 15⟩
  | [] => none

/-- The segments that the packets of a frame bring to a row: place and bytes. -/
def rowSegments (f : Format) (ps : List CapRec) (row : Nat) : List (Nat × List Byte) :=
  (ps.filter (fun r => !(bit (u8 r.bytes 1) 1))).flatMap (fun r =>
    ((readRows (recRtp r).payload).filter (fun x => rowInside f x && (if f.scan = 0 then x.row else 2 * x.row + flag x.second) == row)).map
      (fun x => (x.pixel * pixelBits f / 8, x.data)))

/-- A frame rebuilt from packet records: a row that is not whole is copied from the frame shown before, black without one (R122, R123, R475). -/
def rebuildFrame (f : Format) (before : List (List Nat)) (ps : List CapRec) : List (List Nat) :=
  (List.range f.height).map (fun row =>
    let segs := rowSegments f ps row
    if coverFrom segs (segs.length + 1) 0 < lineBytes f then (match before[row]? with | some r => r | none => blackRow f)
    else (unpackSamples f.depth (joinSegments (lineBytes f) segs)).take (if f.sampling = 0 then 2 * f.width else 3 * f.width))

/-- The ancillary packets of a frame rebuilt from packet records. -/
def rebuildAnc (ps : List CapRec) : List (Nat × List Nat) :=
  (ps.filter (fun r => bit (u8 r.bytes 1) 1)).flatMap (fun r => readAnc (recRtp r).payload (u8 (recRtp r).payload 4) 8)

/-- A player takes up a kept frame. -/
def Player.load (p : Player) (x : CapSet) (i : Nat) : Player :=
  match (x.frames p.ch)[i]? with
  | none => p
  | some (recs, _) =>
    if (x.chan p.ch).level = 0 then
      match recs with
      | r :: _ => let v := readFrame x.rate r.bytes; { p with format := v.1, rows := v.2.1, anc := v.2.2.1, audio := v.2.2.2 }
      | [] => p
    else match x.startFormat p.ch with
      | some f => { p with format := some f, rows := rebuildFrame f p.rows recs, anc := rebuildAnc recs, audio := [] }
      | none => p

/-! ## Players (R474 to R476) -/

/-- Changes a player. -/
def Chip.modPlayer (c : Chip) (n : Nat) (f : Player → Player) : Chip :=
  { c with cap := { c.cap with players := Tbl.upd Player.reset c.cap.players n f } }

/-- Gives a player a new value; its staging buffer returns when it no longer reads (R471). -/
def Chip.setPlayer (c : Chip) (n : Nat) (p : Player) : Chip :=
  let was := c.player n
  let c1 := c.modPlayer n (fun _ => p)
  if was.reads && !p.reads then c1.giveGranules (stagingGranules (c.playerRate was)) else c1

/-- The domain of a player. -/
def Chip.playerTd (c : Chip) (n : Nat) : Nat := u8 (c.record tyPlayers n) 1

/-- The checks of R474 and R482 on a `PLAY`. -/
def Chip.checkPlay (c : Chip) (b : List Byte) : Option Nat :=
  let n := u8 b 4
  let x := c.capSet (u8 b 5)
  let closed := x.state == 3 || x.state == 4
  let rate := (x.chan (u8 b 6)).rate
  firstCode [(!(zeroAt b 1 3) || decide (31 < n) || decide (31 < u8 b 6) || decide (2 < u8 b 7) || decide (999999999 < u32 b 12)
      || (closed && (!(x.channels.contains (u8 b 6)) || decide ((x.frames (u8 b 6)).length ≤ u32 b 8))), 0x0F01),
    (!c.cap.ready, 0x0F02), (!closed || !(c.playerOn n) || !((c.player n).state == 0 || (c.player n).state == 4), 0x0F03),
    (c.tdRate (c.playerTd n) != x.rate, 0x0210),
    (decide (c.freeGranules < stagingGranules rate), 0x0F06), (!(c.bandwidthOk rate), 0x0F07)]

/-- PLAY (R474): the player is `CUED` until its first tick at least 1.0 ms after acceptance and at or after the not-before time. -/
def execPlay (t : Nat) (slot : Fin 16) (body : List Byte) (s : State) : Host.Outcome State Fault Refusal :=
  act t s (fun c => c.capture slot 1 (u8 body 0 == 6) (decide (body.length = 24)) (fun c => c.checkPlay body) (fun c =>
    let x := c.capSet (u8 body 5)
    let p : Player := { c.player (u8 body 4) with
      state := 1, set := u8 body 5, ch := u8 body 6, mode := u8 body 7, start := u32 body 8, index := u32 body 8, times := 0,
      next := [(1, c.now + msU 1, some (u64 body 16, u32 body 12))] }
    ((c.setPlayer (u8 body 4) (p.load x (u32 body 8))).takeGranules (stagingGranules (x.chan (u8 body 6)).rate)).done slot 0x0601 []))

/-- A player control (R476): accepted in the states given, it waits for the player's tick. -/
def Chip.playerControl (c : Chip) (slot : Nat) (b : List Byte) (ctl what : Nat) (states : List Nat) : Chip :=
  c.capture slot 1 (u8 b 0 == 7 && u8 b 5 == ctl) (decide (b.length = 8))
    (fun c => firstCode [(!(zeroAt b 1 3) || decide (31 < u8 b 4) || !(zeroAt b 6 2), 0x0F01), (!c.cap.ready, 0x0F02),
      (!(states.contains (c.player (u8 b 4)).state), 0x0F03)])
    (fun c => (c.modPlayer (u8 b 4) (fun p => { p with next := p.next ++ [(what, c.now + msU 1, none)] })).done slot 0x0601 [])

/-- PAUSE (R476). -/
def execPause (t : Nat) (slot : Fin 16) (body : List Byte) (s : State) : Host.Outcome State Fault Refusal :=
  act t s (fun c => c.playerControl slot body 1 2 [2])

/-- RESUME (R476). -/
def execResume (t : Nat) (slot : Fin 16) (body : List Byte) (s : State) : Host.Outcome State Fault Refusal :=
  act t s (fun c => c.playerControl slot body 2 3 [3])

/-- STOP_PLAYER (R476); a `CTL` that R549 does not list is refused. -/
def execStopPlayer (t : Nat) (slot : Fin 16) (body : List Byte) (s : State) : Host.Outcome State Fault Refusal :=
  act t s (fun c =>
    (c.playerControl slot body 3 4 [1, 2, 3, 4]).capture slot 1 (u8 body 0 == 7 && (u8 body 5 == 0 || decide (3 < u8 body 5)))
      (decide (body.length = 8)) (fun _ => some 0x0F01) (fun c => c))

/-- The requests of a player that are due at this tick take effect, in order (R474, R476). -/
def Chip.playerDue (c : Chip) : Nat → Player → Player
  | 0, p => p
  | n + 1, p =>
    match p.next with
    | [] => p
    | (what, at_, nb) :: rest =>
      if at_ ≤ c.now ∧ c.timeReached nb c.now then
        let q := { p with next := rest }
        c.playerDue n (if what = 1 then { q with state := 2, index := q.start, times := 0 }
          else if what = 2 then (if q.state = 2 then { q with state := 3 } else q)
          else if what = 3 then (if q.state = 3 then { q with state := 2 } else q)
          else { q with state := 0, next := [], rows := [], anc := [], audio := [] })
      else p

/-- A playing player goes on to the frame of this tick: the next kept frame, a repeat that a gap asks for, or its end (R474, R475). -/
def Player.advance (p : Player) (x : CapSet) : Player :=
  let fs := x.frames p.ch
  let repeats := match fs[p.index]? with | some f => f.2 | none => 0
  if p.times = 0 then ({ p with times := 1 }).load x p.index
  else if p.times < 1 + repeats then { p with times := p.times + 1 }
  else if p.index + 1 < fs.length then ({ p with index := p.index + 1, times := 1 } : Player).load x (p.index + 1)
  else if p.mode = 2 then ({ p with index := p.start, times := 1 } : Player).load x p.start
  else if p.mode = 1 then { p with state := 4, rows := [], anc := [], audio := [] }
  else { p with state := 4, audio := [] }

/-- What a player supplies in a frame: its frame held, or black. -/
def Chip.showPlayer (c : Chip) (n : Nat) (p : Player) : Chip :=
  match p.format with
  | none => c
  | some f =>
    let rows := if p.rows = [] then (List.range f.height).map (fun _ => blackRow f) else p.rows
    (c.modSrc (1088 + n) (fun x => { x with format := some f })).internalFrame (1088 + n) f (rows.zipIdx.map (fun e => (rowAtLine f e.2, e.1))) p.anc

/-- A tick of a player's domain: `late` lists the players whose frame is not in staging or whose drive read has failed (R476). -/
def Chip.playTick (c : Chip) (late : List Nat) (n : Nat) : Chip :=
  let p := c.playerDue 64 (c.player n)
  if p.state = 5 then c
  else if p.state = 2 then
    if late.contains n then ((c.setPlayer n p).count Reg.CAP_P_REPEATS_COUNT n 1).showPlayer n p
    else let q := p.advance (c.capSet p.set); (c.setPlayer n q).showPlayer n q
  else (c.setPlayer n p).showPlayer n p

/-- The players of a domain at its tick; during a warm restart each repeats its last frame (R476). -/
def Chip.playersTick (c : Chip) (td : Nat) (late : List Nat) : Chip :=
  if c.fullIn td then
    ((List.range 32).filter (fun n => c.playerOn n && c.playerTd n == td)).foldl (fun a n =>
      if a.suspended then a.showPlayer n (a.player n) else a.playTick late n) c
  else c

/-- After a warm restart a player that played is `PAUSED` (R476). -/
def Chip.pausePlayers (c : Chip) : Chip :=
  { c with cap := { c.cap with players := c.cap.players.map (fun (e : Nat × Player) => (e.1, if e.2.state = 2 then { e.2 with state := 3 } else e.2)) } }

/-- The word of a player's recorded audio channel `k` at sample `i` of its frame (R475). -/
def Chip.playerWord (c : Chip) (n k i : Nat) : Nat :=
  let p := c.player n
  if p.state = 2 then (p.audio.getD k []).getD i 0 else 0

/-! ## Replay (R477 to R480) -/

/-- Returns the borrowed players and staging of a replay. -/
def Chip.endReplay (c : Chip) (state : Nat) : Chip :=
  match c.cap.replay with
  | none => c
  | some r =>
    let x := c.capSet r.set
    let c1 := x.channels.foldl (fun a k => a.modPlayer k (fun _ => Player.reset)) (c.giveGranules x.granules)
    ({ c1 with cap := { c1.cap with replay := none } } : Chip).set Reg.CAP_RP_STATE_STATE 0 state

/-- Stops a replay that runs. -/
def Chip.stopReplay (c : Chip) : Chip := c.endReplay 4

/-- The first condition of R478 that fails. -/
def Chip.approxCause (c : Chip) (m : Tbl Byte) (x : CapSet) (header : List Byte) : Nat :=
  if x.fwDigest != c.fwDigest m then 1 else if x.setDigest != c.setDigest m then 2 else if x.dirty then 3
  else if u32 header 12 != c.fld Reg.BOOT_REV_ID_REV 0 then 4 else if x.state != 3 || x.gaps then 5 else 0

/-- REPLAY (R472, R477, R478, R480). -/
def execReplay (t : Nat) (slot : Fin 16) (body : List Byte) (s : State) : Host.Outcome State Fault Refusal :=
  actMem t s (fun c m =>
    (c.capture slot 2 (u8 body 0 == 8) (decide (body.length = 8))
      (fun c =>
        let x := c.capSet (u8 body 4)
        firstCode [(setBodyBad body, 0x0F01), (!c.cap.ready, 0x0F02), (!(x.state == 3 || x.state == 4) || c.cap.replay.isSome, 0x0F03),
          (x.channels.any c.playerOn || (List.range 32).any (fun i => x.watched.contains (0x8000 + i) && c.cmpOn i), 0x0F04),
          (decide (c.freeGranules < x.granules), 0x0F06), (!(c.bandwidthOk x.rates.sum), 0x0F07)])
      (fun c =>
        let i := u8 body 4
        let x := c.capSet i
        let cause := c.approxCause m x (Tbl.get [] c.cap.headers i)
        let r : Replay := { set := i, cause := cause, index := 0, notBefore := c.now, slot := slot, session := (c.session slot).id }
        let c1 := c.clearAll [Reg.CAP_RP_FRAMES_COUNT, Reg.CAP_RP_MISMATCH_COUNT, Reg.CAP_RP_FIRST_INDEX, Reg.CAP_RP_UNCOMPARED_COUNT]
        let c2 := x.channels.foldl (fun a k => a.modPlayer k (fun _ => { Player.reset with state := 5, set := i, ch := k })) (c1.takeGranules x.granules)
        let c3 : Chip := { c2 with cap := { c2.cap with replay := some r } }
        (((c3.set Reg.CAP_RP_STATE_STATE 0 1).set Reg.CAP_RP_STATE_APPROX_CAUSE 0 cause).set Reg.CAP_RP_STATE_SET 0 i).started slot 0x0601 []), m))

/-- The ticks of a kept recording: their control ring entries. -/
def CapSet.ticks (x : CapSet) : List Rec :=
  x.ctl.filter (fun r => r.block == 15 && r.code == 5 && decide (x.startAt ≤ r.uptime) && decide (r.uptime ≤ x.endAt))

/-- The route of a destination's level in the recording just before uptime `u`, as the control ring tells it: source, origin device, path. -/
def CapSet.routeAt (x : CapSet) (d lvl u : Nat) : Nat × Nat × Nat :=
  (x.ctl.filter (fun r => decide (r.uptime < u))).foldl (fun a r =>
    let w := if r.block = 15 ∧ r.code = 7 then r.payload else if r.block = 15 ∧ r.code = 6 ∧ r.payload.getD 0 0 = 1 then r.payload.drop 1 else []
    if w != [] && w.getD 0 0 / 65536 % 2048 == d && bit (w.getD 1 0 / 65536) lvl then
      (w.getD 0 0 % 2048, w.getD 1 0 % 4096, w.getD 1 0 / 1048576 % 4)
    else a) (noSource, 0xFFF, 0)

/-- The channel of a set that records the source of a route on the same path. -/
def CapSet.channelOf (x : CapSet) (r : Nat × Nat × Nat) (u : Nat) : Option Nat :=
  x.channels.find? (fun k => let q := x.routeAt (1536 + k) 0 u; q.1 == r.1 && q.2.1 == r.2.1 && q.2.2 == r.2.2)

/-- Whether a watched destination is covered (R479). -/
def CapSet.covers (x : CapSet) (d u : Nat) : Bool :=
  [0, 1, 2].all (fun l => let r := x.routeAt d l u; r.1 == noSource || (x.channelOf r u).isSome)

/-- The video check value of a watched destination from the frame record of the channel that covers it. -/
def Chip.replayVideo (c : Chip) (x : CapSet) (d frame u given : Nat) : Nat :=
  match x.channelOf (x.routeAt d 0 u) u with
  | none => given
  | some k =>
    if (x.chan k).level = 1 then given
    else match (x.chan k).kept.find? (fun r => r.kind == 1 && r.frame == frame) with
      | none => given
      | some r =>
        let v := readFrame x.rate r.bytes
        match v.1 with
        | none => given
        | some f => let g := (c.dstFormat d).getD f; firstCheck g (v.2.1.map (convertRow f g))

/-- Compares one watched output at a kept frame with its control ring entry (R479, R480). -/
def Chip.replayCompare (c : Chip) (r : Replay) (x : CapSet) (facts : List ReplayFact) (frame u : Nat) (w : Rec) : Chip :=
  let idx := w.payload.getD 0 0
  let fact := facts.find? (fun f => f.index == idx)
  let covered := if idx < 1024 then x.covers idx u else match fact with | some f => f.covered | none => false
  if !covered then c.count Reg.CAP_RP_UNCOMPARED_COUNT 0 1
  else
    let video := match fact with | some f => f.video | none => w.payload.getD 3 0
    let audio := match fact with | some f => f.audio | none => w.payload.getD 4 0
    let dv := (if idx < 1024 then c.replayVideo x idx frame u video else video) != w.payload.getD 3 0
    let da := audio != w.payload.getD 4 0
    let c1 := c.count Reg.CAP_RP_FRAMES_COUNT 0 1
    if !(dv || da) then c1
    else
      let c2 := c1.count Reg.CAP_RP_MISMATCH_COUNT 0 1
      if c1.fld Reg.CAP_RP_MISMATCH_COUNT 0 = 0 then
        ((c2.set Reg.CAP_RP_FIRST_INDEX 0 r.index).mark Reg.CAP_STATUS_MISMATCH_SEEN).event Ev.capReplayMismatch
          [r.set + idx * 65536, r.index, flag dv + 2 * flag da]
      else c2

/-- The end of a replay: `REPLAY_DONE` (R480, R551). -/
def Chip.replayDone (c : Chip) (r : Replay) : Chip :=
  let mode := if r.cause = 0 then 2 else 3
  (c.endReplay mode).noticeTo r.slot r.session 0x8006
    (beBytes 1 r.set ++ beBytes 1 mode ++ beBytes 1 r.cause ++ beBytes 1 0 ++ beBytes 4 (c.fld Reg.CAP_RP_FRAMES_COUNT 0)
      ++ beBytes 4 (c.fld Reg.CAP_RP_MISMATCH_COUNT 0) ++ beBytes 4 (c.fld Reg.CAP_RP_UNCOMPARED_COUNT 0) ++ beBytes 4 (c.fld Reg.CAP_RP_FIRST_INDEX 0))

/-- REPLAY_TICK (R477, R479, R480): the work of a frame is complete, never sooner than one frame period after the tick before. -/
def execReplayTick (t : Nat) (facts : List ReplayFact) (s : State) : Host.Outcome State Fault Refusal :=
  act t s (fun c =>
    match c.cap.replay with
    | none => c
    | some r =>
      if c.now < r.notBefore then c
      else
        let x := c.capSet r.set
        let ticks := x.ticks
        match ticks[r.index]? with
        | none => c.replayDone r
        | some k =>
          let frame := k.payload.getD 0 0 * 4294967296 + k.payload.getD 1 0
          let u := match ticks[r.index + 1]? with | some n => n.uptime | none => x.endAt + 1
          let ws := x.ctl.filter (fun w => w.block == 15 && w.code == 11 && w.payload.getD 1 0 * 4294967296 + w.payload.getD 2 0 == frame)
          let c1 := ws.foldl (fun a w => a.replayCompare r x facts frame u w) c
          let r1 := { r with index := r.index + 1, notBefore := c.now + framePeriod x.rate }
          if r.index + 1 < ticks.length then { c1 with cap := { c1.cap with replay := some r1 } } else c1.replayDone r)

/-! ## What happens to recordings -/

/-- CAP_TRIG_EDGE (R466): a pulse of CAP_TRIG. -/
def execCapTrigEdge (t : Nat) (falling : Bool) (s : State) : Host.Outcome State Fault Refusal :=
  act t s (fun c => (c.cap.sets.filter (fun e => e.2.causeOn 0 && e.2.state != 0 && bit (u8 e.2.body 1) 3 == falling)).foldl
    (fun a e => a.triggerNow e.1 1) c)

/-- POST_TRIGGER_END (R467): T + `POST_MS`, or a `STOP` that the supply hold has kept waiting. -/
def execPostTriggerEnd (t : Nat) (set : Fin 256) (s : State) : Host.Outcome State Fault Refusal :=
  act t s (fun c =>
    let x := c.capSet set
    if x.live = false ∨ c.cap.hold = true then c
    else if x.endAt ≠ 0 then c.completeSet set x.endAt
    else match x.trig with
      | some u => if x.postMs ≠ 0 ∧ u + x.postMs * 1000000 ≤ c.uptime then c.completeSet set (u + x.postMs * 1000000) else c
      | none => c)

/-- CAPTURE_COMMIT (R468): once per second, not while the supply hold is in force. -/
def execCaptureCommit (t : Nat) (set : Fin 256) (s : State) : Host.Outcome State Fault Refusal :=
  act t s (fun c =>
    let x := c.capSet set
    if x.live = true ∧ c.cap.hold = false ∧ x.committedAt + 1000000000 ≤ c.uptime then c.commitSet set else c)

/-- GAP_RECORD_WRITE (R473): room has returned in staging and the gathered losses are written, or a staged record in error gives way to a gap
record of cause 4. -/
def execGapRecordWrite (t : Nat) (set : Fin 256) (ch : Fin 32) (bad : Option Nat) (s : State) : Host.Outcome State Fault Refusal :=
  act t s (fun c =>
    let k := (c.capSet set).chan ch
    if (c.capSet set).live = false then c
    else match bad with
      | none => if k.takes 32 then c.writeGap set ch else c
      | some n =>
        match k.staged[n]? with
        | none => c
        | some r =>
          let g : CapRec := { kind := 3, uptime := r.uptime, frame := 1, bytes := gapBytes 4 1 r.uptime r.uptime }
          (c.modSet set (fun x => { (x.modChan ch (fun k => { k with staged := k.staged.set n g, lost := k.lost + 1 })) with gaps := true })).gapEvent
            set ch 4 1)

/-- The records of a completed write reach the drives; the set takes extents as it needs them, and closes when none is free (R465, R467). -/
def Chip.landRecords (c : Chip) (set ch n : Nat) : Chip :=
  let moved := ((c.capSet set).chan ch).staged.take n
  let c1 := (c.countWrap Reg.CAP_K_RECORDS_COUNT ch (moved.filter (fun r => r.kind != 3)).length).modSet set (fun x =>
    x.modChan ch (fun k => { k with fresh := k.fresh ++ moved, staged := k.staged.drop n }))
  let x := c1.capSet set
  if x.used ≤ x.reserved then c1
  else if x.used - x.reserved ≤ c1.freeExtents then c1.modSet set (fun y => { y with reserved := y.used })
  else (c1.modSet set (fun y => { y with full := true })).completeSet set c1.uptime

/-- NVME_COMPLETION (R457, R487): a command completes; with an error it is counted, and a write is tried again. -/
def execNvmeCompletion (t : Nat) (link : Fin 4) (status : Fin 65536) (set : Fin 256) (ch : Fin 32) (n : Nat) (s : State) :
    Host.Outcome State Fault Refusal :=
  act t s (fun c =>
    if status.val ≠ 0 then c.count Reg.CAP_DRV_ERRORS_COUNT link 1
    else if (c.capSet set).live = true ∧ c.cap.hold = false then c.landRecords set ch n
    else c)

/-- DRIVE_FAILURE (R457, R468, R473): the drive is `FAILED`; a write that failed after its retries gives gap records of cause 5, and every set
that records closes at its last commit. -/
def execDriveFailure (t : Nat) (link : Fin 4) (reason : Fin 16) (status : Fin 65536) (lost : List (Fin 32 × Nat)) (s : State) :
    Host.Outcome State Fault Refusal :=
  act t s (fun c =>
    let c1 := (c.modDrive link (fun d => { d with failed := true })).count Reg.CAP_DRV_ERRORS_COUNT link (flag (status.val != 0))
    let c2 := (c1.mark Reg.CAP_STATUS_DRIVE_FAIL_SEEN).event Ev.capDriveFail [link + reason * 16, status]
    if c.enabledDrives.contains link then
      let c3 := (if reason.val = 2 then lost else []).foldl (fun a p =>
        match a.liveSets.find? (fun i => (a.capSet i).channels.contains p.1.val) with
        | some i => (a.loseRecords i p.1 5 p.2 a.uptime).writeGap i p.1
        | none => a) c2
      let c4 := (c3.interruptSets 4).stopReplay
      ({ c4 with cap := { c4.cap with ready := false } } : Chip).set Reg.CAP_STATUS_STORE_READY 0 0
    else c2)

/-- What `CAP.CTRL.CLR_CNT` clears (R487). -/
def Chip.clrCap (c : Chip) : Chip :=
  c.clearAll [Reg.CAP_DRV_ERRORS_COUNT, Reg.CAP_K_GAPS_COUNT, Reg.CAP_P_REPEATS_COUNT]

/-- CAP_CLR_CNT (R487). -/
def execCapClrCnt (t : Nat) (s : State) : Host.Outcome State Fault Refusal := act t s (fun c => c.clrCap)

/-! ## Reading the store (R458, R552) -/

/-- A byte of a drive: the label area beyond the label is 0 and the catalogue holds the committed headers (R458, R469); the rest is what the drive holds. -/
def Chip.storeByte (c : Chip) (link o : Nat) (given : Byte) : Byte :=
  let ds := c.enabledDrives
  let base : Option Nat :=
    if ds.head? = some link then (if 1048576 + 134217728 ≤ o ∧ ds.length = 1 then some (1048576 + 134217728) else some 1048576)
    else if ds[1]? = some link then some 1048576 else none
  if 8192 ≤ o ∧ o < 1048576 then 0
  else match base with
    | some b =>
      if c.cap.ready ∧ b ≤ o ∧ o < b + 4194304 then
        (Tbl.get [] c.cap.headers ((o - b) / 16384)).getD ((o - b) % 16384) 0
      else given
    | none => given

/-- CAPTURE_STORE_READ (R552): target 4 of `BULK_READ`. -/
def execCaptureStoreRead (t : Nat) (slot : Fin 16) (body : List Byte) (data : List Byte) (s : State) : Host.Outcome State Fault Refusal :=
  act t s (fun c =>
    if u8 body 0 ≠ 4 then c
    else c.request slot 0x0802 1 false (bulkReadOk body) (fun c =>
      let link := u32 body 4
      let off := u64 body 8
      let len := u32 body 16
      if 3 < link ∨ off % 4096 ≠ 0 ∨ len % 4096 ≠ 0 ∨ (c.drive link).present = false
          ∨ 1048576 + 268435456 * (c.drive link).extents < off + len then c.refuse slot 0x0802 0x1108 wholeIndex
      else c.done slot 0x0802 ((List.range len).map (fun i => c.storeByte link (off + i) (data.getD i 0)))))

end Sys2Proof.Machine
end

