-- ==== Sys2Proof/Machine/FabOps.lean ====
section
/-! DEFINITION. The control fabric's shared operations: the address map (R616, R617), error responses (R618), the reset of a
master (R569). -/

namespace Sys2Proof.Machine

/-- `FAB.CYC_CNT`: fabric cycles of 1.25 ns since reset release (R615, R640). -/
def Chip.fabCycle (c : Chip) : Nat := (c.now - c.released) * 4 / 135 % 4294967296

/-- The targets that a master reaches (R616). -/
def fabReaches (master target : Nat) : Bool :=
  if master ≤ 4 then decide (target ≤ 6)
  else if master = 5 then [1, 3, 4].contains target
  else if master = 6 then [1, 4].contains target
  else if master = 7 then [1, 2, 3, 4, 5, 6].contains target
  else [1, 2, 5, 6].contains target

/-- The target that decodes an address and the end of its mapped range (R617); none where it is unmapped. -/
def Chip.fabDecode (c : Chip) (a : Nat) : Option (Nat × Nat) :=
  if a < 0x00040000 ∧ c.fab.remap = false then some (0, 0x00040000)
  else if a < 0x00400000 ∧ c.fab.remap = true then some (0, 0x00400000)
  else if 0x0F000000 ≤ a ∧ a < 0x0F040000 ∧ c.fab.remap = true then some (0, 0x0F040000)
  else if 0x10000000 ≤ a ∧ a < 0x10400000 then some (1, 0x10400000)
  else if 0x20000000 ≤ a ∧ a < 0x30000000 then some (2, 0x30000000)
  else if 0x40000000 ≤ a ∧ a < 0x400E0000 then some (3, 0x400E0000)
  else if 0x60000000 ≤ a ∧ a < 0x60090000 then some (4, 0x60090000)
  else if 0x80000000 ≤ a ∧ a < 0xC0000000 then some (5, 0xC0000000)
  else if 0xC0000000 ≤ a ∧ a < 0x100000000 then some (6, 0x100000000)
  else none

/-- Whether the boot ROM answers an address. -/
def Chip.romAddress (c : Chip) (a : Nat) : Bool := (decide (a < 0x00040000) && !c.fab.remap) || (decide (0x0F000000 ≤ a) && decide (a < 0x0F040000))

/-- Whether a PCIe window address names a drive link whose drive is present (R633); every link of R456 has 256 MiB of the window. -/
def Chip.pcieMapped (c : Chip) (a : Nat) : Bool := (Tbl.get Drive.reset c.cap.drives ((a - 0xC0000000) / 0x10000000)).present

/-- Why the fabric itself ends an access with an error response (R618): the target decoded (7 when unmapped) and the kind; or the target that takes it. `bytes` is the
length of the burst. -/
def Chip.fabAccess (c : Chip) (master a bytes : Nat) (write : Bool) : Except (Nat × Nat) Nat :=
  match c.fabDecode a with
  | none => .error (7, 1)
  | some (t, stop) =>
    if bit (c.fld Reg.FAB_QUAR_MASTER 0) master then .error (t, 5)
    else if fabReaches master t = false ∨ stop < a + bytes ∨ (write = true ∧ (t = 2 ∨ (t = 0 ∧ c.romAddress a = true)))
        ∨ (0x0F000000 ≤ a ∧ t = 0 ∧ master ≠ 0) ∨ (t = 2 ∧ master ≠ 0 ∧ a < 0x2C100000 ∧ 0x2C000000 < a + bytes) then .error (t, 2)
    else if t = 6 ∧ c.pcieMapped a = false then .error (6, 1)
    else .ok t

/-- The default weights of the masters M0 to M8 (R638). -/
def fabDefaults : List Nat := [255, 128, 128, 128, 128, 192, 160, 32, 64]

/-- The weight of a master: the value 0 that the register file holds at reset stands for the default of R638. -/
def Chip.fabWeight (c : Chip) (m : Nat) : Nat := if c.fld Reg.FAB_M_CFG_WEIGHT m = 0 then fabDefaults.getD m 0 else c.fld Reg.FAB_M_CFG_WEIGHT m

/-- The window page of a master, or of a session slot of M7 (R631). -/
def Chip.fabPage (c : Chip) (master slot : Nat) : Nat := c.fld Reg.FAB_FSWIN_BASE_PAGE (if master = 7 then 16 + slot else master)

/-- The place in the byte-addressed memories that a window address of a target reaches. -/
def Chip.fabPlace (c : Chip) (target master slot a : Nat) : Nat :=
  if target = 0 then (if c.romAddress a then romBase + a % 0x00040000 else sramBase + a)
  else if target = 1 then sramBase + (a - 0x10000000)
  else if target = 2 then flashBase + (a - 0x20000000)
  else if target = 5 then storeBase + c.fabPage master slot * 0x40000000 + (a - 0x80000000)
  else pcieBase + (a - 0xC0000000)

/-- An error response (R618, R642): the registers of the last one, the counts, the record. -/
def Chip.fabError (c : Chip) (master target kind : Nat) (write : Bool) (a : Nat) : Chip :=
  let c1 := ((((c.set Reg.FAB_ERR_ADDR_ADDR 0 a).set Reg.FAB_ERR_INFO_MASTER 0 master).set Reg.FAB_ERR_INFO_TARGET 0 target).set
    Reg.FAB_ERR_INFO_KIND 0 kind).set Reg.FAB_ERR_INFO_WRITE 0 (flag write)
  let c2 := (c1.count Reg.FAB_ERR_INFO_COUNT 0 1).count Reg.FAB_M_EVENTS_ERRORS master 1
  (c2.mark (if kind = 4 then Reg.FAB_STATUS_TIMEOUT_SEEN else Reg.FAB_STATUS_ERR_SEEN)).event (if kind = 4 then Ev.fabTimeout else Ev.fabError)
    [master * 268435456 + target * 33554432 + kind * 4194304 + flag write * 2097152, a]

/-- The arbiter of a target port. -/
def Chip.port (c : Chip) (t : Nat) : FabPort := Tbl.get FabPort.reset c.fab.ports t

/-- Changes the arbiter of a target port. -/
def Chip.modFabPort (c : Chip) (t : Nat) (f : FabPort → FabPort) : Chip :=
  { c with fab := { c.fab with ports := Tbl.upd FabPort.reset c.fab.ports t f } }

/-- What `FAB.CTRL.CLR_CNT` clears (R640). -/
def Chip.clrFab (c : Chip) : Chip :=
  c.clearAll [Reg.FAB_ERR_INFO_COUNT, Reg.FAB_M_BEATS_COUNT, Reg.FAB_M_WAIT_MAX_CYCLES, Reg.FAB_M_EVENTS_HOG_CUTS, Reg.FAB_M_EVENTS_LOCK_TRUNC,
    Reg.FAB_M_EVENTS_ERRORS]

/-- A write of ones to `FAB.QUAR` (R629): the masters that it clears start with backoff 1. -/
def Chip.fabClearQuar (c : Chip) (mask : Nat) : Chip :=
  let q := c.fld Reg.FAB_QUAR_MASTER 0
  let cleared := (List.range 9).filter (fun i => bit q i && bit mask i)
  let c1 := c.set Reg.FAB_QUAR_MASTER 0 (q - (q &&& mask))
  { c1 with fab := { c1.fab with
    ports := c1.fab.ports.map (fun e => (e.1, { e.2 with
      backoff := e.2.backoff.filter (fun x => !(cleared.contains x.1)), offUntil := e.2.offUntil.filter (fun x => !(cleared.contains x.1)) })) } }

/-- The mapping that waits is in force once every transaction to T0 issued before the write has completed (R619). -/
def Chip.settleRemap (c : Chip) : Chip :=
  if c.fab.remapDue && !(c.fab.txs.any (fun x => x.target == 0)) then
    { c with fab := { c.fab with remap := c.isSet Reg.FAB_CTRL_REMAP 0, remapDue := false } }
  else c

/-- A write of `FAB.CTRL.REMAP` by M0 (R619). -/
def Chip.writeRemap (c : Chip) (on : Bool) : Chip :=
  if c.isSet Reg.FAB_CTRL_REMAP 0 = on then c
  else
    let c1 := c.set Reg.FAB_CTRL_REMAP 0 (flag on)
    ({ c1 with fab := { c1.fab with remapDue := true } } : Chip).settleRemap

/-- A weight is written (R628): it is in force from the first refill at least one cycle later. -/
def Chip.fabSetWeight (c : Chip) (i w : Nat) : Chip :=
  let c1 := c.set Reg.FAB_M_CFG_WEIGHT i w
  { c1 with fab := { c1.fab with weightAt := Tbl.ins c1.fab.weightAt i c.now } }

/-- Writes the first beats of a transaction to the byte-addressed memories. -/
def Chip.fabBeats (c : Chip) (m : Tbl Byte) (x : FabTx) (beats : Nat) : Tbl Byte :=
  if x.write then memWrite m (c.fabPlace x.target x.master x.slot x.addr) ((x.words.take beats).flatMap (fun w => beBytes 4 w)) else m

/-- Whether a target takes its bursts as memory does. -/
def memTarget (t : Nat) : Bool := t == 0 || t == 1 || t == 5

/-- A master is reset (R569): its transactions are cut, what a burst in progress has delivered stays written, its locks and its quarantine end, its window pages return to
their reset values. How many beats have been delivered is open. -/
def Chip.resetMaster (c : Chip) (m : Tbl Byte) (master : Nat) : Chip × Tbl Byte :=
  let mine := c.fab.txs.filter (fun x => x.master == master)
  let m1 := (mine.filter (fun x => x.granted && memTarget x.target)).foldl (fun a x => c.fabBeats a x (c.openVal 5 % (x.words.length + 1))) m
  let c1 : Chip := { c with
    fab := { c.fab with
      txs := c.fab.txs.filter (fun x => x.master != master),
      ports := c.fab.ports.map (fun e => (e.1, { e.2 with lock := if e.2.lock.any (fun l => l.1 == master) then none else e.2.lock })) } }
  let q := c1.fld Reg.FAB_QUAR_MASTER 0
  let c2 := c1.set Reg.FAB_QUAR_MASTER 0 (if bit q master then q - 2 ^ master else q)
  let c3 := if master = 7 then c2 else c2.set Reg.FAB_FSWIN_BASE_PAGE master 0
  if mine = [] then (c3, m1)
  else (((c3.nextFree).count Reg.FLT_FAB_RESETS_COUNT 0 1).event Ev.fabMasterReset [master * 268435456, mine.length], m1)

/-- The service cores M1 to M4 and the micro-sequencers are reset and held (R562, R605). -/
def Chip.resetCores (c : Chip) (m : Tbl Byte) : Chip × Tbl Byte :=
  let r := ([1, 2, 3, 4] : List Nat).foldl (fun (a : Chip × Tbl Byte) k => a.1.resetMaster a.2 k) (c, m)
  ({ r.1 with fab := { r.1.fab with held := dedup (r.1.fab.held ++ [1, 2, 3, 4]) } }, r.2)

/-- The service cores are released again. -/
def Chip.releaseCores (c : Chip) : Chip := { c with fab := { c.fab with held := [] } }

/-! ## The supply hold and the flash (R646 to R648) -/

/-- Whether no flash program or erase starts now (R647). -/
def Chip.holding (c : Chip) : Bool := c.isSet Reg.PWR_STATUS_HOLD 0

/-- Whether an operation of the flash in progress has stopped: a hold is in force and its `HOLDUP_US` has passed (R648). -/
def Chip.flashStopped (c : Chip) : Bool := match c.pwr.hold with | some h => decide (h.since + usU h.holdup < c.now) | none => false

end Sys2Proof.Machine
end

