-- ==== Sys2Proof/Machine/RefOps.lean ====
section
/-! DEFINITION. Shared operations of the reference system: entries, history, holdover, losses (R345 to R372). -/

namespace Sys2Proof.Machine

/-- The state of a reference entry. -/
def Chip.refEntry (c : Chip) (e : Nat) : RefEntry := Tbl.get RefEntry.reset c.ref.entries e

/-- Changes the state of a reference entry. -/
def Chip.modRef (c : Chip) (e : Nat) (f : RefEntry → RefEntry) : Chip :=
  { c with ref := { c.ref with entries := Tbl.upd RefEntry.reset c.ref.entries e f } }

/-- The type of an entry (R345, R367); an entry not listed has type 0. -/
def Chip.refType (c : Chip) (e : Nat) : Nat := u8 (c.record tyEntries e) 1

/-- The rank of an entry. -/
def Chip.refRank (c : Chip) (e : Nat) : Nat := u8 (c.record tyEntries e) 2

/-- Whether an entry has a type and is enabled (R348). -/
def Chip.refOn (c : Chip) (e : Nat) : Bool := c.refType e != 0 && bit (u8 (c.record tyEntries e) 3) 0

/-- `QUAL_S` of an entry. -/
def Chip.qualS (c : Chip) (e : Nat) : Nat := u8 (c.record tyEntries e) 6

/-- `HOLDOFF_S` of an entry. -/
def Chip.holdoffS (c : Chip) (e : Nat) : Nat := u8 (c.record tyEntries e) 7

/-- `LO_PPM` of an entry, in 0.01 ppb. -/
def Chip.loLimit (c : Chip) (e : Nat) : Int := ((u16 (c.record tyEntries e) 8 * 100000 : Nat) : Int)

/-- `DISQ_PPB` of an entry, in 0.01 ppb. -/
def Chip.medLimit (c : Chip) (e : Nat) : Int := ((u16 (c.record tyEntries e) 10 * 100 : Nat) : Int)

/-- The record of `REFS_GLOBAL`, with the defaults of R368. -/
def Chip.refGlobal (c : Chip) : List Byte :=
  if c.hasRec tyRefs 0 then c.record tyRefs 0 else beBytes 1 1 ++ beBytes 1 3 ++ beBytes 2 1000 ++ beBytes 2 100 ++ beBytes 1 5 ++ beBytes 1 0

/-- `AGREE_PPB`, in 0.01 ppb. -/
def Chip.agree (c : Chip) : Int := ((u16 c.refGlobal 2 * 100 : Nat) : Int)

/-- The state of an entry (R352). -/
def Chip.refState (c : Chip) (e : Nat) : Nat := c.fld Reg.REFS_E_STATE_STATE e

/-- Whether an entry is selectable: `QUALIFIED` or `HOLDING_OFF` (R352). -/
def Chip.selectable (c : Chip) (e : Nat) : Bool := c.refOn e && (c.refState e == 3 || c.refState e == 4)

/-- The offset of an entry against LO_CLK in 0.01 ppb (R350). -/
def Chip.refOffset (c : Chip) (e : Nat) : Int := signed 32 (c.fld Reg.REFS_E_OFF_LO_FREQ e)

/-- Whether the signal of an entry is present (R351): an SDI entry's while its receiver is locked, a PTP entry's while the slave is locked (R377). -/
def Chip.refSignal (c : Chip) (e : Nat) : Bool :=
  let ty := c.refType e
  if ty = 7 then c.fld Reg.PTP_STATUS_STATE 0 == 3 || c.fld Reg.PTP_STATUS_STATE 0 == 4
  else if ty = 8 then c.isSet Reg.LNE_L_SDI_RX_LOCK (152 + u8 (c.record tyEntries e) 4)
  else (c.refEntry e).present

/-- The record of an entry's state (R352, R672). -/
def Chip.refEvent (c : Chip) (ev : Ev) (e : Nat) : Chip :=
  c.event ev [e + c.fld Reg.REFS_E_STATE_CAUSE e * 16 + c.refType e * 256, c.fld Reg.REFS_E_OFF_LO_FREQ e]

/-- Puts an entry in a state with a cause. -/
def Chip.setRef (c : Chip) (e st cause : Nat) : Chip := (c.set Reg.REFS_E_STATE_STATE e st).set Reg.REFS_E_STATE_CAUSE e cause

/-- The holdover frequency of R361 for a holdover that begins now, in 0.01 ppb: the mean of the newest 60 averages, those of the last 2 s left out. -/
def Chip.holdMean (c : Chip) : Option Int :=
  let l := (c.ref.history.filter (fun x => decide (x.1 + secU 2 ≤ c.now))).take 60
  if l = [] then none else some (roundDiv (l.map Prod.snd).sum l.length)

/-- Enters holdover, or free run without a history (R358, R361): the entry left, and the cause of R672. -/
def Chip.holdOver (c : Chip) (left cause : Nat) : Chip :=
  match c.holdMean with
  | some f =>
    (((c.set Reg.REFS_DPLL_STATE 0 3).set Reg.REFS_HOLD_FREQ_FREQ 0 (unsigned 32 f)).mark Reg.REFS_STATUS_HOLDOVER_SEEN).event Ev.refHoldover
      [left + cause * 16, unsigned 32 f]
  | none => (c.set Reg.REFS_DPLL_STATE 0 0).event Ev.refFreeRun [left + cause * 16, 0]

/-- Whether the DPLL follows an entry. -/
def Chip.dpllFollows (c : Chip) : Bool := c.fld Reg.REFS_DPLL_STATE 0 == 1 || c.fld Reg.REFS_DPLL_STATE 0 == 2

/-- The entry selected, 0xF for none, 0xE for the splice tick input. -/
def Chip.refSelected (c : Chip) : Nat := c.fld Reg.REFS_DPLL_SELECTED 0

/-- Shows the unresolved conflicts (R357, R371). -/
def Chip.showConflicts (c : Chip) : Chip :=
  let p := c.ref.conflicts.headD 0
  (((c.set Reg.REFS_STATUS_CONFLICT 0 (flag (c.ref.conflicts != []))).set Reg.REFS_CONFLICT_PAIR_VALID 0 (flag (c.ref.conflicts != []))).set
    Reg.REFS_CONFLICT_PAIR_A 0 (p / 8)).set Reg.REFS_CONFLICT_PAIR_B 0 (p % 8)

/-- An entry that is no longer selectable leaves its pairs and conflicts (R355). -/
def Chip.leavePairs (c : Chip) (e : Nat) : Chip :=
  Chip.showConflicts { c with ref := { c.ref with
    pairs := c.ref.pairs.filter (fun x => x.1 / 8 != e && x.1 % 8 != e),
    conflicts := c.ref.conflicts.filter (fun x => x / 8 != e && x % 8 != e) } }

/-- An input is lost (R351, R352, R354): the entry has no signal, and the DPLL holds over at once when it is the one selected. -/
def Chip.refLose (c : Chip) (e : Nat) : Chip :=
  if c.refOn e ∧ c.refState e ≠ 0 ∧ c.refState e ≠ 1 then
    let c1 := ((c.setRef e 1 1).count Reg.REFS_E_EVENTS_LOSSES e 1).modRef e (fun x => { x with present := false, timer := none, outvoted := false })
    let c2 := (c1.refEvent Ev.refLost e).set Reg.REFS_E_OFF_MED_FREQ e 0x7FFFFFFF
    let c3 := c2.leavePairs e
    if c.refSelected = e ∧ c.dpllFollows = true then c3.holdOver e 1 else c3
  else c

/-- The loss of every entry whose SDI receiver or PTP slave has left its lock (R351). -/
def Chip.refPoll (c : Chip) : Chip :=
  (List.range 8).foldl (fun a e => if (a.refType e = 7 ∨ a.refType e = 8) ∧ a.refSignal e = false then a.refLose e else a) c

/-- The comparison period of an entry in units (R345), none while it has none. -/
def Chip.refPeriod (c : Chip) (e : Nat) : Option Nat :=
  let ty := c.refType e
  let b := u8 (c.record tyEntries e) 5
  if ty = 1 ∨ ty = 2 then some (framePeriod (b % 16) * (if bit b 4 then 5 else 1))
  else if ty = 3 ∨ ty = 4 then some (nsU 100)
  else if ty = 8 then
    let l := u8 (c.record tyEntries e) 4
    if c.hasRec tySdi l then (c.src (u16 (c.record tySdi l) 4)).format.map (fun f => framePeriod f.rate) else none
  else some (secU 1)

/-- Whether an entry gives a phase origin to a domain (R47, R349). -/
def Chip.givesOrigin (c : Chip) (e td : Nat) : Bool :=
  c.selectable e &&
  (if c.refType e = 1 ∨ c.refType e = 2 ∨ c.refType e = 8 then
     (match c.refPeriod e with | some p => c.period td != 0 && p % c.period td == 0 | none => false)
   else true)

/-- A change of an entry's type or parameters, or of `ENABLE` (R352, R370, R372): `old` is the record before. -/
def Chip.refChanged (c : Chip) (e : Nat) (old : List Byte) : Chip :=
  let r := c.record tyEntries e
  let changed := u8 old 1 ≠ u8 r 1 ∨ u8 old 4 ≠ u8 r 4 ∨ u8 old 5 ≠ u8 r 5
  let c1 := if changed then
      (((c.set Reg.REFS_E_EVENTS_LOSSES e 0).set Reg.REFS_E_EVENTS_DISQ e 0).set Reg.REFS_E_GLITCH_COUNT e 0).modRef e (fun x => { x with phase := none, edge := none })
    else c
  let c2 := if !(c1.refOn e) then (((c1.setRef e 0 0).modRef e (fun x => { x with timer := none, outvoted := false })).leavePairs e)
    else if changed ∨ c1.refState e = 0 then
      ((((c1.setRef e 1 0).modRef e (fun x => { x with timer := none, outvoted := false, present := if changed then false else x.present })).leavePairs e))
    else c1
  if (changed ∨ c1.refOn e = false) ∧ c.refSelected = e ∧ c.dpllFollows = true then c2.holdOver e 1 else c2

/-- The DPLL takes an entry (R358, R362, R364): it enters `ACQUIRE`, unless a forced hold stands. -/
def Chip.acquire (c : Chip) : Chip :=
  if c.isSet Reg.REFS_CTRL_FORCE_HOLD 0 then c
  else { c.set Reg.REFS_DPLL_STATE 0 1 with ref := { c.ref with acquiredAt := c.now } }

/-! ## Frame pulse outputs (R365) -/

/-- An output in force. -/
def Chip.refOut (c : Chip) (n : Nat) : RefOut := Tbl.get RefOut.reset c.ref.outs n

/-- The record of an output as flags, width and offset. -/
def Chip.outRec (c : Chip) (n : Nat) : RefOut :=
  { flags := u8 (c.record tyOutputs n) 1, width := u16 (c.record tyOutputs n) 2, offset := u32 (c.record tyOutputs n) 4 }

/-- At a tick of a domain its output takes the settings that wait for a tick (R365): width, inversion, mode, enable. -/
def Chip.tickOut (c : Chip) (td : Nat) : Chip :=
  let r := c.outRec td
  { c with ref := { c.ref with outs := Tbl.upd RefOut.reset c.ref.outs td (fun x => { r with offset := x.offset }) } }

/-- At an alignment of a domain, and at its first tick, its output takes its offset (R365). -/
def Chip.alignOut (c : Chip) (td : Nat) : Chip :=
  let r := c.outRec td
  { c with ref := { c.ref with
    outs := Tbl.upd RefOut.reset c.ref.outs td (fun x => { x with offset := r.offset }),
    alignedAt := Tbl.put 0 c.ref.alignedAt td (c.dom td).frame } }

end Sys2Proof.Machine
end

