-- ==== Sys2Proof/Machine/LaneOps.lean ====
section
/-! DEFINITION. Shared operations of the serial lanes: settings, groups, breakouts, states, starts (R312 to R344). -/

namespace Sys2Proof.Machine

/-- The state of a lane. -/
def Chip.lane (c : Chip) (l : Nat) : LaneSt := Tbl.get LaneSt.reset c.lne.lanes l

/-- Changes the state of a lane. -/
def Chip.modLane (c : Chip) (l : Nat) (f : LaneSt → LaneSt) : Chip :=
  { c with lne := { c.lne with lanes := Tbl.upd LaneSt.reset c.lne.lanes l f } }

/-! ## Numbering (R312) and settings (R339 to R341) -/

/-- The lane number of SDI lane `n`. -/
def sdiLane (n : Nat) : Nat := 152 + n

/-- The lane number of lane `k` of splice port `p`. -/
def spliceLane (p k : Nat) : Nat := 136 + 2 * p + k

/-- The flags of a lane, with the defaults of R339. -/
def Chip.laneFlags (c : Chip) (l : Nat) : Nat := if c.hasRec tyLanes l then u8 (c.record tyLanes l) 1 else if l < 152 then 8 else 0

/-- Whether a lane runs training (R325, R339). -/
def Chip.trains (c : Chip) (l : Nat) : Bool := bit (c.laneFlags l) 3

/-- Whether a splice port is enabled (R341). -/
def Chip.spliceOn (c : Chip) (p : Nat) : Bool := bit (u8 (c.record tySplice p) 2) 0

/-- The binding that an SDI lane belongs to, by its first lane (R315). -/
def Chip.sdiHead (c : Chip) (n : Nat) : Option Nat :=
  (c.listed tySdi).find? (fun h => decide (h ≤ n) && decide (n < h + 2 ^ u8 (c.record tySdi h) 1))

/-- The lanes of a binding (R315). -/
def Chip.sdiGroup (c : Chip) (h : Nat) : List Nat := (List.range (2 ^ u8 (c.record tySdi h) 1)).map (fun i => h + i)

/-- The flags of the binding of an SDI lane: bit 0 `RX_EN`, bit 1 `TX_EN`, bit 2 `SEARCH`; 0 without a binding. -/
def Chip.sdiFlags (c : Chip) (n : Nat) : Nat := match c.sdiHead n with | some h => u8 (c.record tySdi h) 2 | none => 0

/-- The lanes of a breakout (R284, R312): a host port in recovery uses its lane 0 alone. -/
def Chip.breakoutLanes (c : Chip) (p b : Nat) : List Nat :=
  if isHostPort p then
    (List.range (if c.phase = 4 then 1 else if c.portMode p = 0 then 2 else 4)).map (fun i => 128 + 4 * (p - 16) + i)
  else
    let n := 8 / c.breakouts p
    (List.range n).map (fun i => 8 * p + b * n + i)

/-- The port and breakout that use an Ethernet lane, if its port uses it. -/
def Chip.laneBreakout (c : Chip) (l : Nat) : Option (Nat × Nat) :=
  if l < 128 then some (l / 8, l % 8 / (8 / c.breakouts (l / 8)))
  else if l < 136 then
    let p := 16 + (l - 128) / 4
    if (c.breakoutLanes p 0).contains l then some (p, 0) else none
  else none

/-- Whether a lane's modulation is NRZ (R312): SDI, and splice at step 0. -/
def Chip.laneNrz (c : Chip) (l : Nat) : Bool := decide (152 ≤ l) || (decide (136 ≤ l) && c.fld Reg.LNE_L_STATE_STEP l == 0)

/-! ## States (R331 to R333) -/

/-- Whether a lane's configuration needs ACTIVE (R332); else it needs DEEP. -/
def Chip.laneUsed (c : Chip) (l : Nat) : Bool :=
  if l < 136 then (match c.laneBreakout l with | some (p, _) => c.macOn p | none => false)
  else if l < 152 then c.spliceOn ((l - 136) / 2)
  else c.sdiFlags (l - 152) % 4 != 0

/-- The state asked for: the deepest of what the configuration needs and `PSTATE`; a diagnostic mode keeps the lane ACTIVE (R332, R334). -/
def Chip.laneWant (c : Chip) (l : Nat) : Nat :=
  if c.fld Reg.LNE_L_CTRL_DIAG l ≠ 0 then 0 else if c.laneUsed l then c.fld Reg.LNE_L_CTRL_PSTATE l else 2

/-- Starts the transition to the state asked for, unless one is in progress (R333). -/
def Chip.laneMove (c : Chip) (l : Nat) : Chip :=
  let w := c.laneWant l
  if (c.lane l).going.isSome ∨ c.fld Reg.LNE_L_STATE_PSTATE l = w then c
  else (c.set Reg.LNE_L_STATE_PSTATE l 3).modLane l (fun x => { x with going := some w })

/-- Whether a lane is ACTIVE. -/
def Chip.laneActive (c : Chip) (l : Nat) : Bool := c.fld Reg.LNE_L_STATE_PSTATE l == 0

/-- Whether a lane's transmitter is in electrical idle in state ACTIVE (R322, R332, R334): every one is while LO_CLK is lost (R567), an SDI transmitter until pilot
service (R507). -/
def Chip.laneMuted (c : Chip) (l : Nat) : Bool :=
  let d := c.fld Reg.LNE_L_CTRL_DIAG l
  !c.boot.lo || (if d = 0 then decide (152 ≤ l) && (!(bit (c.sdiFlags (l - 152)) 1) || c.boot.pilotAt.isNone) else d == 1 || d == 3)

/-- Shows which lanes in state ACTIVE have their transmitter idle. -/
def Chip.showIdle (c : Chip) : Chip :=
  (List.range 216).foldl (fun a l => if a.fld Reg.LNE_L_STATE_PSTATE l = 0 then a.set Reg.LNE_L_STATE_TX_IDLE l (flag (a.laneMuted l)) else a) c

/-- Clears the counters of a lane, as a change of its binding, port mode or splice enable does (R344). -/
def Chip.clearLane (c : Chip) (l : Nat) : Chip :=
  (((((((c.set Reg.LNE_L_LOCK_LOST_COUNT l 0).set Reg.LNE_L_SEARCHES_COUNT l 0).set Reg.LNE_L_PRBS_BITS_LO_COUNT l 0).set
    Reg.LNE_L_PRBS_BITS_HI_COUNT l 0).set Reg.LNE_L_PRBS_ERR_LO_COUNT l 0).set Reg.LNE_L_PRBS_ERR_HI_COUNT l 0)).set Reg.LNE_L_PRBS_ERR_HI_RESYNC l 0

/-! ## SDI receivers (R317 to R321) -/

/-- The families in the order of the search. -/
def searchOrder : List Nat := [5, 4, 3, 2, 1]

/-- The family tried after `f` in a cycle that starts with `first` (R317). -/
def nextFamily (first f : Nat) : Nat :=
  let cycle := first :: searchOrder.erase first
  ((cycle.dropWhile (fun x => x != f)).drop 1).headD first

/-- Tries a family from now on (R317). -/
def Chip.tryFamily (c : Chip) (n f : Nat) : Chip :=
  (c.count Reg.LNE_L_SEARCHES_COUNT (sdiLane n) 1).modLane (sdiLane n) (fun x => { x with
    on := true, family := f, triedAt := c.now, eavs := 0, words := 0, lock := false, lockAt := none, fract := false, ident := none })

/-- Starts a search at the first family of its cycle (R317). -/
def Chip.startSearch (c : Chip) (n : Nat) : Chip :=
  let x := c.lane (sdiLane n)
  let f := if bit (c.sdiFlags n) 2 then (if x.last = 0 then 5 else x.last)
    else match c.sdiHead n with | some h => u8 (c.record tySdi h) 3 | none => 0
  (c.modLane (sdiLane n) (fun y => { y with first := f })).tryFamily n f

/-- The links of a group that is locked agree in rate, carry identifiers that agree on format and give distinct link numbers, and are deskewed (R320). -/
def Chip.groupLocked (c : Chip) (h : Nat) : Bool :=
  let xs := (c.sdiGroup h).map (fun n => c.lane (sdiLane n))
  match xs with
  | [] => false
  | [x] => x.lock
  | x :: _ =>
    xs.all (fun y => y.lock && y.family == x.family && y.fract == x.fract && y.lockAt.isNone && y.ident.isSome
      && (y.ident.map Prod.fst) == (x.ident.map Prod.fst))
    && !(hasDup (xs.map (fun y => match y.ident with | some i => i.2 | none => 0))) && decide (x.skew ≤ 2000)

/-- Shows the locks of the lanes of a binding in their registers: on a group's first lane, the lock of the group (R343). -/
def Chip.showLocks (c : Chip) (h : Nat) : Chip :=
  (c.sdiGroup h).foldl (fun a n =>
    let x := c.lane (sdiLane n)
    let l := sdiLane n
    ((((a.set Reg.LNE_L_SDI_RX_LOCK l (flag (if n = h then c.groupLocked h else x.lock))).set Reg.LNE_L_SDI_RX_RATE l (if x.lock then x.family else 0)).set
      Reg.LNE_L_SDI_RX_FRACT l (flag x.fract)).set Reg.LNE_L_SDI_LINK l (match x.ident with | some i => i.2 | none => 0))) c

/-- Shows the locks of the binding of a lane, when it has one. -/
def Chip.showLane (c : Chip) (n : Nat) : Chip := match c.sdiHead n with | some h => c.showLocks h | none => c

/-- The payload of `LNE_SDI_LOCK` and `LNE_SDI_LOST`. -/
def sdiWord (n : Nat) (x : LaneSt) : Nat := n + x.family * 256 + flag x.fract * 2048

/-- An SDI receiver that was locked loses lock (R319) and searches again. -/
def Chip.sdiLose (c : Chip) (n : Nat) (cdr : Bool) : Chip :=
  let x := c.lane (sdiLane n)
  let c1 := ((c.count Reg.LNE_L_LOCK_LOST_COUNT (sdiLane n) 1).mark Reg.LNE_STATUS_LOST_SEEN).event Ev.lneSdiLost [sdiWord n x]
  let c2 := if cdr then c1.set Reg.LNE_L_STATE_CDR_LOCK (sdiLane n) 0 else c1
  ((c2.startSearch n).showLane n).refPoll

/-- Starts the receivers of a binding, as its lanes reach ACTIVE (R331, R332). -/
def Chip.startReceiver (c : Chip) (n : Nat) : Chip := if bit (c.sdiFlags n) 0 then (c.startSearch n).showLane n else c

/-- Stops an SDI receiver whose lane leaves ACTIVE: the outcome of a lost signal (R333). -/
def Chip.stopReceiver (c : Chip) (n : Nat) : Chip :=
  let c1 := if (c.lane (sdiLane n)).lock then c.sdiLose n true else c
  (c1.modLane (sdiLane n) (fun x => { x with on := false, lock := false, lockAt := none, eavs := 0, ident := none })).showLane n |>.refPoll

/-! ## SDI transmitters (R322 to R324) -/

/-- The transmit format in force becomes that of the binding (R322, R324). -/
def Chip.showTx (c : Chip) (h : Nat) : Chip :=
  let r := c.record tySdi h
  let on := bit (u8 r 2) 1
  let fam := if on then (sdiFamily (u8 r 8) (u8 r 9) (u8 r 1)).getD 0 else 0
  (c.sdiGroup h).foldl (fun a n =>
    let l := sdiLane n
    (((a.set Reg.LNE_L_SDI_TX_RATE l fam).set Reg.LNE_L_SDI_TX_FRACT l (flag (on && fam != 1 && fractRate (u8 r 9)))).set Reg.LNE_L_SDI_GROUP l (u8 r 1)).modLane l
      (fun x => { x with tx := if on then some (u8 r 8, u8 r 9) else none })) c

/-- At a tick of a domain the changed transmit formats of its destinations take effect (R324). -/
def Chip.tickTx (c : Chip) (td : Nat) : Chip :=
  (c.listed tySdi).foldl (fun a h =>
    let r := c.record tySdi h
    if bit (u8 r 2) 1 ∧ c.dstTd (u16 r 6) = td ∧ (c.lane (sdiLane h)).tx.isSome ∧ (c.lane (sdiLane h)).tx ≠ some (u8 r 8, u8 r 9) then a.showTx h else a) c

/-! ## Ethernet and splice lanes (R325 to R329) -/

/-- A lane starts: training, or the preset at once (R325, R326). -/
def Chip.startLane (c : Chip) (l : Nat) : Chip :=
  let c1 := (((c.set Reg.LNE_L_STATE_TRAIN l (if c.trains l then 1 else 3)).set Reg.LNE_L_STATE_ALIGNED l 0).set Reg.LNE_L_STATE_CDR_LOCK l 0).set
    Reg.LNE_L_STATE_TX_IDLE l 0
  (c1.count Reg.LNE_L_SEARCHES_COUNT l 1).modLane l (fun x => { x with startedAt := c.now, lossAt := none, tries := 0, searchAt := c.now })

/-- A breakout's lanes start from step 1 of R326: a link that was up goes down, and its loss is counted (R327, R343). -/
def Chip.startBreakout (c : Chip) (p b : Nat) : Chip :=
  let ls := c.breakoutLanes p b
  let c1 := if (c.mac (macKey p b)).up then ls.foldl (fun a l => a.count Reg.LNE_L_LOCK_LOST_COUNT l 1) (c.linkDown p b) else c
  ls.foldl (fun a l => a.startLane l) c1

/-- A splice port starts both lanes at step 0 (R329). -/
def Chip.startSplice (c : Chip) (p : Nat) : Chip :=
  ([0, 1] : List Nat).foldl (fun a k => (a.startLane (spliceLane p k)).set Reg.LNE_L_STATE_STEP (spliceLane p k) 0)
    ((c.set Reg.SPL_P_STATE_STEP p 0).modStep p (fun x => { x with farMax := none, farAuto := false, change := none }))

/-- The first lane of a breakout, which holds its starts. -/
def Chip.firstLane (c : Chip) (p b : Nat) : Nat := (c.breakoutLanes p b).headD 0

/-- A breakout's link is up: its lanes are aligned (R326). -/
def Chip.alignBreakout (c : Chip) (p b : Nat) : Chip :=
  ((c.breakoutLanes p b).foldl (fun a l => (a.set Reg.LNE_L_STATE_ALIGNED l 1).set Reg.LNE_L_STATE_CDR_LOCK l 1) c).modLane (c.firstLane p b)
    (fun x => { x with fails := 0, lossAt := none })

/-- Whether every lane of a breakout has been trained, or has its preset, in state ACTIVE (steps 1 to 3 of R326). -/
def Chip.breakoutReady (c : Chip) (p b : Nat) : Bool :=
  (c.breakoutLanes p b).all (fun l => c.laneActive l && (c.fld Reg.LNE_L_STATE_TRAIN l == 2 || c.fld Reg.LNE_L_STATE_TRAIN l == 3))

/-- A lane that leaves ACTIVE by a state asked for stops carrying traffic: a link, signal or splice lane is lost (R333). -/
def Chip.dropLane (c : Chip) (l : Nat) : Chip :=
  let c1 := if l < 136 then (match c.laneBreakout l with | some (p, b) => c.linkDown p b | none => c)
    else if l < 152 then c else c.stopReceiver (l - 152)
  (c1.set Reg.LNE_L_STATE_ALIGNED l 0).set Reg.LNE_L_STATE_TX_IDLE l 1

/-- A lane's state is asked for anew (R332, R333): a write of `PSTATE` or a change of settings. `LNE_STATE_FORCED` when `PSTATE` forces a lane in
use into IDLE or DEEP. -/
def Chip.laneAsk (c : Chip) (l : Nat) (byPstate : Bool) : Chip :=
  let w := c.laneWant l
  let was := c.laneActive l
  let c1 := if byPstate ∧ c.laneUsed l = true ∧ 0 < w then c.event Ev.lneStateForced [l + w * 256] else c
  (if was ∧ 0 < w then c1.dropLane l else c1).laneMove l

end Sys2Proof.Machine
end

