-- ==== Sys2Proof/Machine/Lanes.lean ====
section
/-! DEFINITION. What happens on the serial lanes: SDI search and lock, training, step changes, states, diagnostics (R312 to R344). -/

namespace Sys2Proof.Machine

/-! ## SDI receivers -/

/-- SIGNAL_DETECT (R317): `SIGNAL` of a lane changes; when it rises on a searching SDI receiver, the cycle restarts at its first family. -/
def execSignalDetect (t : Nat) (lane : Fin 216) (rise : Bool) (s : State) : Host.Outcome State Fault Refusal :=
  act t s (fun c =>
    let c1 := c.set Reg.LNE_L_STATE_SIGNAL lane (flag rise)
    let n := lane.val - 152
    if rise ∧ 152 ≤ lane.val ∧ (c.lane lane).on = true ∧ (c.lane lane).lock = false ∧ bit (c.sdiFlags n) 2 = true then c1.startSearch n else c1)

/-- SDI_SEARCH_STEP (R317): 2 ms on a family without lock; the next family is tried. -/
def execSdiSearchStep (t : Nat) (lane : Fin 64) (s : State) : Host.Outcome State Fault Refusal :=
  act t s (fun c =>
    let x := c.lane (sdiLane lane)
    if x.on ∧ x.lock = false ∧ bit (c.sdiFlags lane) 2 = true ∧ x.triedAt + msU 2 ≤ c.now then c.tryFamily lane (nextFamily x.first x.family) else c)

/-- The format becomes known of a source whose receiver is locked (R318, R320): from the ST 352 identifier, or from the raster alone at 270 Mb/s. -/
def Chip.learnSdi (c : Chip) (h : Nat) (raster : Option Format) : Chip :=
  let r := c.record tySdi h
  let x := c.lane (sdiLane h)
  let f := if u8 r 1 = 0 ∧ x.family = 1 then raster else x.ident.map Prod.fst
  match f with
  | none => c
  | some g => if c.groupLocked h ∧ bit (u8 r 2) 0 = true ∧ (c.src (u16 r 4)).format ≠ some g then c.formatChange (u16 r 4) (some g) else c

/-- The skew of a group as measured over a frame (R321): above 2.0 µs the group loses lock and its links search again. -/
def Chip.judgeSkew (c : Chip) (h ns : Nat) : Chip :=
  let l := sdiLane h
  let before := c.lane l
  let c1 := (c.set Reg.LNE_L_SDI_SKEW_NS l (min ns 0xFFFF)).modLane l (fun x => { x with skew := ns, skewed := decide (2000 < ns) })
  if ns ≤ 2000 then c1
  else
    let c2 := if before.skewed then c1 else (c1.mark Reg.LNE_STATUS_SKEW_SEEN).event Ev.lneSdiSkew [h, ns]
    (c.sdiGroup h).foldl (fun a n => a.startSearch n) c2

/-- An EAV sequence arrives (R318): four that agree in the words between them declare lock. -/
def Chip.eavArrives (c : Chip) (n words : Nat) : Chip :=
  let l := sdiLane n
  let x := c.lane l
  if x.lock then c
  else
    let k := if x.eavs = 0 then 1 else if x.eavs = 1 ∨ words ≠ x.words then 2 else x.eavs + 1
    let c1 := (c.set Reg.LNE_L_STATE_CDR_LOCK l 1).modLane l (fun y => { y with eavs := k, words := words })
    if k < 4 then c1
    else (c1.modLane l (fun y => { y with lock := true, last := y.family, lockAt := some c.now })).event Ev.lneSdiLock [sdiWord n x]

/-- SDI_EAV (R316, R318, R320, R321): lock, ST 352, skew of a group, format. -/
def execSdiEav (t : Nat) (lane : Fin 64) (words : Nat) (ident : Option (Format × Fin 4)) (raster : Option Format) (skew : Option Nat) (s : State) :
    Host.Outcome State Fault Refusal :=
  act t s (fun c =>
    if (c.lane (sdiLane lane)).on then
      let c1 := c.eavArrives lane words
      let c2 := c1.modLane (sdiLane lane) (fun x => match ident with
        | some (f, k) => if x.lock then { x with ident := some (f, k.val) } else x
        | none => x)
      match c2.sdiHead lane with
      | none => c2
      | some h =>
        let c3 := match skew with | some ns => if h = lane.val ∧ 1 < (c2.sdiGroup h).length then c2.judgeSkew h ns else c2 | none => c2
        ((c3.learnSdi h raster).showLocks h).refPoll
    else c)

/-- SDI_RATE_MEASURE (R318): 1 ms after lock, an offset below −500 ppm marks the /1.001 rate. -/
def execSdiRateMeasure (t : Nat) (lane : Fin 64) (offset : Int) (s : State) : Host.Outcome State Fault Refusal :=
  act t s (fun c =>
    let l := sdiLane lane
    match (c.lane l).lockAt with
    | none => c
    | some u =>
      if u + msU 1 ≤ c.now then
        ((c.set Reg.LNE_L_OFFSET_PPM l (satSigned 32 offset)).modLane l (fun x => { x with lockAt := none, fract := decide (offset < -50000) })).showLane lane
      else c)

/-- SDI_LOCK_LOST (R317, R319). -/
def execSdiLockLost (t : Nat) (lane : Fin 64) (cdr : Bool) (s : State) : Host.Outcome State Fault Refusal :=
  act t s (fun c => if (c.lane (sdiLane lane)).lock then c.sdiLose lane cdr else c)

/-! ## Ethernet lanes -/

/-- LANE_START (R326, R329): a lane leaves DEEP; the lanes of its breakout, or of its splice port, start. -/
def execLaneStart (t : Nat) (lane : Fin 216) (s : State) : Host.Outcome State Fault Refusal :=
  act t s (fun c =>
    if c.laneUsed lane ∧ c.laneActive lane = true then
      (if lane.val < 136 then (match c.laneBreakout lane with | some (p, b) => c.startBreakout p b | none => c)
       else if lane.val < 152 then c.startSplice ((lane - 136) / 2)
       else c.startReceiver (lane - 152))
    else c)

/-- LANE_TRAINING_DONE (R325, R326): training with the far end completes. -/
def execLaneTrainingDone (t : Nat) (lane : Fin 152) (s : State) : Host.Outcome State Fault Refusal :=
  act t s (fun c =>
    if c.fld Reg.LNE_L_STATE_TRAIN lane = 1 then
      ((c.set Reg.LNE_L_STATE_TRAIN lane 2).set Reg.LNE_L_STATE_CDR_LOCK lane 1).modLane lane (fun x => { x with searchAt := c.now })
    else c)

/-- How long a far end has to take part in training: 500 ms from lane start, or 35 ms from the start of a lane's step change (R325, R330). -/
def Chip.trainLimit (c : Chip) (l : Nat) : Nat := if 136 ≤ l ∧ (c.stepSt ((l - 136) / 2)).change.isSome then msU 35 else msU 500

/-- TRAINING_TIMEOUT (R325): the far end takes no part in training; the preset is taken. -/
def execTrainingTimeout (t : Nat) (lane : Fin 152) (s : State) : Host.Outcome State Fault Refusal :=
  act t s (fun c =>
    if c.fld Reg.LNE_L_STATE_TRAIN lane = 1 ∧ (c.lane lane).startedAt + c.trainLimit lane ≤ c.now then
      (c.set Reg.LNE_L_STATE_TRAIN lane 3).modLane lane (fun x => { x with searchAt := c.now })
    else c)

/-- LINK_START_TIMEOUT (R327): no link 1 s after lane start; the third failed start in a row is recorded. -/
def execLinkStartTimeout (t : Nat) (port : Fin 18) (breakout : Fin 8) (s : State) : Host.Outcome State Fault Refusal :=
  act t s (fun c =>
    let l := c.firstLane port breakout
    let x := c.lane l
    if breakout.val < c.breakouts port ∧ c.macOn port = true ∧ c.laneActive l = true ∧ (c.mac (macKey port breakout)).up = false
        ∧ x.startedAt + secU 1 ≤ c.now then
      let c1 := c.modLane l (fun y => { y with fails := y.fails + 1 })
      (c1.eventIf (x.fails + 1 == 3) Ev.lneTrainFail [l]).startBreakout port breakout
    else c)

/-- ALIGNMENT_LOSS (R327): the link goes down and the lanes return to step 2 with their coefficients. -/
def execAlignmentLoss (t : Nat) (port : Fin 18) (breakout : Fin 8) (s : State) : Host.Outcome State Fault Refusal :=
  act t s (fun c =>
    if (c.mac (macKey port breakout)).up then
      let c1 := (c.breakoutLanes port breakout).foldl (fun a l =>
        ((a.set Reg.LNE_L_STATE_ALIGNED l 0).set Reg.LNE_L_STATE_CDR_LOCK l 0).count Reg.LNE_L_LOCK_LOST_COUNT l 1) (c.linkDown port breakout)
      c1.modLane (c.firstLane port breakout) (fun x => { x with lossAt := some c.now, startedAt := c.now })
    else c)

/-- RETRAIN_TIMEOUT (R327): no link 100 ms after an alignment loss; a full retrain follows. -/
def execRetrainTimeout (t : Nat) (port : Fin 18) (breakout : Fin 8) (s : State) : Host.Outcome State Fault Refusal :=
  act t s (fun c =>
    match (c.lane (c.firstLane port breakout)).lossAt with
    | some u => if u + msU 100 ≤ c.now ∧ (c.mac (macKey port breakout)).up = false then c.startBreakout port breakout else c
    | none => c)

/-- A write of `RETRAIN` (R327): the breakout of the selected lane starts again from step 1. -/
def Chip.retrain (c : Chip) : Chip :=
  let l := c.fld Reg.LNE_LANE_SEL_LANE 0
  if c.laneUsed l ∧ c.laneActive l = true then (match c.laneBreakout l with | some (p, b) => c.startBreakout p b | none => c) else c

/-- RETRAIN (R327). -/
def execRetrain (t : Nat) (s : State) : Host.Outcome State Fault Refusal := act t s (fun c => c.retrain)

/-! ## Splice lanes -/

/-- WORD_BOUNDARY_FOUND (R329, R336): a lane is aligned; with both, the ends exchange `MAX_STEP` and the target step is set. -/
def execWordBoundaryFound (t : Nat) (port : Fin 8) (k : Fin 2) (farMax : Fin 4) (farAuto : Bool) (s : State) : Host.Outcome State Fault Refusal :=
  act t s (fun c =>
    let l := spliceLane port k
    let tr := c.fld Reg.LNE_L_STATE_TRAIN l
    if c.spliceOn port ∧ 2 ≤ tr ∧ (c.stepSt port).change.isNone = true then
      let c1 := ((c.set Reg.LNE_L_STATE_ALIGNED l 1).set Reg.LNE_L_STATE_TRAIN l (if tr = 4 then 2 else tr)).set Reg.LNE_L_STATE_CDR_LOCK l 1
      if c1.isSet Reg.LNE_L_STATE_ALIGNED (spliceLane port 0) ∧ c1.isSet Reg.LNE_L_STATE_ALIGNED (spliceLane port 1) = true then
        (c1.modStep port (fun x => { x with farMax := some farMax.val, farAuto := farAuto })).judgeLoad port
      else c1
    else c)

/-- WORD_BOUNDARY_TIMEOUT (R329): 100 ms without a boundary; the third failure leads to manual alignment. -/
def execWordBoundaryTimeout (t : Nat) (port : Fin 8) (k : Fin 2) (s : State) : Host.Outcome State Fault Refusal :=
  act t s (fun c =>
    let l := spliceLane port k
    let x := c.lane l
    let tr := c.fld Reg.LNE_L_STATE_TRAIN l
    if c.spliceOn port ∧ (tr = 2 ∨ tr = 3) ∧ c.isSet Reg.LNE_L_STATE_ALIGNED l = false ∧ x.searchAt + msU 100 ≤ c.now then
      let c1 := c.modLane l (fun y => { y with tries := y.tries + 1, searchAt := c.now })
      if x.tries + 1 < 3 then c1
      else ((c1.set Reg.LNE_L_STATE_TRAIN l 4).mark Reg.LNE_STATUS_ALIGN_SEEN).event Ev.lneAlignFail [l]
    else c)

/-- Whether both lanes of a splice port are aligned. -/
def Chip.bothAligned (c : Chip) (p : Nat) : Bool :=
  c.isSet Reg.LNE_L_STATE_ALIGNED (spliceLane p 0) && c.isSet Reg.LNE_L_STATE_ALIGNED (spliceLane p 1)

/-- A lane of a port starts its part of a step change (R330): it trains at the new rate. -/
def Chip.changeLane (c : Chip) (p : Nat) (x : StepChange) : Chip :=
  let l := spliceLane p x.lane
  ((c.set Reg.LNE_L_STATE_TRAIN l (if c.trains l then 1 else 3)).modLane l (fun y => { y with startedAt := c.now })).modStep p
    (fun y => { y with change := some { x with since := c.now } })

/-- STEP_CHANGE (R329, R330, R409): a port moves one step towards its target, lane 1 first; a barred step is not tried. -/
def execStepChange (t : Nat) (port : Fin 8) (s : State) : Host.Outcome State Fault Refusal :=
  act t s (fun c =>
    let p : Nat := port
    let x := c.stepSt p
    let now := c.fld Reg.SPL_P_STATE_STEP p
    let goal := c.targetStep p
    let new := if now < goal then now + 1 else now - 1
    if c.spliceOn p ∧ c.bothAligned p = true ∧ x.change.isNone = true ∧ goal ≠ now ∧ Tbl.has x.bars new = false then
      (c.set Reg.SPL_P_STATE_TARGET p goal).changeLane p { old := now, new := new, lane := 1, back := false, since := c.now }
    else c)

/-- A lane has gone through phases 2 to 5 of its change and passed (R330). -/
def Chip.lanePassed (c : Chip) (p : Nat) (x : StepChange) : Chip :=
  let c1 := c.set Reg.LNE_L_STATE_STEP (spliceLane p x.lane) (if x.back then x.old else x.new)
  let close : Chip → Chip := fun a => (a.modStep p (fun y => { y with change := none })).judgeLoad p
  if x.back then (if x.lane = 0 then c1.changeLane p { x with lane := 1 } else close c1)
  else if x.lane = 1 then c1.changeLane p { x with lane := 0 }
  else close (((c1.set Reg.SPL_P_STATE_STEP p x.new).modStep p (fun y => { y with wanting := false, lowSince := none })).event Ev.lneStep
    [p + x.old * 16 + x.new * 64])

/-- LANE_STEP_CHECK (R330): the lane's 10 ms check passes, or fails and the port returns to the old step. -/
def execLaneStepCheck (t : Nat) (port : Fin 8) (pass : Bool) (s : State) : Host.Outcome State Fault Refusal :=
  act t s (fun c =>
    match (c.stepSt port).change with
    | none => c
    | some x =>
      if c.fld Reg.LNE_L_STATE_TRAIN (spliceLane port x.lane) = 1 then c
      else if pass then c.lanePassed port x
      else if x.back then c
      else
        let c1 := (c.modStep port (fun y => { y with bars := Tbl.ins y.bars x.new (c.now + secU 60) })).changeLane port { x with back := true }
        (c1.mark Reg.LNE_STATUS_STEP_FAIL_SEEN).event Ev.lneStepFail [port + x.old * 16 + x.new * 64])

/-- STEP_BAR_EXPIRY (R330): the 60 s for which a step was barred end. -/
def execStepBarExpiry (t : Nat) (port : Fin 8) (s : State) : Host.Outcome State Fault Refusal :=
  act t s (fun c => c.modStep port (fun x => { x with bars := x.bars.filter (fun e => decide (c.now < e.2)) }))

/-! ## States -/

/-- LANE_STATE_TRANSITION_DONE (R331, R333): a transition is complete; the newest state asked for follows. -/
def execLaneStateTransitionDone (t : Nat) (lane : Fin 216) (s : State) : Host.Outcome State Fault Refusal :=
  act t s (fun c =>
    match (c.lane lane).going with
    | none => c
    | some w =>
      let c1 := (c.set Reg.LNE_L_STATE_PSTATE lane w).modLane lane (fun x => { x with going := none })
      let c2 := c1.set Reg.LNE_L_STATE_TX_IDLE lane (flag (w != 0 || c1.laneMuted lane))
      let c3 := if w = 0 ∧ 152 ≤ lane.val ∧ c.fld Reg.LNE_L_CTRL_DIAG lane = 0 then c2.startReceiver (lane - 152)
        else if w = 2 then (c2.set Reg.LNE_L_STATE_TRAIN lane 0).set Reg.LNE_L_STATE_CDR_LOCK lane 0 else c2
      c3.laneMove lane)

/-! ## Diagnostics -/

/-- Whether a lane is a splice lane in manual alignment (R329, R336). -/
def Chip.manual (c : Chip) (l : Nat) : Bool := decide (136 ≤ l) && decide (l < 152) && c.fld Reg.LNE_L_STATE_TRAIN l == 4

/-- A write of `SLIP` (R336). -/
def Chip.slip (c : Chip) : Chip :=
  let l := c.fld Reg.LNE_LANE_SEL_LANE 0
  if c.lne.noLane = false ∧ (c.fld Reg.LNE_L_CTRL_DIAG l = 1 ∨ c.manual l = true) then
    c.modLane l (fun x => { x with slips := (x.slips + 1) % (if c.laneNrz l then 32 else 16) })
  else c.mark Reg.LNE_STATUS_CFG_REJECT

/-- SLIP (R336). -/
def execSlip (t : Nat) (s : State) : Host.Outcome State Fault Refusal := act t s (fun c => c.slip)

/-- A write of `RAW_CAP` (R335): a capture starts on a lane in raw mode. -/
def Chip.rawCap (c : Chip) : Chip :=
  let l := c.fld Reg.LNE_LANE_SEL_LANE 0
  if c.lne.noLane = false ∧ c.fld Reg.LNE_L_CTRL_DIAG l = 1 then (c.set Reg.LNE_L_CTRL_RAW_DONE l 0).modLane l (fun x => { x with rawBusy := true })
  else c

/-- RAW_CAP (R335). -/
def execRawCap (t : Nat) (s : State) : Host.Outcome State Fault Refusal := act t s (fun c => c.rawCap)

/-- RAW_CAPTURE_DONE (R313, R335): 4,096 words stand in the raw buffer, after the lane's inversion. -/
def execRawCaptureDone (t : Nat) (lane : Fin 216) (words : List (BitVec 32)) (s : State) : Host.Outcome State Fault Refusal :=
  act t s (fun c =>
    if (c.lane lane).rawBusy then
      let inv := bit (c.laneFlags lane) 0
      (c.set Reg.LNE_L_CTRL_RAW_DONE lane 1).modLane lane (fun x => { x with
        rawBusy := false, raw := (words.take 4096).map (fun w => if inv then 0xFFFFFFFF - w.toNat else w.toNat) })
    else c)

/-- A read of `L_RAW_DATA` (R343): the word at `WORD`, which advances by 1. -/
def Chip.rawRead (c : Chip) : Chip :=
  let l := c.fld Reg.LNE_LANE_SEL_LANE 0
  if c.lne.noLane then c.emit (.value Reg.LNE_L_RAW_DATA_DATA.addr 0)
  else
    let w := c.fld Reg.LNE_L_RAW_ADDR_WORD l
    (c.set Reg.LNE_L_RAW_ADDR_WORD l (w + 1)).emit (.value Reg.LNE_L_RAW_DATA_DATA.addr ((c.lane l).raw.getD w 0))

/-- RAW_DATA_READ (R343). -/
def execRawDataRead (t : Nat) (s : State) : Host.Outcome State Fault Refusal := act t s (fun c => c.rawRead)

/-- A write of `ERR_INJ` (R337, R344): one transmitted bit is inverted in PRBS mode. -/
def Chip.errInj (c : Chip) : Chip :=
  let l := c.fld Reg.LNE_LANE_SEL_LANE 0
  if c.lne.noLane = false ∧ c.fld Reg.LNE_L_CTRL_DIAG l = 2 then c.modLane l (fun x => { x with inverted := x.inverted + 1 })
  else c.mark Reg.LNE_STATUS_CFG_REJECT

/-- ERR_INJ (R337). -/
def execErrInj (t : Nat) (s : State) : Host.Outcome State Fault Refusal := act t s (fun c => c.errInj)

/-- A write of `START` (R338, R344): an eye scan of a lane that is ACTIVE, in place of one that runs. -/
def Chip.eyeStart (c : Chip) : Chip :=
  let l := c.fld Reg.LNE_LANE_SEL_LANE 0
  if c.lne.noLane = false ∧ c.laneActive l = true then
    (c.set Reg.LNE_L_EYE_CTRL_EYE_DONE l 0).modLane l (fun x => { x with
      scan := some (c.fld Reg.LNE_L_EYE_CTRL_X l, c.fld Reg.LNE_L_EYE_CTRL_Y l, c.fld Reg.LNE_L_EYE_CTRL_EYE l, c.fld Reg.LNE_L_EYE_CTRL_DWELL l) })
  else c.mark Reg.LNE_STATUS_CFG_REJECT

/-- EYE_SCAN_START (R338). -/
def execEyeScanStart (t : Nat) (s : State) : Host.Outcome State Fault Refusal := act t s (fun c => c.eyeStart)

/-- EYE_SCAN_DONE (R338): the errors counted stand in `L_EYE_ERR`. -/
def execEyeScanDone (t : Nat) (lane : Fin 216) (errors : Nat) (s : State) : Host.Outcome State Fault Refusal :=
  act t s (fun c =>
    if (c.lane lane).scan.isSome then
      ((c.set Reg.LNE_L_EYE_ERR_COUNT lane (min errors 0xFFFFFFFF)).set Reg.LNE_L_EYE_CTRL_EYE_DONE lane 1).modLane lane (fun x => { x with scan := none })
    else c)

/-- The counters of the block (R343). -/
def lneCounters : List Fld :=
  [Reg.LNE_L_LOCK_LOST_COUNT, Reg.LNE_L_SEARCHES_COUNT, Reg.LNE_L_PRBS_BITS_LO_COUNT, Reg.LNE_L_PRBS_BITS_HI_COUNT, Reg.LNE_L_PRBS_ERR_LO_COUNT,
    Reg.LNE_L_PRBS_ERR_HI_COUNT, Reg.LNE_L_PRBS_ERR_HI_RESYNC]

/-- LNE_CLR_CNT (R343). -/
def execLneClrCnt (t : Nat) (s : State) : Host.Outcome State Fault Refusal := act t s (fun c => c.clearAll lneCounters)

end Sys2Proof.Machine
end

