-- ==== Sys2Proof/Machine/FlowWatch.lean ====
section
/-! DEFINITION. The commands of flow watch, of the deep analysers and of the generators' registers (R440 to R455). -/

namespace Sys2Proof.Machine

/-! ## Settings (R450, R451) -/

/-- The record of `FWA_GLOBAL`, or its defaults. -/
def Chip.fwaRec (c : Chip) : List Byte :=
  if c.hasRec tyFwa 0 then c.record tyFwa 0 else beBytes 1 0 ++ beBytes 1 (256 - 90) ++ beBytes 2 5000 ++ beBytes 2 (65536 - 10) ++ beBytes 1 3 ++ beBytes 1 0

/-- The record of a source, or its defaults. -/
def Chip.fwaSource (c : Chip) (s : Nat) : List Byte :=
  if c.hasRec tyFwaSources s then c.record tyFwaSources s else beBytes 2 s ++ beBytes 1 3 ++ beBytes 1 255 ++ beBytes 4 10000

/-- The ticks of TD0 in an interval: `INTERVAL_FRAMES`, or the rate of TD0 rounded (R450). -/
def Chip.intervalFrames (c : Chip) : Nat :=
  let n := u8 c.fwaRec 0
  if n ≠ 0 then n else let p := max (c.period 0) 1; (2 * 27000000000 + p) / (2 * p)

/-- The silence threshold as a magnitude (R443). -/
def Chip.silenceLevel (c : Chip) : Nat := gainFloor (2 ^ 31) 32 (100 * signed 8 (u8 c.fwaRec 1))

/-- The over-level threshold as a magnitude. -/
def Chip.overLevel (c : Chip) : Nat := gainFloor (2 ^ 31) 32 (10 * signed 16 (u16 c.fwaRec 4))

/-- `SILENCE_MS` in units. -/
def Chip.silenceTime (c : Chip) : Nat := msU (u16 c.fwaRec 2)

/-! ## Levels (R443) -/

/-- The largest n of at most `k` bits more with p · 10^(n/2000) ≤ 2^31. -/
def dbSearch (p : Nat) : Nat → Nat → Nat
  | 0, n => n
  | k + 1, n => if p ^ 2000 * 10 ^ (n + 2 ^ k) ≤ (2 ^ 31) ^ 2000 then dbSearch p k (n + 2 ^ k) else dbSearch p k n

/-- A magnitude below full scale in whole 0.01 dB, 0xFFFF for none. -/
def dbBelow (p : Nat) : Nat := if p = 0 then 0xFFFF else dbSearch p 16 0

/-- `FWA_AUDIO_ALARM`: entry into silence or over-level. -/
def Chip.audioAlarm (c : Chip) (pos : Nat) (silent : Bool) : Chip :=
  c.event Ev.fwaAudioAlarm [pos + (if silent then 65536 else 131072), dbBelow (Tbl.get 0 c.fwa.peaks pos)]

/-- SILENCE_DETECTED (R443): no sample above the threshold for `SILENCE_MS`. -/
def execSilenceDetected (t : Nat) (pos : Fin 16384) (s : State) : Host.Outcome State Fault Refusal :=
  act t s (fun c =>
    if c.audBound false pos = true ∧ c.fwa.silent.contains pos.val = false ∧ Tbl.get 0 c.fwa.loudAt pos + c.silenceTime ≤ c.now then
      ({ (c.audioAlarm pos true) with fwa := { c.fwa with silent := c.fwa.silent ++ [pos.val], bad := dedup (c.fwa.bad ++ [pos.val]) } } : Chip).set
        Reg.FWA_CH_STATE_SILENT pos 1
    else c)

/-! ## Intervals (R441, R442, R444) -/

/-- A signed measure, or 0x7FFF_FFFF for none. -/
def watchWord (v : Option Int) : Nat := match v with | some x => satSigned 32 x | none => 0x7FFFFFFF

/-- The alarm mask of a source (R444). -/
def Chip.alarmMask (c : Chip) (s : Nat) (w : Watch) (x : WatchFact) : Nat :=
  let r := c.fwaSource s
  let kind0 := match c.srcFlow s with | some f => flowKind (c.record tyRx f) == 0 | none => false
  flag (decide (0 < w.lost)) + 2 * flag (decide (0 < w.gapsA + w.gapsB) || w.down) + 4 * flag w.skewHigh
    + 8 * flag (kind0 && decide (u8 r 2 < 3) && decide (u8 r 2 < x.verdict.val))
    + 16 * flag (match w.lat with | some b => decide (((u32 r 4 * 1000 : Nat) : Int) < b.2) | none => false)
    + 32 * flag (decide (0 < x.lineCrc + x.trs + x.edh + x.st352)) + 64 * flag (decide (0 < x.anc))
    + 128 * flag ((c.audList s).any (fun p => c.fwa.bad.contains p || c.fwa.silent.contains p || c.fwa.overs.contains p))

/-- The results of a source become readable (R442), and its alarms are recorded (R444). -/
def Chip.closeSource (c : Chip) (len : Nat) (facts : List WatchFact) (s : Nat) : Chip :=
  let w := Tbl.get Watch.reset c.fwa.watch s
  let x := (facts.find? (fun y => y.src.val == s)).getD ⟨Fin.ofNat 1024 s, 0, 0, 3, 0, 0, 0, 0, 0⟩
  let on := c.bound s
  let a := if on then c.alarmMask s w x else 0
  let put := fun (c : Chip) (l : List (Fld × Nat)) => l.foldl (fun b e => b.set e.1 s (min e.2 (2 ^ e.1.width - 1))) c
  let c1 := put c
    [(Reg.FWA_S_STATE_VALID, flag (on && !(c.fwa.rebound.contains s))), (Reg.FWA_S_STATE_PACKET, flag (c.srcFlow s).isSome), (Reg.FWA_S_STATE_ALARMS, a),
     (Reg.FWA_S_STATE_LEN, len), (Reg.FWA_S_GAPS_A_COUNT, w.gapsA), (Reg.FWA_S_GAPS_B_COUNT, w.gapsB),
     (Reg.FWA_S_SKEW_MIN_NS, watchWord (w.skew.map Prod.fst)), (Reg.FWA_S_SKEW_MAX_NS, watchWord (w.skew.map Prod.snd)),
     (Reg.FWA_S_LAT_MIN_NS, watchWord (w.lat.map Prod.fst)), (Reg.FWA_S_LAT_MAX_NS, watchWord (w.lat.map Prod.snd)),
     (Reg.FWA_S_LAT_MEAN_NS, watchWord (if w.latN = 0 then none else some (roundDiv w.latSum w.latN)))]
  let c2 := put c1
    [(Reg.FWA_S_21_VERDICT, x.verdict.val), (Reg.FWA_S_21_CINST, x.cinst), (Reg.FWA_S_21_VRX, x.vrx), (Reg.FWA_S_SDI_ERR_LINE_CRC, x.lineCrc),
     (Reg.FWA_S_SDI_ERR_TRS, x.trs), (Reg.FWA_S_SDI_ERR2_EDH, x.edh), (Reg.FWA_S_SDI_ERR2_ST352, x.st352), (Reg.FWA_S_ANC_ERR_COUNT, x.anc)]
  let c3 := (List.range 32).foldl (fun b i => b.set Reg.FWA_S_HIST_COUNT (s * 32 + i) (Tbl.get 0 w.hist i)) c2
  let m := a &&& u8 (c.fwaSource s) 3
  let c4 := if m ≠ 0 then (c3.mark Reg.FWA_STATUS_ALARM_SEEN).event Ev.fwaAlarm [s * 65536 + m, min len 255, (c.dom 0).frame] else c3
  { c4 with fwa := { c4.fwa with watch := Tbl.upd Watch.reset c4.fwa.watch s (fun y =>
      { Watch.reset with seqA := y.seqA, seqB := y.seqB, arrA := y.arrA, arrB := y.arrB, frameTs := y.frameTs }) } }

/-- FLOW_WATCH_INTERVAL_CLOSE (R441): the FWA job that closes the interval. -/
def execFlowWatchIntervalClose (t : Nat) (facts : List WatchFact) (cs : List (Fin 16384 × Nat)) (s : State) : Host.Outcome State Fault Refusal :=
  act t s (fun c =>
    if (c.dom 0).fwaOpen = true ∧ c.fwa.ticks ≠ 0 then
      let c0 := cs.foldl (fun a e => a.count Reg.FWA_CH_CS_CRC_COUNT e.1 e.2) c
      let c1 : Chip := { c0 with fwa := { c0.fwa with bad := dedup (c0.fwa.bad ++ (cs.filter (fun e => e.2 != 0)).map (fun e => e.1.val)) } }
      let srcs := dedup (c1.ingestSources ++ (c1.listed tyRx).map (fun f => u16 (c1.record tyRx f) 4) ++ c1.fwa.rebound ++ c1.fwa.watch.map Prod.fst)
      let c2 := (srcs.filter (fun i => decide (i < 1024))).foldl (fun a i => a.closeSource c1.fwa.ticks facts i) c1
      let c3 := c2.fwa.peaks.foldl (fun a e => a.set Reg.FWA_CH_STATE_PEAK e.1 (dbBelow e.2)) (c2.clearAll [Reg.FWA_CH_STATE_PEAK])
      ({ c3 with fwa := { c3.fwa with ticks := 0, rebound := [], peaks := [], bad := [] } }.modDom 0 (fun m => { m with fwaOpen := false })).countWrap
        Reg.FWA_INTERVALS_COUNT 0 1
    else c)

/-! ## Deep analysers (R446, R447, R455) -/

/-- Whether a source is bound to a packet flow. -/
def Chip.packetSource (c : Chip) (s : Nat) : Bool := isExternalSrc s && (c.srcFlow s).isSome

/-- A write of `START`: recording begins at record 0, whether or not the analyser runs; rejected while `SRC` names a source without a packet flow. -/
def Chip.deepStart (c : Chip) (a : Nat) : Chip :=
  if c.packetSource (c.fld Reg.FWA_D_CFG_SRC a) then
    let c1 := ((c.set Reg.FWA_D_STATE_RUNNING a 1).set Reg.FWA_D_STATE_FULL a 0).set Reg.FWA_D_NEXT_RECORD a 0
    { c1 with fwa := { c1.fwa with deepGap := c1.fwa.deepGap.filter (fun i => i != a) } }
  else c.mark Reg.FWA_STATUS_CFG_REJECT

/-- A write of `STOP`. -/
def Chip.deepStop (c : Chip) (a : Nat) : Chip := c.set Reg.FWA_D_STATE_RUNNING a 0

/-- DEEP_START (R447). -/
def execDeepStart (t : Nat) (ana : Fin 8) (s : State) : Host.Outcome State Fault Refusal := act t s (fun c => c.deepStart ana)

/-- DEEP_STOP (R447). -/
def execDeepStop (t : Nat) (ana : Fin 8) (s : State) : Host.Outcome State Fault Refusal := act t s (fun c => c.deepStop ana)

/-- What `FWA.CTRL.CLR_CNT` clears (R454). -/
def Chip.clrFwa (c : Chip) : Chip :=
  c.clearAll [Reg.FWA_CH_CS_CRC_COUNT, Reg.FWA_D_LOST_COUNT, Reg.FWA_INTERVALS_COUNT]

/-- FWA_CLR_CNT (R454). -/
def execFwaClrCnt (t : Nat) (s : State) : Host.Outcome State Fault Refusal := act t s (fun c => c.clrFwa)

/-- GEN_CLR_CNT (R453): no counter is cleared. -/
def execGenClrCnt (t : Nat) (s : State) : Host.Outcome State Fault Refusal := act t s (fun c => c)

end Sys2Proof.Machine
end

