-- ==== Sys2Proof/Machine/Refs.lean ====
section
/-! DEFINITION. The reference system: measurement, qualification, conflict and vote, selection, the DPLL, the outputs (R345 to R372). -/

namespace Sys2Proof.Machine

/-! ## Measurement (R350 to R352) -/

/-- The magnitude of a signed number. -/
def magnitude (v : Int) : Int := if v < 0 then -v else v

/-- Records what is measured of an entry (R350, R362). -/
def Chip.noteFact (c : Chip) (f : RefFact) : Chip :=
  if c.refOn f.entry ∧ c.refSignal f.entry = true then
    (c.set Reg.REFS_E_OFF_LO_FREQ f.entry (satSigned 32 f.offset)).modRef f.entry (fun x => { x with phase := f.phase <|> x.phase })
  else c

/-- The offset of an entry against the median of the other qualified entries, of which there must be two (R350). -/
def Chip.againstMedian (c : Chip) (e : Nat) (qualified : List Nat) : Option Int :=
  let others := qualified.filter (fun x => x != e)
  if 2 ≤ others.length then some (c.refOffset e - median (others.map c.refOffset)) else none

/-- The limit an entry lies outside, as `CAUSE` is coded; 0 within both (R352). -/
def Chip.outside (c : Chip) (e : Nat) (med : Option Int) : Nat :=
  if c.loLimit e < magnitude (c.refOffset e) then 2
  else match med with
    | some m => if c.medLimit e < magnitude m then 3 else 0
    | none => 0

/-- Whether an entry disqualified by vote agrees with every qualified entry of its rank (R352). -/
def Chip.agrees (c : Chip) (e : Nat) : Bool :=
  (List.range 8).all (fun x => x == e || !(c.selectable x) || c.refRank x != c.refRank e || decide (magnitude (c.refOffset x - c.refOffset e) ≤ c.agree))

/-- Whether the qualification timers run: from the start of pilot service (R352). -/
def Chip.timersRun (c : Chip) : Bool := c.boot.pilotAt.isSome

/-- Judges one entry that was measured (R352). -/
def Chip.judgeEntry (c : Chip) (qualified : List Nat) (f : RefFact) : Chip :=
  let e : Nat := f.entry
  if c.refOn e ∧ c.refSignal e = true then
    let med := c.againstMedian e qualified
    let out := c.outside e med
    let c1 := c.set Reg.REFS_E_OFF_MED_FREQ e (match med with | some m => satSigned 32 m | none => 0x7FFFFFFF)
    match c1.refState e with
    | 1 => (c1.setRef e 2 (c1.fld Reg.REFS_E_STATE_CAUSE e)).modRef e (fun x => { x with timer := if out = 0 ∧ c.timersRun = true then some c.now else none })
    | 2 =>
      c1.modRef e (fun x => { x with timer := if out = 0 ∧ c.timersRun = true then (if x.timer.isSome then x.timer else some c.now) else none })
    | 3 => if out = 0 then c1 else (c1.set Reg.REFS_E_STATE_STATE e 4).modRef e (fun x => { x with timer := some c.now, why := out })
    | 4 => if out = 0 then (c1.set Reg.REFS_E_STATE_STATE e 3).modRef e (fun x => { x with timer := none }) else c1.modRef e (fun x => { x with why := out })
    | 5 =>
      let voted := (c1.refEntry e).outvoted && !(c1.agrees e)
      let c2 := c1.modRef e (fun x => { x with outvoted := voted })
      if out = 0 ∧ voted = false then
        (c2.set Reg.REFS_E_STATE_STATE e 2).modRef e (fun x => { x with timer := if c.timersRun then some c.now else none })
      else c2
    | _ => c1
  else c

/-! ## Conflicts (R355 to R357) -/

/-- The pairs of selectable entries of equal rank, as 8 · a + b with a below b. -/
def Chip.equalPairs (c : Chip) : List Nat :=
  (List.range 8).flatMap (fun a => ((List.range 8).filter (fun b => decide (a < b) && c.selectable a && c.selectable b && c.refRank a == c.refRank b)).map
    (fun b => 8 * a + b))

/-- Follows how long a pair has differed (R355). -/
def Chip.judgePair (c : Chip) (p : Nat) : Chip :=
  if c.agree < magnitude (c.refOffset (p / 8) - c.refOffset (p % 8)) then
    { c with ref := { c.ref with pairs := if Tbl.has c.ref.pairs p then c.ref.pairs else Tbl.ins c.ref.pairs p c.now } }
  else { c with ref := { c.ref with pairs := Tbl.del c.ref.pairs p, conflicts := c.ref.conflicts.erase p } }

/-- The votes of the other qualified entries for the first of a pair against the second (R356). -/
def Chip.votes (c : Chip) (a b : Nat) : Nat :=
  ((List.range 8).filter (fun x => x != a && x != b && c.selectable x && decide (magnitude (c.refOffset x - c.refOffset a) ≤ c.agree)
    && !(decide (magnitude (c.refOffset x - c.refOffset b) ≤ c.agree)))).length

/-- The loser of a conflict, none when no vote resolves it (R356). -/
def Chip.loser (c : Chip) (a b : Nat) : Option Nat :=
  let va := c.votes a b
  let vb := c.votes b a
  if vb < va then some b else if va < vb then some a
  else if c.isSet Reg.REFS_DPLL_HIST_VALID 0 then
    match c.holdMean with
    | some h =>
      let na := decide (magnitude (h - c.refOffset a) ≤ c.agree)
      let nb := decide (magnitude (h - c.refOffset b) ≤ c.agree)
      if na && !nb then some b else if nb && !na then some a else none
    | none => none
  else none

/-- An entry is disqualified (R352). -/
def Chip.disqualify (c : Chip) (e cause : Nat) : Chip :=
  (((c.setRef e 5 cause).count Reg.REFS_E_EVENTS_DISQ e 1).modRef e (fun x => { x with timer := none, outvoted := cause == 4 })).refEvent Ev.refDisqualified e
    |>.leavePairs e

/-- Resolves a pair that has been in conflict for `AGREE_HOLD_S`, or records it (R355 to R357). -/
def Chip.resolvePair (c : Chip) (p : Nat) : Chip :=
  let a := p / 8
  let b := p % 8
  match Tbl.find c.ref.pairs p with
  | none => c
  | some since =>
    if c.selectable a ∧ c.selectable b = true ∧ since + secU (u8 c.refGlobal 6) ≤ c.now then
      match c.loser a b with
      | some e => c.disqualify e 4
      | none =>
        if c.ref.conflicts.contains p then c
        else (({ c with ref := { c.ref with conflicts := c.ref.conflicts ++ [p] } }).mark Reg.REFS_STATUS_CONFLICT_SEEN).event Ev.refConflict
          [a + b * 16, unsigned 32 (c.refOffset b - c.refOffset a)]
    else c

/-! ## The DPLL output (R358, R359, R375) -/

/-- The frequency the loop output moves towards (R358): nominal, the holdover frequency, or what the loop asks. -/
def Chip.dpllGoal (c : Chip) (freq : Int) : Int :=
  match c.fld Reg.REFS_DPLL_STATE 0 with
  | 0 => 0
  | 3 => signed 32 (c.fld Reg.REFS_HOLD_FREQ_FREQ 0)
  | _ => freq

/-- The rate of device time against LO_CLK in 10^-15: the DPLL output frequency times 1 + r (R375, R379). -/
def Chip.timeRate (c : Chip) : Int :=
  let f : Int := signed 32 (c.fld Reg.REFS_DPLL_FREQ_FREQ 0) * 10000
  f + c.ptp.corr + f * c.ptp.corr / 1000000000000000

/-- Runs device time at its rate from now on (R375); a refused jump has frozen it (R379). -/
def Chip.runTime (c : Chip) : Chip :=
  if c.fld Reg.PTP_STATUS_STATE 0 = 5 then c
  else { c with clock := { baseAt := c.now, baseQ := c.deviceQ, rate := c.timeRate } }

/-- Moves the output frequency within `SLEW_PPB_S` (R359). -/
def Chip.steer (c : Chip) (freq phase : Int) : Chip :=
  let old : Int := signed 32 (c.fld Reg.REFS_DPLL_FREQ_FREQ 0)
  let room : Int := ((u16 c.refGlobal 4 * 100 * (c.now - c.ref.measuredAt) / secU 1 : Nat) : Int)
  let goal := c.dpllGoal freq
  let next := if c.fld Reg.REFS_DPLL_STATE 0 = 0 then 0 else max (old - room) (min (old + room) goal)
  (({ (c.set Reg.REFS_DPLL_FREQ_FREQ 0 (unsigned 32 next)) with ref := { c.ref with measuredAt := c.now } }).set Reg.REFS_DPLL_PHASE_NS 0
    (satSigned 32 phase)).runTime

/-- REFERENCE_MEASUREMENT (R350, R352, R355 to R357): every 100 ms. -/
def execReferenceMeasurement (t : Nat) (facts : List RefFact) (freq : Int) (phase : Int) (s : State) : Host.Outcome State Fault Refusal :=
  act t s (fun c =>
    let c0 := c.refPoll
    let c1 := facts.foldl Chip.noteFact c0
    let q := (List.range 8).filter c1.selectable
    let c2 := facts.foldl (fun a f => a.judgeEntry q f) c1
    let ps := c2.equalPairs
    let c3 := ps.foldl Chip.judgePair { c2 with ref := { c2.ref with
      pairs := c2.ref.pairs.filter (fun x => ps.contains x.1), conflicts := c2.ref.conflicts.filter (fun x => ps.contains x) } }
    let c4 := ps.foldl Chip.resolvePair c3
    c4.showConflicts.steer freq phase)

/-- QUALIFICATION_TIMER_EXPIRY (R352). -/
def execQualificationTimerExpiry (t : Nat) (entry : Fin 8) (s : State) : Host.Outcome State Fault Refusal :=
  act t s (fun c =>
    match (c.refEntry entry).timer with
    | none => c
    | some u =>
      if c.refState entry = 2 ∧ u + secU (c.qualS entry) ≤ c.now then
        ((c.setRef entry 3 0).modRef entry (fun x => { x with timer := none })).refEvent Ev.refQualified entry
      else c)

/-- HOLDOFF_TIMER_EXPIRY (R352). -/
def execHoldoffTimerExpiry (t : Nat) (entry : Fin 8) (s : State) : Host.Outcome State Fault Refusal :=
  act t s (fun c =>
    match (c.refEntry entry).timer with
    | none => c
    | some u => if c.refState entry = 4 ∧ u + secU (c.holdoffS entry) ≤ c.now then c.disqualify entry (c.refEntry entry).why else c)

/-! ## Selection (R353, R362 to R364) -/

/-- The step of a switch to an entry in 1/27 ns (R362): its phase less that of the entry most recently selected, within half a period. -/
def Chip.switchStep (c : Chip) (new : Nat) : Option Int :=
  match c.ref.ever with
  | none => none
  | some old =>
    match (c.refEntry new).phase, (c.refEntry old).phase with
    | some a, some b =>
      (match c.refPeriod new with
       | some p =>
         let d := (a - b) % (p : Int)
         some (if (p : Int) < 2 * d then d - (p : Int) else d)
       | none => some (a - b))
    | _, _ => none

/-- The selected entry changes (R362, R363): 0xF stands for none. -/
def Chip.switchTo (c : Chip) (new cause : Nat) : Chip :=
  let old := c.refSelected
  let word := if new = 15 then 0x80000000 else match c.switchStep new with | some d => unsigned 32 (roundDiv d 27) | none => 0x80000000
  let c1 := (((c.set Reg.REFS_DPLL_SELECTED 0 new).count Reg.REFS_SWITCHES_COUNT 0 1).mark Reg.REFS_STATUS_SWITCH_SEEN).event Ev.refSwitch
    [old * 268435456 + new * 16777216 + cause * 1048576, word]
  if new = 15 then c1
  else
    let c2 := c1.set Reg.REFS_STEP_NS 0 word
    Chip.acquire { c2 with ref := { c2.ref with ever := some new, blocked := false } }

/-- Whether candidates of one rank are in conflict (R353, R357). -/
def Chip.inConflict (c : Chip) (cands : List Nat) : Bool := c.ref.conflicts.any (fun p => cands.contains (p / 8) && cands.contains (p % 8))

/-- The entry decided on and the cause of R363 (R353, R364). -/
def Chip.refDecision (c : Chip) : Nat × Nat :=
  let q := (List.range 8).filter c.selectable
  let old := c.refSelected
  let left := if c.fld Reg.REFS_E_STATE_STATE old = 5 then 2 else 1
  let gone := old < 8 ∧ q.contains old = false
  let f := c.fld Reg.REFS_CTRL_FORCE_ENTRY 0
  if q = [] then (15, left)
  else
    let best := (q.map c.refRank).foldl min 15
    let cands := q.filter (fun e => c.refRank e == best)
    let clash := c.inConflict cands
    if c.isSet Reg.REFS_CTRL_FORCE_EN 0 ∧ q.contains f = true then (f, 4)
    else if gone ∨ 8 ≤ old then
      (if clash then 15 else cands.headD 15, if gone then left else if c.ref.blocked then 5 else if c.ref.ever = none then 6 else 7)
    else if bit (u8 c.refGlobal 0) 0 ∧ best < c.refRank old ∧ clash = false then (cands.headD 15, 3)
    else (old, 0)

/-- The selection of R353, on a device whose DPLL does not follow the splice tick input (R412), from the first tick of full service in TD0 on (R352), and not
during a warm restart (R566). -/
def Chip.decide353 (c : Chip) : Chip :=
  if c.restarting ∨ c.spliceLed = true ∨ c.refSelected = 14 ∨ c.fullIn 0 = false then c
  else
    let d := c.refDecision
    let old := c.refSelected
    let q := (List.range 8).filter c.selectable
    let c1 := { c with ref := { c.ref with blocked := d.1 == 15 && q != [] } }
    let c2 := if d.1 = 15 ∧ c.dpllFollows = true then c1.holdOver old (if q = [] then 2 else 4) else c1
    if d.1 = old then c2 else c2.switchTo d.1 d.2

/-- SELECTION_DECISION (R353): every 100 ms, after the measurements. -/
def execSelectionDecision (t : Nat) (s : State) : Host.Outcome State Fault Refusal := act t s Chip.decide353

/-! ## Losses and glitches (R351) -/

/-- REFERENCE_SIGNAL_PRESENT (R352). -/
def execReferenceSignalPresent (t : Nat) (entry : Fin 8) (s : State) : Host.Outcome State Fault Refusal :=
  act t s (fun c =>
    let c1 := if c.refType entry ≤ 6 then c.modRef entry (fun x => { x with present := true }) else c
    if c1.refOn entry ∧ c1.refSignal entry = true ∧ c1.refState entry = 1 then
      (c1.set Reg.REFS_E_STATE_STATE entry 2).modRef entry (fun x => { x with timer := if c.timersRun then some c.now else none })
    else c1)

/-- REFERENCE_LOSS (R351, R352, R354). -/
def execReferenceLoss (t : Nat) (entry : Fin 8) (s : State) : Host.Outcome State Fault Refusal :=
  act t s (fun c => if 7 ≤ c.refType entry ∧ c.refSignal entry = true then c else (c.refLose entry).modRef entry (fun x => { x with present := false }))

/-- REFERENCE_GLITCH (R351): counted; the entry's state stays. -/
def execReferenceGlitch (t : Nat) (entry : Fin 8) (s : State) : Host.Outcome State Fault Refusal :=
  act t s (fun c => if c.refOn entry ∧ 2 ≤ c.refState entry then c.count Reg.REFS_E_GLITCH_COUNT entry 1 else c)

/-! ## The DPLL (R358, R360, R364) -/

/-- DPLL_LOCK (R358): the output has stayed within 10 ppb of the entry for 3 s. -/
def execDpllLock (t : Nat) (s : State) : Host.Outcome State Fault Refusal :=
  act t s (fun c =>
    if c.fld Reg.REFS_DPLL_STATE 0 = 1 ∧ c.ref.acquiredAt + secU 3 ≤ c.now then
      ({ c.set Reg.REFS_DPLL_STATE 0 2 with ref := { c.ref with averagedAt := c.now } }).event Ev.refLocked [c.refSelected]
    else c)

/-- HISTORY_AVERAGE (R360): a whole second in `LOCKED` adds one average. -/
def execHistoryAverage (t : Nat) (average : Int) (s : State) : Host.Outcome State Fault Refusal :=
  act t s (fun c =>
    if c.fld Reg.REFS_DPLL_STATE 0 = 2 ∧ c.ref.averagedAt + secU 1 ≤ c.now then
      let h := ((c.now, average) :: c.ref.history).take 62
      ({ c with ref := { c.ref with history := h, averagedAt := c.now } } |>.set Reg.REFS_DPLL_HIST_S 0 h.length).markIf (h.length == 62) Reg.REFS_DPLL_HIST_VALID
    else c)

/-- A write of `FORCE_HOLD` (R364). -/
def Chip.forceHold (c : Chip) (on : Bool) : Chip :=
  let was := c.isSet Reg.REFS_CTRL_FORCE_HOLD 0
  let c1 := c.set Reg.REFS_CTRL_FORCE_HOLD 0 (flag on)
  let sel := c.refSelected
  if on ∧ was = false then
    (if c.fld Reg.REFS_DPLL_STATE 0 = 3 then
       (c1.mark Reg.REFS_STATUS_HOLDOVER_SEEN).event Ev.refHoldover [sel + 48, c.fld Reg.REFS_HOLD_FREQ_FREQ 0]
     else if c.dpllFollows ∨ c.holdMean.isSome = true then c1.holdOver sel 3 else c1)
  else if on = false ∧ was = true ∧ sel ≠ 15 ∧ c.dpllFollows = false then c1.acquire
  else c1

/-- FORCE_HOLD (R364). -/
def execForceHold (t : Nat) (on : Bool) (s : State) : Host.Outcome State Fault Refusal := act t s (fun c => c.forceHold on)

/-- The counters of the block (R371). -/
def refsCounters : List Fld := [Reg.REFS_SWITCHES_COUNT, Reg.REFS_E_EVENTS_LOSSES, Reg.REFS_E_EVENTS_DISQ, Reg.REFS_E_GLITCH_COUNT]

/-- REFS_CLR_CNT (R371). -/
def execRefsClrCnt (t : Nat) (s : State) : Host.Outcome State Fault Refusal := act t s (fun c => c.clearAll refsCounters)

/-! ## Frame pulses (R365) -/

/-- Whether a frame pulse output pulses in the frame in progress of its domain (R365): always in `MODE` 0 and at an integer rate, else every fifth frame. -/
def Chip.pulses (c : Chip) (n : Nat) : Bool :=
  let rate := (c.dom n).rate
  let fractional := rate == 0 || rate == 3 || rate == 5 || rate == 8 || rate == 11
  if bits (c.refOut n).flags 3 2 = 1 ∧ fractional = true then
    (if n = 0 then c.tick.seqPos == 0 else ((c.dom n).frame + 2 ^ 48 - Tbl.get 0 c.ref.alignedAt n) % 2 ^ 48 % 5 == 0)
  else true

/-- Whether a standby holds an output of R369 at high impedance (R419). -/
def Chip.outHeld (c : Chip) (n : Nat) : Bool := c.twinHeld && bit (u8 (c.record tyTwin 0) 1) n

/-- FRAME_PULSE (R365): the pulse of the frame that began at the latest tick: from tick + `OFFSET_NS` for `WIDTH` × 10 ns. -/
def execFramePulse (t : Nat) (output : Fin 4) (s : State) : Host.Outcome State Fault Refusal :=
  act t s (fun c =>
    let o := c.refOut output
    if bit o.flags 0 ∧ c.pulses output = true ∧ c.outHeld output = false ∧ c.isSet Reg.REFS_STATUS_LO_OK 0 = true then
      let a := (c.dom output).tickAt + nsU o.offset
      let inv := bit o.flags 1
      (c.emit (.pin output (!inv) a)).emit (.pin output inv (a + nsU (10 * o.width)))
    else c)

end Sys2Proof.Machine
end

