-- ==== Sys2Proof/Machine/SpliceOps.lean ====
section
/-! DEFINITION. Shared operations of the splice system and of twin mode: topology, tree, election, severed routes, exports, handover
(R394 to R424). -/

namespace Sys2Proof.Machine

/-! ## Topology (R395, R396, R404) -/

/-- Whether a splice port is in service (R395). -/
def Chip.inService (c : Chip) (p : Nat) : Bool := c.isSet Reg.SPL_P_STATE_IN_SERVICE p

/-- The neighbour's device ID of a port. -/
def Chip.neighbour (c : Chip) (p : Nat) : Nat := c.fld Reg.SPL_P_STATE_NEIGHBOUR p

/-- The ports in service that join the splice system: on a twin device SP7 carries the mirror (R424). -/
def Chip.systemPorts (c : Chip) : List Nat := (List.range 8).filter (fun p => c.inService p && !(c.twinOn && p == 7))

/-- The links of a device: this device's own, or those its link-state cells name (R395). -/
def Chip.linksOf (c : Chip) (v : Nat) : List LinkPort :=
  if v = c.deviceId then
    c.systemPorts.map (fun p => ⟨p, c.neighbour p, c.fld Reg.SPL_P_STATE_STEP p, c.fld Reg.SPL_P_DELAY_NS p⟩)
  else match c.linkState v with | some x => x.ports | none => []

/-- The devices reached in so many hops. -/
def Chip.reach (c : Chip) : Nat → List Nat → List Nat
  | 0, l => l
  | n + 1, l => c.reach n (dedup (l ++ l.flatMap (fun v => (c.linksOf v).map LinkPort.neighbour)))

/-- The devices of this device's part (R396). -/
def Chip.part (c : Chip) : List Nat := c.reach (c.spl.topo.length + 1) [c.deviceId]

/-- The fewest hops from some devices to the root, if it can be reached. -/
def Chip.hops (c : Chip) (root : Nat) : Nat → List Nat → Option Nat
  | 0, l => if l.contains root then some 0 else none
  | n + 1, l => if l.contains root then some 0
      else (c.hops root n (dedup (l ++ l.flatMap (fun v => (c.linksOf v).map LinkPort.neighbour)))).map (fun k => k + 1)

/-- The link by which a device goes upstream (R396): fewest hops to the root, then lower neighbour, then lower port. -/
def Chip.upLink (c : Chip) (v root : Nat) : Option LinkPort :=
  if v = root then none
  else ((c.linksOf v).filterMap (fun x => (c.hops root (c.spl.topo.length + 1) [x.neighbour]).map (fun k => (k, x)))).foldl (fun a y =>
    match a with
    | none => some y
    | some b => if y.1 < b.1 ∨ (y.1 = b.1 ∧ (y.2.neighbour < b.2.neighbour ∨ (y.2.neighbour = b.2.neighbour ∧ y.2.port < b.2.port))) then some y else some b)
    (none : Option (Nat × LinkPort)) |>.map Prod.snd

/-- The upstream port of this device: that of the tree, and SP7 on a standby (R396, R420). -/
def Chip.upPort (c : Chip) : Option Nat :=
  if c.standby then (if c.inService 7 then some 7 else none)
  else match c.spl.master with | some m => (c.upLink c.deviceId m).map LinkPort.port | none => none

/-- The ports of the tree (R396): the upstream port, and each port whose neighbour goes upstream through it. Without a master, every port in service. -/
def Chip.treePorts (c : Chip) : List Nat :=
  match c.spl.master with
  | none => c.systemPorts
  | some m => c.systemPorts.filter (fun p =>
      c.upPort == some p || (match c.upLink (c.neighbour p) m with | some x => x.neighbour == c.deviceId | none => false))

/-- Floods a control or link-state cell over the tree, except back to a port (R396). -/
def Chip.flood (c : Chip) (from? : Option Nat) (type : Nat) (payload : List Nat) : Chip :=
  (c.treePorts.filter (fun p => from? != some p)).foldl (fun a p => a.emit (.cell p type payload)) c

/-- Shows the upstream port, the part and the master (R430). -/
def Chip.showPart (c : Chip) : Chip :=
  let up := c.upPort
  let c1 := (List.range 8).foldl (fun a p => a.set Reg.SPL_P_STATE_UPSTREAM p (flag (up == some p))) c
  ((c1.set Reg.SPL_PART_DEVICES 0 c.spl.members.length).set Reg.SPL_PART_MASTER_ID 0 (c.spl.master.getD 0)).set Reg.SPL_STATUS_MASTER 0
    (flag (c.spl.master == some c.deviceId))

/-- Whether the epoch of the master differs from this device's (R417). -/
def Chip.epochDiffers (c : Chip) : Bool :=
  match c.spl.master with
  | some m => m != c.deviceId && (match c.linkState m with | some x => x.epoch != c.epoch | none => false)
  | none => false

/-- Shows whether the device is unaligned (R417). -/
def Chip.showAligned (c : Chip) : Chip := c.set Reg.SPL_STATUS_UNALIGNED 0 (flag c.epochDiffers)

/-! ## The splice tick input (R412, R415) -/

/-- The DPLL takes the splice tick input, follows it anew after a change of master or of upstream port (`again`), or leaves it; without a master it free-runs
(R410, R412, R415). -/
def Chip.followSplice (c : Chip) (again : Bool) : Chip :=
  let sel := c.refSelected
  if c.fullIn 0 = false then c
  else if c.spliceLed then
    (if c.upPort = none then
       (if sel = 14 ∨ c.dpllFollows = true then
          (if c.spl.master = none then ((c.set Reg.REFS_DPLL_STATE 0 0).set Reg.REFS_DPLL_SELECTED 0 15).event Ev.refFreeRun [sel + 16, 0] else c)
        else c)
     else if sel ≠ 14 ∨ again = true ∨ c.dpllFollows = false then (c.set Reg.REFS_DPLL_SELECTED 0 14).acquire else c)
  else if sel = 14 then (c.set Reg.REFS_DPLL_SELECTED 0 15).holdOver 14 1
  else c

/-- The DPLL holds over while the upstream port is being replaced (R412). -/
def Chip.upstreamLost (c : Chip) : Chip := if c.refSelected = 14 ∧ c.dpllFollows = true then c.holdOver 14 1 else c

/-! ## Severed routes (R416) -/

/-- Whether an imported stream has lost its origin or a link of its path. -/
def Chip.importBroken (c : Chip) (x : Import) : Bool :=
  !(c.inService x.port) || !(c.spl.members.contains x.dev) || x.path.any (fun l => !((c.linksOf l.1).any (fun y => y.port == l.2)))

/-- Severs the routes of imported streams that are broken, and ends the exports and relays that have lost their ends (R416). -/
def Chip.severBroken (c : Chip) : Chip :=
  let bad := (c.spl.imports.filter c.importBroken).map Import.pair
  let keys := (c.routesList.filter (fun e => e.2.2.dev.isSome && bad.contains (pairKey e.2.2.dev e.2.2.src (c.dstTd e.1)))).map (fun e => e.1 * 4 + e.2.1)
  let ok := fun p => c.inService p
  let c1 : Chip := { c with spl := { c.spl with
    severed := dedup (c.spl.severed ++ keys), restores := keys.foldl (fun m k => Tbl.del m k) c.spl.restores,
    imports := c.spl.imports.filter (fun x => !(bad.contains x.pair)),
    exports := (c.spl.exports.map (fun x => { x with importers := x.importers.filter c.spl.members.contains, ports := x.ports.filter ok })).filter
      (fun x => x.importers != []),
    relays := c.spl.relays.filter (fun x => c.spl.members.contains x.origin && ok x.inPort && ok x.outPort) } }
  (c1.judgeLoads).swapIfChanged c

/-- The topology has changed (R395, R410): the part is reckoned again, what the change breaks is severed, and an election follows in 2 ms. -/
def Chip.topologyChanged (c : Chip) : Chip :=
  let c1 : Chip := { c with spl := { c.spl with members := c.part, electAt := some (c.now + msU 2) } }
  let c2 : Chip := { c1 with spl := { c1.spl with topo := c1.spl.topo.filter (fun x => c1.spl.members.contains x.id) } }
  c2.severBroken.set Reg.SPL_PART_DEVICES 0 c1.spl.members.length

/-! ## Election (R410, R414, R415, R417) -/

/-- `TICK_MASTER_EN` of this device. -/
def Chip.masterEn (c : Chip) : Bool := if c.hasRec tySpl 0 then bit (u8 (c.record tySpl 0) 3) 0 else true

/-- The device that the part elects: lowest rank value, then lowest device ID, among those eligible. -/
def Chip.electee (c : Chip) : Option Nat :=
  let mine := if c.masterEn then [(c.rank, c.deviceId)] else []
  let others := (c.spl.topo.filter (fun x => c.spl.members.contains x.id && x.eligible)).map (fun x => (x.rank, x.id))
  ((mine ++ others).foldl (fun a x => match a with
    | none => some x
    | some b => if x.1 < b.1 ∨ (x.1 = b.1 ∧ x.2 < b.2) then some x else some b) (none : Option (Nat × Nat))).map Prod.snd

/-- The election: the new master, its epoch, and the records of a change of master, a split and a join. -/
def Chip.electMaster (c : Chip) : Chip :=
  let me := c.deviceId
  let new := c.electee
  let old := c.spl.master
  let before := if c.spl.partAt = [] then [me] else c.spl.partAt
  let left := before.any (fun v => !(c.spl.members.contains v))
  let joined := c.spl.members.any (fun v => !(before.contains v))
  let inherits := match old with | some m => c.spl.members.contains m | none => false
  let c1 : Chip := { c with spl := { c.spl with master := new, partAt := c.spl.members, electAt := none } }
  let c2 := if new = some me ∧ old ≠ some me ∧ inherits = false then c1.countWrap Reg.SPL_EPOCH_EPOCH 0 1 else c1
  let c3 := (c2.showPart).showAligned
  let id := new.getD 0xFFF
  let words := [c.spl.members.length + id * 65536, c3.epoch]
  let c4 := if new ≠ old then c3.event Ev.splMasterChange [id + old.getD 0xFFF * 65536, c3.epoch] else c3
  let c5 := if left then (c4.event Ev.splSplit words).mark Reg.SPL_STATUS_SPLIT_SEEN else c4
  let c6 := if joined then c5.event Ev.splJoin words else c5
  c6.followSplice (new != old || c6.upPort != c.upPort)

/-! ## Exports and relays (R402, R405 to R408) -/

/-- The reservation of a stream of a format in 0.1 Gb/s (R407). -/
def exportReserve (f : Format) : Nat :=
  let bits := ceilDiv (lineBytes f) 240 * f.height * 2048
  ceilDiv (bits * 27000000000 + 300000000 * framePeriod f.rate) (100000000 * max (framePeriod f.rate) 1)

/-- The format that an export of a source is reckoned with: 2160p60 4:2:2 10-bit while it is unknown, as in R149. -/
def Chip.exportFormat (c : Chip) (src : Nat) : Format := (c.srcFormat src).getD ⟨3840, 2160, 0, 0, 10, 9⟩

/-- The lowest export stream that is free (R402). -/
def Chip.freeStream (c : Chip) : Option Nat := (List.range 96).find? (fun i => !(c.spl.exports.any (fun x => x.stream == i)))

/-- Answers an importer's request (R405, R406): the facts of the source go back, and the export is allocated when it can be. The answer's words: importer, source,
domain, ST 2110-22, rate code plus one, mode `LINE`, inside the window, read-out, granted, stream, reservation. -/
def Chip.exportAsked (c : Chip) (port importer src td rate budget epoch out : Nat) : Chip :=
  let known := c.spl.exports.find? (fun x => x.src == src && x.td == td)
  let need := exportReserve (c.exportFormat src)
  let readout := known.isSome || (c.freeStream.isSome && c.fst.ready && !(c.isSet Reg.ARB_CTRL_HOST_TBL 0)
    && decide (c.ownedWith (c.readouts ++ [2 ^ 20 + src * 4 + td]) ≤ ownedLimit) && decide (c.slotsUsed < lineSlots))
  let allowed := !c.twinOn && c.tdOn td && c.tdRate td == rate && c.budgetNs td == budget && budget != 0 && c.epoch == epoch && c.spl.master.isSome
    && decide (src ≤ 1119)
  let carried := match known with | some x => x.ports.contains out | none => false
  let room := carried || c.fits out (c.txTotal out) need
  let stream := match known with | some x => x.stream | none => c.freeStream.getD 0
  let answer := fun (a : Chip) => a.emit (.cell port 2 [importer, src, td, flag (c.is22 src), (match c.srcRate src with | some r => r + 1 | none => 0),
    flag (c.srcMode src == 0), flag (c.inWindow src td), flag readout, flag (allowed && room), stream, need])
  if readout && allowed && room && !(c.is22 src) then
    let x : Export := match known with
      | some x => { x with importers := dedup (x.importers ++ [importer]), ports := dedup (x.ports ++ [out]) }
      | none => { stream := stream, src := src, td := td, reserve := need, importers := [importer], ports := [out] }
    let c1 : Chip := { c with spl := { c.spl with exports := c.spl.exports.filter (fun y => y.stream != stream) ++ [x] } }
    answer (c1.judgeLoads.swapIfChanged c)
  else answer (if readout && allowed && !room then (c.modStep out (fun y => { y with wanting := true })).judgeLoads else c)

/-- An importer releases its last route of an export (R408). -/
def Chip.exportReleased (c : Chip) (importer src td : Nat) : Chip :=
  let c1 : Chip := { c with spl := { c.spl with exports := (c.spl.exports.map (fun x =>
    if x.src = src ∧ x.td = td then { x with importers := x.importers.filter (fun v => v != importer) } else x)).filter (fun x => x.importers != []) } }
  c1.judgeLoads.swapIfChanged c

/-- A stream asks to be relayed (R406, R407); the answer's words: origin, stream, granted. -/
def Chip.relayAsked (c : Chip) (origin stream inPort outPort reserve : Nat) : Chip :=
  let known := c.spl.relays.any (fun x => x.origin == origin && x.stream == stream && x.outPort == outPort)
  let room := c.fits outPort (c.txTotal outPort) reserve
  let answer := fun (a : Chip) (b : Bool) => a.emit (.cell inPort 2 [origin, stream, flag b])
  if known then answer c true
  else if room && !c.twinOn then
    answer ({ c with spl := { c.spl with relays := c.spl.relays ++ [⟨origin, stream, inPort, outPort, reserve⟩] } } : Chip).judgeLoads true
  else answer (if room then c else (c.modStep outPort (fun y => { y with wanting := true })).judgeLoads) false

/-! ## Rejoin (R418) -/

/-- Starts the exchanges for the severed crossing routes. -/
def Chip.restoreRoutes (c : Chip) : Chip :=
  let asks := c.spl.severed.filterMap (fun k => match c.route (k / 4) (k % 4) with
    | some r => r.dev.map (fun v => (⟨k / 4, r.src, v, 2 ^ (k % 4)⟩ : TakeAsk))
    | none => none)
  if asks = [] then c
  else { c with spl := { c.spl with exchanges := c.spl.exchanges.filter (fun e => e.slot != 16) ++
    [{ slot := 16, session := 0, asks := asks, nb := none, notify := false, salvo := true, since := c.now }] } }

/-- The domains that are bound to the tick master (R411). -/
def Chip.spliceDomains (c : Chip) : List Nat := [0, 1, 2, 3].filter (fun td => c.tdOn td && (c.isSet (Reg.TICK_TD_CFG_SPLICE td) 0))

/-- The device takes the master's epoch (R414), and its severed routes ask again. -/
def Chip.takeEpoch (c : Chip) : Chip :=
  let e := match c.spl.master with | some m => (match c.linkState m with | some x => x.epoch | none => c.epoch) | none => c.epoch
  ((c.set Reg.SPL_EPOCH_EPOCH 0 e).showAligned).restoreRoutes

/-- A rejoin reaches the device: an unaligned device aligns its domains, any other asks for its severed routes at once. -/
def Chip.rejoin (c : Chip) : Chip :=
  if c.isSet Reg.SPL_STATUS_UNALIGNED 0 then
    (if c.spliceDomains = [] then c.takeEpoch
     else c.spliceDomains.foldl (fun a td => a.modDom td (fun m => { m with pend := some ⟨a.now + msU 1, 3⟩ })) c)
  else c.restoreRoutes

/-- A domain has been aligned: the device takes the master's epoch once no domain bound to it waits for an alignment (R414, R418). -/
def Chip.spliceAligned (c : Chip) (td : Nat) : Chip :=
  if c.spliceDomains.contains td ∧ c.epochDiffers = true ∧ c.spliceDomains.all (fun d => (c.dom d).aligned && (c.dom d).pend.isNone && (c.dom d).due.isNone) then c.takeEpoch else c

/-! ## Twin mode (R419 to R424) -/

/-- Asserts or releases TWIN_ACT: the line is low while it is asserted (R420). -/
def Chip.driveAct (c : Chip) (on : Bool) : Chip := { c with spl := { c.spl with act := on } }.emit (.pin 6 (!on) c.now)

/-- Asserts or releases TWIN_STBY. -/
def Chip.driveStby (c : Chip) (on : Bool) : Chip := { c with spl := { c.spl with stby := on } }.emit (.pin 7 (!on) c.now)

/-- The standby of the pair is no longer synchronised, with the cause of R672 (R421). -/
def Chip.unsync (c : Chip) (cause : Nat) : Chip :=
  if c.isSet Reg.SPL_TWIN_SYNCED 0 then
    let c1 : Chip := { (c.set Reg.SPL_TWIN_SYNCED 0 0) with spl := { c.spl with unsync := cause } }
    (if c.spl.stby then c1.driveStby false else c1).event Ev.splTwinUnsync [cause]
  else { c with spl := { c.spl with unsync := cause } }

/-- Sends the responses that wait for mirror acknowledgements (R421): those that satisfy `p` by slot, number and instant, and those that wait for nothing else (instant 0);
a response goes out after every earlier one of its session (R532). -/
def Chip.unwithhold (c : Chip) (p : Nat × Nat × Nat → Bool) : Chip :=
  let ms := c.spl.mirror.map (fun x => if p x then (x.1, x.2.1, 0) else x)
  let free := fun (x : Nat × Nat × Nat) => x.2.2 == 0 && !(ms.any (fun y => y.1 == x.1 && decide (y.2.1 < x.2.1) && y.2.2 != 0))
  let c1 : Chip := { c with spl := { c.spl with mirror := ms.filter (fun x => !(free x)) } }
  (ms.filter free).foldl (fun a x => match (a.session x.1).responses.find? (fun r => r.seq == x.2.1) with
    | some r => a.sendMsg x.1 2 r.msgType r.status r.seq r.body
    | none => a) c1

/-- The active device releases TWIN_ACT on one of the records of R422; it does not assert it again before its next cold start. -/
def Chip.releaseAct (c : Chip) : Chip :=
  if c.spl.act then
    let c1 := c.driveAct false
    { c1 with spl := { c1.spl with barred := true, handover := some (c.now + usU 100, 2) } }
  else { c with spl := { c.spl with barred := c.spl.barred || c.twinOn } }

/-- A planned handover is asked for (R422). -/
def Chip.planHandover (c : Chip) : Chip := { c with spl := { c.spl with handover := some (c.now + msU 5, 1) } }

end Sys2Proof.Machine
end

