-- ==== Sys2Proof/Machine/Ptp.lean ====
section
/-! DEFINITION. Device time: steps, the servo, the PTP slave, the `TIME` request (R373 to R393). -/

namespace Sys2Proof.Machine

/-! ## Settings (R390) -/

/-- The record of `PTP_GLOBAL`; absent, `SOURCE` is 0 and the rest at its defaults. -/
def Chip.ptpRec (c : Chip) : List Byte :=
  if c.hasRec tyPtp 0 then c.record tyPtp 0
  else beBytes 1 0 ++ beBytes 1 255 ++ beBytes 1 255 ++ beBytes 1 127 ++ beBytes 1 0 ++ beBytes 1 0 ++ beBytes 1 3 ++ beBytes 1 2 ++ beBytes 4 1000000
    ++ beBytes 2 1000 ++ beBytes 2 100

/-- The time source chosen: 0 none, 1 network, 2 splice (R376). -/
def Chip.timeSource (c : Chip) : Nat := u8 c.ptpRec 0

/-- One ns of an offset, in units of 1/(27 · 65536) ns. -/
def qNs : Int := 27 * 65536

/-- `JUMP_NS` as an offset. -/
def Chip.jumpQ (c : Chip) : Int := (u32 c.ptpRec 8 : Nat) * qNs

/-- `LOCK_NS` as an offset. -/
def Chip.lockQ (c : Chip) : Int := (u16 c.ptpRec 12 : Nat) * qNs

/-- An offset in whole ns. -/
def qToNs (v : Int) : Int := roundDiv v (27 * 65536)

/-- Changes the time source. -/
def Chip.modPtp (c : Chip) (f : PtpSt → PtpSt) : Chip := { c with ptp := f c.ptp }

/-- The state of the time source (R377). -/
def Chip.ptpState (c : Chip) : Nat := c.fld Reg.PTP_STATUS_STATE 0

/-- The time source enters a state: `JUMP_PEND` shows `JUMP_HELD`, and leaving the lock is a loss of entry type 7 (R377, R392). -/
def Chip.setPtp (c : Chip) (st : Nat) : Chip :=
  ((c.set Reg.PTP_STATUS_STATE 0 st).set Reg.PTP_STATUS_JUMP_PEND 0 (flag (st == 5))).refPoll

/-! ## Steps of device time (R378, R380 to R382) -/

/-- Device time steps by `d` at this instant, with a cause of R382. -/
def Chip.stepTime (c : Chip) (d : Int) (cause : Nat) : Chip :=
  let before := c.deviceQ
  let after := ((before : Int) + d).toNat
  let c1 : Chip := { c with clock := { c.clock with baseAt := c.now, baseQ := after } }
  let c2 := c1.modPtp (fun p => { p with offsets := p.offsets.map (fun o => o - d), beyond := [], run := 0 })
  let stepNs := unsigned 64 (qToNs d)
  (((c2.mark Reg.PTP_STATUS_TIME_VALID).count Reg.PTP_STEPS_STEPS 0 1).mark Reg.PTP_STATUS_STEP_SEEN).event Ev.timeStep
    [cause * 16777216, secOf before / 4294967296, secOf before, nsOf before, stepNs / 4294967296, stepNs]

/-- Device time is set (R380). -/
def Chip.setTime (c : Chip) (q : Nat) : Chip :=
  (c.stepTime ((q : Int) - (c.deviceQ : Int)) (if c.ptp.wasSet then 4 else 2)).modPtp (fun p => { p with wasSet := true, pend := none })

/-! ## The servo (R379) -/

/-- 2π f in 10^-15 rad/s, with f of `SERVO_BW` (R390). -/
def Chip.omega (c : Chip) : Int :=
  let f : Int := match u8 c.ptpRec 7 with | 0 => 1 | 1 => 3 | 2 => 10 | _ => 30
  2 * 3141592653589793 * f / 100

/-- The units of an offset in one second. -/
def offsetSecond : Int := 27 * 65536 * 1000000000

/-- The units of time in one second. -/
def unitSecond : Int := 27 * 1000000000

/-- The servo starts: its integrator is set so that r is the correction in force (R379). -/
def Chip.startServo (c : Chip) : Chip :=
  let w := c.omega
  c.modPtp (fun p => { p with integral := p.corr * 1000000000000000 * offsetSecond * unitSecond / (w * w), usedAt := c.now })

/-- `MAX_ADJ_PPM` in 10^-15. -/
def Chip.maxAdj (c : Chip) : Int := (u16 c.ptpRec 14 * 1000000000 : Nat)

/-- The servo at a measurement it uses (R379). -/
def Chip.servo (c : Chip) (o : Int) : Chip :=
  let w := c.omega
  let m := c.maxAdj
  let p := c.ptp
  let i := if p.corr ≤ -m ∨ m ≤ p.corr then p.integral else p.integral + o * ((c.now - p.usedAt : Nat) : Int)
  let r := 2 * w * o / offsetSecond + w * w * i / (1000000000000000 * offsetSecond * unitSecond)
  (c.modPtp (fun p => { p with integral := i, corr := max (-m) (min m r), usedAt := c.now })).runTime

/-! ## Measurements (R377 to R379) -/

/-- Shows the filtered offset, none without a measurement (R392). -/
def Chip.showOffset (c : Chip) (o : Option Int) : Chip :=
  c.set Reg.PTP_OFFSET_NS 0 (match o with | some v => unsigned 32 (max (-2147483647) (min 2147483647 (qToNs v))) | none => 0x80000000)

/-- After a step: `LOCKED` when every offset that the step used, less the step, lies within `LOCK_NS`, else `SLEWING` (R378, R380). -/
def Chip.settleTime (c : Chip) : Chip :=
  ((c.setPtp (if c.ptp.offsets.all (fun o => decide (magnitude o ≤ c.lockQ)) then 4 else 3)).startServo).showOffset c.ptp.offsets.head?

/-- A jump is refused (R379, R383). -/
def Chip.refuseJump (c : Chip) (v : Int) : Chip :=
  let n := unsigned 64 (qToNs v)
  let c1 := ((c.setPtp 5).set Reg.PTP_JUMP_OFFSET_LO_NS 0 n).set Reg.PTP_JUMP_OFFSET_HI_NS 0 (n / 4294967296)
  (((c1.modPtp (fun p => { p with beyond := [], run := 0 })).count Reg.PTP_STEPS_JUMPS_REFUSED 0 1).mark Reg.PTP_STATUS_JUMP_SEEN).event Ev.timeJumpRefused
    [n / 4294967296, n, u32 c.ptpRec 8]

/-- The run towards `LOCKED` or back to `SLEWING` (R377). -/
def Chip.judgeLock (c : Chip) (o : Int) : Chip :=
  let within := decide (magnitude o ≤ c.lockQ)
  let slewing := c.ptpState == 3
  let n := if slewing = within then c.ptp.run + 1 else 0
  let c1 := c.modPtp (fun p => { p with run := n })
  if slewing ∧ n = 16 then (c1.modPtp (fun p => { p with run := 0 })).setPtp 4
  else if slewing = false ∧ n = 4 then (c1.modPtp (fun p => { p with run := 0 })).setPtp 3
  else c1

/-- A measurement in `SLEWING` or `LOCKED` (R379). -/
def Chip.trackOffset (c : Chip) (o : Int) : Chip :=
  if c.jumpQ < magnitude o then
    let run := c.ptp.beyond ++ [o]
    if 4 ≤ run.length then c.refuseJump (median run) else c.modPtp (fun p => { p with beyond := run })
  else
    let c1 := (c.count Reg.PTP_CNT_ERR_OUTLIERS 0 c.ptp.beyond.length).modPtp (fun p => { p with beyond := [] })
    ((c1.servo o).judgeLock o).showOffset (some o)

/-- A measurement in `ACQUIRING`, from the 16th on (R377 to R379). -/
def Chip.acquireOffset (c : Chip) : Chip :=
  let os := c.ptp.offsets
  let med := median os
  if c.isSet Reg.PTP_STATUS_TIME_VALID 0 then
    (if c.jumpQ < magnitude med then c.refuseJump med
     else ((((c.modPtp (fun p => { p with run := 0 })).setPtp (if magnitude med ≤ c.lockQ then 4 else 3)).startServo).showOffset (some med)))
  else
    let s := sortInts os
    if s.getLastD 0 - s.headD 0 ≤ 10000 * qNs then (c.stepTime med 1).settleTime else c

/-- A valid measurement: the master's time minus device time (R377). -/
def Chip.measured (c : Chip) (o : Int) : Chip :=
  let c1 := (c.countWrap Reg.PTP_CNT_SYNC_COUNT 0 1).modPtp (fun p => { p with
    offsets := (o :: p.offsets).take 16, valid := p.valid + 1, validAt := c.now })
  if c1.ptp.pend = some .step ∧ 16 ≤ c1.ptp.offsets.length then
    ((c1.modPtp (fun p => { p with pend := none })).stepTime (median c1.ptp.offsets) 3).settleTime
  else match c1.ptpState with
    | 2 => if 16 ≤ c1.ptp.valid then c1.acquireOffset else c1
    | 3 => c1.trackOffset o
    | 4 => c1.trackOffset o
    | 5 =>
      let n := if magnitude o ≤ c1.jumpQ then c1.ptp.run + 1 else 0
      if 16 ≤ n then ((c1.modPtp (fun p => { p with run := 0 })).setPtp 3).startServo else c1.modPtp (fun p => { p with run := n })
    | _ => c1

/-! ## The best master (R384, R385) -/

/-- The interval of a logMessageInterval in units. -/
def logInterval (l : Int) : Nat := if 0 ≤ l then secU (2 ^ l.toNat) else secU 1 / 2 ^ (-l).toNat

/-- `ANN_TIMEOUT` intervals of a foreign master. -/
def Chip.annTimeout (c : Chip) (f : Foreign) : Nat := u8 c.ptpRec 6 * logInterval f.log

/-- Whether a foreign master is selectable: its two latest Announce messages lie within 4 of its intervals, and it has not timed out (R384). -/
def Chip.foreignOk (c : Chip) (f : Foreign) : Bool :=
  match f.heard with
  | a :: b :: _ => decide (a ≤ b + 4 * logInterval f.log) && decide (c.now < a + c.annTimeout f)
  | _ => false

/-- The lexicographic order of data sets. -/
def dataLess : List Nat → List Nat → Bool
  | a :: r, b :: s => if a = b then dataLess r s else decide (a < b)
  | _, _ => false

/-- The best of the selectable foreign masters (R384). -/
def Chip.bestMaster (c : Chip) : Option Foreign :=
  (c.ptp.foreign.filter c.foreignOk).foldl (fun a f => match a with | none => some f | some g => if dataLess f.data g.data then some f else some g) none

/-- Shows the grandmaster (R384, R392). -/
def Chip.showMaster (c : Chip) (f : Foreign) : Chip :=
  (((((c.set Reg.PTP_GM_ID_LO_ID 0 f.gm).set Reg.PTP_GM_ID_HI_ID 0 (f.gm / 4294967296)).set Reg.PTP_GM_INFO_CLOCK_CLASS 0 f.cls).set
    Reg.PTP_GM_INFO_STEPS_REMOVED 0 (min f.steps 255)).set Reg.PTP_GM_INFO_UTC_OFFSET 0 (unsigned 16 f.utc)).set Reg.PTP_STATUS_ACTIVE_B 0 (flag f.portB)

/-- Forgets the measurements of a master (R385). -/
def Chip.clearMeasures (c : Chip) : Chip :=
  ((c.modPtp (fun p => { p with
    wait := none, sync := none, reqSeq := none, reqAt := none, delays := [], offsets := [], valid := 0, run := 0, beyond := [] })).showOffset none).set
    Reg.PTP_PATH_DELAY_NS 0 0xFFFFFFFF

/-- No master is selected: `LISTENING`, or `DISABLED` without a time source (R377). -/
def Chip.loseMaster (c : Chip) : Chip :=
  (c.clearMeasures.modPtp (fun p => { p with master := none })).setPtp (if c.timeSource = 0 then 0 else 1)

/-- Selects a master (R377, R385): a master that has only changed port goes on being measured. -/
def Chip.selectMaster (c : Chip) (f : Foreign) : Chip :=
  match c.ptp.master with
  | some (b, src) =>
    if src = f.source ∧ b = f.portB then c.showMaster f
    else if src / 65536 = f.source / 65536 then (c.modPtp (fun p => { p with master := some (f.portB, f.source), wait := none, reqSeq := none, reqAt := none })).showMaster f
    else ((c.clearMeasures.modPtp (fun p => { p with master := some (f.portB, f.source), selectedAt := c.now, validAt := c.now })).setPtp 2).showMaster f
  | none => ((c.clearMeasures.modPtp (fun p => { p with master := some (f.portB, f.source), selectedAt := c.now, validAt := c.now })).setPtp 2).showMaster f

/-- The choice of the best master (R384). -/
def Chip.chooseMaster (c : Chip) : Chip := match c.bestMaster with | some f => c.selectMaster f | none => c

/-- The time source starts again after a change of `SOURCE`, port, domain or transport (R385). -/
def Chip.restartPtp (c : Chip) : Chip := (c.modPtp (fun p => { p with foreign := [] })).loseMaster

/-! ## Messages (R384, R385) -/

/-- Counts a message that the slave of a network source ignores (R384); nothing processes messages during a warm restart (R566). -/
def Chip.ignorePtp (c : Chip) : Chip := if c.timeSource = 1 ∧ c.restarting = false then c.count Reg.PTP_CNT_ERR_IGNORED 0 1 else c

/-- Whether a message comes from the network time source in its domain (R384). -/
def Chip.ptpAccepts (c : Chip) (m : PtpMsg) : Bool :=
  c.timeSource == 1 && decide (m.domain = u8 c.ptpRec 3) && (!m.portB || u8 c.ptpRec 2 != 255)

/-- The mean path delay (R385). -/
def meanDelay (l : List Int) : Int := roundDiv l.sum l.length

/-- A complete Sync of the selected master: its corrected origin time and its ingress stamp give a measurement (R377). -/
def Chip.syncDone (c : Chip) (origin rx : Int) : Chip :=
  let c1 := c.modPtp (fun p => { p with sync := some (origin, rx), wait := none })
  if c.ptp.delays = [] then c1 else c1.measured (origin + meanDelay c.ptp.delays - rx)

/-- A Sync for the slave (R377, R384). -/
def Chip.takeSync (c : Chip) (m : PtpMsg) (twoStep : Bool) (sec ns : Nat) : Chip :=
  if c.ptp.master = some (m.portB, m.source) ∧ 2 ≤ c.ptpState then
    (if twoStep then c.modPtp (fun p => { p with wait := some ⟨m.source, m.seq, c.deviceQ, m.correction⟩ })
     else c.syncDone ((qOf sec ns : Nat) + 27 * m.correction) c.deviceQ)
  else c

/-- PTP_SYNC (R377 to R384). -/
def execPtpSync (t : Nat) (m : PtpMsg) (twoStep : Bool) (sec ns : Nat) (s : State) : Host.Outcome State Fault Refusal :=
  act t s (fun c =>
    if c.ptpAccepts m ∧ -7 ≤ m.log ∧ m.log ≤ 0 ∧ c.restarting = false then c.takeSync m twoStep sec ns else c.ignorePtp)

/-- A Follow_Up for the slave. -/
def Chip.takeFollowUp (c : Chip) (m : PtpMsg) (sec ns : Nat) : Chip :=
  match c.ptp.wait with
  | some w =>
    if w.source = m.source ∧ w.seq = m.seq ∧ c.ptp.master = some (m.portB, m.source) then
      c.syncDone ((qOf sec ns : Nat) + 27 * (w.correction + m.correction)) w.rx
    else c
  | none => c

/-- PTP_FOLLOW_UP (R384): completes a two-step Sync. -/
def execPtpFollowUp (t : Nat) (m : PtpMsg) (sec ns : Nat) (s : State) : Host.Outcome State Fault Refusal :=
  act t s (fun c => if c.ptpAccepts m ∧ c.restarting = false then c.takeFollowUp m sec ns else c.ignorePtp)

/-- Notes an Announce of a foreign master (R384). -/
def Chip.noteAnnounce (c : Chip) (m : PtpMsg) (a : Announce) : Chip :=
  let old := c.ptp.foreign.find? (fun f => f.portB == m.portB && f.source == m.source)
  let f : Foreign :=
    { portB := m.portB, source := m.source,
      data := [a.prio1, a.cls, a.accuracy, a.variance, a.prio2, a.gm, a.steps, m.source, if m.portB then 1 else 0],
      gm := a.gm, cls := a.cls, steps := a.steps, utc := a.utc, log := m.log,
      heard := c.now :: (match old with | some o => o.heard.take 1 | none => []) }
  c.modPtp (fun p => { p with foreign := p.foreign.filter (fun g => !(g.portB == m.portB && g.source == m.source)) ++ [f] })

/-- PTP_ANNOUNCE (R377, R384). -/
def execPtpAnnounce (t : Nat) (m : PtpMsg) (a : Announce) (s : State) : Host.Outcome State Fault Refusal :=
  act t s (fun c => if c.ptpAccepts m ∧ -3 ≤ m.log ∧ m.log ≤ 1 ∧ c.restarting = false then (c.noteAnnounce m a).chooseMaster else c.ignorePtp)

/-- A completed delay exchange (R385): discarded when it differs from the mean by more than 10 µs, once 16 exist. -/
def Chip.delayDone (c : Chip) (d : Int) : Chip :=
  let c1 := (c.countWrap Reg.PTP_CNT_DELAY_COUNT 0 1).modPtp (fun p => { p with reqSeq := none, reqAt := none })
  if 16 ≤ c.ptp.delays.length ∧ 10000 * qNs < magnitude (d - meanDelay c.ptp.delays) then c1.count Reg.PTP_CNT_ERR_OUTLIERS 0 1
  else
    let l := (d :: c.ptp.delays).take 16
    (c1.modPtp (fun p => { p with delays := l })).set Reg.PTP_PATH_DELAY_NS 0 (min (qToNs (meanDelay l)).toNat 0xFFFFFFFE)

/-- A Delay_Resp for the slave: half the sum of the two one-way times (R384, R385). -/
def Chip.takeDelayResp (c : Chip) (m : PtpMsg) (sec ns : Nat) : Chip :=
  match c.ptp.sync, c.ptp.reqAt with
  | some (origin, rx), some t3 =>
    if c.ptp.reqSeq = some m.seq ∧ c.ptp.master = some (m.portB, m.source) then
      (c.modPtp (fun p => { p with delayLog := m.log })).delayDone (((rx - origin) + ((qOf sec ns : Nat) - 27 * m.correction - (t3 : Int))) / 2)
    else c
  | _, _ => c

/-- PTP_DELAY_RESP (R385). -/
def execPtpDelayResp (t : Nat) (m : PtpMsg) (sec ns : Nat) (s : State) : Host.Outcome State Fault Refusal :=
  act t s (fun c => if c.ptpAccepts m ∧ c.restarting = false then c.takeDelayResp m sec ns else c.ignorePtp)

/-- The port in use: `PORT_A` or the active `PORT_B`. -/
def Chip.ptpPort (c : Chip) : Nat := if (match c.ptp.master with | some x => x.1 | none => false) then u8 c.ptpRec 2 else u8 c.ptpRec 1

/-- The clockIdentity of a port: its MAC address with 0xFFFE in the middle. -/
def clockIdentity (mac : Nat) : Nat := mac / 2 ^ 24 * 2 ^ 40 + 0xFFFE * 2 ^ 24 + mac % 2 ^ 24

/-- A Delay_Req (R384): an event message of IEEE 1588 over UDP to port 319. -/
def Chip.delayReqFrame (c : Chip) (seq : Nat) : List Byte :=
  let p := c.ptpPort
  let v6 := bit (u8 c.ptpRec 4) 0
  let dst := if v6 then 0xFF0E * 2 ^ 112 + 0x181 else 224 * 2 ^ 24 + 0x181
  let own := c.ownIp v6 p 0
  let body := beBytes 2 0x0102 ++ beBytes 2 44 ++ beBytes 1 (u8 c.ptpRec 3) ++ List.replicate 15 0 ++ beBytes 8 (clockIdentity (c.macAddr p 0))
    ++ beBytes 2 1 ++ beBytes 2 seq ++ beBytes 1 1 ++ beBytes 1 0x7F ++ List.replicate 10 0
  let udp := udpDatagram v6 own dst 319 319 body
  let mac := if v6 then 0x333300000000 + dst % 2 ^ 32 else 0x01005E000000 + dst % 2 ^ 23
  c.ownHeader p 0 6 mac (if v6 then 0x86DD else 0x0800) ++ ipHeader v6 own dst 17 0 1 udp.length ++ udp

/-- DELAY_REQ_SEND (R384, R387): sent on queue 6 of the active port, or on the splice PTP channel, whose egress stamp is taken at once. -/
def execDelayReqSend (t : Nat) (s : State) : Host.Outcome State Fault Refusal :=
  act t s (fun c =>
    if c.timeSource = 1 ∧ c.ptp.master.isSome = true ∧ 2 ≤ c.ptpState then
      let n := c.ptp.seqNext
      (c.sendOwn c.ptpPort 0 6 (c.delayReqFrame n)).modPtp (fun p => { p with reqSeq := some n, reqAt := none, seqNext := (n + 1) % 65536 })
    else if c.timeSource = 2 ∧ c.ptp.master.isSome = true ∧ 2 ≤ c.ptpState then
      match c.upPort with
      | some p =>
        let n := c.ptp.seqNext
        (c.emit (.cell p 3 [1, c.deviceId, n, 0])).modPtp (fun x => { x with reqSeq := some n, reqAt := some c.deviceQ, seqNext := (n + 1) % 65536 })
      | none => c
    else c)

/-- ANNOUNCE_RECEIPT_TIMEOUT (R377, R384): the selected master has gone silent; the best of those left is selected, or none. -/
def execAnnounceReceiptTimeout (t : Nat) (s : State) : Host.Outcome State Fault Refusal :=
  act t s (fun c =>
    match c.ptp.master with
    | none => c
    | some (b, src) =>
      match c.ptp.foreign.find? (fun f => f.portB == b && f.source == src) with
      | none => c
      | some f =>
        if f.heard.headD 0 + c.annTimeout f ≤ c.now then
          let c1 := c.modPtp (fun p => { p with foreign := p.foreign.filter (fun g => !(g.portB == b && g.source == src)) })
          if c1.bestMaster = none then c1.loseMaster else c1.chooseMaster
        else c)

/-- MEASUREMENT_TIMEOUT (R377): 2 s without a valid measurement; the master is lost. -/
def execMeasurementTimeout (t : Nat) (s : State) : Host.Outcome State Fault Refusal :=
  act t s (fun c =>
    match c.ptp.master with
    | none => c
    | some (b, src) =>
      if c.ptp.validAt + secU 2 ≤ c.now then
        (c.modPtp (fun p => { p with foreign := p.foreign.filter (fun g => !(g.portB == b && g.source == src)) })).loseMaster
      else c)

/-! ## The `TIME` request (R380) and PPS edges -/

/-- Whether the DPLL has selected a PPS entry (R380). -/
def Chip.ppsSelected (c : Chip) : Bool := c.refSelected < 8 && (c.refType c.refSelected == 5 || c.refType c.refSelected == 6)

/-- The refusal of form `STEP` (R380). -/
def Chip.stepRefused (c : Chip) (ns : Nat) : Option Nat :=
  firstCode [(c.ptpState < 3 || decide (c.ptp.offsets.length < 16), 0x0B04), (decide (999999999 < ns), 0x0B06)]

/-- The refusal of form `SET` (R380). -/
def Chip.setRefused (c : Chip) (atPps : Bool) (ns : Nat) : Option Nat :=
  firstCode [(c.timeSource != 0 || (atPps && !c.ppsSelected), 0x0B05), (decide (999999999 < ns) || (atPps && ns != 0), 0x0B06)]

/-- An accepted `STEP`. -/
def Chip.acceptStep (c : Chip) : Chip := c.modPtp (fun p => { p with pend := some .step })

/-- An accepted `SET`. -/
def Chip.acceptSet (c : Chip) (atPps : Bool) (sec ns : Nat) : Chip :=
  if atPps then c.modPtp (fun p => { p with pend := some (.set sec) }) else c.setTime (qOf sec ns)

/-- Whether a `TIME` body has the length, form, flags and reserved bytes of R539. -/
def timeBodyOk (b : List Byte) : Bool :=
  decide (b.length = 16) && (u8 b 0 == 1 || u8 b 0 == 2) && decide (u8 b 1 ≤ 1) && zeroAt b 2 2

/-- STEP_AUTH (R380): a `TIME` request of a form other than `SET`. -/
def execStepAuth (t : Nat) (slot : Fin 16) (body : List Byte) (s : State) : Host.Outcome State Fault Refusal :=
  act t s (fun c =>
    if u8 body 0 = 2 then c
    else c.request slot 0x0109 3 false (timeBodyOk body) (fun c =>
      match c.stepRefused (u32 body 4) with
      | some code => c.refuse slot 0x0109 code wholeIndex
      | none => c.acceptStep.done slot 0x0109 []))

/-- SET_TIME (R380): a `TIME` request of form `SET`. -/
def execSetTime (t : Nat) (slot : Fin 16) (body : List Byte) (s : State) : Host.Outcome State Fault Refusal :=
  act t s (fun c =>
    if u8 body 0 ≠ 2 then c
    else c.request slot 0x0109 3 false (timeBodyOk body) (fun c =>
      let pps := bit (u8 body 1) 0
      match c.setRefused pps (u32 body 4) with
      | some code => c.refuse slot 0x0109 code wholeIndex
      | none => (c.acceptSet pps (u64 body 8) (u32 body 4)).done slot 0x0109 []))

/-- PPS_PULSE (R345, R351, R380): a pulse more than 1 µs off its second is a glitch; a `SET` with `AT_PPS` takes effect at the edge of the selected entry. -/
def execPpsPulse (t : Nat) (entry : Fin 8) (s : State) : Host.Outcome State Fault Refusal :=
  act t s (fun c =>
    if c.refType entry = 5 ∨ c.refType entry = 6 then
      let bad := match (c.refEntry entry).edge with
        | some u => decide (usU 1 < magnitude ((c.now - u : Nat) - (secU 1 : Nat) : Int)) && decide (c.now < u + msU 1500)
        | none => false
      let c1 := (c.count Reg.REFS_E_GLITCH_COUNT entry (flag (bad && c.refOn entry))).modRef entry (fun x => { x with edge := some c.now })
      match c.ptp.pend with
      | some (.set sec) => if c.refSelected = entry.val then c1.setTime (qOf sec 0) else c1
      | _ => c1
    else c)

/-- The counters of the block that `CLR_CNT` clears (R392, R393). -/
def ptpCounters : List Fld :=
  [Reg.PTP_CNT_SYNC_COUNT, Reg.PTP_CNT_DELAY_COUNT, Reg.PTP_CNT_ERR_OUTLIERS, Reg.PTP_CNT_ERR_IGNORED, Reg.PTP_TC_FWD_COUNT, Reg.PTP_TC_MAX_RES_NS]

/-- PTP_CLR_CNT (R392). -/
def execPtpClrCnt (t : Nat) (s : State) : Host.Outcome State Fault Refusal := act t s (fun c => c.clearAll ptpCounters)

end Sys2Proof.Machine
end

