-- ==== Sys2Proof/Machine/MacTx.lean ====
section
/-! DEFINITION. What a MAC transmits, and its timers (R285, R293 to R305). -/

namespace Sys2Proof.Machine

/-! ## Sends (R293 to R295) -/

/-- SEND (R293, R294): an engine hands over a send, which is refused when its largest frame is too long (R295). -/
def execSend (t : Nat) (port : Fin 18) (breakout : Fin 8) (req : SendReq) (s : State) : Host.Outcome State Fault Refusal :=
  act t s (fun c =>
    if breakout.val < c.breakouts port then
      let k := macKey port breakout
      let id := (c.mac k).sendNext
      let largest := if req.segment then min req.segLen req.payload.length else req.payload.length
      if c.maxFrame port < req.template.length + largest + 4 then
        (c.count Reg.MAC_TX_REFUSED_COUNT k 1).modMac k (fun m => { m with
          sends := m.sends ++ [{ id := id, tag := req.tag, left := 0, code := 1 }], sendNext := id + 1 })
      else
        let q : Nat := if req.launch.isSome then 7 else req.queue
        let at_ := req.launch.map (fun l => qOf l.1 l.2)
        let fs : List TxFrame := (sendFrames req).map (fun b => ⟨q, b, at_, id, req.tsTag, req.oneStep, false⟩)
        (c.modMac k (fun m => { m with
          sends := m.sends ++ [{ id := id, tag := req.tag, left := fs.length, code := 0 }], sendNext := id + 1 })).handFrames k fs
    else c)

/-- A frame leaves a MAC's queues and starts: time stamp hooks, output, its send (R295, R304, R305); a Delay_Req keeps its transmit
stamp (R384). -/
def Chip.startFrameTx (c : Chip) (k : Nat) (x : TxFrame) : Chip :=
  let bytes := match x.oneStep with | some o => insertTime c.deviceQ o x.bytes | none => x.bytes
  let c1 := c.modMac k (fun m => { m with
    frames := m.frames.erase x, current := some (x.queue, x.send, x.bytes.length),
    sends := m.sends.map (fun e => if e.id = x.send ∧ 0 < e.left then { e with left := e.left - 1 } else e) })
  let c2 := match x.tsTag with | some g => c1.stampFrame k g | none => c1
  let c3 := if x.queue = 6 ∧ k = macKey c.ptpPort 0 ∧ c.ptp.reqSeq.isSome = true ∧ c.ptp.reqAt = none ∧ x.bytes = c.delayReqFrame ((c.ptp.reqSeq).getD 0) then
      c2.modPtp (fun p => { p with reqAt := some c.deviceQ })
    else c2
  c3.putFrame k x.bad bytes

/-- Whether a queue of a port is stopped by pause (R300): the launch queue of a media port never is. -/
def Chip.queueStopped (c : Chip) (port k q : Nat) : Bool := (c.mac k).stopped q && !(q == 7 && !(isHostPort port))

/-- Whether a frame of queues 0 to 6 may start now (R297, R298): its queue is not stopped, it ends by the first launch time that waits, and its gate
stays open for it. -/
def Chip.mayStart (c : Chip) (port k : Nat) (first : Option Nat) (x : TxFrame) : Bool :=
  let n := c.frameTime port x.bytes.length
  let own := ((c.mac k).frames.find? (fun y => y.queue == 7)).bind TxFrame.launch
  decide (x.queue < 7) && !(c.queueStopped port k x.queue)
    && (match first with | some u => decide (c.now + n ≤ u) | none => true)
    && (match own with | some q => decide (c.deviceQAt (c.now + n) ≤ q) | none => true)
    && (isHostPort port || decide (n ≤ c.gateOpen k x.queue))

/-- TRANSMIT_FRAME_START (R296 to R298): a free MAC starts the first frame of the highest queue that may start. -/
def execTransmitFrameStart (t : Nat) (port : Fin 18) (breakout : Fin 8) (first : Option Nat) (s : State) : Host.Outcome State Fault Refusal :=
  act t s (fun c =>
    let k := macKey port breakout
    let heads := ([6, 5, 4, 3, 2, 1, 0] : List Nat).filterMap (fun q => (c.mac k).frames.find? (fun x => x.queue == q))
    match (if (c.mac k).up then heads.find? (c.mayStart port k first) else none) with
    | some x => c.startFrameTx k x
    | none => c)

/-- PACKET_LAUNCH (R263, R297): a frame of a launch queue starts, or leaves late. -/
def execPacketLaunch (t : Nat) (what : Launch) (s : State) : Host.Outcome State Fault Refusal :=
  act t s (fun c =>
    match what with
    | .flow id => c.launchFlow id
    | .injected i => c.launchInjected i
    | .queued port breakout =>
      let k := macKey port breakout
      match (c.mac k).frames.find? (fun x => x.queue == 7) with
      | none => c
      | some x =>
        if c.queueStopped port k 7 || !(c.mac k).up then c
        else
          let c1 := c.startFrameTx k x
          if (x.launch.getD 0) + usU 1 * 65536 < c.deviceQ then c1.mark Reg.PMO_STATUS_LATE_SEEN else c1)

/-- SEND_COMPLETION (R295): the completion of the first send that has ended is returned with its highest code. -/
def execSendCompletion (t : Nat) (port : Fin 18) (breakout : Fin 8) (s : State) : Host.Outcome State Fault Refusal :=
  act t s (fun c =>
    let k := macKey port breakout
    match (c.mac k).sends.find? (fun e => e.left == 0) with
    | none => c
    | some e => (c.modMac k (fun m => { m with sends := m.sends.erase e })).emit (.completion port breakout e.tag e.code))

/-- MAC_TX_UNDERRUN (R303): the frame in progress of queues 0 to 6 ends with an inverted FCS and the start threshold rises. -/
def execMacTxUnderrun (t : Nat) (port : Fin 18) (breakout : Fin 8) (s : State) : Host.Outcome State Fault Refusal :=
  act t s (fun c =>
    let k := macKey port breakout
    match (c.mac k).current with
    | none => c
    | some (q, id, _) =>
      if q = 7 then c
      else
        let th := min (c.fld Reg.MAC_P_CFG_START_THRESH k + 256) (c.maxFrame port)
        let c1 := (c.set Reg.MAC_P_CFG_START_THRESH k th).modMac k (fun m => { m with
          current := none,
          sends := m.sends.map (fun e => if e.id = id then { e with code := max e.code 3 } else e) })
        ((c1.count Reg.MAC_TX_UNDERRUN_COUNT k 1).mark Reg.MAC_STATUS_UNDERRUN_SEEN).event Ev.macTxUnderrun [port + breakout * 256, th])

/-- LINK_DOWN (R285). -/
def execLinkDown (t : Nat) (port : Fin 18) (breakout : Fin 8) (s : State) : Host.Outcome State Fault Refusal :=
  act t s (fun c => c.linkDown port breakout)

/-- LINK_UP (R285, R326): the PCS and FEC of a breakout whose lanes are trained align. -/
def execLinkUp (t : Nat) (port : Fin 18) (breakout : Fin 8) (s : State) : Host.Outcome State Fault Refusal :=
  act t s (fun c =>
    if breakout.val < c.breakouts port && c.macOn port && c.breakoutReady port breakout then (c.linkUp port breakout).alignBreakout port breakout else c)

/-! ## Pause timers (R301, R302) -/

/-- Releases what a pause kind stopped. -/
def Mac.release (m : Mac) (kind : Nat) : Mac := { m with pauseUntil := Tbl.del m.pauseUntil kind, pauseSince := Tbl.del m.pauseSince kind }

/-- PAUSE_EXPIRY (R302): the last quanta received have run out. -/
def execPauseExpiry (t : Nat) (port : Fin 18) (breakout : Fin 8) (kind : Fin 9) (s : State) : Host.Outcome State Fault Refusal :=
  act t s (fun c =>
    let k := macKey port breakout
    match Tbl.find (c.mac k).pauseUntil kind with
    | some u => if u ≤ c.now then c.modMac k (fun m => m.release kind) else c
    | none => c)

/-- PAUSE_WATCHDOG (R302): a pause state of a host port has lasted longer than `WD_MS`. -/
def execPauseWatchdog (t : Nat) (port : Fin 18) (kind : Fin 9) (s : State) : Host.Outcome State Fault Refusal :=
  act t s (fun c =>
    let k := macKey port 0
    match Tbl.find (c.mac k).pauseSince kind with
    | none => c
    | some u =>
      if isHostPort port && decide (u + msU (c.fld Reg.MAC_P_PAUSE_WD_MS k) < c.now) then
        let c1 := c.modMac k (fun m => { m.release kind with ignoreUntil := Tbl.ins m.ignoreUntil kind (c.now + msU 100) })
        ((c1.count Reg.MAC_PAUSE_EVENTS_PAUSE_WD k 1).mark Reg.MAC_STATUS_WD_SEEN).event Ev.macPauseWatchdog
          [port + (if kind.val = 8 then 0 else 65536 + kind * 1048576), (c.now - u) / 27000000]
      else c)

/-- PAUSE_IGNORE_END (R302): the 100 ms in which a pause kind was ignored end. -/
def execPauseIgnoreEnd (t : Nat) (port : Fin 18) (kind : Fin 9) (s : State) : Host.Outcome State Fault Refusal :=
  act t s (fun c => c.modMac (macKey port 0) (fun m =>
    match Tbl.find m.ignoreUntil kind with
    | some u => if u ≤ c.now then { m with ignoreUntil := Tbl.del m.ignoreUntil kind } else m
    | none => m))

/-- PAUSE_REPEAT (R301): 40 µs after the last one, a pause frame is sent again while the fill stays above 64 KiB; below it, the release. -/
def execPauseRepeat (t : Nat) (port : Fin 18) (fill : Nat) (s : State) : Host.Outcome State Fault Refusal :=
  act t s (fun c =>
    if (c.mac (macKey port 0)).pausing ∧ 65536 < fill then c.sendPause port 0xFFFF else c.judgeFill port fill)

/-! ## Gates (R299) -/

/-- A write of `MAC.CTRL.GCL_SWAP` (R299, R311). -/
def Chip.gclSwap (c : Chip) : Chip :=
  let p := c.fld Reg.MAC_PORT_SEL_PORT 0
  if c.noSel.contains Reg.MAC_PORT_SEL_PORT.addr then c
  else if isHostPort p then c.mark Reg.MAC_STATUS_CFG_REJECT
  else c.modMac (macKey p (c.fld Reg.MAC_PORT_SEL_BREAKOUT 0)) (fun m => { m with gateSwap := true })

/-- GCL_SWAP (R299, R311): a swap of the gate schedule of the selected breakout is requested. -/
def execGclSwap (t : Nat) (s : State) : Host.Outcome State Fault Refusal := act t s (fun c => c.gclSwap)

/-- GATE_SCHEDULE_SWAP (R299): at a slot frame boundary the requested schedule comes into force, or is refused. -/
def execGateScheduleSwap (t : Nat) (port : Fin 16) (breakout : Fin 8) (s : State) : Host.Outcome State Fault Refusal :=
  act t s (fun c =>
    let k := macKey port breakout
    let m := c.mac k
    if m.gateSwap then
      if gatesOk m.gatesNew then c.modMac k (fun m => { m with gates := gateList m.gatesNew, gateSwap := false })
      else
        ((c.modMac k (fun m => { m with gateSwap := false })).mark Reg.MAC_STATUS_GCL_REFUSED).event Ev.macGclRefused
          [port + breakout * 256, (m.gatesNew.map Prod.fst).sum]
    else c)

/-- A read of `MAC.TS_CAP_TAG` (R304). -/
def Chip.tsCapTagRead (c : Chip) : Chip :=
  let k := macKey (c.fld Reg.MAC_PORT_SEL_PORT 0) (c.fld Reg.MAC_PORT_SEL_BREAKOUT 0)
  let lost := c.fld Reg.MAC_TS_CAP_TAG_TS_LOST k * 16777216
  if c.noSel.contains Reg.MAC_PORT_SEL_PORT.addr then c.emit (.value Reg.MAC_TS_CAP_TAG_TAG.addr 0)
  else match (c.mac k).stamps with
  | [] => c.emit (.value Reg.MAC_TS_CAP_TAG_TAG.addr lost)
  | e :: r => (c.modMac k (fun m => { m with stamps := r })).emit (.value Reg.MAC_TS_CAP_TAG_TAG.addr (e.2.2 % 65536 + 65536 + lost))

/-- TS_CAP_TAG_READ (R304, R310): a read of `MAC.TS_CAP_TAG` removes the oldest stamp of the selected breakout. -/
def execTsCapTagRead (t : Nat) (s : State) : Host.Outcome State Fault Refusal := act t s (fun c => c.tsCapTagRead)

/-- What `MAC.CTRL.CLR_CNT` clears (R310). -/
def Chip.clrMac (c : Chip) : Chip :=
  c.clearAll [Reg.MAC_RX_FRAMES_COUNT, Reg.MAC_RX_BYTES_LO_COUNT, Reg.MAC_RX_BYTES_HI_COUNT, Reg.MAC_RX_FCS_ERR_COUNT,
    Reg.MAC_RX_RUNT_COUNT, Reg.MAC_RX_OVERSIZE_COUNT, Reg.MAC_RX_FILTERED_COUNT, Reg.MAC_RX_DROP_COUNT, Reg.MAC_RX_PAUSE_COUNT,
    Reg.MAC_RX_MAC_CTRL_COUNT, Reg.MAC_TX_FRAMES_COUNT, Reg.MAC_TX_BYTES_LO_COUNT, Reg.MAC_TX_BYTES_HI_COUNT, Reg.MAC_TX_PAD_COUNT,
    Reg.MAC_TX_REFUSED_COUNT, Reg.MAC_TX_UNDERRUN_COUNT, Reg.MAC_TX_LINK_DISCARD_COUNT, Reg.MAC_PAUSE_EVENTS_PAUSE_WD,
    Reg.MAC_PAUSE_EVENTS_TX_PAUSE_SENT, Reg.MAC_TS_CAP_TAG_TS_LOST]

/-- MAC_CLR_CNT (R310): every counter of the block. -/
def execMacClrCnt (t : Nat) (s : State) : Host.Outcome State Fault Refusal := act t s (fun c => c.clrMac)

end Sys2Proof.Machine
end

