-- ==== Sys2Proof/Machine/Receive.lean ====
section
/-! DEFINITION. A frame arrives at a MAC (R287 to R291, R300, R301): judging, pause, the replies of the network layer, media packets and the taps
of flow watch, the deep analysers and the capture store. -/

namespace Sys2Proof.Machine

/-! ## Which addresses a MAC takes (R288) -/

/-- Whether a port carries PTP (R384). -/
def Chip.ptpOn (c : Chip) (p b : Nat) : Bool := c.timeSource == 1 && b == 0 && (u8 c.ptpRec 1 == p || u8 c.ptpRec 2 == p)

/-- The PTP groups, by address family. -/
def ptpGroup (v6 : Bool) : Nat := if v6 then 0xFF0E * 2 ^ 112 + 0x181 else 224 * 2 ^ 24 + 0x181

/-- The groups on which queries for all systems arrive (assumption log). -/
def allSystems (v6 : Bool) : Nat := if v6 then 0xFF02 * 2 ^ 112 + 1 else 224 * 2 ^ 24 + 1

/-- The multicast addresses that a breakout needs. -/
def Chip.neededMacs (c : Chip) (p b : Nat) : List Nat :=
  let ms := c.net.members.filter (fun m => m.port == p && m.breakout == b)
  ms.map (fun m => groupMac m.v6 m.group) ++ (if ms = [] then [] else [groupMac false (allSystems false), groupMac true (allSystems true)])
    ++ (if c.ptpOn p b then [groupMac (bit (u8 c.ptpRec 4) 0) (ptpGroup (bit (u8 c.ptpRec 4) 0))] else [])
    ++ (match c.ipv6 p b with | some a => [0x3333FF000000 + a % 16777216] | none => [])

/-- Whether a MAC takes a destination address. -/
def Chip.macAccepts (c : Chip) (p b dst : Nat) : Bool :=
  dst == 0xFFFFFFFFFFFF || dst == c.macAddr p b || (c.neededMacs p b).contains dst

/-! ## MAC control frames (R300) -/

/-- Handles a MAC control frame. -/
def Chip.macControl (c : Chip) (p b : Nat) (e : EthFrame) : Chip :=
  let k := macKey p b
  let flags := u8 (c.macRec p) 6
  let op := u16 e.body 0
  if op = 1 then
    let c1 := c.count Reg.MAC_RX_PAUSE_COUNT k 1
    if isHostPort p && bit flags 1 && !(bit flags 3) then c1.honourPause p b 8 (u16 e.body 2) else c1
  else if op = 0x0101 then
    let c1 := c.count Reg.MAC_RX_PAUSE_COUNT k 1
    let on := if isHostPort p then bit flags 1 && bit flags 3 else true
    ((List.range 8).filter (fun i => on && bit (u16 e.body 2) i && bit (c.pfcMask p) i)).foldl (fun a i => a.honourPause p b i (u16 e.body (4 + 2 * i))) c1
  else c.count Reg.MAC_RX_MAC_CTRL_COUNT k 1

/-! ## Replies of the network layer (R289): layouts of RFC 826, RFC 792, RFC 4443 and RFC 4861 (assumption log) -/

/-- Sends a reply in the VLAN in which the request came. -/
def Chip.reply (c : Chip) (p b : Nat) (e : EthFrame) (dst etype : Nat) (body : List Byte) : Chip :=
  c.sendOwn p b (replyQueue p) (ethHeader dst (c.macAddr p b) e.vlan (replyQueue p) etype ++ body)

/-- Whether a frame is untagged or in the VLAN of the breakout's address record. -/
def Chip.ownVlan (c : Chip) (p b : Nat) (e : EthFrame) : Bool := e.vlan == 0xFFFF || e.vlan == c.macVlan p b

/-- An ARP request for the breakout's own address. -/
def Chip.isArp (c : Chip) (p b : Nat) (e : EthFrame) : Bool :=
  e.etype == 0x0806 && u16 e.body 0 == 1 && u16 e.body 2 == 0x0800 && u16 e.body 6 == 1 && c.ipv4 p b == some (u32 e.body 24) && c.ownVlan p b e

/-- The ARP reply. -/
def Chip.arpReply (c : Chip) (p b : Nat) (e : EthFrame) : Chip :=
  c.reply p b e (beNat (bytesAt e.body 8 6)) 0x0806 (beBytes 2 1 ++ beBytes 2 0x0800 ++ beBytes 1 6 ++ beBytes 1 4 ++ beBytes 2 2
    ++ beBytes 6 (c.macAddr p b) ++ beBytes 4 (u32 e.body 24) ++ bytesAt e.body 8 10)

/-- Whether an ICMP or ICMPv6 message's checksum is right. -/
def icmpOk (q : IpPacket) : Bool :=
  if q.v6 then checksum (pseudoHeader true q.src q.dst 58 q.data.length ++ q.data) == 0 else q.sumOk && checksum q.data == 0

/-- A neighbour solicitation for the breakout's own address. -/
def Chip.isSolicit (c : Chip) (p b : Nat) (e : EthFrame) (q : IpPacket) : Bool :=
  q.v6 && q.proto == 58 && u8 q.data 0 == 135 && q.hops == 255 && c.ipv6 p b == some (beNat (bytesAt q.data 8 16)) && icmpOk q && c.ownVlan p b e

/-- An ICMPv6 message with its checksum. -/
def icmp6 (src dst : Nat) (body : List Byte) : List Byte := putAt body 2 (beBytes 2 (checksum (pseudoHeader true src dst 58 body.length ++ body)))

/-- The neighbour advertisement; to all nodes when the solicitation has no source. -/
def Chip.advertise (c : Chip) (p b : Nat) (e : EthFrame) (q : IpPacket) : Chip :=
  let own := beNat (bytesAt q.data 8 16)
  let dst := if q.src = 0 then allSystems true else q.src
  let body := icmp6 own dst (beBytes 1 136 ++ beBytes 1 0 ++ beBytes 2 0 ++ beBytes 4 (if q.src = 0 then 0x20000000 else 0x60000000) ++ beBytes 16 own
    ++ beBytes 1 2 ++ beBytes 1 1 ++ beBytes 6 (c.macAddr p b))
  c.reply p b e (if q.src = 0 then groupMac true (allSystems true) else e.src) 0x86DD (ipv6Header own dst 58 0 255 body.length ++ body)

/-- An echo request to the breakout's own address. -/
def Chip.isEcho (c : Chip) (p b : Nat) (e : EthFrame) (q : IpPacket) : Bool :=
  (if q.v6 then q.proto == 58 && u8 q.data 0 == 128 && c.ipv6 p b == some q.dst else q.proto == 1 && u8 q.data 0 == 8 && c.ipv4 p b == some q.dst)
    && icmpOk q && c.ownVlan p b e

/-- The echo reply, up to 1,000 in a second (R289). -/
def Chip.echoReply (c : Chip) (p b : Nat) (e : EthFrame) (q : IpPacket) : Chip :=
  let k := macKey p b
  let m := c.mac k
  let fresh := m.echoAt + secU 1 ≤ c.now
  let n := if fresh then 0 else m.echoes
  if 1000 ≤ n then c.count Reg.MAC_RX_FILTERED_COUNT k 1
  else
    let c1 := c.modMac k (fun m => { m with echoAt := if fresh then c.now else m.echoAt, echoes := n + 1 })
    let rest := q.data.drop 4
    if q.v6 then
      let body := icmp6 q.dst q.src (beBytes 1 129 ++ beBytes 1 0 ++ beBytes 2 0 ++ rest)
      c1.reply p b e e.src 0x86DD (ipv6Header q.dst q.src 58 0 64 body.length ++ body)
    else
      let raw := beBytes 1 0 ++ beBytes 1 0 ++ beBytes 2 0 ++ rest
      c1.reply p b e e.src 0x0800 (ipv4Header q.dst q.src 1 0 64 raw.length [] ++ putAt raw 2 (beBytes 2 (checksum raw)))

/-- A membership query: none, an old one, or the group it asks about (0: all) (R274). -/
def queryOf (q : IpPacket) : Option (Option Nat) :=
  if q.v6 then
    (if q.proto = 58 ∧ u8 q.data 0 = 130 ∧ icmpOk q = true then some (if q.data.length < 28 then none else some (beNat (bytesAt q.data 8 16))) else none)
  else if q.proto = 2 ∧ u8 q.data 0 = 0x11 ∧ q.sumOk = true ∧ checksum q.data = 0 then some (if q.data.length < 12 then none else some (u32 q.data 4))
  else none

/-- Handles a membership query: reports of the memberships it asks about wait; an old one is counted. -/
def Chip.takeQuery (c : Chip) (p b : Nat) (e : EthFrame) (v6 : Bool) (g : Option Nat) : Chip :=
  match g with
  | none => c.count Reg.PMI_IGMP_OLD_QUERIES 0 1
  | some group =>
    let c1 := c.count Reg.PMI_IGMP_QUERIES 0 1
    let asked := c.net.members.filter (fun m => m.port == p && m.breakout == b && m.vlan == e.vlan && m.v6 == v6 && (group == 0 || m.group == group))
    let new := asked.filter (fun m => !(c.net.reports.any (fun r => r.answer && r.member == m)))
    { c1 with net := { c1.net with reports := c1.net.reports ++ new.map (fun m => { member := m, leave := false, answer := true, times := 1 }) } }

/-! ## Taps (R440, R442, R446, R461) -/

/-- The sources whose flow watch a flow feeds: the source it binds, or those whose channel list holds a position of it. -/
def Chip.flowSources (c : Chip) (fl : Nat) : List Nat :=
  let r := c.record tyRx fl
  if flowKind r = 2 ∨ flowKind r = 3 then
    let ps := c.flowPositions fl
    (c.listed tyLists).filter (fun s => (listEntries (c.record tyLists s)).any ps.contains)
  else [u16 r 4]

/-- The RTP clock of a kind in Hz (R247). -/
def rtpClock (kind : Nat) : Nat := if kind = 2 ∨ kind = 3 then 48000 else if kind = 5 then 27000000 else 90000

/-- The latency of a packet in ns: its arrival less the instant nearest to it that its timestamp denotes (R442). -/
def Chip.packetLatency (c : Chip) (kind ts : Nat) : Int :=
  let rate := rtpClock kind
  let ticks := c.deviceQ * rate / qSec
  let sent : Int := (ticks : Int) - diff32 (ticks % 4294967296) ts
  ((c.deviceQ : Int) - sent * qSec / rate) / (27 * 65536)

/-- A packet of a flow passes the taps of one source. -/
def Chip.watchPacket (c : Chip) (s kind : Nat) (x : Tap) : Chip :=
  c.modWatch s (fun w =>
    let last := if x.pathB then w.seqB else w.seqA
    let arr := if x.pathB then w.arrB else w.arrA
    let gap := match last with
      | some q => (let d := diff32 x.seq q; if 1 < d then (d - 1).toNat else 0)
      | none => 0
    let ahead := match last with | some q => decide (0 < diff32 x.seq q) | none => true
    let seen := if ahead then some x.seq else last
    let bin := match arr with | some a => some (flag x.pathB * 16 + histBin ((c.now - a) / 27)) | none => none
    let timed := c.isSet Reg.PTP_STATUS_TIME_VALID 0 && !x.discard && (kind == 2 || kind == 3
      || ((kind == 0 || kind == 4 || kind == 5) && w.frameTs != some x.rtp.ts))
    let lat := c.packetLatency kind x.rtp.ts
    { w with
      seqA := if x.pathB then w.seqA else seen, seqB := if x.pathB then seen else w.seqB,
      arrA := if x.pathB then w.arrA else some c.now, arrB := if x.pathB then some c.now else w.arrB,
      gapsA := if x.pathB then w.gapsA else w.gapsA + gap, gapsB := if x.pathB then w.gapsB + gap else w.gapsB,
      lost := w.lost + x.lost,
      skew := match x.skew with | some v => widen w.skew v | none => w.skew,
      lat := if timed then widen w.lat lat else w.lat, latSum := if timed then w.latSum + lat else w.latSum,
      latN := if timed then w.latN + 1 else w.latN,
      frameTs := if x.discard then w.frameTs else some x.rtp.ts,
      hist := match bin with | some k => Tbl.upd 0 w.hist k (fun n => n + 1) | none => w.hist })

/-- The record of a deep analyser (R447). -/
def Chip.deepRecord (c : Chip) (x : Tap) (gapBefore : Bool) : List Byte :=
  beBytes 4 (nsOf c.deviceQ) ++ beBytes 2 (secOf c.deviceQ)
    ++ beBytes 1 (flag x.pathB + 2 * flag x.rtp.marker + 4 * flag x.dup + 8 * flag x.discard + 16 * flag gapBefore)
    ++ beBytes 1 (min 255 (ceilDiv x.udp.length 64)) ++ beBytes 4 x.seq ++ beBytes 4 x.rtp.ts

/-- The records in an analyser's ring (R446). -/
def deepRecords : Nat := 8388608

/-- A running analyser of a source writes a record, or loses it when its buffer is full. -/
def Chip.deepTap (c : Chip) (m : Tbl Byte) (s : Nat) (x : Tap) (full : List Nat) (a : Nat) : Chip × Tbl Byte :=
  if c.isSet Reg.FWA_D_STATE_RUNNING a && c.fld Reg.FWA_D_CFG_SRC a == s then
    if full.contains a then
      let b := c.count Reg.FWA_D_LOST_COUNT a 1
      ({ b with fwa := { b.fwa with deepGap := dedup (b.fwa.deepGap ++ [a]) } }, m)
    else
      let n := c.fld Reg.FWA_D_NEXT_RECORD a
      let m1 := memWrite m (storeBase + Config.ringBase a % 103079215104 + 16 * n) (c.deepRecord x (c.fwa.deepGap.contains a))
      let c1 : Chip := { c with fwa := { c.fwa with deepGap := c.fwa.deepGap.filter (fun i => i != a) } }
      let c2 := c1.set Reg.FWA_D_NEXT_RECORD a (n + 1)
      (if n + 1 = deepRecords ∧ c.isSet Reg.FWA_D_CFG_WRAP a = false then (c2.set Reg.FWA_D_STATE_RUNNING a 0).set Reg.FWA_D_STATE_FULL a 1 else c2, m1)
  else (c, m)

/-- A packet of a flow reaches the taps. -/
def Chip.tapPacket (c : Chip) (m : Tbl Byte) (x : Tap) (full : List Nat) : Chip × Tbl Byte :=
  let kind := flowKind (c.record tyRx x.flow)
  let ss := c.flowSources x.flow
  let c1 := ss.foldl (fun a s => a.watchPacket s kind x) c
  let c2 := if kind = 2 ∨ kind = 3 then c1 else ss.foldl (fun a s => a.capPacket s (kind == 4) x.pathB x.dup x.udp) c1
  ss.foldl (fun a s => (List.range 8).foldl (fun b i => b.1.deepTap b.2 s x full i) a) (c2, m)

/-! ## The frame -/

/-- An accepted frame goes to the answers of the network layer or to its flow (R249, R289). -/
def Chip.passFrame (c : Chip) (m : Tbl Byte) (p b : Nat) (e : EthFrame) (learnt : Option Format) (full : List Nat) : Chip × Tbl Byte :=
  if c.isArp p b e then (c.arpReply p b e, m)
  else
    let lost := fun (a : Chip) => if isHostPort p then a else (a.mark Reg.PMI_STATUS_UNMATCHED_SEEN).count Reg.PMI_RX_UNMATCHED_COUNT 0 1
    match readIp e with
    | none => (lost c, m)
    | some q =>
      if c.isSolicit p b e q then (c.advertise p b e q, m)
      else if c.isEcho p b e q then (c.echoReply p b e q, m)
      else if isHostPort p then (c, m)
      else match queryOf q with
        | some g => (c.takeQuery p b e q.v6 g, m)
        | none =>
          if q.proto = 17 then
            match c.matchFlow p b e.vlan q with
            | some (fl, pathB) =>
              let r := c.mediaPacket fl pathB q
              let rec_ := c.record tyRx fl
              let c1 := if flowKind rec_ = 5 ∧ learnt.isSome = true ∧ learnt ≠ (r.1.src (u16 rec_ 4)).format then r.1.formatChange (u16 rec_ 4) learnt else r.1
              c1.tapPacket m r.2 full
            | none => if c.ptpOn p b && (u16 q.data 2 == 319 || u16 q.data 2 == 320) then (c, m) else (lost c, m)
          else (lost c, m)

/-- Judges a frame in the order of R291. -/
def Chip.judgeFrame (c : Chip) (m : Tbl Byte) (p b : Nat) (bytes : List Byte) (fcsOk bufferFull : Bool) (learnt : Option Format) (full : List Nat) :
    Chip × Tbl Byte :=
  let k := macKey p b
  let e := readEth (bytes.take (bytes.length - 4))
  if bytes.length < 64 then (c.count Reg.MAC_RX_RUNT_COUNT k 1, m)
  else if c.maxFrame p < bytes.length then (c.count Reg.MAC_RX_OVERSIZE_COUNT k 1, m)
  else if !fcsOk then (c.count Reg.MAC_RX_FCS_ERR_COUNT k 1, m)
  else if 1 < e.tags then (c.count Reg.MAC_RX_FILTERED_COUNT k 1, m)
  else if e.etype = 0x8808 then (c.macControl p b e, m)
  else if !(c.macAccepts p b e.dst) then (c.count Reg.MAC_RX_FILTERED_COUNT k 1, m)
  else if bufferFull then (c.count Reg.MAC_RX_DROP_COUNT k 1, m)
  else ((c.countWrap Reg.MAC_RX_FRAMES_COUNT k 1).count64 Reg.MAC_RX_BYTES_LO_COUNT Reg.MAC_RX_BYTES_HI_COUNT k bytes.length).passFrame m p b e learnt full

/-- RECEIVE_FRAME (R291): a MAC whose link is down accepts no frame (R285). -/
def execReceiveFrame (t : Nat) (port : Fin 18) (breakout : Fin 8) (bytes : List Byte) (fcsOk : Bool) (bufferFull : Bool) (fill : Nat)
    (learnt : Option Format) (deepFull : List (Fin 8)) (s : State) : Host.Outcome State Fault Refusal :=
  actMem t s (fun c m =>
    if (c.mac (macKey port breakout)).up then
      let r := c.judgeFrame m port breakout bytes fcsOk bufferFull learnt (deepFull.map Fin.val)
      (r.1.judgeFill port fill, r.2)
    else (c, m))

end Sys2Proof.Machine
end

