-- ==== Sys2Proof/Machine/Splice.lean ====
section
/-! DEFINITION. The commands of the splice links and of twin mode (R387, R388, R394 to R431), but for the cells that arrive. -/

namespace Sys2Proof.Machine

/-! ## Ports (R395, R397, R400) -/

/-- The words of this device's link-state cell (R395). -/
def Chip.linkWords (c : Chip) : List Nat :=
  [c.deviceId, c.rank, flag c.masterEn, c.epoch] ++ (c.linksOf c.deviceId).flatMap (fun x => [x.port, x.neighbour, x.step, x.delay])

/-- LINK_STATE_CELL_SEND (R395). -/
def execLinkStateCellSend (t : Nat) (s : State) : Host.Outcome State Fault Refusal :=
  act t s (fun c => c.systemPorts.foldl (fun a p => a.emit (.cell p 4 c.linkWords)) c)

/-- The words of the state that an active device sends its standby (R421): its routes, its settings, its layouts and its takes that wait. -/
def Chip.mirrorWords (c : Chip) : List (List Nat) :=
  c.routesList.map (fun e => [0, e.1, e.2.1, e.2.2.src]) ++ c.cfg.map (fun e => [1, e.1] ++ e.2.map BitVec.toNat)
    ++ c.cmp.layouts.map (fun y => [2, y.serial] ++ y.body.map BitVec.toNat)
    ++ c.xpt.queue.map (fun q => [3, q.id, q.dst, q.src, q.levels]) ++ c.xpt.audQueue.map (fun q => [4, q.id] ++ q.records.flatten.map BitVec.toNat)

/-- A port leaves service (R395, R416, R421). -/
def Chip.portOut (c : Chip) (p : Nat) : Chip :=
  let c1 := (c.set Reg.SPL_P_STATE_IN_SERVICE p 0).event Ev.splLinkDown [p + c.neighbour p * 65536]
  let c2 := if c.upPort = some p then c1.upstreamLost else c1
  let c3 := c2.set Reg.SPL_P_STATE_UPSTREAM p 0
  if c.twinOn ∧ p = 7 then (if c.fld Reg.SPL_TWIN_ROLE 0 = 0 then c3 else c3.unsync 2) else c3.topologyChanged

/-- SPLICE_PORT_IN_SERVICE (R395, R400, R421): a port whose neighbour speaks another version stays out of service; an isolated device stays isolated (R397). -/
def execSplicePortInService (t : Nat) (port : Fin 8) (neighbour : Fin 4096) (proto : Fin 256) (s : State) : Host.Outcome State Fault Refusal :=
  act t s (fun c =>
    let p := port.val
    let aligned := c.isSet Reg.LNE_L_STATE_ALIGNED (spliceLane p 0) && c.isSet Reg.LNE_L_STATE_ALIGNED (spliceLane p 1)
    if c.spliceOn p = false ∨ aligned = false ∨ c.inService p = true ∨ c.isSet Reg.SPL_STATUS_ID_CONFLICT 0 = true then c
    else if proto.val ≠ c.fld Reg.SPL_STATUS_PROTO 0 then
      c.event Ev.splProtoMismatch [p + c.fld Reg.SPL_STATUS_PROTO 0 * 256 + proto.val * 65536]
    else
      let c1 := ((c.set Reg.SPL_P_STATE_IN_SERVICE p 1).set Reg.SPL_P_STATE_NEIGHBOUR p neighbour).event Ev.splLinkUp [p + neighbour.val * 65536]
      let c2 : Chip := { c1 with spl := { c1.spl with heard := Tbl.put 0 c1.spl.heard p c.now } }
      if c.twinOn ∧ p = 7 then
        (if c.spl.act then c2.mirrorWords.foldl (fun a w => a.emit (.cell 7 5 w)) c2 else c2.followSplice true)
      else c2.topologyChanged)

/-- SPLICE_PORT_OUT_OF_SERVICE (R395): either lane stops carrying cells, or 8 consecutive link-state cells, 800 µs, are missing. SP7 of a twin carries none. -/
def execSplicePortOutOfService (t : Nat) (port : Fin 8) (lane : Bool) (s : State) : Host.Outcome State Fault Refusal :=
  act t s (fun c =>
    if c.inService port = true ∧ (lane = true ∨ ((c.twinOn && port.val == 7) = false ∧ Tbl.get 0 c.spl.heard port + usU 800 ≤ c.now)) then c.portOut port else c)

/-- TICK_MASTER_ELECTION (R410): 2 ms after the latest topology change. -/
def execTickMasterElection (t : Nat) (s : State) : Host.Outcome State Fault Refusal :=
  act t s (fun c => match c.spl.electAt with | some u => if u ≤ c.now then c.electMaster else c | none => c)

/-- STEP_DOWN_TIMER (R409): the reserved total has stayed at or below 15 % for 60 s. -/
def execStepDownTimer (t : Nat) (port : Fin 8) (s : State) : Host.Outcome State Fault Refusal :=
  act t s (fun c => if (c.stepSt port).farMax.isSome then c.judgeLoad port else c)

/-! ## The splice PTP channel (R387, R388, R401) -/

/-- Whether this device is the master of the splice PTP channel (R387, R420). -/
def Chip.channelMaster (c : Chip) : Bool := c.spl.act || (decide (1 < c.spl.members.length) && c.spl.master == some c.deviceId)

/-- The ports on which the splice PTP channel runs: those of the tree, and SP7 of a twin (R387, R424). -/
def Chip.channelPorts (c : Chip) : List Nat := c.treePorts ++ (if c.twinOn && c.inService 7 then [7] else [])

/-- SPLICE_SYNC_SEND (R387): words 0 (Sync), sequence number, seconds, nanoseconds. -/
def execSpliceSyncSend (t : Nat) (s : State) : Host.Outcome State Fault Refusal :=
  act t s (fun c =>
    if c.channelMaster then
      c.channelPorts.foldl (fun a p => a.emit (.cell p 3 [0, c.ptp.seqNext, secOf c.deviceQ, nsOf c.deviceQ]))
        (c.modPtp (fun p => { p with seqNext := (p.seqNext + 1) % 65536 }))
    else c)

/-- The master of the splice PTP channel as the slave's foreign master. -/
def Chip.spliceMaster (c : Chip) : Foreign :=
  { portB := false, source := (c.spl.master.getD c.deviceId) * 65536, data := [], gm := 0, cls := 0, steps := 0, utc := 0, log := -4, heard := [] }

/-- The words of a message of the splice PTP channel. -/
def ptpWords (m : SplicePtp) (residence : Nat) : List Nat :=
  match m with
  | .sync seq sec ns k => [0, seq, sec, ns, unsigned 64 (k + ((residence * 65536 : Nat) : Int))]
  | .delayReq dev seq k => [1, dev, seq, unsigned 64 (k + ((residence * 65536 : Nat) : Int))]
  | .followUp seq sec ns k => [8, seq, sec, ns, unsigned 64 k]
  | .delayResp dev seq sec ns k => [9, dev, seq, sec, ns, unsigned 64 k]
  | .pdelay => [2]
  | .delay n => [3, n]

/-- Whether a message is an event message that a transparent clock times (R388). -/
def ptpTimed : SplicePtp → Bool
  | .sync _ _ _ _ => true
  | .delayReq _ _ _ => true
  | _ => false

/-- The transparent clock forwards a message that arrived on one of its ports to every other (R388). -/
def Chip.forwardPtp (c : Chip) (port : Nat) (m : SplicePtp) (residence : Nat) : Chip :=
  let tc := u8 c.ptpRec 5
  if bit tc port then
    (if ptpTimed m && decide (1000000 < residence) then c.count Reg.PTP_CNT_ERR_IGNORED 0 1
     else
       let c1 := (c.channelPorts.filter (fun p => p != port && bit tc p)).foldl (fun a p => a.emit (.cell p 3 (ptpWords m residence))) c
       if ptpTimed m then (c1.countWrap Reg.PTP_TC_FWD_COUNT 0 1).peak Reg.PTP_TC_MAX_RES_NS 0 residence else c1)
  else c

/-- This device's slave on the channel takes a message (R387). -/
def Chip.slavePtp (c : Chip) (m : SplicePtp) : Chip :=
  if c.timeSource = 2 ∧ c.channelMaster = false ∧ c.restarting = false then
    let f := c.spliceMaster
    let msg := fun (seq : Nat) (k : Int) => (⟨false, 0, f.source, seq, -4, k⟩ : PtpMsg)
    match m with
    | .sync seq sec ns k => (c.selectMaster f).takeSync (msg seq k) false sec ns
    | .followUp seq sec ns k => c.takeFollowUp (msg seq k) sec ns
    | .delayResp dev seq sec ns k => if dev = c.deviceId then c.takeDelayResp (msg seq k) sec ns else c
    | _ => c
  else c

/-- SPLICE_PTP_CELL (R387, R388, R401). -/
def execSplicePtpCell (t : Nat) (port : Fin 8) (msg : SplicePtp) (residence : Nat) (s : State) : Host.Outcome State Fault Refusal :=
  act t s (fun c =>
    if c.inService port = false then c
    else
      let c0 := c.countWrap Reg.SPL_P_CELLS_COUNT port 1
      match msg with
      | .pdelay => c0.count Reg.PTP_CNT_ERR_IGNORED 0 1
      | .delay n => c0.set Reg.SPL_P_DELAY_NS port (min n 0xFFFFFFFE)
      | .delayReq dev seq k =>
        if c.channelMaster then c0.emit (.cell port 3 (ptpWords (.delayResp dev seq (secOf c.deviceQ) (nsOf c.deviceQ) k) 0))
        else c0.forwardPtp port msg residence
      | m => (c0.forwardPtp port m residence).slavePtp m)

/-! ## Imported lines (R402, R403) -/

/-- The sample sets of a line's audio part: the number of channels, and that many words for each set. -/
def audioSets (l : List Nat) : List (List Nat) :=
  match l with
  | [] => []
  | n :: w => (List.range (w.length / max n 1)).map (fun i => ((w.drop (i * n)).take n).map (fun v => v * 256))

/-- IMPORT_LINE_RELEASE (R403): the line is written into its slot when every byte of its video has arrived; an incomplete one is left out, and destinations that read it count a
miss (R33). -/
def execImportLineRelease (t : Nat) (dev : Fin 4096) (src : Fin 1120) (td : Fin 4) (line : Nat) (s : State) : Host.Outcome State Fault Refusal :=
  act t s (fun c =>
    let k := pairKey (some dev.val) src td
    match c.spl.imports.find? (fun x => x.pair == k) with
    | none => c
    | some x =>
      let parts := Tbl.get [] c.spl.gathered (k * 8192 + line)
      let c0 : Chip := { c with spl := { c.spl with gathered := Tbl.del c.spl.gathered (k * 8192 + line) } }
      let f := x.format.getD ⟨3840, 2160, 0, 0, 10, 9⟩
      let part := fun (n : Nat) => (parts.filter (fun y => y.flags % 4 == n)).map (fun y => (y.off, y.bytes))
      let cells := part 0
      let ancBytes := joinSegments (((part 1).map (fun y => y.1 + y.2.length)).foldl max 0) (part 1)
      let audBytes := joinSegments (((part 2).map (fun y => y.1 + y.2.length)).foldl max 0) (part 2)
      let anc := (List.range (ancBytes.length / 2)).map (fun i => u16 ancBytes (2 * i) % 1024)
      let aud := (List.range (audBytes.length / 3)).map (fun i => u24 audBytes (3 * i))
      let key := slotKey k false
      let blank := (sourceRow src f line).isNone
      if blank ∨ lineBytes f ≤ coverFrom cells cells.length 0 then
        let samples := if blank then [] else unpackSamples f.depth (joinSegments (lineBytes f) cells)
        let c1 := c0.setSlot key ((c0.slotAt key).write line samples (if anc = [] then [] else [anc]) (!blank)).1
        { c1 with spl := { c1.spl with audio := Tbl.put [] c1.spl.audio k (Tbl.get [] c1.spl.audio k ++ audioSets aud) } }
      else c0)

/-! ## Twin mode (R420 to R423) -/

/-- TWIN_ROLE_DECISION (R420): at the first tick of full service in TD0, and 100 ms later on a device with `PREFER_A` 0. A device that a record of R422 has barred does not assert
TWIN_ACT. -/
def execTwinRoleDecision (t : Nat) (actIn : Bool) (s : State) : Host.Outcome State Fault Refusal :=
  act t s (fun c =>
    let late := match c.boot.fullAt with | some u => decide (u + msU 100 ≤ c.now) | none => false
    if c.twinOn = true ∧ c.fld Reg.SPL_TWIN_ROLE 0 = 0 ∧ c.fullIn 0 = true ∧ (bit (u8 (c.record tyTwin 0) 0) 1 = true ∨ late = true) then
      (if actIn = false ∧ c.spl.barred = false then
         (((c.set Reg.SPL_TWIN_ROLE 0 1).set Reg.SPL_TWIN_ACT_IN 0 1).driveAct true).followSplice false
       else ((c.set Reg.SPL_TWIN_ROLE 0 2).set Reg.SPL_TWIN_ACT_IN 0 (flag actIn)).followSplice true)
    else c)

/-- MIRROR_ACK_TIMEOUT (R421): the response goes out 50 µs after its mirror cells all the same, and the standby is unsynchronised. -/
def execMirrorAckTimeout (t : Nat) (s : State) : Host.Outcome State Fault Refusal :=
  act t s (fun c =>
    let due := fun (x : Nat × Nat × Nat) => decide (x.2.2 + usU 50 ≤ c.now)
    if c.spl.mirror.any due then ((c.unwithhold (fun _ => true)).unsync 1).set Reg.SPL_TWIN_STBY_IN 0 0 else c)

/-- TWIN_ACT_RELEASE (R422, R423): TWIN_ACT rises, released by the active device. -/
def execTwinActRelease (t : Nat) (s : State) : Host.Outcome State Fault Refusal :=
  act t s (fun c =>
    let c0 := c.set Reg.SPL_TWIN_ACT_IN 0 0
    if c.standby = true then
      (if c.spl.barred = false ∧ (c.isSet Reg.SPL_TWIN_SYNCED 0 = true ∨ bit (u8 (c.record tyTwin 0) 0) 2 = true) then
         { c0 with spl := { c0.spl with handover := some (c.now + usU 100, 2) } }
       else c0.event Ev.splTwinLost [c.spl.unsync])
    else c0)

/-- The device that takes over, and the device that hands over, at tick n (R422). -/
def Chip.handOver (c : Chip) (cause : Nat) : Chip :=
  let c0 : Chip := { c with spl := { c.spl with handover := none } }
  let taking := c.standby && !c.spl.barred
  let c1 := if taking then
      let a := (c0.set Reg.SPL_TWIN_ROLE 0 1).driveAct true
      let b := (if c.spl.stby then a.driveStby false else a).set Reg.SPL_TWIN_ACT_IN 0 1
      if cause = 2 then b.set Reg.SPL_TWIN_SYNCED 0 0 else b
    else
      let a := c0.set Reg.SPL_TWIN_ROLE 0 2
      let b := if c.spl.act then a.driveAct false else a
      if cause = 1 then b.driveStby true else b.set Reg.SPL_TWIN_SYNCED 0 0
  ((c1.count Reg.SPL_TWIN_HANDOVERS 0 1).event Ev.splHandover [cause + 16 * c1.fld Reg.SPL_TWIN_ROLE 0, (c.dom 0).frame]).followSplice true

/-- TWIN_HANDOVER (R422): at the first TD0 tick at or after the earliest instant. -/
def execTwinHandover (t : Nat) (s : State) : Host.Outcome State Fault Refusal :=
  act t s (fun c =>
    match c.spl.handover with
    | some (u, cause) => if c.twinOn = true ∧ c.fld Reg.SPL_TWIN_ROLE 0 ≠ 0 ∧ u ≤ (c.dom 0).tickAt then c.handOver cause else c
    | none => c)

/-- Whether a handover can be asked for (R431, R539). -/
def Chip.canHandOver (c : Chip) : Bool := c.twinOn && c.isSet Reg.SPL_TWIN_SYNCED 0

/-- HANDOVER (R422, R539). -/
def execHandover (t : Nat) (slot : Fin 16) (body : List Byte) (s : State) : Host.Outcome State Fault Refusal :=
  act t s (fun c => c.request slot 0x0108 3 false (decide (body.length = 0)) (fun c =>
    if c.canHandOver then (c.planHandover.emit (.cell 7 5 [8])).done slot 0x0108 [] else c.refuse slot 0x0108 0x110A wholeIndex))

/-- Whether the device lies in a splice system (R418, R431). -/
def Chip.inSystem (c : Chip) : Bool := decide (1 < c.spl.members.length)

/-- REJOIN (R418, R539): flooded to the whole part, and carried out here too. -/
def execRejoin (t : Nat) (slot : Fin 16) (body : List Byte) (s : State) : Host.Outcome State Fault Refusal :=
  act t s (fun c => c.request slot 0x0107 3 false (decide (body.length = 0)) (fun c =>
    if c.inSystem then ((c.flood none 2 [7]).rejoin).done slot 0x0107 [] else c.refuse slot 0x0107 0x110A wholeIndex))

/-- What `SPL.CTRL.CLR_CNT` clears (R430). -/
def Chip.clrSpl (c : Chip) : Chip :=
  c.clearAll [Reg.SPL_P_CELLS_COUNT, Reg.SPL_P_CELL_ERR_COUNT, Reg.SPL_TWIN_HANDOVERS]

/-- SPL_CLR_CNT (R430). -/
def execSplClrCnt (t : Nat) (s : State) : Host.Outcome State Fault Refusal := act t s (fun c => c.clrSpl)

end Sys2Proof.Machine
end

