-- ==== Sys2Proof/Machine/SectionOps.lean ====
section
/-! DEFINITION. The checks of settings records against each other (R502): the conflicts within a section, the second pass against other
sections, and the two passes over the sections of a bank. -/

namespace Sys2Proof.Machine

/-! ## Domains (R45, R88) -/

/-- The refusals of an assignment to a domain that must run at a rate (R88): `DOMAIN_OFF`, `DOMAIN_RATE`. -/
def Chip.domainCodes (c : Chip) (td : Nat) (rate : Option Nat) : List Nat :=
  if !(c.tdOn td) then [0x0211] else match rate with | some r => if r = c.tdRate td then [] else [0x0210] | none => []

/-- The domain of an external destination by its settings, or the one it changes to (R105, R675). -/
def Chip.dstTdNext (c : Chip) (d : Nat) : Nat := match (c.dst d).newTd with | some n => n.1 | none => c.dstTdSet d

/-- The rate of the video egress of an external destination, when it has one (R45). -/
def Chip.egressRate (c : Chip) (d : Nat) : Option Nat :=
  match c.dstSdi d with
  | some l => some (u8 (c.record tySdi l) 9)
  | none => (c.dstFlow d).map (fun f => u8 (c.record tyTx f) 101)

/-- Whether anything is assigned to a domain (R45): destinations, composers and generators that are enabled, capture inputs, players. -/
def Chip.assigned (c : Chip) (td : Nat) : Bool :=
  (td == 0) || (c.listed tyDests).any (fun d => c.dstTdSet d == td) || c.xpt.dsts.any (fun e => isExternalDst e.1 && e.2.td == td)
    || (List.range 32).any (fun i => (c.cmpOn i && c.cmpTd i == td) || (c.genOn i && u8 (c.record tyGens i) 1 == td)
      || (c.hasRec tyCapCh i && u8 (c.record tyCapCh i) 1 == td) || (c.hasRec tyPlayers i && u8 (c.record tyPlayers i) 1 == td))

/-! ## Audio bindings (R241, R244) -/

/-- The embedded channels of an SDI family and group size (R233). -/
def sdiChannels (family group : Nat) : Nat := if family ≤ 1 then 0 else if family = 2 then 16 * 2 ^ group else min 64 (32 * 2 ^ group)

/-- The embedded channels that a source or destination bound to SDI, or to a kind 5 flow, can carry; a searching receiver may learn any. -/
def Chip.embedded (c : Chip) (dstSide : Bool) (i : Nat) : Nat :=
  match (if dstSide then c.dstSdi i else c.srcSdi i) with
  | some l =>
    let r := c.record tySdi l
    if dstSide then sdiChannels ((sdiFamily (u8 r 8) (u8 r 9) (u8 r 1)).getD 0) (u8 r 1)
    else if u8 r 3 = 0 then 64 else sdiChannels (u8 r 3) (u8 r 1)
  | none =>
    match (if dstSide then c.dstFlow i else c.srcFlow i) with
    | some f =>
      let r := c.record (if dstSide then tyTx else tyRx) f
      if flowKind r = 5 then (if u8 r 96 = 0 then 0 else if u8 r 96 ≤ 2 then 16 else 32) else 0
    | none => 0

/-- Whether the target of a channel binding carries the channel that it names (R244). -/
def Chip.carries (c : Chip) (dstSide : Bool) (r : List Byte) : Bool :=
  let t := u16 r 4
  let i := u8 r 6
  let flow := c.record (if dstSide then tyTx else tyRx) t
  match u8 r 2 with
  | 1 => flow != [] && flowKind flow == 2 && decide (i < u8 flow 96)
  | 2 => flow != [] && flowKind flow == 3 && decide (i < u8 flow 96)
  | 3 => decide (i < c.embedded dstSide t)
  | 4 => decide (i < 2 * 2 ^ u8 (c.record tyAudPorts t) 1)
  | 5 => decide (i + (if bit (u8 r 3) 1 then 1 else 0) ≤ 1)
  | 6 => i == 0
  | 7 => if isGenerator t && !dstSide then decide (i ≤ 15) else decide (i ≤ 63)
  | _ => false

/-- The positions that a channel record takes. -/
def audTakes (r : List Byte) : List Nat := (List.range (audSpan r)).map (fun k => u16 r 0 + k)

/-- Whether a channel record takes a position that another record of its section takes. -/
def Chip.audOverlaps (c : Chip) (ty : Nat) (r : List Byte) : Bool :=
  (c.listed ty).any (fun p => p != u16 r 0 && (audTakes (c.record ty p)).any (fun k => (audTakes r).contains k))

/-! ## Flows (R248, R249, R278) -/

/-- The key of a receive path (R249). -/
def pathKey (r : List Byte) (b : Bool) : List Nat :=
  let q := flowPath r b
  [u8 q 0, u8 q 1, u16 q 2, flag (flowV6 r), pathDst (flowV6 r) q, u16 q 36, pathSrc (flowV6 r) q]

/-- The role in which a flow binds its index: video, or the ancillary flow beside it (R248). -/
def flowRole (k : Nat) : Nat := if videoKind k then 1 else if k = 4 then 2 else 0

/-- Whether an enabled flow conflicts with another enabled flow of its table: `FLOW_KEY_DUP` (R278). -/
def Chip.flowClash (c : Chip) (tx : Bool) (i : Nat) (r : List Byte) : Bool :=
  let ty := if tx then tyTx else tyRx
  let others := (c.listed ty).filter (fun f => f != i && flowOn (c.record ty f))
  flowOn r && ((!tx && (let ks := (flowPaths r).map (pathKey r)
      (flowDual r && ks.head? == ks.getLast?) || others.any (fun f => (flowPaths (c.record ty f)).any (fun b => ks.contains (pathKey (c.record ty f) b)))))
    || (flowRole (flowKind r) != 0 && others.any (fun f => flowRole (flowKind (c.record ty f)) == flowRole (flowKind r)
        && u16 (c.record ty f) 4 == u16 r 4)))

/-- Whether an enabled video flow binds an index that SDI binds (R278, R340). -/
def Chip.flowSdi (c : Chip) (tx : Bool) (r : List Byte) : Bool :=
  flowOn r && videoKind (flowKind r) && (if tx then c.dstSdi (u16 r 4) else c.srcSdi (u16 r 4)).isSome

/-- Whether an enabled kind 4 flow lacks the kind 0 flow beside which it runs, or has another rate (R247, R277, R278). -/
def Chip.ancLost (c : Chip) (tx : Bool) (r : List Byte) : Bool :=
  flowOn r && flowKind r == 4 &&
  (match (if tx then c.dstFlow (u16 r 4) else c.srcFlow (u16 r 4)) with
   | some f => let v := c.record (if tx then tyTx else tyRx) f
     flowKind v != 0 || u8 v 101 != u8 r 101
   | none => true)

/-- The bytes of the largest frame that a kind 0 transmit flow sends on a path, its FCS included (R273, R277). -/
def txFrameBytes (r : List Byte) (b : Bool) : Nat :=
  14 + (if u16 (flowPath r b) 2 = 0xFFFF then 0 else 4) + (if flowV6 r then 40 else 20) + 8 + udpMax r + 4

/-- `FLOW_PORT` (R278). -/
def Chip.flowPortBad (c : Chip) (tx : Bool) (r : List Byte) : Bool :=
  (flowPaths r).any (fun b =>
    decide (c.breakouts (u8 (flowPath r b) 0) ≤ u8 (flowPath r b) 1)
      || (tx && flowKind r == 0 && decide (c.maxFrame (u8 (flowPath r b) 0) < txFrameBytes r b)))

/-- Whether an enabled kind 1 receive flow would be the 65th (R278). -/
def Chip.flowLimit (c : Chip) (i : Nat) (r : List Byte) : Bool :=
  flowOn r && flowKind r == 1 && decide (64 ≤ (c.rxFlows.filter (fun f => f != i && flowKind (c.record tyRx f) == 1)).length)

/-- The ports that the paths of a flow use. -/
def flowPorts (r : List Byte) : List Nat := (flowPaths r).map (fun b => u8 (flowPath r b) 0)

/-- The enabled transmit flows. -/
def Chip.txFlows (c : Chip) : List Nat := (c.listed tyTx).filter (fun f => flowOn (c.record tyTx f))

/-- `MAC_PFC_MEDIA` (R309): a bit of `PFC_MASK` equals the `PCP` of an enabled transmit flow on the port. -/
def Chip.pfcMedia (c : Chip) (r : List Byte) : Bool :=
  decide (u8 r 0 ≤ 15) && c.txFlows.any (fun f => (flowPorts (c.record tyTx f)).contains (u8 r 0) && bit (u8 r 7) (u8 (c.record tyTx f) 15 / 32))

/-! ## SDI bindings (R340, R342) -/

/-- The SDI lanes of a binding. -/
def sdiSpan (r : List Byte) : List Nat := (List.range (2 ^ u8 r 1)).map (fun i => u8 r 0 + i)

/-- Whether a binding's lanes overlap another's: `LNE_GROUP` (R342). -/
def Chip.sdiOverlaps (c : Chip) (i : Nat) (r : List Byte) : Bool :=
  (c.listed tySdi).any (fun l => l != i && (sdiSpan (c.record tySdi l)).any (fun k => (sdiSpan r).contains k))

/-- Whether another binding of the section is the ingress of the record's source or the egress of its destination: `LNE_BIND` (R342). -/
def Chip.sdiTaken (c : Chip) (i : Nat) (r : List Byte) : Bool :=
  (c.listed tySdi).any (fun l => l != i && (let o := c.record tySdi l
    (bit (u8 r 2) 0 && bit (u8 o 2) 0 && u16 o 4 == u16 r 4) || (bit (u8 r 2) 1 && bit (u8 o 2) 1 && u16 o 6 == u16 r 6)))

/-- Whether a flow is the ingress of the record's source or the egress of its destination: `LNE_BIND` (R342). -/
def Chip.sdiFlow (c : Chip) (r : List Byte) : Bool :=
  (bit (u8 r 2) 0 && (c.srcFlow (u16 r 4)).isSome) || (bit (u8 r 2) 1 && (c.dstFlow (u16 r 6)).isSome)

/-! ## References, time, splice -/

/-- Whether two entries name one input (R345, R370). -/
def sameInput (a b : List Byte) : Bool :=
  u8 a 1 == u8 b 1 && (if u8 a 1 = 7 then (u8 a 4 == u8 b 4 || (u8 b 5 != 255 && u8 a 4 == u8 b 5) || (u8 a 5 != 255 && (u8 a 5 == u8 b 4 || u8 a 5 == u8 b 5)))
    else if u8 a 1 = 8 then u8 a 4 == u8 b 4 else true)

/-- `REFS_DUP` against the other entries of the section (R370). -/
def Chip.refDup (c : Chip) (i : Nat) (r : List Byte) : Bool :=
  let on := fun (e : List Byte) => u8 e 1 != 0 && bit (u8 e 3) 0
  on r && (c.listed tyEntries).any (fun e => e != i && on (c.record tyEntries e) && sameInput (c.record tyEntries e) r)

/-- `REFS_INPUT` (R370). -/
def Chip.refInput (c : Chip) (r : List Byte) : Bool :=
  let port := fun (p : Nat) => c.timeSource == 1 && (u8 c.ptpRec 1 == p || u8 c.ptpRec 2 == p)
  bit (u8 r 3) 0 &&
  (if u8 r 1 = 8 then !(c.hasRec tySdi (u8 r 4) && bit (u8 (c.record tySdi (u8 r 4)) 2) 0)
   else if u8 r 1 = 7 then !(port (u8 r 4) && (u8 r 5 == 255 || port (u8 r 5))) else false)

/-- Whether a pulse or its offset is not shorter than the frame period of its domain (R369). -/
def Chip.outputLong (c : Chip) (r : List Byte) : Bool :=
  decide (u8 r 0 ≤ 3) && (decide (framePeriod (c.tdRate (u8 r 0)) ≤ nsU (10 * u16 r 2)) || decide (framePeriod (c.tdRate (u8 r 0)) ≤ nsU (u32 r 4)))

/-- `PTP_PORT` (R391). -/
def Chip.ptpPortBad (c : Chip) (r : List Byte) : Bool :=
  u8 r 0 == 1 && ((u8 r 1 :: (if u8 r 2 = 255 then [] else [u8 r 2])).any (fun p =>
    !(c.macOn p) || (if bit (u8 r 4) 0 then (c.ipv6 p 0).isNone else (c.ipv4 p 0).isNone)))

/-- The bound of a budget (R427): the smaller of the output delay in force and the one written. -/
def Chip.delayBound (c : Chip) (td : Nat) : Nat := min (c.dom td).outDelay (c.fld (Reg.TICK_TD_OUT_DELAY_DELAY_NS td) 0)

/-! ## The codes of a record -/

/-- Conflicts of a record with the other records of its section: first pass of R502. -/
def Chip.clashCodes (c : Chip) (ty i : Nat) (r : List Byte) : List Nat :=
  if ty = tySrcCh ∨ ty = tyDstCh then (if c.audOverlaps ty r then [audParam] else [])
  else if ty = tyRx then (if c.flowClash false i r then [0x0702] else [])
  else if ty = tyTx then (if c.flowClash true i r then [0x0702] else [])
  else if ty = tySdi then (if c.sdiOverlaps i r then [0x0902] else []) ++ (if c.sdiTaken i r then [0x0904] else [])
  else if ty = tyEntries then (if c.refDup i r then [0x0A02] else [])
  else []

/-- The checks of a record that refer to another section: second pass of R502. -/
def Chip.crossCodes (c : Chip) (ty i : Nat) (r : List Byte) : List Nat :=
  let on := fun (b : Bool) (code : Nat) => if b then [code] else []
  if ty = tyDests then c.domainCodes (u8 r 2) none
  else if ty = tyPilotRoutes then on (!(c.pilotSrc (u16 r 2) (fun _ => none) && c.pilotDst (u16 r 0))) 0x0216
  else if ty = tyComposers then
    (if bit (u8 r 8) 0 then c.domainCodes (u8 r 1) none ++ on (decide (10 ≤ c.tdRate (u8 r 1))) 0x0503 else []) ++ on (!(rasterOk r)) 0x0504
  else if ty = tyLayouts then
    (if c.hasRec tyComposers (u8 r 0) then (checkLayout (c.cmpWidth (u8 r 0)) (c.cmpHeight (u8 r 0)) r).toList else [])
  else if ty = tySrcCh then on (!(c.carries false r)) audParam
  else if ty = tyDstCh then on (!(c.carries true r)) audParam
  else if ty = tyLists then on ((listEntries r).any (fun p => !(c.audBound false p))) audParam
  else if ty = tyRx then
    on (c.flowSdi false r) 0x0702 ++ on (c.ancLost false r) 0x0703 ++ on (c.flowPortBad false r) 0x0704 ++ on (c.flowLimit i r) 0x0706
  else if ty = tyTx then
    on (c.flowSdi true r) 0x0702 ++ on (c.ancLost true r) 0x0703 ++ on (c.flowPortBad true r) 0x0704
      ++ (if flowOn r && videoKind (flowKind r) then c.domainCodes (c.dstTdNext (u16 r 4)) (some (u8 r 101)) else [])
  else if ty = tyMacPorts then on (c.pfcMedia r) 0x0803
  else if ty = tyMacAddrs ∨ ty = tyMacGates then on (decide (c.breakouts (u8 r 0) ≤ u8 r 1)) 0x0801
  else if ty = tySdi then
    on (c.sdiFlow r) 0x0904 ++ (if bit (u8 r 2) 1 then c.domainCodes (c.dstTdNext (u16 r 6)) (some (u8 r 9)) else [])
  else if ty = tyEntries then on (c.refInput r) 0x0A03
  else if ty = tyOutputs then on (c.outputLong r) 0x0A01
  else if ty = tyPtp then on (c.ptpPortBad r) 0x0B02
  else if ty = tySplPorts then on (decide (c.maxStep (u8 r 0) < u8 r 1)) 0x0C01
  else if ty = tySplDomains then on (u32 r 4 != 0 && decide (c.delayBound (u8 r 0) < u32 r 4 + 25000)) 0x0C01
  else if ty = tyGens then
    (if bit (u8 r 4) 0 then
      c.domainCodes (u8 r 1) none ++ on ((sdiFamily (u8 r 2) (c.tdRate (u8 r 1)) 0).isNone && (c.tdOn (u8 r 1))) 0x0210
     else [])
  else if ty = tyCapCh ∨ ty = tyPlayers then c.domainCodes (u8 r 1) none
  else []

/-- The place of a code in the order of its chapter's table: the tables of the flow, port, lane, reference, time and splice records rise
with the codes, and the codes of R88 follow them; the others keep the order in which their checks are made. -/
def codeRank (ty code : Nat) : Nat :=
  if 7 ≤ ty / 256 ∧ ty / 256 ≤ 12 then (if code / 256 = 2 then code + 65536 else code)
  else if ty / 256 = 5 then
    (([0x050D, 0x0501, 0x0505, 0x0508, 0x0211, 0x0503, 0x0504, 0x050C] : List Nat).idxOf code)
  else 0

/-- The first of several codes in the order of the record's chapter. -/
def firstOfRank (ty : Nat) (l : List Nat) : Option Nat :=
  match l with
  | [] => none
  | x :: r => some (r.foldl (fun a y => if codeRank ty y < codeRank ty a then y else a) x)

/-! ## Section bodies (R499 to R503) -/

/-- The length of the first record of a body, 0 where none can be read. -/
def recordLen (ty : Nat) (b : List Byte) : Nat :=
  if ty = tyLayouts then 8 + 64 * maskCount (u16 b 2)
  else if ty = tyLists then 4 + ceilDiv (2 * u8 b 2) 4 * 4
  else if ty = tyMaps then 4 + 4 * u8 b 2
  else if ty = tyMacGates then 4 + 4 * u8 b 2
  else if ty = tyLuts then 6154
  else if ty = tyMacAddrs then 32
  else if ty = tyRx ∨ ty = tyTx then 112
  else if [tyTick, tyComposers, tyMacPorts, tyEntries, tyPtp, tyTwin, tyGens, tyFab].contains ty then 16
  else if [tySrcCh, tyDstCh, tySdi].contains ty then 12
  else if [tyDests, tyRoutes, tyPilotRoutes, tyArb, tyRefs, tyOutputs, tySpl, tySplDomains, tyTones, tyFwa, tyFwaSources, tyCapCh, tyPwr].contains ty then 8
  else 4

/-- The records of a body; none where it is not a whole number of them. -/
def splitBody (ty : Nat) : Nat → List Byte → Option (List (List Byte))
  | _, [] => some []
  | 0, _ => none
  | n + 1, b =>
    if b.length < recordLen ty b then none
    else (splitBody ty n (b.drop (recordLen ty b))).map (fun r => b.take (recordLen ty b) :: r)

/-- The code with which a section fails for its record count, length or duplicates. -/
def sectionParam (ty : Nat) : Nat :=
  match ty / 256 with
  | 1 => 0x0101 | 2 => 0x0216 | 3 => 0x0301 | 4 => 0x0401
  | 5 => if ty = tyLayouts then 0x0501 else 0x050D
  | 6 => audParam | 7 => 0x0701 | 8 => 0x0801 | 9 => 0x0901 | 10 => 0x0A01 | 11 => 0x0B01 | 12 => 0x0C01
  | 13 => 0x0D01 | 14 => 0x0E01 | 15 => 0x0F01 | 16 => 0x1005 | 17 => 0x110B | 18 => 0x1201 | 19 => 0x1301 | 21 => 0x1501 | _ => 0x1601

/-- The indices under which the records of a section stand; layouts may repeat a composer and stand by their place. -/
def sectionIndices (ty : Nat) (rs : List (List Byte)) : List Nat :=
  rs.zipIdx.map (fun e => if ty = tyTick ∨ ty = tyLayouts then e.2 else recordIndex ty 0 e.1)

/-- Puts the records of a section in force. -/
def Chip.putSection (c : Chip) (ty : Nat) (rs : List (List Byte)) : Chip :=
  ((sectionIndices ty rs).zip rs).foldl (fun a e => a.setRec ty e.1 e.2) (c.clearSection ty)

/-- How a section fails: type, code, and the index of the first failing record, 0xFFFF_FFFF for the section as a whole (R503). -/
abbrev SectionFail := Nat × Nat × Nat

/-- The code of a section whose records answer with codes, and the place of the first failing record: of composer sections the first code in the table's order, of others
the first record's. -/
def sectionCode (ty : Nat) (l : List (List Nat)) : Option (Nat × Nat) :=
  match if ty / 256 = 5 then firstOfRank ty (l.flatMap (fun x => x)) else ((l.map (firstOfRank ty)).find? Option.isSome).join with
  | some code => some (code, l.findIdx (fun x => x != []))
  | none => none

/-- The first pass over one section (R502): its records, or the code and record with which it fails. -/
def Chip.firstPass (c : Chip) (ty : Nat) (body : List Byte) : Except (Nat × Nat) (List (List Byte)) :=
  match splitBody ty body.length body with
  | none => .error (sectionParam ty, 0xFFFFFFFF)
  | some rs =>
    let is := sectionIndices ty rs
    if (ty = tyTick ∧ rs.length ≠ 4) ∨ (singleRecord ty = true ∧ rs.length ≠ 1) ∨ hasDup is = true then .error (sectionParam ty, 0xFFFFFFFF)
    else
      let a := c.putSection ty rs
      match sectionCode ty ((is.zip rs).map (fun e => (checkAlone ty e.1 65535 65535 e.2).toList ++ a.clashCodes ty e.1 e.2)) with
      | some f => .error f
      | none => .ok rs

/-- The second pass over one section (R502), when it is in force: its records stand in the order of its body. -/
def Chip.secondPass (c : Chip) (ty : Nat) (body : List Byte) : Option (Nat × Nat) :=
  if c.listed ty = [] then none
  else
    let rs := (splitBody ty body.length body).getD []
    sectionCode ty (((sectionIndices ty rs).zip rs).map (fun e => c.crossCodes ty e.1 e.2))

/-- The first pass over the sections of a bank: the sections that pass are put in force, the others are answered with their codes. -/
def Chip.passOne (c : Chip) : List (Nat × List Byte) → Chip × List SectionFail
  | [] => (c, [])
  | s :: r =>
    match c.firstPass s.1 s.2 with
    | .ok rs => (c.putSection s.1 rs).passOne r
    | .error f => let o := (c.clearSection s.1).passOne r; (o.1, (s.1, f.1, f.2) :: o.2)

/-- The registers of a domain take the values of its record of `TICK_DOMAINS` (R68). -/
def Chip.loadDomain (c : Chip) (td : Nat) : Chip :=
  let r := c.record tyTick td
  if r = [] then c
  else
    let a := ((((c.set (Reg.TICK_TD_CFG_ENABLE td) 0 (u8 r 0)).set (Reg.TICK_TD_CFG_RATE td) 0 (u8 r 1)).set
      (Reg.TICK_TD_CFG_REF_ENTRY td) 0 (if u8 r 2 = 255 then 0 else u8 r 2)).set (Reg.TICK_TD_CFG_SPLICE td) 0 (flag (u8 r 2 == 255))).set
      (Reg.TICK_TD_CFG_AUTO_FIRST td) 0 (u8 r 3)
    (((a.set (Reg.TICK_TD_OUT_DELAY_DELAY_NS td) 0 (u32 r 4)).set (Reg.TICK_TD_WINDOW_LEAD_MIN td) 0 (u8 r 8)).set
      (Reg.TICK_TD_WINDOW_LEAD_MAX td) 0 (u8 r 9)).set (Reg.TICK_TD_PHASE_LIMIT_LIMIT_NS td) 0 (u32 r 12)

/-- The registers of every domain take the values of `TICK_DOMAINS` in force (R68). -/
def Chip.loadTick (c : Chip) : Chip := ([0, 1, 2, 3] : List Nat).foldl (fun a td => a.loadDomain td) c

/-- The second pass in ascending type order (R502): a section that fails is absent for those after it. -/
def Chip.passTwo (c : Chip) : List (Nat × List Byte) → Chip × List SectionFail
  | [] => (c, [])
  | s :: r =>
    match c.secondPass s.1 s.2 with
    | some f => let o := (c.clearSection s.1).passTwo r; (o.1, (s.1, f.1, f.2) :: o.2)
    | none => c.passTwo r

/-- The two passes of R502 over the sections of a bank, in ascending type order: what passes is in force, and every section that failed with its
code. -/
def Chip.checkSections (c : Chip) (ss : List (Nat × List Byte)) : Chip × List SectionFail :=
  let known := allTypes.filterMap (fun ty => ss.find? (fun s => s.1 == ty))
  let a := (allTypes.foldl (fun a ty => a.clearSection ty) c).passOne known
  let b := a.1.loadTick.passTwo known
  (b.1, a.2 ++ b.2)

end Sys2Proof.Machine
end

