-- ==== Sys2Proof/Machine/Configure.lean ====
section
/-! DEFINITION. CONFIGURE (R548): the refusals that concern the state of the module, and what each record does when it is accepted. -/

namespace Sys2Proof.Machine

/-! ## Refusals that concern routes, takes and sessions -/

/-- Whether a current route, or a pending take, names a source of this device. -/
def Chip.srcNamed (c : Chip) (s : Nat) : Bool :=
  c.routesList.any (fun e => e.2.2.src == s && e.2.2.dev.isNone) || c.xpt.queue.any (fun q => q.src == s && q.dev.isNone)

/-- Whether a destination has a pending take. -/
def Chip.dstPending (c : Chip) (d : Nat) : Bool := c.xpt.queue.any (fun q => q.dst == d)

/-- The source positions that current routes read: those of destination positions, and the lists of sources on audio-follow routes. -/
def Chip.audRead (c : Chip) (p : Nat) : Bool :=
  c.aud.dsts.any (fun e => e.2.route == .live p || e.2.next == some (.live p))
    || c.routesList.any (fun e => e.2.1 == 2 && e.2.2.dev.isNone && (c.audList e.2.2.src).contains p)

/-- `AUD_BUSY` (R244): a position that a current route reads or that a pending take names is bound again. -/
def Chip.audBusy (c : Chip) (ty i : Nat) (r : List Byte) : Bool :=
  let ps := audTakes (c.record ty i) ++ audTakes r
  let recs := c.xpt.audQueue.flatMap (fun q => q.records)
  if c.record ty i = r then false
  else if ty = tySrcCh then ps.any (fun p => c.audRead p || recs.any (fun x => u16 x 2 == p && !(audKeeps x)))
  else ps.any (fun p => recs.any (fun x => u16 x 0 == p))

/-- `FLOW_BUSY` (R279). -/
def Chip.flowBusy (c : Chip) (tx : Bool) (i : Nat) (r : List Byte) : Bool :=
  let o := c.record (if tx then tyTx else tyRx) i
  let changes := flowKind o != flowKind r || u16 o 4 != u16 r 4 || bytesAt o 96 16 != bytesAt r 96 16 || flowOn o != flowOn r
  let bound := (if o = [] then [] else [u16 o 4]) ++ [u16 r 4]
  changes && (if tx then flowOn r && bound.any (fun d => isExternalDst d && c.dstPending d) else bound.any (fun s => isExternalSrc s && c.srcNamed s))

/-- The largest frame of an enabled flow or an injection send on a port (R309). -/
def Chip.largestFrame (c : Chip) (p : Nat) : Nat :=
  let flows := c.txFlows.flatMap (fun f => let r := c.record tyTx f
    if flowKind r = 0 then ((flowPaths r).filter (fun b => u8 (flowPath r b) 0 == p)).map (txFrameBytes r) else [])
  let sends := c.net.inject.filterMap (fun e => e.2.bind (fun x => if u8 x.desc 0 = p then some ((x.segment x.next).length + 4) else none))
  (flows ++ sends).foldl max 0

/-- `MAC_BUSY` of a port record (R309). -/
def Chip.portBusy (c : Chip) (slot : Nat) (r : List Byte) : Bool :=
  let p := u8 r 0
  let used := (c.rxFlows.any (fun f => (flowPorts (c.record tyRx f)).contains p)) || (c.txFlows.any (fun f => (flowPorts (c.record tyTx f)).contains p))
  (u8 r 1 != c.portMode p && decide (p ≤ 15) && used) || (decide (u16 r 2 < c.maxFrame p) && decide (u16 r 2 < c.largestFrame p))
    || (isHostPort p && !(bit (u8 r 6) 0) && c.macOn p && (c.session slot).state == .opened && p == 16 + (c.session slot).port)

/-- `MAC_BUSY` of an address record (R309): an enabled receive path on the breakout names the old address. -/
def Chip.addrBusy (c : Chip) (r : List Byte) : Bool :=
  let p := u8 r 0
  let b := u8 r 1
  let new : Chip := c.setRec tyMacAddrs (macKey p b) r
  c.rxFlows.any (fun f => let v := c.record tyRx f
    (flowPaths v).any (fun x => u8 (flowPath v x) 0 == p && u8 (flowPath v x) 1 == b &&
      (let a := pathDst (flowV6 v) (flowPath v x)
       if flowV6 v then c.ipv6 p b == some a && new.ipv6 p b != some a else c.ipv4 p b == some a && new.ipv4 p b != some a)))

/-- `LNE_BUSY` of a binding (R342). -/
def Chip.sdiBusy (c : Chip) (i : Nat) (r : List Byte) : Bool :=
  let o := c.record tySdi i
  o != r && [o, r].any (fun x => x != [] && ((bit (u8 x 2) 0 && c.srcNamed (u16 x 4)) || (bit (u8 x 2) 1 && c.dstPending (u16 x 6))))

/-- `CMP_BUSY` of a composer (R178). -/
def Chip.cmpBusy (c : Chip) (i : Nat) (r : List Byte) : Bool :=
  c.cmpOn i && (if bit (u8 r 8) 0 then bytesAt (c.record tyComposers i) 1 7 != bytesAt r 1 7
    else c.routesList.any (fun e => e.2.2.src == 1056 + i && e.2.2.dev.isNone) || c.cmp.layouts.any (fun y => y.cmp == i)
      || c.xpt.queue.any (fun q => isLayerInput q.dst && layerCmp q.dst == i))

/-- Whether a layout in force or pending names a curve set (R209). -/
def Chip.lutNamed (c : Chip) (n : Nat) : Bool :=
  c.cmp.layers.any (fun e => u8 e.2.record 7 == n) || c.cmp.layouts.any (fun y => (layoutRecords y.body).any (fun p => u8 p.2 7 == n))

/-- The take of a route's source to its destination, for the check of R675. -/
def moveAsk (d l : Nat) (r : Route) : TakeAsk := ⟨d, r.src, r.dev.getD 0xFFFF, 2 ^ l⟩

/-- Step 3 of R675: each level's take is checked in the new domain, with what the levels before it claim: the first failing code. -/
def Chip.moveCheck (c : Chip) (d td : Nat) : List Nat → List Nat → List Nat → List Remote → Option Nat
  | [], _, _, _ => none
  | l :: ls, ro, ps, facts =>
    match c.route d l with
    | none => c.moveCheck d td ls ro ps facts
    | some r =>
      let q := moveAsk d l r
      let rf := if c.remoteInPart q then facts.head? else none
      let there : Chip := c.modDst d (fun x => { x with td := td })
      match there.checkEarly q (if c.fullIn td || r.dev.isNone then rf else some (rf.getD (noRemote true))) with
      | some code => some code
      | none =>
        let path := there.servePath r.src d td r.dev
        let ro2 := dedup (ro ++ (readoutPairs d td r.src r.dev path).filter (fun k => !(c.readouts.contains k)))
        let ps2 := dedup (ps ++ (routePairs d l td r.src r.dev path).filter (fun k => !(c.pairs.contains k)))
        match firstCode [
            (c.fullIn td && ((match rf with | some x => !x.readout | none => false)
              || (decide (ro.length < ro2.length) && (c.isSet Reg.ARB_CTRL_HOST_TBL 0 || decide (ownedLimit < c.ownedWith (c.readouts ++ ro2))))), 0x0209),
            (c.fullIn td && decide (lineSlots < c.slotsUsed + ps2.length), 0x0214),
            (c.fullIn td && (match rf, r.dev with | some x, some v => c.pathRefused v td x || c.portFull v r.src td x | _, _ => false), 0x020B)] with
        | some code => some code
        | none => c.moveCheck d td ls ro2 ps2 (if c.remoteInPart q then facts.drop 1 else facts)

/-- The refusals of R675, when the record changes the domain of its destination. -/
def Chip.destBusy (c : Chip) (r : List Byte) (facts : List Remote) : List Nat :=
  let d := u16 r 0
  let td := u8 r 2
  if td = (match (c.dst d).newTd with | some n => n.1 | none => (c.dst d).td) then []
  else if (c.dst d).newTd.isSome ∨ c.dstPending d = true then [0x0217]
  else match c.domainCodes td (c.egressRate d) with
    | [] => (c.moveCheck d td [0, 1, 2] [] [] facts).toList
    | l => l

/-- What a message is refused for beside the checks of its section: the busy codes of its chapter. -/
def Chip.busyCodes (c : Chip) (slot ty td i : Nat) (r : List Byte) (facts : List Remote) : List Nat :=
  let o := c.record ty i
  let on := fun (b : Bool) (code : Nat) => if b then [code] else []
  if ty = tyTick then
    on (c.tdOn td && (if u8 r 0 = 1 then u8 r 1 != c.tdRate td else c.assigned td)) 0x0102
      ++ on (c.budgetNs td != 0 && decide (u32 r 4 < c.budgetNs td + 25000)) 0x0C02
  else if ty = tyDests then c.destBusy r facts
  else if ty = tyComposers then on (c.cmpBusy i r) 0x050C
  else if ty = tyLuts then on (c.hasRec tyLuts i && c.lutNamed i) 0x050C
  else if ty = tySrcCh ∨ ty = tyDstCh then on (c.audBusy ty i r) 0x0605
  else if ty = tyRx then on (c.flowBusy false i r) 0x0705
  else if ty = tyTx then on (c.flowBusy true i r) 0x0705
  else if ty = tyMacPorts then on (c.portBusy slot r) 0x0804
  else if ty = tyMacAddrs then on (c.addrBusy r) 0x0804
  else if ty = tySdi then on (c.sdiBusy i r) 0x0905
  else if ty = tySplice then
    on ((decide (u8 r 1 < c.maxStep i) || (c.spliceOn i && !(bit (u8 r 2) 0))) && decide (0 < c.busier i)) 0x0905
  else if ty = tySpl then on (u16 r 0 != c.deviceId) 0x0C02
  else if ty = tySplDomains then
    on (u32 r 4 != c.budgetNs i && (c.routesList.any (fun e => e.2.2.dev.isSome && c.dstTd e.1 == i) || c.spl.exports.any (fun x => x.td == i))) 0x0C02
  else if ty = tySplPorts then
    on (decide (u8 o 1 < u8 r 1) && (c.stepSt i).change.isSome && decide (c.fld Reg.SPL_P_STATE_STEP i < u8 r 1)) 0x0C02
  else if ty = tyTwin then on (c.twinOn && o != r) 0x0C02
  else if ty = tyGens then on (o != [] && u8 o 1 != u8 r 1 && c.srcNamed (1024 + i)) 0x0D02
  else if ty = tyCapCh then on (o != r && c.liveSets.any (fun k => (c.capSet k).channels.contains i)) 0x0F04
  else if ty = tyPlayers then on (o != r && (c.player i).reads) 0x0F04
  else if ty = tyDrives ∨ ty = tyPcie then on (o != r && c.liveSets != []) 0x0F04
  else if ty = tyLan then on (!(bit (u8 r 0) (c.session slot).port)) 0x0804
  else []

/-- The code with which a record is refused, in the order of its chapter's table (R502, R548). -/
def Chip.configureCode (c : Chip) (slot ty td i : Nat) (r : List Byte) (facts : List Remote) : Option Nat :=
  let there : Chip := c.setRec ty i r
  firstOfRank ty ((checkAlone ty td 65535 65535 r).toList ++ there.clashCodes ty i r ++ there.crossCodes ty i r ++ c.busyCodes slot ty td i r facts)

/-! ## What an accepted record does -/

/-- The weights of `ARB_GLOBAL` are written (R167, R171). -/
def Chip.writeWeights (c : Chip) (r : List Byte) : Chip :=
  (List.range 6).foldl (fun a i =>
    if a.fld (Reg.ARB_BE_CFG_WEIGHT i) 0 = u8 r (2 + i) then a
    else { a.set (Reg.ARB_BE_CFG_WEIGHT i) 0 (u8 r (2 + i)) with arb := { a.arb with weightAt := Tbl.ins a.arb.weightAt i c.now } }) c

/-- The thresholds and the watchdog of a port's record are written to its breakouts (R306, R310). -/
def Chip.writePort (c : Chip) (p : Nat) : Chip :=
  (List.range 8).foldl (fun a b => (a.set Reg.MAC_P_CFG_START_THRESH (macKey p b) (u16 (a.macRec p) 4)).set Reg.MAC_P_PAUSE_WD_MS (macKey p b)
    (if isHostPort p then u16 (a.macRec p) 8 else 20)) c

/-- The weights, hog limit and timeouts of `FAB_GLOBAL` are written (R638, R639). -/
def Chip.writeFab (c : Chip) (r : List Byte) : Chip :=
  (List.range 9).foldl (fun a i => if a.fabWeight i = u8 r (4 + i) then a else a.fabSetWeight i (u8 r (4 + i)))
    (((c.set Reg.FAB_HOG_LIMIT_BEATS 0 (u16 r 0)).set Reg.FAB_TIMEOUT_REG_US 0 (u8 r 2)).set Reg.FAB_TIMEOUT_MEM_MS 0 (u8 r 3))

/-- The registers that show a section's record take its values: `XPT_SOURCES`, `FST`, `ARB`, `MAC_PORTS`, `FAB`. -/
def Chip.writeRegs (c : Chip) (ty i : Nat) (r : List Byte) : Chip :=
  if ty = tySources then (c.set Reg.XPT_SRC_CFG_MODE i (u8 r 2)).set Reg.XPT_SRC_CFG_LOSS_FRAMES i (u8 r 3)
  else if ty = tyFstSources then c.set Reg.FST_SRC_CFG_MISS_LINES i (u8 r 2)
  else if ty = tyFstGlobal then (c.set Reg.FST_SCRUB_PERIOD_S 0 (u8 r 0)).set Reg.FST_CTRL_SCRUB_EN 0 (u8 r 1)
  else if ty = tyArb then (c.set Reg.ARB_HOG_LIMIT_BEATS 0 (u16 r 0)).writeWeights r
  else if ty = tyMacPorts then c.writePort i
  else if ty = tyFab then c.writeFab r
  else c

/-- The counters of a breakout (R310), which a change of its port's `MODE` clears (R311). -/
def macBankCounters : List Fld :=
  [Reg.MAC_RX_FRAMES_COUNT, Reg.MAC_RX_BYTES_LO_COUNT, Reg.MAC_RX_BYTES_HI_COUNT, Reg.MAC_RX_FCS_ERR_COUNT, Reg.MAC_RX_RUNT_COUNT,
   Reg.MAC_RX_OVERSIZE_COUNT, Reg.MAC_RX_FILTERED_COUNT, Reg.MAC_RX_DROP_COUNT, Reg.MAC_RX_PAUSE_COUNT, Reg.MAC_RX_MAC_CTRL_COUNT,
   Reg.MAC_TX_FRAMES_COUNT, Reg.MAC_TX_BYTES_LO_COUNT, Reg.MAC_TX_BYTES_HI_COUNT, Reg.MAC_TX_PAD_COUNT, Reg.MAC_TX_REFUSED_COUNT] ++
  [Reg.MAC_TX_UNDERRUN_COUNT, Reg.MAC_TX_LINK_DISCARD_COUNT, Reg.MAC_PAUSE_EVENTS_PAUSE_WD, Reg.MAC_PAUSE_EVENTS_TX_PAUSE_SENT,
   Reg.MAC_TS_CAP_TAG_TS_LOST]

/-- A port's record changes (R309): a change of `MODE`, or of `ENABLE`, takes the links down and starts them again. -/
def Chip.changePort (c : Chip) (p : Nat) (r : List Byte) : Chip :=
  let mode := u8 r 1 ≠ c.portMode p
  let on := bit (u8 r 6) 0 ≠ c.macOn p
  let lanes := (List.range (c.breakouts p)).flatMap (c.breakoutLanes p)
  if mode ∨ on then
    let c1 := (List.range (c.breakouts p)).foldl (fun a b => a.linkDown p b) c
    let c2 := (c1.setRec tyMacPorts p r).writePort p
    let c3 := if mode then
        lanes.foldl (fun a l => a.clearLane l) ((List.range 8).foldl (fun a b => macBankCounters.foldl (fun x f => x.set f (macKey p b) 0) a) c2)
      else c2
    let all := dedup (lanes ++ (List.range (c3.breakouts p)).flatMap (c3.breakoutLanes p))
    let c4 := all.foldl (fun a l => a.laneAsk l false) c3
    if c4.macOn p then (List.range (c4.breakouts p)).foldl (fun a b => if a.laneActive (a.firstLane p b) then a.startBreakout p b else a) c4 else c4
  else (c.setRec tyMacPorts p r).writePort p

/-- A source is bound anew (R143): its synchroniser starts again, and the allocator follows (R149). -/
def Chip.rebound (c : Chip) (s : Nat) : Chip := if isExternalSrc s then (c.rebind s).requestSwap else c

/-- An SDI binding changes (R324, R332, R344): its receiver starts anew and its source is bound anew when the receive side changes; a change of
transmit format alone waits for the tick. -/
def Chip.changeSdi (c : Chip) (i : Nat) (r : List Byte) : Chip :=
  let o := c.record tySdi i
  let rx := u8 o 1 ≠ u8 r 1 ∨ u8 o 2 % 2 ≠ u8 r 2 % 2 ∨ u8 o 2 / 4 ≠ u8 r 2 / 4 ∨ u8 o 3 ≠ u8 r 3 ∨ u16 o 4 ≠ u16 r 4 ∨ o = []
  let tx := u8 o 1 ≠ u8 r 1 ∨ bit (u8 o 2) 1 ≠ bit (u8 r 2) 1 ∨ u16 o 6 ≠ u16 r 6 ∨ o = []
  let lanes := dedup ((if o = [] then [] else sdiSpan o) ++ sdiSpan r)
  let c1 := if rx then (if o = [] then c else (sdiSpan o).foldl (fun a n => a.stopReceiver n) c) else c
  let c2 := c1.setRec tySdi i r
  let c3 := if tx then c2.showTx i else c2
  let c4 := if rx ∨ tx then lanes.foldl (fun a n => (a.clearLane (sdiLane n)).laneAsk (sdiLane n) false) c3 else c3
  let c5 := if rx then (sdiSpan r).foldl (fun a n => if a.laneActive (sdiLane n) then a.startReceiver n else a) c4 else c4
  if rx then (dedup ((if bit (u8 o 2) 0 then [u16 o 4] else []) ++ (if bit (u8 r 2) 0 then [u16 r 4] else []))).foldl (fun a s => a.rebound s) c5 else c5

/-- The counters of a receive flow, which its enabling clears (R281). -/
def rxFlowCounters : List Fld :=
  [Reg.PMI_F_PKTS_A_COUNT, Reg.PMI_F_PKTS_B_COUNT, Reg.PMI_F_DUP_COUNT, Reg.PMI_F_TOO_OLD_COUNT, Reg.PMI_F_LOST_COUNT, Reg.PMI_F_ERRORS_HDR_ERR,
   Reg.PMI_F_ERRORS_SSRC_CHANGES, Reg.PMI_F_ERRORS_SEQ_JUMPS]

/-- A receive flow's record changes (R143, R274, R279, R281). -/
def Chip.changeRx (c : Chip) (i : Nat) (r : List Byte) : Chip :=
  let o := c.record tyRx i
  let video := fun (x : List Byte) => flowOn x && videoKind (flowKind x)
  let rebinds := flowOn o ≠ flowOn r ∨ (flowOn r = true ∧ (flowKind o ≠ flowKind r ∨ u16 o 4 ≠ u16 r 4))
  let c0 := if rebinds ∨ (flowOn r = true ∧ bytesAt o 16 80 ≠ bytesAt r 16 80) then (if video o then c.frameLost (u16 o 4) else c) else c
  let c1 := c0.setRec tyRx i r
  let c2 := if flowOn r = true ∧ flowOn o = false then rxFlowCounters.foldl (fun a f => a.set f i 0) c1 else c1
  let c3 := if rebinds then
      (dedup ((if video o then [u16 o 4] else []) ++ (if video r then [u16 r 4] else []))).foldl (fun a s => a.rebound s)
        (c2.modRx i (fun _ => RxFlow.reset))
    else if flowOn r = true ∧ bytesAt o 96 16 ≠ bytesAt r 96 16 then
      (if flowKind r = 0 then c2.formatChange (u16 r 4) (some (flowFormat (bytesAt r 96 16)))
       else if flowKind r = 5 then c2.formatChange (u16 r 4) none else c2).modRx i (fun x => { x with lines := [], frameTs := none, ahead := none, aheadLines := [] })
    else if flowOn r = true ∧ bytesAt o 16 80 ≠ bytesAt r 16 80 then
      c2.modRx i (fun x => { x with lines := [], frameTs := none, ahead := none, aheadLines := [] })
    else c2
  c3.syncMembers

/-- A transmit flow's record changes (R260, R279, R283): the flow's frame in progress keeps the record with which it began. -/
def Chip.changeTx (c : Chip) (i : Nat) (r : List Byte) : Chip :=
  let o := c.record tyTx i
  let c1 := c.setRec tyTx i r
  if flowOn r = true ∧ flowOn o = false then
    ([Reg.PMO_F_PKTS_COUNT, Reg.PMO_F_FRAMES_COUNT, Reg.PMO_F_LATE_COUNT, Reg.PMO_F_MISMATCH_COUNT].foldl (fun a f => a.set f i 0) c1).modTx i
      (fun _ => TxFlow.reset)
  else c1

/-- An audio position is bound anew (R241, R246): its counters clear, and a destination position takes its initial gain, mute and polarity. -/
def Chip.changeAud (c : Chip) (ty i : Nat) (r : List Byte) : Chip :=
  let c1 := c.setRec ty i r
  (audTakes r).foldl (fun a p =>
    if ty = tySrcCh then
      [Reg.AUD_SRC_MISSING_COUNT, Reg.AUD_SRC_LATE_COUNT, Reg.AUD_SRC_EARLY_COUNT, Reg.AUD_SRC_SLIP_COUNT].foldl (fun x f => x.set f p 0) a
    else
      ([Reg.AUD_DST_CLIP_COUNT, Reg.AUD_DST_MISMATCH_COUNT].foldl (fun x f => x.set f p 0) a).modAud p (fun x => { x with
        nextLevel := some (signed 16 (u16 r 8), bit (u8 r 3) 2, bit (u8 r 3) 3) })) c1

/-- An audio port's record changes (R243, R246): its counters clear, and its FIFOs and measurements start again. -/
def Chip.changeAudPort (c : Chip) (i : Nat) (r : List Byte) : Chip :=
  ([Reg.AUD_PORT_SLIP_PORT_REPEATS, Reg.AUD_PORT_SLIP_PORT_DROPS, Reg.AUD_PORT_EVENTS_CLOCK_LOSSES, Reg.AUD_PORT_EVENTS_RATE_CHANGES,
    Reg.AUD_PORT_ERRORS_COUNT].foldl (fun x f => x.set f i 0) (c.setRec tyAudPorts i r)).modPort i (fun _ => AudPort.reset)

/-- An audio list or map changes (R218, R219): the destinations concerned take their audio anew. -/
def Chip.changeFollow (c : Chip) (ty i : Nat) (r : List Byte) : Chip :=
  let c1 := c.setRec ty i r
  if ty = tyMaps then (if (c1.followService i).isSome then c1.followAudio i else c1)
  else (c1.listed tyMaps).foldl (fun a d => match a.followService d with | some (s, _, _) => if s = i then a.followAudio d else a | none => a) c1

/-- The change of a destination's record (R105, R675): a new domain waits for its switch point, with what it needs claimed. -/
def Chip.changeDest (c : Chip) (d : Nat) (r : List Byte) (facts : List Remote) : Chip :=
  let c1 := c.setRec tyDests d r
  if u8 r 2 = (match (c.dst d).newTd with | some n => n.1 | none => (c.dst d).td) then c1
  else
    let was := (c.dst d).td
    let asks := ([0, 1, 2].filterMap (fun l => (c.route d l).map (moveAsk d l))).filter c.remoteInPart
    let c2 := (asks.zip facts).foldl (fun a p =>
      ((a.modDst d (fun x => { x with td := u8 r 2 })).reserveFor p.1 (some p.2)).modDst d (fun x => { x with td := was })) c1
    (c2.modDst d (fun x => { x with newTd := some (u8 r 2, c.now) })).settle c

/-- Whether the store is ready, once the drives enabled have changed (R459). -/
def Chip.judgeStore (c : Chip) : Chip :=
  let ok := c.fullIn 0 && c.labelsAgree && c.cap.format.isNone
  ({ c with cap := { c.cap with ready := ok } } : Chip).set Reg.CAP_STATUS_STORE_READY 0 (flag ok)

/-- The records of the time source that make it start again (R385): `SOURCE`, ports, domain, transport. -/
def ptpRestarts (o r : List Byte) : Bool := bytesAt o 0 5 != bytesAt r 0 5

/-- An accepted record is put in force (R548 and the rules of its chapter). -/
def Chip.applyRecordOf (c : Chip) (ty td i : Nat) (r : List Byte) (facts : List Remote) : Chip :=
  let o := c.record ty i
  let c1 := c.setRec ty i r
  if ty = tyTick then c1.loadDomain td
  else if ty = tyDests then c.changeDest i r facts
  else if ty = tySrcCh ∨ ty = tyDstCh then c.changeAud ty i r
  else if ty = tyAudPorts then c.changeAudPort i r
  else if ty = tyLists ∨ ty = tyMaps then c.changeFollow ty i r
  else if ty = tyRx then c.changeRx i r
  else if ty = tyTx then c.changeTx i r
  else if ty = tyMacPorts then c.changePort i r
  else if ty = tyMacGates then c1.modMac i (fun m => { m with gatesNew := gateEntries r, gateSwap := true })
  else if ty = tySdi then c.changeSdi i r
  else if ty = tySplice then
    (let c2 := if bit (u8 o 2) 0 ≠ bit (u8 r 2) 0 then
        ([0, 1] : List Nat).foldl (fun a k => (a.clearLane (spliceLane i k)).laneAsk (spliceLane i k) false) c1 else c1
     if (c2.stepSt i).farMax.isSome then c2.judgeLoad i else c2)
  else if ty = tySplPorts then (if (c1.stepSt i).farMax.isSome then c1.judgeLoad i else c1)
  else if ty = tyEntries then c1.refChanged i o
  else if ty = tyPtp then (if ptpRestarts c.ptpRec r then c1.restartPtp else c1)
  else if ty = tySpl then (if u8 r 2 ≠ c.rank ∨ bit (u8 r 3) 0 ≠ c.masterEn then c1.topologyChanged else c1).judgeLoads
  else if ty = tyTwin then (if c1.twinOn ≠ c.twinOn then c1.topologyChanged else c1)
  else if ty = tyGens then c1.modGen i (fun g => { g with next := some (r, c.now) })
  else if ty = tyCapCh then
    (if c1.capOn i ∧ c.capOn i = false then (c1.set Reg.CAP_K_RECORDS_COUNT i 0).set Reg.CAP_K_GAPS_COUNT i 0 else c1)
  else if ty = tyPlayers then
    (if c1.playerOn i ∧ c.playerOn i = false then c1.set Reg.CAP_P_REPEATS_COUNT i 0 else c1).setPlayer i Player.reset
  else if ty = tyDrives ∨ ty = tyPcie then c1.judgeStore
  else c1.writeRegs ty i r

/-- The index under which a message's record stands: a layout of `CMP_LAYOUTS` comes after those of the section (R210). -/
def Chip.configIndex (c : Chip) (ty td : Nat) (r : List Byte) : Nat :=
  if ty = tyLayouts then (c.listed tyLayouts).foldl (fun a i => max a (i + 1)) 0 else recordIndex ty td r

/-- An accepted message: the settings differ from the bank (R546), and the control rings take it (R464). -/
def Chip.acceptConfig (c : Chip) (slot ty td : Nat) (r : List Byte) : Chip :=
  ((({ c with boot := { c.boot with unsaved := true } } : Chip).ctlConfig ty td r)).done slot 0x0401 []

/-- A `CONFIGURE` message once the checks of R540 are passed. -/
def Chip.configure (c : Chip) (slot : Nat) (body : List Byte) (facts : List Remote) : Chip :=
  let ty := u16 body 0
  let td := u8 body 2
  let r := body.drop 8
  if 3 < td ∨ (td ≠ 0 ∧ ty ≠ tyTick) then c.refuse slot 0x0401 0x1103 wholeIndex
  else if ty = tySurface then
    match c.surfaceRecord r with
    | .error code => c.refuse slot 0x0401 code wholeIndex
    | .ok c1 => c1.acceptConfig slot ty td r
  else if !(allTypes.contains ty) then c.refuse slot 0x0401 0x1004 wholeIndex
  else
    let i := c.configIndex ty td r
    match c.configureCode slot ty td i r facts with
    | some code => c.refuse slot 0x0401 code wholeIndex
    | none => (c.applyRecordOf ty td i r facts).acceptConfig slot ty td r

/-- Whether a body has the length and reserved byte of R548. -/
def configBodyOk (b : List Byte) : Bool := decide (8 ≤ b.length) && zeroAt b 3 1 && decide (b.length = 8 + u32 b 4)

/-- CONFIGURE (R548): `facts` is what the reservation exchanges of the remote routes of a destination that changes domain have returned (R675). -/
def execConfigure (t : Nat) (slot : Fin 16) (body : List Byte) (facts : List Remote) (s : State) : Host.Outcome State Fault Refusal :=
  act t s (fun c => c.request slot 0x0401 2 false (configBodyOk body) (fun c => c.configure slot body facts))

end Sys2Proof.Machine
end

