-- ==== Sys2Proof/Machine/Cells.lean ====
section
/-! DEFINITION. The splice cells that arrive (R395 to R401, R403, R406, R412, R418, R421, R422). -/

namespace Sys2Proof.Machine

/-! ## The mirror (R421) -/

/-- The pseudo slot in which a standby runs the requests that its partner has accepted. -/
def mirrorSlot : Nat := 16

/-- Runs the body of a request that may be mirrored. -/
def Chip.runMessage (c : Chip) (slot m : Nat) (body : List Byte) : Chip :=
  if m = 0x0101 then c.takeMsg slot body
  else if m = 0x0102 then c.salvoMsg slot body
  else if m = 0x0104 then c.audioTakeMsg slot body
  else if m = 0x0105 then c.layoutMsg slot body
  else if m = 0x0401 then c.configure slot body []
  else c

/-- A standby carries out a request that its partner has accepted; no host of its own sees an answer. -/
def Chip.mirrorRun (c : Chip) (m : Nat) (body : List Byte) : Chip :=
  let c1 := c.runMessage mirrorSlot m body
  { c1 with lan := { c1.lan with slots := Tbl.del c1.lan.slots mirrorSlot },
            sent := c1.sent.filter (fun o => match o with | .message sl _ _ _ _ _ => sl != mirrorSlot | _ => true) }

/-- A standby takes the whole state of its partner (R421): the route table first, then the settings, layouts and takes that wait. -/
def Chip.mirrorTake (c : Chip) (routes : List MirrorRoute) (takeId : Nat) (messages : List (Nat × List Byte)) : Chip :=
  let c1 : Chip := { c with xpt := { c.xpt with routes := [], queue := [], audQueue := [] }, cmp := { c.cmp with layouts := [] } }
  let c2 := routes.foldl (fun a r =>
    match r.src with
    | some (src, dev) => a.setRoute r.dst r.level (some { src := src, dev := dev, path := a.servePath src r.dst (a.dstTd r.dst) dev })
    | none => a) c1
  let c3 := messages.foldl (fun a m => a.mirrorRun m.1 m.2) c2
  let c4 : Chip := { c3 with lan := { c3.lan with takeId := takeId } }
  (((c4.settle c).set Reg.SPL_TWIN_SYNCED 0 1).driveStby true).emit (.cell 7 5 [7])

/-- A mirror cell of the partner (R421, R422). -/
def Chip.mirrorCell (c : Chip) (news : CellNews) : Chip :=
  match news with
  | .mirrored slot seq m body =>
    if c.standby && c.isSet Reg.SPL_TWIN_SYNCED 0 then (c.mirrorRun m body).emit (.cell 7 5 [6, slot, seq]) else c
  | .mirrorAck slot seq => c.unwithhold (fun x => x.1 == slot && x.2.1 == seq)
  | .mirrorState routes takeId messages => if c.standby then c.mirrorTake routes takeId messages else c
  | .mirrorDone => if c.spl.act then (c.set Reg.SPL_TWIN_SYNCED 0 1).set Reg.SPL_TWIN_STBY_IN 0 1 else c
  | .handover => if c.canHandOver then c.planHandover else c
  | _ => c

/-! ## Link state (R395 to R397) -/

/-- A device of the part bears this device's ID (R397): of two, that with the higher rank value isolates itself, and both do at equal ranks. -/
def Chip.idConflict (c : Chip) (rank : Nat) : Chip :=
  if c.rank < rank then c
  else
    let c1 := (List.range 8).foldl (fun a p => if a.inService p then a.portOut p else a) c
    (c1.set Reg.SPL_STATUS_ID_CONFLICT 0 1).event Ev.splIdConflict [c.deviceId + c.rank * 65536]

/-- Whether two link states differ in what the topology and the election rest on. -/
def linkChanged (a b : LinkState) : Bool :=
  a.rank != b.rank || a.eligible != b.eligible || a.ports.map (fun p => (p.port, p.neighbour)) != b.ports.map (fun p => (p.port, p.neighbour))

/-- A link-state cell (R395). -/
def Chip.linkCell (c : Chip) (port : Nat) (x : LinkState) (words : List Nat) : Chip :=
  let c0 : Chip := if x.id = c.neighbour port then { c with spl := { c.spl with heard := Tbl.put 0 c.spl.heard port c.now } } else c
  if x.id = c.deviceId then c0.idConflict x.rank
  else
    let changed := match c0.linkState x.id with | some y => linkChanged x y | none => true
    let c1 : Chip := { c0 with spl := { c0.spl with topo := c0.spl.topo.filter (fun y => y.id != x.id) ++ [x] } }
    let c2 := (c1.flood (some port) 4 words).showAligned
    if changed then c2.topologyChanged else c2

/-! ## Control cells (R405, R406, R408, R412, R418) -/

/-- A control cell that is for this device. -/
def Chip.controlCell (c : Chip) (port : Nat) (news : CellNews) : Chip :=
  match news with
  | .ticks l => l.foldl (fun (a : Chip) e =>
      { a with spl := { a.spl with ticks := Tbl.put none a.spl.ticks e.1.val (some (qOf e.2.1 e.2.2)) } }) c
  | .rejoin => c.rejoin
  | .exportAsk importer src td rate budget epoch out => c.exportAsked port importer src td rate budget epoch out
  | .exportRelease importer src td => c.exportReleased importer src td
  | .relayAsk origin stream inPort outPort reserve => c.relayAsked origin stream inPort outPort reserve
  | .relayRelease origin stream =>
    let c1 : Chip := { c with spl := { c.spl with relays := c.spl.relays.filter (fun x => !(x.origin == origin && x.stream == stream)) } }
    c1.judgeLoads
  | _ => c

/-- A cell for another device goes on towards it. -/
def Chip.forwardCell (c : Chip) (type dst : Nat) (words : List Nat) : Chip :=
  match c.upLink c.deviceId dst with
  | some x => c.emit (.cell x.port type words)
  | none => c

/-! ## Essence (R401, R403) -/

/-- An essence cell: every relay of its stream passes it on, and every import of it gathers its payload. -/
def Chip.essenceCell (c : Chip) (port : Nat) (b : List Byte) : Chip :=
  let origin := u16 b 4 % 4096
  let stream := u16 b 6
  let c1 := (c.spl.relays.filter (fun x => x.origin == origin && x.stream == stream && x.inPort == port)).foldl
    (fun a x => a.emit (.cell x.outPort 1 (b.map BitVec.toNat))) c
  (c.spl.imports.filter (fun x => x.dev == origin && x.stream == stream && x.port == port)).foldl (fun (a : Chip) x =>
    let part : CellPart := { flags := u8 b 1, off := u16 b 10, bytes := bytesAt b 16 240 }
    let all := Tbl.upd [] a.spl.gathered (x.pair * 8192 + u16 b 8 % 8192) (fun l => l ++ [part])
    { a with spl := { a.spl with gathered := all } }) c1

/-! ## Any cell -/

/-- Whether a cell's CRC is that of its other bytes (R398). -/
def cellCrcOk (b : List Byte) : Bool := crc32c ((bytesAt b 0 12 ++ bytesAt b 16 240).map BitVec.toNat) == u32 b 12

/-- Takes a cell that has passed the checks of R399, by its type (R398). On a twin SP7 carries mirror and tick cells alone (R424); PTP messages come by
SPLICE_PTP_CELL. -/
def Chip.takeCell (c : Chip) (port : Nat) (b : List Byte) (news : CellNews) : Chip :=
  let type := u8 b 0
  let flooded := bit (u16 b 2) 15
  let dst := u16 b 2 % 4096
  let words := (b.drop 16).map BitVec.toNat
  if 5 < type ∨ bits (u16 b 2) 14 12 ≠ 0 then c
  else if c.twinOn && port == 7 then
    (if type = 5 then c.mirrorCell news
     else if type = 2 then (match news with | .ticks _ => c.controlCell port news | _ => c)
     else c)
  else if type = 1 then c.essenceCell port b
  else if type = 4 then (match news with | .linkState x => c.linkCell port x words | _ => c)
  else if type = 2 then
    (if flooded then (c.flood (some port) 2 words).controlCell port news
     else if dst = c.deviceId then c.controlCell port news
     else c.forwardCell 2 dst words)
  else c

/-- CELL_RECEIVED (R398, R399): every cell counts; one whose CRC fails, or that an uncorrected codeword holds, is discarded. PTP messages are counted at
SPLICE_PTP_CELL. -/
def execCellReceived (t : Nat) (port : Fin 8) (bytes : List Byte) (fecOk : Bool) (news : CellNews) (s : State) : Host.Outcome State Fault Refusal :=
  act t s (fun c =>
    if bytes.length ≠ 256 ∨ c.spliceOn port = false then c
    else
      let good := fecOk && cellCrcOk bytes
      let c0 := if good && u8 bytes 0 == 3 then c else c.countWrap Reg.SPL_P_CELLS_COUNT port 1
      if good = false then c0.count Reg.SPL_P_CELL_ERR_COUNT port 1
      else if c.inService port then c0.takeCell port bytes news
      else c0)

end Sys2Proof.Machine
end

