-- ==== Sys2Proof/Machine/AudioTick.lean ====
section
/-! DEFINITION. The house sample tick (R53, R54): source words, blocks of synchronised audio, destination words, word clocks, audio watch. -/

namespace Sys2Proof.Machine

/-! ## Source positions (R216, R217, R232 to R239) -/

/-- The source positions that are bound, both halves of a channel at 96 kHz and of a pair included, rising; none before full service (R511). -/
def Chip.boundPositions (c : Chip) (dstSide : Bool) : List Nat :=
  let ty := if dstSide then tyDstCh else tySrcCh
  (if c.phase = 2 then c.listed ty else []).flatMap (fun p => (List.range (audSpan (c.record ty p))).map (fun k => p + k))

/-- The sample of a tick that a position carries: 1 for the odd position of a channel at 96 kHz, which moves two samples in a tick (R215), else 0. -/
def sampleOf (r : List Byte) (place : Nat) : Nat := if audAt96 r then place % 2 else 0

/-- A word with the fade of a port (R239). -/
def fadeWord (fade w : Nat) : Nat := unsigned 32 (roundDiv (signed 32 w * fade) 64)

/-- Takes a frame from a FIFO as often as a tick moves samples, with the number of repeats (R237). -/
def popFrames : Nat → AudFifo → AudFifo × List (List Nat) × Nat
  | 0, f => (f, [], 0)
  | n + 1, f =>
    let a := f.pop
    let b := popFrames n a.1
    (b.1, a.1.last :: b.2.1, flag a.2 + b.2.2)

/-- An asynchronous port at a house sample tick: its frames, and its fade (R237, R239). -/
def Chip.portTick (c : Chip) (p : Nat) : Chip × (Nat × List (List Nat)) :=
  let x := c.audPort p
  let n := if c.portAt96 p then 2 else 1
  let r := if x.clock = 2 then popFrames n x.input else (x.input, List.replicate n x.input.last, 0)
  let fade := if x.muted then x.fade - n else if r.1.filling then x.fade else min 64 (x.fade + n)
  let c1 := c.modPort p (fun y => { y with input := r.1, fade := fade })
  ((List.range r.2.2).foldl (fun a _ => a.portSlip p true false) c1, (p, r.2.1))

/-- An SDI source at a house sample tick: its sample sets that have arrived join its FIFO unless it is frequency-locked (R233, R237); its slips count at each of its
channels. -/
def Chip.sdiTick (c : Chip) (sets : List SdiAudio) (s : Nat) : Chip × (Nat × List Nat) :=
  let got := (sets.filter (fun x => x.src == s)).map SdiAudio.words
  if (c.src s).freqLock then ({ c with aud := { c.aud with sdi := Tbl.del c.aud.sdi s } }, (s, got.getLastD []))
  else
    let slip := fun (a : Chip) (repeats : Bool) =>
      let ps := c.audByIndex tySrcCh 3 s
      (ps.foldl (fun (b : Chip) p => b.count Reg.AUD_SRC_SLIP_COUNT p ps.length) a).event Ev.audSlip [2147483648 + s * 65536, flag repeats]
    let pushed := got.foldl (fun (a : AudFifo × Nat) w => let r := a.1.push w; (r.1, a.2 + flag r.2)) (Tbl.get AudFifo.reset c.aud.sdi s, 0)
    let popped := pushed.1.pop
    let c1 : Chip := { c with aud := { c.aud with sdi := Tbl.ins c.aud.sdi s popped.1 } }
    let c2 := (List.range pushed.2).foldl (fun a _ => slip a false) c1
    (if popped.2 then slip c2 true else c2, (s, popped.1.last))

/-- The words that the inputs give at a tick: asynchronous ports by port, SDI sources, and the positions clocked by the device itself (ports that are master, PDM). -/
structure TickIn where
  ports : List (Nat × List (List Nat))
  sdi : List (Nat × List Nat)
  given : List (Nat × Nat)

/-- The word of a source position at a house sample tick, and whether a flow's sample is missing (R232, R438, R475). -/
def Chip.sourceWord (c : Chip) (x : TickIn) (pos : Nat) : Nat × Bool :=
  match c.audBind false pos with
  | none => (0, false)
  | some (r, place) =>
    let ch := audChannel r place
    let target := u16 r 4
    let port := fun (p : Nat) =>
      let w := (((x.ports.find? (fun e => e.1 == p)).map (fun e => e.2.getD (sampleOf r place) [])).getD []).getD ch 0
      if audIsPair r then (if (c.audPort p).muted then 0 else w) else fadeWord (c.audPort p).fade (w / 256 * 256)
    let given := ((x.given.find? (fun e => e.1 == pos)).map Prod.snd).getD 0
    match u8 r 2 with
    | 1 | 2 =>
      let f := c.record tyRx target
      if flowOn f then
        (match Tbl.find (c.rx target).audio ((c.audioNow + 4294967296 - playoutSamples f) % 4294967296) with
         | some ws => (ws.getD ch 0, false)
         | none => (0, true))
      else (0, false)
    | 3 => ((((x.sdi.find? (fun e => e.1 == target)).map Prod.snd).getD []).getD ch 0, false)
    | 4 => (if c.portOn target then (if c.portMaster target then given / 256 * 256 else port target) else 0, false)
    | 5 => (if c.portOn (8 + target) then port (8 + target) else 0, false)
    | 6 => (if c.portOn (16 + target) then given else 0, false)
    | 7 => (if isGenerator target then unsigned 32 (c.genWord (target - 1024) ch)
            else if isPlayer target then
              c.playerWord (target - 1088) ch (Tbl.get 0 c.aud.frameAt (c.playerTd (target - 1088)))
            else 0, false)
    | _ => (0, false)

/-- The destinations whose audio-follow level pilot service carries embedded channel by embedded channel, with their sources (R511): SDI to SDI, in a
domain whose first tick of full service has not come. -/
def Chip.pilotFollow (c : Chip) : List (Nat × Nat) :=
  c.xpt.routes.filterMap (fun e => match e.2 with
    | some r =>
      if e.1 % 4 = 2 ∧ c.fullIn (c.dstTd (e.1 / 4)) = false ∧ (c.dstSdi (e.1 / 4)).isSome = true ∧ r.dev = none ∧ (c.srcSdi r.src).isSome = true then
        some (e.1 / 4, r.src)
      else none
    | none => none)

/-- The words that pilot service carries at a tick: embedded channel k goes to embedded channel k, up to the smaller count (R511). -/
def Chip.pilotWords (c : Chip) (sdi : List (Nat × List Nat)) : Chip :=
  c.pilotFollow.foldl (fun a e =>
    let ws := ((sdi.find? (fun x => x.1 == e.2)).map Prod.snd).getD []
    (List.range (min (c.embedded true e.1) (min (c.embedded false e.2) ws.length))).foldl (fun b k => b.emit (.audio (131072 + 64 * e.1 + k) (ws.getD k 0))) a) c

/-- The inputs at a house sample tick, and the words of every bound source position (R54); sources and destinations bound to `AUD` positions run from full service
(R511). -/
def Chip.sourceWords (c : Chip) (sets : List SdiAudio) (given : List (Nat × Nat)) : Chip :=
  let c1 := ((List.range 12).filter c.portAsync).foldl (fun (a : Chip × List (Nat × List (List Nat))) p =>
    let r := a.1.portTick p
    (r.1, a.2 ++ [r.2])) (c, [])
  let bound := (c.listed tySrcCh).filterMap (fun p => let r := c.record tySrcCh p; if u8 r 2 = 3 then some (u16 r 4) else none)
  let sdis := dedup ((if c.phase = 2 then bound else []) ++ c.pilotFollow.map Prod.snd)
  let c2 := sdis.foldl (fun (a : Chip × List (Nat × List Nat)) s =>
    let r := a.1.sdiTick sets s
    (r.1, a.2 ++ [r.2])) (c1.1, [])
  let x : TickIn := { ports := c1.2, sdi := c2.2, given := given }
  (c.boundPositions false).foldl (fun (a : Chip) p =>
    let w := a.sourceWord x p
    let b : Chip := { a with aud := { a.aud with words := Tbl.put 0 a.aud.words p w.1 } }
    if w.2 then b.count Reg.AUD_SRC_MISSING_COUNT p 1 else b) { (c2.1.pilotWords c2.2) with aud := { c2.1.aud with words := [] } }

/-- Samples of receive flows that have played leave their buffers. -/
def Chip.pruneFlows (c : Chip) : Chip :=
  { c with net := { c.net with rx := c.net.rx.map (fun e =>
    (e.1, { e.2 with audio := e.2.audio.filter (fun y => decide (0 < diff32 (y.1 + playoutSamples (c.record tyRx e.1)) c.audioNow)) })) } }

/-! ## Audio with synchronised video (R229, R230) -/

/-- The two samples, or the one, that a list entry moves at a tick. -/
def Chip.entryWords (c : Chip) (pos : Nat) : List Nat :=
  if c.audRate96 false pos then [Tbl.get 0 c.aud.words pos, Tbl.get 0 c.aud.words (pos + 1)] else [Tbl.get 0 c.aud.words pos]

/-- The buffer that the samples of a source belong to: that being written, or the frame just completed until the next begins (R229). -/
def Sync.audioBuf (y : Sync) : Option Nat :=
  if y.active then y.writing
  else match y.newest with
    | some b => if (y.buf b).frame = some ((y.nextFrame + 2 ^ 48 - 1) % 2 ^ 48) then some b else none
    | none => none

/-- The ingest writers store the samples of the listed channels (R229). -/
def Chip.ingestAudio (c : Chip) : Chip :=
  (c.fst.syncs.map Prod.fst).foldl (fun a s =>
    match (a.sync s).audioBuf with
    | some b =>
      a.modSync s (fun y => y.setBuf b { y.buf b with
        audio := (c.audList s).zipIdx.foldl (fun t e => Tbl.upd [] t e.2 (fun l => l ++ c.entryWords e.1)) (y.buf b).audio })
    | none => a) c

/-- The pairs of source and domain whose read-out plays audio: those of follow positions and of exports (R221, R402). -/
def Chip.audioPairs (c : Chip) : List Nat :=
  dedup (c.aud.follows.map (fun e => (e.2 - 1) / 64) ++ c.spl.exports.map (fun x => x.src * 4 + x.td))

/-- The block in play of a pair. -/
def Chip.followPlay (c : Chip) (pair : Nat) : FollowPlay := Tbl.get FollowPlay.reset c.aud.plays pair

/-- Changes the block in play of a pair. -/
def Chip.modPlay (c : Chip) (pair : Nat) (f : FollowPlay → FollowPlay) : Chip :=
  { c with aud := { c.aud with plays := Tbl.upd FollowPlay.reset c.aud.plays pair f } }

/-- The block of the frame that a pair's decision has latched. -/
def Chip.latchedBlock (c : Chip) (pair : Nat) : Tbl (List Nat) :=
  match (c.decision (pair / 4) (pair % 4)).latched with
  | some b => ((c.sync (pair / 4)).buf b).audio
  | none => []

/-- The block that a pair plays: that of its latched frame, or the one before it when its side data came late (R132). -/
def Chip.playedBlock (c : Chip) (pair : Nat) : Tbl (List Nat) :=
  if (c.followPlay pair).late then (c.followPlay pair).prev else c.latchedBlock pair

/-- The last 64 samples of every entry of a block in reverse order. -/
def reversedEnd (t : Tbl (List Nat)) : Tbl (List Nat) := t.map (fun e => (e.1, e.2.reverse.take 64))

/-- The block that follows a frame in its source, when the synchroniser still holds its first 64 samples. -/
def Sync.blockAfter (y : Sync) (frame : Nat) : Option (Tbl (List Nat)) :=
  let n := (frame + 1) % 2 ^ 48
  let held := (List.range 3).find? (fun b => (y.buf b).frame == some n || (y.writing == some b && y.active && (y.nextFrame + 2 ^ 48 - 1) % 2 ^ 48 == n))
  match held with
  | some b => if (y.buf b).audio ≠ [] ∧ (y.buf b).audio.all (fun e => decide (64 ≤ e.2.length)) then some ((y.buf b).audio.map (fun e => (e.1, e.2.take 64))) else none
  | none => none

/-- The frame of a domain ends: each block that has played counts the samples it was longer or shorter by, over the channels of its list (R229). -/
def Chip.endBlocks (c : Chip) (td : Nat) : Chip :=
  let n := Tbl.get 0 c.aud.frameAt td
  let c1 := (c.audioPairs.filter (fun k => k % 4 == td)).foldl (fun a k =>
    let list := c.audList (k / 4)
    let off := (list.zipIdx.map (fun e =>
      let len := (Tbl.get [] (c.playedBlock k) e.2).length / (if c.audRate96 false e.1 then 2 else 1)
      max len n - min len n)).sum
    let b := if n = 0 ∨ c.playedBlock k = [] then a else list.foldl (fun b p => b.count Reg.AUD_SRC_SLIP_COUNT p off) a
    b.modPlay k (fun p => { p with prev := c.playedBlock k })) c
  { c1 with aud := { c1.aud with frameAt := Tbl.put 0 c1.aud.frameAt td 0, plays := c1.aud.plays.filter (fun e => c1.audioPairs.contains e.1) } }

/-- The decisions of a tick have been made: a block that is not continuous with the block before it starts a crossfade (R230). -/
def Chip.startBlocks (c : Chip) (td : Nat) : Chip :=
  (c.audioPairs.filter (fun k => k % 4 == td)).foldl (fun a k =>
    let p := a.followPlay k
    let d := a.decision (k / 4) td
    let jump := p.frame.isSome && (d.repeated || d.dropped || p.broken)
    let old := if jump then
        (match p.frame.bind (fun f => if p.broken then none else (a.sync (k / 4)).blockAfter f) with
         | some t => t
         | none => reversedEnd p.prev)
      else []
    a.modPlay k (fun p => { p with frame := d.last, old := old, start := 0, broken := false, late := false })) c

/-- A block whose side data came late gives way to the block before it (R132, R230). -/
def Chip.lateBlocks (c : Chip) : Chip :=
  c.audioPairs.foldl (fun a k =>
    let p := a.followPlay k
    if (a.decision (k / 4) (k % 4)).sideLate ∧ p.late = false then
      a.modPlay k (fun p => { p with late := true, broken := true, old := reversedEnd p.prev, start := Tbl.get 0 c.aud.frameAt (k % 4) })
    else a) c

/-- The word that a list entry of a pair plays at a tick: `o` is the sample within the tick. -/
def Chip.followWord (c : Chip) (s td e o : Nat) (at96 : Bool) : Nat :=
  let k := s * 4 + td
  let p := c.followPlay k
  let l := Tbl.get [] (c.playedBlock k) e
  let i := Tbl.get 0 c.aud.frameAt td * (if at96 then 2 else 1) + o
  let j := i - p.start * (if at96 then 2 else 1)
  let w := signed 32 (l.getD (min i (l.length - 1)) 0)
  let old := Tbl.get [] p.old e
  if p.old ≠ [] ∧ p.start * (if at96 then 2 else 1) ≤ i ∧ j < 64 then unsigned 32 (crossfade (signed 32 (old.getD j 0)) w j) else unsigned 32 w

/-- The exports of this device send the samples of their lists as essence cells of the audio part (R402): device, stream, part 2, number of channels, words of 24 bits. -/
def Chip.exportAudio (c : Chip) : Chip :=
  c.spl.exports.foldl (fun a x =>
    let list := c.audList x.src
    if list = [] then a
    else
      let ws := list.zipIdx.map (fun e => c.followWord x.src x.td e.2 0 (c.audRate96 false e.1) / 256)
      x.ports.foldl (fun b p => b.emit (.cell p 1 ([c.deviceId, x.stream, 2, list.length] ++ ws))) a) c

/-- The imported pairs move on by one sample set (R403). -/
def Chip.advanceImports (c : Chip) : Chip :=
  { c with spl := { c.spl with audio := (c.spl.audio.map (fun e => (e.1, e.2.drop 1))).filter (fun e => e.2 != []) } }

/-! ## Destination positions (R217, R222 to R228) -/

/-- The word of a signal at this tick, for the sample `o` of the tick. -/
def Chip.signalWord (c : Chip) (g : AudSig) (o : Nat) (at96 : Bool) : Nat :=
  match g with
  | .silence => 0
  | .live q => Tbl.get 0 c.aud.words q
  | .follow s td e => c.followWord s td e o at96
  | .remote k e => ((Tbl.get [] c.spl.audio k).headD []).getD e 0
  | .hold w => w

/-- Whether a signal is half of a transparent pair. -/
def Chip.signalPair (c : Chip) (g : AudSig) : Bool :=
  match g with
  | .live q => c.audPair false q
  | .follow s _ e => match (c.audList s)[e]? with | some q => c.audPair false q | none => false
  | _ => false

/-- The crossfaded signal of a destination position: sample `o` of the tick (R223). -/
def Chip.mixed (c : Chip) (d : AudDst) (o : Nat) (at96 : Bool) : Int :=
  let new := signed 32 (c.signalWord d.route o at96)
  if d.fadeAt + o < 64 then crossfade (signed 32 (c.signalWord d.old o at96)) new (d.fadeAt + o) else new

/-- The changes of a destination position that wait take effect at this tick (R222 to R224, R228). -/
def Chip.startChanges (c : Chip) (d : AudDst) (pair : Bool) (o : Nat) (at96 : Bool) : AudDst :=
  let d1 := match d.next with
    | none => d
    | some g =>
      if g = d.route then { d with next := none }
      else if pair then { d with next := none, route := g, fadeAt := 64 }
      else
        let old := if d.fadeAt < 64 then AudSig.hold (unsigned 32 (c.mixed d o at96)) else d.route
        { d with next := none, route := g, old := old, fadeAt := 0 }
  match d1.nextLevel with
  | none => d1
  | some (g, m, v) =>
    if (g, m, v) = (d1.gain, d1.mute, d1.invert) then { d1 with nextLevel := none }
    else
      let k := coefficient d1.gain d1.mute d1.invert
      { d1 with nextLevel := none, gain := g, mute := m, invert := v, rampAt := 0,
                kFrom := if d1.rampAt < 64 then rampStep d1.kFrom k d1.rampAt else k }

/-- The width of the words that a destination kind sends; flows are narrowed as they are packed. -/
def outWidth (kind : Nat) : Nat := if kind = 3 ∨ kind = 4 ∨ kind = 5 then 24 else 32

/-- A PCM word as a subframe of a transparent pair: 24 bits of audio, with the validity, user and channel status bits of R217 and the mark of a block's first frame. -/
def Chip.pairWord (c : Chip) (at96 : Bool) (o : Nat) (v : Int) : Nat :=
  let n := (c.tick.samples * (if at96 then 2 else 1) + o) % 192
  unsigned 32 (narrowWord 24 v) + Config.aesBits at96 n % 8 * 2 + flag (n == 0)

/-- A destination position at a house sample tick. -/
def Chip.dstTick (c : Chip) (pos : Nat) : Chip :=
  match c.audBind true pos with
  | none => c
  | some (r, place) =>
    let at96 := audAt96 r
    let o := sampleOf r place
    let pair := audIsPair r
    let d := c.startChanges (c.audDst pos) pair o at96
    let v := c.mixed d o at96
    let y := if pair then v else ({ d with rampAt := d.rampAt + o } : AudDst).level v
    let z := satWord 32 y
    let word := if pair then (if c.signalPair d.route then unsigned 32 v else c.pairWord at96 o v) else unsigned 32 z
    let step := if at96 then 2 else 1
    let c1 := c.modAud pos (fun _ => { d with fadeAt := min 64 (d.fadeAt + step), rampAt := min 64 (d.rampAt + step),
                                              out := (d.out ++ [word]).drop (d.out.length - 64) })
    let c2 := if z = y then c1 else (c1.count Reg.AUD_DST_CLIP_COUNT pos 1).mark Reg.AUD_STATUS_CLIP_SEEN
    let kind := u8 r 2
    let sent := if pair then word else unsigned 32 (narrowWord (outWidth kind) z)
    if kind = 3 ∨ (kind = 4 ∧ c.portOn (u16 r 4) ∧ c.portMaster (u16 r 4)) ∨ (kind = 5 ∧ c.portOn (12 + u16 r 4)) then c2.emit (.audio pos sent) else c2

/-- The output frame of a slave port enters its FIFO, which its own clock empties (R237). -/
def Chip.slaveTick (c : Chip) (p : Nat) : Chip :=
  if (c.audPort p).clock = 2 then
    let slot := fun (i o : Nat) => ((c.boundPositions true).find? (fun q => match c.audBind true q with
      | some (r, place) => u8 r 2 == 4 && u16 r 4 == p && audChannel r place == i && sampleOf r place == o
      | none => false)).map (fun q => unsigned 32 (narrowWord 24 (signed 32 ((c.audDst q).out.getLastD 0))))
    let slots := ([2, 4, 8, 16] : List Nat).getD (u8 (c.record tyAudPorts p) 1) 2
    (List.range (if c.portAt96 p then 2 else 1)).foldl (fun a o =>
      let r := (a.audPort p).output.push ((List.range slots).map (fun i => (slot i o).getD 0))
      let b := a.modPort p (fun x => { x with output := r.1 })
      if r.2 then b.portSlip p false true else b) c
  else c

/-! ## Watch (R443) and word clocks (R366) -/

/-- A source position is watched for silence and over-level. -/
def Chip.watchLevel (c : Chip) (silence overs : Nat) (pos : Nat) : Chip :=
  let m := (signed 32 (Tbl.get 0 c.aud.words pos / (if c.audPair false pos then 256 else 1) * (if c.audPair false pos then 256 else 1))).natAbs
  let run := if overs ≤ m then Tbl.get 0 c.fwa.runs pos + 1 else 0
  let hit := decide (u8 c.fwaRec 6 ≤ run)
  let c1 : Chip := { c with fwa := { c.fwa with
    runs := Tbl.put 0 c.fwa.runs pos run, peaks := Tbl.upd 0 c.fwa.peaks pos (max m),
    loudAt := if silence < m then Tbl.put 0 c.fwa.loudAt pos c.now else c.fwa.loudAt,
    overAt := if hit then Tbl.put 0 c.fwa.overAt pos c.now else c.fwa.overAt } }
  let c2 := if silence < m ∧ c1.fwa.silent.contains pos = true then
      ({ c1 with fwa := { c1.fwa with silent := c1.fwa.silent.filter (fun p => p != pos) } } : Chip).set Reg.FWA_CH_STATE_SILENT pos 0
    else c1
  if hit = true ∧ c2.fwa.overs.contains pos = false then
    ({ (c2.audioAlarm pos false) with fwa := { c2.fwa with overs := c2.fwa.overs ++ [pos], bad := dedup (c2.fwa.bad ++ [pos]) } } : Chip).set Reg.FWA_CH_STATE_OVER pos 1
  else if hit = false ∧ c2.fwa.overs.contains pos = true ∧ Tbl.get 0 c2.fwa.overAt pos + secU 1 ≤ c2.now then
    ({ c2 with fwa := { c2.fwa with overs := c2.fwa.overs.filter (fun p => p != pos) } } : Chip).set Reg.FWA_CH_STATE_OVER pos 0
  else c2

/-- The edges of a word clock output in the sample period that begins now. -/
def Chip.wordClock (c : Chip) (n : Nat) : Chip :=
  let f := u8 (c.record tyOutputs n) 1
  if bit f 0 = true ∧ c.outHeld n = false ∧ c.isSet Reg.REFS_STATUS_LO_OK 0 = true then
    let half := if bit f 4 then samplePeriod / 4 else samplePeriod / 2
    (List.range (samplePeriod / (2 * half))).foldl (fun a i =>
      (a.emit (.pin n true (c.now + 2 * half * i))).emit (.pin n false (c.now + 2 * half * i + half))) c
  else c

/-! ## The tick -/

/-- HOUSE_SAMPLE_TICK (R53 to R55): `sdi` are the sample sets that SDI sources have delivered since the tick before, `given` the words of the positions that the device's own
clocks sample. -/
def execHouseSampleTick (t : Nat) (sdi : List SdiAudio) (given : List (Fin 16384 × Nat)) (s : State) : Host.Outcome State Fault Refusal :=
  act t s (fun c =>
    if c.tick.running then
      let c0 : Chip := { c with tick := { c.tick with samples := c.tick.samples + 1, sampleAt := c.now } }
      let c1 := (Chip.audDirect c0.xpt.audQueue [] c0).sourceWords sdi (given.map (fun e => (e.1.val, e.2)))
      let c2 := ((c1.ingestAudio).lateBlocks).exportAudio
      let c3 := (c2.boundPositions true).foldl Chip.dstTick c2
      let c4 := (c3.capPositions).foldl (fun a p => a.noteWord p ((c3.audDst p).out.getLastD 0)) c3
      let c5 := ((List.range 8).filter (fun p => c4.portAsync p)).foldl Chip.slaveTick c4
      let quiet := c.silenceLevel
      let overs := c.overLevel
      let c6 := (c5.boundPositions false).foldl (fun a p => a.watchLevel quiet overs p) c5
      let c7 := ((c6.pruneFlows).advanceImports)
      ({ c7 with aud := { c7.aud with frameAt := [0, 1, 2, 3].foldl (fun m td => Tbl.upd 0 m td (fun n => n + 1)) c7.aud.frameAt } } : Chip).wordClock 4 |>.wordClock 5
    else c)

end Sys2Proof.Machine
end

