-- ==== Sys2Proof/Machine/Crypto.lean ====
section
/-! DEFINITION. SHA-256 (FIPS 180-4), HMAC (RFC 2104), AES-256-GCM and the verification of Ed25519 (RFC 8032), which R495, R497, R521, R524 and
R525 name. -/

namespace Sys2Proof.Machine

/-! ## SHA-256 -/

/-- The round constants of SHA-256: the first 32 bits of the fractional parts of the cube roots of the first 64 primes. -/
def sha2K : List (BitVec 32) := (shaPrimes.take 64).map (fun p => BitVec.ofNat 32 (cubeBits p 68 0 / 2 ^ 32))

/-- The initial hash words of SHA-256. -/
def sha2H : List (BitVec 32) := (shaPrimes.take 8).map (fun p => BitVec.ofNat 32 (squareBits p 70 0 / 2 ^ 32))

/-- The words of a block's schedule, newest first while it grows. -/
def sha2Schedule : Nat → List (BitVec 32) → List (BitVec 32)
  | 0, w => w
  | n + 1, w =>
    let x := w.getD 1 0
    let y := w.getD 14 0
    let s1 := (x.rotateRight 17) ^^^ (x.rotateRight 19) ^^^ (x >>> 10)
    let s0 := (y.rotateRight 7) ^^^ (y.rotateRight 18) ^^^ (y >>> 3)
    sha2Schedule n ((s1 + w.getD 6 0 + s0 + w.getD 15 0) :: w)

/-- One round of SHA-256 on the eight working words. -/
def sha2Round (v : List (BitVec 32)) (kw : BitVec 32 × BitVec 32) : List (BitVec 32) :=
  let a := v.getD 0 0
  let b := v.getD 1 0
  let c := v.getD 2 0
  let e := v.getD 4 0
  let f := v.getD 5 0
  let g := v.getD 6 0
  let t1 := v.getD 7 0 + ((e.rotateRight 6) ^^^ (e.rotateRight 11) ^^^ (e.rotateRight 25)) + ((e &&& f) ^^^ (~~~e &&& g)) + kw.1 + kw.2
  let t2 := ((a.rotateRight 2) ^^^ (a.rotateRight 13) ^^^ (a.rotateRight 22)) + ((a &&& b) ^^^ (a &&& c) ^^^ (b &&& c))
  [t1 + t2, a, b, c, v.getD 3 0 + t1, e, f, g]

/-- The blocks of 64 bytes of a padded message. -/
def sha2Blocks : Nat → List Byte → List (BitVec 32) → List (BitVec 32)
  | 0, _, h => h
  | n + 1, l, h =>
    let w := ((List.range 16).map (fun i => BitVec.ofNat 32 (u32 l (4 * i)))).reverse
    let out := ((sha2Schedule 48 w).reverse.zip sha2K).foldl sha2Round h
    sha2Blocks n (l.drop 64) (List.zipWith (fun x y => x + y) h out)

/-- The SHA-256 of bytes. -/
def sha256 (l : List Byte) : List Byte :=
  let padded := l ++ [128] ++ List.replicate ((119 - l.length % 64) % 64) 0 ++ beBytes 8 (8 * l.length)
  (sha2Blocks (padded.length / 64) padded sha2H).flatMap (fun w => beBytes 4 w.toNat)

/-- HMAC-SHA-256. -/
def hmac (key msg : List Byte) : List Byte :=
  let k := ((if 64 < key.length then sha256 key else key) ++ List.replicate 64 0).take 64
  sha256 (k.map (fun b => b ^^^ 0x5C) ++ sha256 (k.map (fun b => b ^^^ 0x36) ++ msg))

/-! ## AES-256-GCM (FIPS 197, NIST SP 800-38D), which R521 names -/

/-- The S-box of AES in eight parts of 32 values, value k of a part at its bits [8k+7:8k]. -/
def aesTable : List Nat :=
  [0xc072a49cafa2d4adf04759fa7dc982ca76abd7fe2b670130c56f6bf27b777c63,
   0x75b227ebe28012079a059618c323c7041531d871f1e5a534ccf73f362693fdb7,
   0xcf584c4a39becb6a5bb1fc20ed00d153842fe329b3d63b52a05a6e1b1a2c8309,
   0xd2f3ff1021dab6bcf5389d928f40a351a89f3c507f02f94585334d43fbaaefd0,
   0xdb0b5ede14b8ee4688902a22dc4f816073195d643d7ea7c41744975fec130ccd,
   0x08ae7a65eaf4566ca94ed58d6d37c8e779e4959162acd3c25c2406490a3a32e0,
   0x9e1dc186b95735610ef6034866b53e708a8bbd4b1f74dde8c6b4a61c2e2578ba,
   0x16bb54b00f2d99416842e6bf0d89a18cdf2855cee9871e9b948ed9691198f8e1]

/-- The S-box. -/
def aesS (x : Nat) : Nat := aesTable.getD (x / 32) 0 / 2 ^ (8 * (x % 32)) % 256

/-- The bytes of two lists added in GF(2). -/
def xorL (a b : List Nat) : List Nat := List.zipWith (fun x y => x ^^^ y) a b

/-- The words of the key schedule from word `i` on, given the eight words before it. -/
def aesExpand : Nat → Nat → List (List Nat) → List (List Nat)
  | 0, _, _ => []
  | n + 1, i, ws =>
    let last := ws.getLastD []
    let f := if i % 8 = 0 then xorL ((last.drop 1 ++ last.take 1).map aesS) [2 ^ (i / 8 - 1), 0, 0, 0] else if i % 8 = 4 then last.map aesS else last
    let w := xorL (ws.headD []) f
    w :: aesExpand n (i + 1) (ws.drop 1 ++ [w])

/-- The fifteen round keys of a 32-byte key. -/
def aesKeys (key : List Byte) : List (List Nat) :=
  let k := (key.map BitVec.toNat ++ List.replicate 32 0).take 32
  let first := (List.range 8).map (fun i => (k.drop (4 * i)).take 4)
  let all := first ++ aesExpand 52 8 first
  (List.range 15).map (fun r => ((all.drop (4 * r)).take 4).flatten)

/-- Twice a value in the field of AES. -/
def aesDouble (x : Nat) : Nat := if x < 128 then 2 * x else (2 * x) ^^^ 0x11B

/-- MixColumns on one column. -/
def aesMix (v : List Nat) : List Nat :=
  let at_ := fun (i : Nat) => v.getD (i % 4) 0
  (List.range 4).map (fun i => aesDouble (at_ i) ^^^ aesDouble (at_ (i + 1)) ^^^ at_ (i + 1) ^^^ at_ (i + 2) ^^^ at_ (i + 3))

/-- SubBytes and ShiftRows. -/
def aesShift (v : List Nat) : List Nat := [0, 5, 10, 15, 4, 9, 14, 3, 8, 13, 2, 7, 12, 1, 6, 11].map (fun i => aesS (v.getD i 0))

/-- One block of 16 bytes under the round keys. -/
def aesBlock (keys : List (List Nat)) (block : List Nat) : List Nat :=
  let v := ((keys.drop 1).take 13).foldl (fun a k => xorL (((List.range 4).flatMap (fun j => aesMix (((aesShift a).drop (4 * j)).take 4)))) k)
    (xorL block (keys.headD []))
  xorL (aesShift v) (keys.getLastD [])

/-- The product in the field of GHASH, whose first bit is the most significant one. -/
def ghashMul : Nat → Nat → Nat → Nat → Nat
  | 0, _, _, z => z
  | n + 1, x, v, z => ghashMul n x (if v % 2 = 1 then v / 2 ^^^ 0xE1000000000000000000000000000000 else v / 2) (if bit x n then z ^^^ v else z)

/-- GHASH over blocks of 16 bytes, from the value `y`. -/
def ghash (h : Nat) : Nat → List Byte → Nat → Nat
  | 0, _, y => y
  | n + 1, l, y => ghash h n (l.drop 16) (ghashMul 128 (y ^^^ beNat ((l ++ List.replicate 16 0).take 16)) h 0)

/-- The bytes of the counter blocks 2 and on, for `n` blocks (CTR mode). -/
def ctrStream (keys : List (List Nat)) (nonce : List Byte) (n : Nat) : List Nat :=
  (List.range n).flatMap (fun i => aesBlock keys ((nonce ++ beBytes 4 (i + 2)).map BitVec.toNat))

/-- Bytes enciphered, or deciphered, in CTR mode. -/
def ctrXor (key nonce l : List Byte) : List Byte :=
  List.zipWith (fun b k => b ^^^ BitVec.ofNat 8 k) l (ctrStream (aesKeys key) nonce (l.length / 16 + 1))

/-- The tag of AES-256-GCM over additional data and ciphertext. -/
def gcmTag (key nonce aad ct : List Byte) : List Byte :=
  let keys := aesKeys key
  let h := beNat ((aesBlock keys (List.replicate 16 0)).map (BitVec.ofNat 8))
  let blocks := fun (l : List Byte) => (l.length + 15) / 16
  let y := ghash h 1 (beBytes 8 (8 * aad.length) ++ beBytes 8 (8 * ct.length)) (ghash h (blocks ct) ct (ghash h (blocks aad) aad 0))
  beBytes 16 (y ^^^ beNat ((aesBlock keys ((nonce ++ beBytes 4 1).map BitVec.toNat)).map (BitVec.ofNat 8)))

/-- The ciphertext and tag of a plaintext. -/
def gcmSeal (key nonce aad plain : List Byte) : List Byte := ctrXor key nonce plain ++ gcmTag key nonce aad (ctrXor key nonce plain)

/-- The plaintext of a ciphertext with its 16-byte tag, when the tag holds. -/
def gcmOpen (key nonce aad sealed : List Byte) : Option (List Byte) :=
  let ct := sealed.take (sealed.length - 16)
  if 16 ≤ sealed.length ∧ sealed.drop (sealed.length - 16) = gcmTag key nonce aad ct then some (ctrXor key nonce ct) else none

/-! ## Ed25519 -/

/-- The prime of the field. -/
def edP : Nat := 2 ^ 255 - 19

/-- The order of the base point. -/
def edL : Nat := 2 ^ 252 + 27742317777372353535851937790883648493

/-- The power of a number modulo the prime; the exponent has at most `n` bits. -/
def edPow : Nat → Nat → Nat → Nat
  | 0, _, _ => 1
  | n + 1, b, e => if e = 0 then 1 else (let r := edPow n (b * b % edP) (e / 2); if e % 2 = 1 then r * b % edP else r)

/-- The inverse modulo the prime. -/
def edInv (x : Nat) : Nat := edPow 256 x (edP - 2)

/-- The constant of the curve. -/
def edD : Nat := (edP - 121665) * edInv 121666 % edP

/-- A point in extended coordinates. -/
structure EdPoint where
  x : Nat
  y : Nat
  z : Nat
  t : Nat

/-- The neutral point. -/
def edZero : EdPoint := ⟨0, 1, 1, 0⟩

/-- The sum of two points. -/
def edAdd (p q : EdPoint) : EdPoint :=
  let a := (p.y + edP - p.x) * (q.y + edP - q.x) % edP
  let b := (p.y + p.x) * (q.y + q.x) % edP
  let c := 2 * p.t * q.t * edD % edP
  let d := 2 * p.z * q.z % edP
  let e := (b + edP - a) % edP
  let f := (d + edP - c) % edP
  let g := (d + c) % edP
  let h := (b + a) % edP
  ⟨e * f % edP, g * h % edP, f * g % edP, e * h % edP⟩

/-- A multiple of a point; the factor has at most `n` bits. -/
def edMul : Nat → Nat → EdPoint → EdPoint
  | 0, _, _ => edZero
  | n + 1, k, p => let r := edMul n (k / 2) (edAdd p p); if k % 2 = 1 then edAdd r p else r

/-- The number that bytes spell, least significant byte first. -/
def leNat (l : List Byte) : Nat := beNat l.reverse

/-- The point that 32 bytes encode (RFC 8032, section 5.1.3). -/
def edDecode (l : List Byte) : Option EdPoint :=
  let n := leNat l
  let y := n % 2 ^ 255
  let sign := n / 2 ^ 255 % 2
  if edP ≤ y then none
  else
    let u := (y * y + edP - 1) % edP
    let v := (edD * y * y + 1) % edP
    let r := u * edPow 8 v 3 % edP * edPow 256 (u * edPow 8 v 7 % edP) ((edP - 5) / 8) % edP
    let w := v * r * r % edP
    match (if w = u then some r else if w = (edP - u) % edP then some (r * edPow 256 2 ((edP - 1) / 4) % edP) else none) with
    | none => none
    | some r =>
      if r = 0 ∧ sign = 1 then none
      else
        let x := if r % 2 = sign then r else (edP - r) % edP
        some ⟨x, y, 1, x * y % edP⟩

/-- The base point: its y coordinate is 4/5. -/
def edBase : EdPoint := (edDecode ((beBytes 32 (4 * edInv 5 % edP)).reverse)).getD edZero

/-- Whether two points are equal. -/
def edSame (p q : EdPoint) : Bool := p.x * q.z % edP == q.x * p.z % edP && p.y * q.z % edP == q.y * p.z % edP

/-- Whether 64 bytes are a signature of a message under a public key (RFC 8032, section 5.1.7). -/
def edVerify (key msg sig : List Byte) : Bool :=
  let s := leNat (bytesAt sig 32 32)
  match edDecode (bytesAt sig 0 32), edDecode key with
  | some r, some a =>
    let k := leNat (sha512 (bytesAt sig 0 32 ++ key ++ msg)) % edL
    decide (s < edL) && edSame (edMul 4 8 (edMul 256 s edBase)) (edMul 4 8 (edAdd r (edMul 256 k a)))
  | _, _ => false

end Sys2Proof.Machine
end

