-- ==== Sys2Proof/Machine/Recorder.lean ====
section
/-! DEFINITION. The event recorder M6 (R576 to R593): numbering, the ring, the freeze, the commit buffer and the archive, the
lantern window. -/

namespace Sys2Proof.Machine

/-! ## Records (R576) -/

/-- `LENGTH`: the words of a record. -/
def Rec.words (r : Rec) : Nat := 8 + r.payload.length

/-- The units of 32 bytes that a record takes in a buffer (R581). -/
def Rec.units (r : Rec) : Nat := ceilDiv r.words 8

/-- The units of a buffer's records. -/
def unitsOf (l : List Rec) : Nat := (l.map Rec.units).sum

/-- The words of a record (R576): the seconds and nanoseconds of uptime and device time, more significant word first. -/
def Rec.wordList (r : Rec) : List Nat :=
  [r.words * 16777216 + r.sev * 2097152 + r.block * 16384 + r.code, r.seq, r.uptime / 4294967296, r.uptime % 4294967296,
   r.sec / 4294967296, r.sec % 4294967296, r.ns, r.repeats * 65536 + r.spanMs] ++ r.payload

/-- The bytes of a record. -/
def Rec.bytes (r : Rec) : List Byte := r.wordList.flatMap (fun w => beBytes 4 w)

/-- The units of the ring, the side buffer and the commit buffer. -/
def ringUnits : Nat := 32768
def sideUnits : Nat := 2048
def commitUnits : Nat := 8192

/-- The number after a sequence number: 0xFFFF_FFFF is skipped (R578). -/
def seqAfter (n : Nat) : Nat := if n % 4294967296 + 1 ≥ 4294967295 then 0 else n % 4294967296 + 1

/-- How far a number lies below the next one. -/
def LogSt.below (l : LogSt) (n : Nat) : Nat := (l.seqNext + 4294967296 - n % 4294967296) % 4294967296

/-- The numbers given since the reference number (R585). -/
def LogSt.given (l : LogSt) : Nat := l.below l.refSeq

/-! ## The ring (R580, R581) -/

/-- Removes records of severity at or below `sev`, oldest first, until `need` units are free. -/
def evict (sev : Nat) : Nat → List Rec → List Rec
  | _, [] => []
  | need, r :: rest => if need = 0 then r :: rest else if r.sev ≤ sev then evict sev (need - r.units) rest else r :: evict sev need rest

/-- A record enters the ring, or is discarded when the eligible records cannot free enough units (R581). -/
def Chip.ringPut (c : Chip) (r : Rec) : Chip :=
  let free := ringUnits - unitsOf c.log.ring
  if r.units ≤ free + unitsOf (c.log.ring.filter (fun x => decide (x.sev ≤ r.sev))) then
    { c with log := { c.log with ring := evict r.sev (r.units - free) c.log.ring ++ [r] } }
  else (c.count (Reg.LOG_DISCARD_COUNT r.sev) 0 1).mark Reg.LOG_STATUS_DISCARD_SEEN

/-- Whether a record is the one that a new record folds into (R580); a FAULT or FATAL record never folds (R585). -/
def Rec.takesRepeat (old new : Rec) : Bool :=
  old.sev == new.sev && old.payload == new.payload && !old.committed && decide (new.sev < 4)
    && decide (new.uptime ≤ old.latest + 1000000000) && decide ((new.uptime - old.uptime) / 1000000 ≤ 65535)

/-- The earlier record with the repeat folded in: `REPEATS` saturates (R576). -/
def Rec.folded (old new : Rec) : Rec :=
  { old with repeats := min (old.repeats + 1) 0xFFFF, spanMs := (new.uptime - old.uptime) / 1000000, latest := new.uptime }

/-- The newest record of a buffer with the block and code of a record. -/
def newestLike (l : List Rec) (r : Rec) : Option Rec := l.reverse.find? (fun x => x.block == r.block && x.code == r.code)

/-- Replaces the record of a number. -/
def replaceSeq (l : List Rec) (r : Rec) : List Rec := l.map (fun x => if x.seq == r.seq then r else x)

/-! ## Taking a record (R578, R579) -/

/-- The records of which the control rings take copies (R464). -/
def copiedToRings (r : Rec) : Bool :=
  [Ev.refSwitch, Ev.refHoldover, Ev.refLocked, Ev.timeStep, Ev.timeJumpRefused, Ev.tickAligned, Ev.tickRealigned, Ev.tickOverrun].any
    (fun e => e.block == r.block && e.code == r.code)

/-- The next number is given, and every record 2^30 or more below it leaves the ring and the side buffer (R581). -/
def Chip.takeNumber (c : Chip) : Chip :=
  let l : LogSt := { c.log with seqNext := seqAfter c.log.seqNext }
  let keep := fun (r : Rec) => decide (l.below r.seq < 1073741824)
  { c with log := { l with ring := l.ring.filter keep, side := l.side.filter keep } }

/-- Whether a record is the outcome of an activation, of which class 3 hears (R535, R609). -/
def isOutcome (r : Rec) : Bool := r.block == 20 && (r.code == 1 || r.code == 4)

/-- The `EVENT` notices of a record (R535, R609). -/
def Chip.eventNotices (c : Chip) (r : Rec) : Chip :=
  (List.range 16).foldl (fun a i =>
    if (bit (a.session i).mask 2 && decide ((a.session i).minSev ≤ r.sev)) || (bit (a.session i).mask 3 && isOutcome r) then a.notice i 0x8008 r.bytes else a) c

/-- A numbered record is placed: ring, or side buffer while a freeze is in force (R579, R582). -/
def Chip.placeRecord (c : Chip) (r : Rec) : Chip :=
  if r.sev < c.ringSev then c.count Reg.LOG_BELOW_COUNT 0 1
  else if c.log.freeze.isSome then
    if unitsOf c.log.side + r.units ≤ sideUnits then { c with log := { c.log with side := c.log.side ++ [r] } }
    else (c.count Reg.LOG_SIDE_SIDE_LOST 0 1).mark Reg.LOG_STATUS_SIDE_LOST_SEEN
  else c.ringPut r

/-- A numbered record's copy for the archive (R579, R585). -/
def Chip.commitRecord (c : Chip) (r : Rec) : Chip :=
  if r.sev < c.archSev then c
  else if unitsOf c.log.commit + r.units ≤ commitUnits then { c with log := { c.log with commit := c.log.commit ++ [r] } }
  else c.count Reg.LOG_COMMIT_SKIPPED 0 1

/-- A control ring entry takes a number and goes to its set alone (R671). -/
def Chip.takeCtl (c : Chip) (set : Nat) (r : Rec) : Chip :=
  (c.takeNumber.count Reg.LOG_BELOW_COUNT 0 1).modSet set (fun x => { x with ctl := x.ctl ++ [{ r with seq := c.log.seqNext }] })

/-- A record takes a number and goes everywhere it is due: ring or side buffer, commit buffer, notices, control rings, triggers. -/
def Chip.takeNumbered (c : Chip) (r0 : Rec) : Chip :=
  let r : Rec := { r0 with seq := c.log.seqNext }
  let c1 := ((c.takeNumber.placeRecord r).commitRecord r).eventNotices r
  let c2 := if copiedToRings r then c1.liveSets.foldl (fun a i => a.modSet i (fun x => { x with ctl := x.ctl ++ [r] })) c1 else c1
  c2.trigByEvent r

/-- M6 takes one record: discarded without a number (R586), folded (R580), or numbered. -/
def Chip.takeRecord (c : Chip) (r : Rec) : Chip :=
  let buf := if c.log.freeze.isSome then c.log.side else c.log.ring
  if c.isSet Reg.PWR_STATUS_HOLD 0 && decide (524288 ≤ c.log.given) then
    (c.count (Reg.LOG_DISCARD_COUNT r.sev) 0 1).mark Reg.LOG_STATUS_DISCARD_SEEN
  else match r.ctl with
  | some set => c.takeCtl set r
  | none =>
    match newestLike buf r with
    | some old =>
      if old.takesRepeat r then
        let f := old.folded r
        ({ c with log := { c.log with ring := replaceSeq c.log.ring f, side := replaceSeq c.log.side f, commit := replaceSeq c.log.commit f } } : Chip).countWrap
          Reg.LOG_FOLDED_COUNT 0 1
      else c.takeNumbered r
    | none => c.takeNumbered r

/-- `EVENT_RECORD` (R578): M6 takes the oldest record handed over. -/
def execEventRecord (t : Nat) (s : State) : Host.Outcome State Fault Refusal :=
  act t s (fun c => match c.log.handed with
    | [] => c
    | r :: rest => ({ c with log := { c.log with handed := rest } } : Chip).takeRecord r)

/-! ## The archive (R584 to R586) -/

/-- The address of a sector of the archive. -/
def sectorAddr (k : Nat) : Nat := flashBase + 0x08000000 + 65536 * k

/-- Erases a sector: no byte of it is written any more (R584). -/
def eraseSector (m : Tbl Byte) (k : Nat) : Tbl Byte :=
  m.filter (fun e => !(decide (sectorAddr k ≤ e.1) && decide (e.1 < sectorAddr k + 65536)))

/-- The sector after `k`, of those that may be used. -/
def LogSt.sectorAfter (l : LogSt) (k : Nat) : Nat :=
  ((List.range 1024).map (fun i => (k + 1 + i) % 1024)).find? (fun j => !(l.badSectors.contains j)) |>.getD ((k + 1) % 1024)

/-- The bytes of a batch: the header of R584 and the records, each padded to whole units. -/
def batchBytes (first : Nat) (rs : List Rec) : List Byte :=
  let data := rs.flatMap (fun r => padTo (32 * r.units) r.bytes)
  let head := beBytes 4 0x544B4C47 ++ beBytes 4 data.length ++ beBytes 4 first
  head ++ beBytes 4 (crc32c ((head ++ data).map BitVec.toNat)) ++ data

/-- Whether a record of the commit buffer is due (R585). -/
def Chip.recDue (c : Chip) (r : Rec) : Bool := decide (4 ≤ r.sev) || decide (r.latest + 1000000000 ≤ c.uptime)

/-- The records up to and including the newest one that is due. -/
def Chip.duePrefix (c : Chip) (l : List Rec) : List Rec := (l.reverse.dropWhile (fun r => !(c.recDue r))).reverse

/-- The records of a list that fit in a number of units, from the oldest. -/
def fitUnits : Nat → List Rec → List Rec
  | _, [] => []
  | n, r :: rest => if r.units ≤ n then r :: fitUnits (n - r.units) rest else []

/-- The units of records that a batch at an offset of a sector can hold: batches begin at 256-byte program units (R492). -/
def roomAt (off : Nat) : Nat := (65536 - off - 16) / 32

/-- Whether 32,768 numbers have been given since the reference number: M6 writes a batch whatever is due (R585). -/
def Chip.batchForced (c : Chip) : Bool := decide (32768 ≤ c.log.given)

/-- What the batch to write takes of the commit buffer; none when no batch is due. -/
def Chip.batchDue (c : Chip) : Option (List Rec) :=
  if c.batchForced then some c.log.commit
  else match c.duePrefix c.log.commit with
    | [] => none
    | l => some l

/-- A sector fails: it is left unused until the next cold start, and the failure is recorded (R584). -/
def Chip.archiveError (c : Chip) (sector first : Nat) (erase : Bool) : Chip :=
  ((({ c with log := { c.log with badSectors := c.log.badSectors ++ [sector] } } : Chip).count Reg.LOG_ARCH_HEAD_ERRORS 0 1).mark
    Reg.LOG_STATUS_ARCH_ERR_SEEN).event Ev.logArchiveError [sector + flag erase * 65536, first]

/-- M6 turns to the next sector and erases the one after it (R584); that erasure may fail, and then the one after that is erased. -/
def Chip.nextSector (c : Chip) (m : Tbl Byte) (first : Nat) (eraseFails : Bool) : Chip × Tbl Byte :=
  let now := c.log.sectorAfter c.log.sector
  let c1 : Chip := { c with log := { c.log with sector := now, offset := 0, closed := false } }
  let c2 := if eraseFails then c1.archiveError (c1.log.sectorAfter now) first true else c1
  (c2.countWrap Reg.LOG_ARCH_ERASED_COUNT 0 1, eraseSector m (c2.log.sectorAfter now))

/-- Marks the records of a batch as committed in the ring and the side buffer (R585). -/
def markCommitted (l : List Rec) (taken : List Rec) : List Rec :=
  l.map (fun r => if taken.any (fun x => x.seq == r.seq) then { r with committed := true } else r)

/-- A batch has been written at the current place. -/
def Chip.batchWritten (c : Chip) (m : Tbl Byte) (first : Nat) (taken : List Rec) : Chip × Tbl Byte :=
  let bytes := batchBytes first taken
  let high := match taken.getLast? with | some r => r.seq | none => first
  (({ c with log := { c.log with
        commit := c.log.commit.filter (fun r => !(taken.any (fun x => x.seq == r.seq))),
        ring := markCommitted c.log.ring taken, side := markCommitted c.log.side taken,
        refSeq := first, offset := c.log.offset + 256 * ceilDiv bytes.length 256 } } : Chip).set Reg.LOG_ARCH_SEQ_SEQ 0 high,
   memWrite m (sectorAddr c.log.sector + c.log.offset) bytes)

/-- M6 writes the batch that is due (R584 to R586). -/
def Chip.archiveBatch (c : Chip) (m : Tbl Byte) (how : BatchEnd) (due : List Rec) : Chip × Tbl Byte :=
  let first := match due with | r :: _ => r.seq | [] => c.log.seqNext
  let need := match due with | r :: _ => r.units | [] => 0
  let full := c.log.closed || decide (65536 < c.log.offset + 16 + 32 * need)
  let p := if full then c.nextSector m first (how == .eraseFailed) else (c, m)
  let taken := fitUnits (roomAt p.1.log.offset) due
  match how with
  | .cut pages =>
    ({ p.1 with log := { p.1.log with closed := true } },
      memWrite p.2 (sectorAddr p.1.log.sector + p.1.log.offset)
        ((batchBytes first taken).take (min (256 * pages) ((batchBytes first taken).length - 1))))
  | .programFailed =>
    let q := (p.1.archiveError p.1.log.sector first false).nextSector p.2 first false
    q.1.batchWritten q.2 first (fitUnits (roomAt 0) due)
  | _ => p.1.batchWritten p.2 first taken

/-- `ARCHIVE_BATCH` (R585): nothing when no batch is due; during the supply hold no batch starts, and only the one that the hold cuts off
leaves a trace (R586). -/
def execArchiveBatch (t : Nat) (how : BatchEnd) (s : State) : Host.Outcome State Fault Refusal :=
  actMem t s (fun c m =>
    let isCut := match how with | .cut _ => true | _ => false
    if c.isSet Reg.PWR_STATUS_HOLD 0 == isCut then
      match c.batchDue with
      | some due => c.archiveBatch m how due
      | none => (c, m)
    else (c, m))

/-- M6 takes every record handed over. -/
def Chip.drain : Nat → Chip → Chip
  | 0, c => c
  | n + 1, c =>
    match c.log.handed with
    | [] => c
    | r :: rest => Chip.drain n (({ c with log := { c.log with handed := rest } } : Chip).takeRecord r)

/-- Batches are written until no record waits. -/
def Chip.writeAll : Nat → Chip → Tbl Byte → Chip × Tbl Byte
  | 0, c, m => (c, m)
  | n + 1, c, m =>
    if c.log.commit.isEmpty then (c, m)
    else let r := c.archiveBatch m .written c.log.commit; Chip.writeAll n r.1 r.2

/-- M6 takes what has been handed over, and the records waiting are committed at once, due or not, when no supply hold is in force (R567). -/
def Chip.commitAll (c : Chip) (m : Tbl Byte) : Chip × Tbl Byte :=
  let d := Chip.drain c.log.handed.length c
  if d.isSet Reg.PWR_STATUS_HOLD 0 then (d, m) else Chip.writeAll 16 d m

/-! ## The freeze (R582, R583) -/

/-- The freeze ends: the side buffer's records enter the ring in sequence order (R583). -/
def Chip.thaw (c : Chip) : Chip :=
  if c.log.freeze.isSome then
    c.log.side.foldl (fun a r => a.ringPut r) { c with log := { c.log with freeze := none, side := [] } }
  else c

/-- Whether an owner other than `o` holds a freeze. -/
def Chip.frozenByOther (c : Chip) (o : FreezeOwner) : Bool := match c.log.freeze with | some f => f.owner != o | none => false

/-- Sets or renews a freeze of an owner. -/
def Chip.freezeBy (c : Chip) (o : FreezeOwner) : Chip := { c with log := { c.log with freeze := some { owner := o, since := c.now } } }

/-- `FREEZE_TIMEOUT` (R583): the freeze ends when `FREEZE_S` seconds have passed since it was set or renewed. -/
def execFreezeTimeout (t : Nat) (s : State) : Host.Outcome State Fault Refusal :=
  act t s (fun c => match c.log.freeze with
    | some f => if f.since + secU c.freezeS ≤ c.now then c.thaw else c
    | none => c)

/-- A write of `LOG.CTRL.FREEZE` (R582, R593). -/
def Chip.windowFreeze (c : Chip) : Chip :=
  if c.frozenByOther .window then c.mark Reg.LOG_STATUS_CFG_REJECT else c.freezeBy .window

/-- `LOG_FREEZE` (R582). -/
def execLogFreeze (t : Nat) (s : State) : Host.Outcome State Fault Refusal := act t s Chip.windowFreeze

/-- A write of `LOG.CTRL.THAW` (R583, R593). -/
def Chip.windowThaw (c : Chip) : Chip :=
  match c.log.freeze with
  | some f => if f.owner = .window then c.thaw else c.mark Reg.LOG_STATUS_CFG_REJECT
  | none => c.mark Reg.LOG_STATUS_CFG_REJECT

/-- `LOG_THAW` (R583). -/
def execLogThaw (t : Nat) (s : State) : Host.Outcome State Fault Refusal := act t s Chip.windowThaw

/-! ## The lantern window (R589, R590) -/

/-- The whole records from the front of a list that fit in a number of bytes. -/
def fitBytes : Nat → List Rec → List Rec
  | _, [] => []
  | n, r :: rest => if 4 * r.words ≤ n then r :: fitBytes (n - 4 * r.words) rest else []

/-- One read at a cursor: the 256 bytes, and the number after the last record returned (the cursor when none qualifies). -/
def Chip.windowRead (c : Chip) (cursor : Nat) : List Byte × Nat :=
  let rs := fitBytes 256 (c.log.ring.filter (fun r => !(older r.seq cursor)))
  ((rs.flatMap Rec.bytes ++ List.replicate 256 0).take 256, match rs.getLast? with | some r => seqAfter r.seq | none => cursor)

/-- The oldest record of the ring, or the next number when it is empty: where a session's cursor starts (R589). -/
def Chip.oldestSeq (c : Chip) : Nat := match c.log.ring with | r :: _ => r.seq | [] => c.log.seqNext

/-- A write of `LOG.CTRL.WIN_LOAD` (R590). -/
def Chip.winLoad (c : Chip) : Chip :=
  let r := c.windowRead (c.fld Reg.LOG_WIN_CURSOR_SEQ 0)
  (List.range 64).foldl (fun a w => a.set (Reg.LOG_WIN_DATA_WORD w) 0 (u32 r.1 (4 * w)))
    ((c.set Reg.LOG_WIN_NEXT_SEQ 0 r.2).set Reg.LOG_WIN_CURSOR_SEQ 0 r.2)

/-- `WIN_LOAD` (R590). -/
def execWinLoad (t : Nat) (s : State) : Host.Outcome State Fault Refusal := act t s Chip.winLoad

/-- The counters of the block that `CLR_CNT` clears: all but `ARCH_ERASED` (R592). -/
def logCounters : List Fld :=
  [Reg.LOG_SIDE_SIDE_LOST, Reg.LOG_COMMIT_SKIPPED, Reg.LOG_ARCH_HEAD_ERRORS, Reg.LOG_BELOW_COUNT, Reg.LOG_FOLDED_COUNT]
    ++ (List.range 6).map Reg.LOG_DISCARD_COUNT

/-- `LOG_CLR_CNT` (R592). -/
def execLogClrCnt (t : Nat) (s : State) : Host.Outcome State Fault Refusal := act t s (fun c => c.clearAll logCounters)

/-- `LOG_READ` of a session (R582, R583, R589): the cursor, the freeze, the read, the thaw. -/
def Chip.logRead (c : Chip) (slot : Nat) (b : List Byte) : Chip :=
  let o := FreezeOwner.session slot
  let freeze := bit (u8 b 4) 0
  let thaw := bit (u8 b 4) 1
  if (freeze || thaw) && c.frozenByOther o then c.refuse slot 0x0501 0x1302 wholeIndex
  else
    let c1 := if u32 b 0 = 0xFFFFFFFF then c else ({ c with log := { c.log with cursors := Tbl.put 0 c.log.cursors slot (u32 b 0) } } : Chip)
    let c2 := if freeze then c1.freezeBy o else c1
    let r := c2.windowRead (Tbl.get 0 c2.log.cursors slot)
    let c3 : Chip := { c2 with log := { c2.log with cursors := Tbl.put 0 c2.log.cursors slot r.2 } }
    (if thaw then c3.thaw else c3).done slot 0x0501 (beBytes 4 r.2 ++ beBytes 4 0 ++ r.1)

/-- `LOG_READ` (R589). -/
def execLogRead (t : Nat) (slot : Fin 16) (body : List Byte) (s : State) : Host.Outcome State Fault Refusal :=
  act t s (fun c => c.request slot 0x0501 1 false (body.length == 8) (fun c => c.logRead slot body))

/-- Clearing (R588): the freeze ends, the ring and the side buffer empty, every cursor stands at the next number, and `LOG_CLEARED` follows. -/
def Chip.logClear (c : Chip) (session key : Nat) : Chip :=
  let n := c.log.ring.length + c.log.side.length
  let c1 : Chip := { c with
    log := { c.log with freeze := none, ring := [], side := [], cursors := Tbl.putList 0 [] 0 (List.replicate 16 c.log.seqNext) } }
  (c1.set Reg.LOG_WIN_CURSOR_SEQ 0 c.log.seqNext).event Ev.logCleared [session, key, n]

/-- `LOG_CLEAR` (R588). -/
def execLogClear (t : Nat) (slot : Fin 16) (body : List Byte) (s : State) : Host.Outcome State Fault Refusal :=
  act t s (fun c => c.request slot 0x0502 3 false (body.length == 0) (fun c =>
    (c.logClear (c.session slot).id (c.session slot).keyId).done slot 0x0502 []))

/-! ## Starts (R587) -/

/-- The batches of a sector's bytes, from an offset: where the valid content ends and the numbers seen, each batch's highest (R584). -/
def sectorScan (m : Tbl Byte) (base : Nat) : Nat → Nat → Nat × List Nat
  | 0, off => (off, [])
  | n + 1, off =>
    let h := memRead m (base + off) 16
    let len := u32 h 4
    let data := if len ≤ 65536 then memRead m (base + off + 16) len else []
    if 65536 < off + 16 + len || u32 h 0 != 0x544B4C47 || len % 32 != 0
        || crc32c ((bytesAt h 0 12 ++ data).map BitVec.toNat) != u32 h 12 then (off, [])
    else
      let last := ((List.range (len / 32)).foldl (fun (a : Nat × Nat) i =>
        if a.1 ≤ i then (i + max 1 (ceilDiv (u8 data (32 * i)) 8), u32 data (32 * i + 4)) else a) (0, u32 h 8)).2
      let r := sectorScan m base n (off + 256 * ceilDiv (16 + len) 256)
      (r.1, last :: r.2)

/-- The sectors of the archive that hold a written byte, in the order of the sector ring from the first blank one. -/
def heldSectors (m : Tbl Byte) : List Nat :=
  let used := dedup ((m.filter (fun e => decide (sectorAddr 0 ≤ e.1) && decide (e.1 < sectorAddr 1024))).map (fun e => (e.1 - sectorAddr 0) / 65536))
  let gap := (if used.isEmpty then 0 else ((List.range 1024).find? (fun k => !(used.contains k))).getD 0)
  used.filter (fun k => decide (gap ≤ k)) ++ used.filter (fun k => decide (k < gap))

/-- What the boot ROM finds in the archive: the highest number, with the sector it stands in, where that sector's valid content ends, and whether
anything stands beyond (R587). -/
structure ArchiveEnd where
  high : Nat
  sector : Nat
  offset : Nat
  dirty : Bool
  deriving DecidableEq, Repr

/-- The numbers of the archive extended from batch to batch in the way of R160. -/
def archiveEnd (m : Tbl Byte) : Option ArchiveEnd :=
  ((heldSectors m).foldl (fun (a : Option Int × Option (Int × ArchiveEnd)) k =>
    let mk := m.filter (fun e => decide (sectorAddr k ≤ e.1) && decide (e.1 < sectorAddr k + 65536))
    let sc := sectorScan mk (sectorAddr k) 256 0
    let dirty := mk.any (fun e => decide (sectorAddr k + sc.1 ≤ e.1))
    sc.2.foldl (fun (a : Option Int × Option (Int × ArchiveEnd)) (n : Nat) =>
      let x : Int := match a.1 with | none => (n : Int) | some p => p + signed 32 (unsigned 32 ((n : Int) - p))
      let e : ArchiveEnd := { high := n, sector := k, offset := sc.1, dirty := dirty }
      (some x, match a.2 with | some (y, old) => if y ≤ x then some (x, e) else some (y, old) | none => some (x, e))) a)
    (none, none)).2.map Prod.snd

/-- A start of the recorder (R587): numbers begin 1,048,576 above the archive's highest, writing goes on after the archive's last batch, and
`LOG_START` is the first record. -/
def Chip.startLog (c : Chip) (m : Tbl Byte) : Chip × Tbl Byte :=
  let e := archiveEnd m
  let h := match e with | some x => x.high | none => 0
  let first := match e with | some x => (if (x.high + 1048576) % 4294967296 = 4294967295 then 0 else (x.high + 1048576) % 4294967296) | none => 1
  let sector := match e with | some x => x.sector | none => 0
  let offset := match e with | some x => x.offset | none => 0
  let dirty := match e with | some x => x.dirty | none => false
  let l : LogSt := { LogSt.reset with seqNext := first, refSeq := first, sector := sector, offset := offset, closed := dirty }
  let blank := !((m.any (fun x => decide (sectorAddr (l.sectorAfter sector) ≤ x.1) && decide (x.1 < sectorAddr (l.sectorAfter sector) + 65536))))
  let c1 : Chip := { c with log := l }
  let c2 := if blank then c1 else c1.countWrap Reg.LOG_ARCH_ERASED_COUNT 0 1
  (c2.event Ev.logStart [c.boot.causes, h], eraseSector m (l.sectorAfter sector))

end Sys2Proof.Machine
end

