-- ==== Sys2Proof/Machine/UpdateOps.lean ====
section
/-! DEFINITION. What the flash holds beside the archive: the activation journal (R595, R596), the key table (R597), the banks and their checks (R494 to R500); and the revert of an
activation (R608). -/

namespace Sys2Proof.Machine

/-! ## The journal (R594 to R596) -/

/-- The bytes of a flash sector: those of the keys region from 0x0C00_0000. -/
def keySector (k : Nat) : Nat := flashBase + 0x0C000000 + 65536 * k

/-- The part of memory that a sector of the keys region holds. -/
def keySectorMem (m : Tbl Byte) (k : Nat) : Tbl Byte := m.filter (fun e => decide (keySector k ≤ e.1) && decide (e.1 < keySector k + 65536))

/-- A journal record (R595). -/
structure Journal where
  counter : Nat
  fwBank : Nat
  setBank : Nat
  fwGen : Nat
  setGen : Nat
  deriving DecidableEq, Repr

/-- The CRC-32C of bytes (R595). -/
def crcBytes (l : List Byte) : Nat := crc32c (l.map BitVec.toNat)

/-- Reads a journal record of 64 bytes: it is valid when MAGIC is right and CRC matches. -/
def readJournal (b : List Byte) : Option Journal :=
  if u32 b 0 = 0x544B4A4E ∧ u32 b 60 = crcBytes (bytesAt b 0 60) then
    some { counter := u32 b 4, fwBank := u8 b 8, setBank := u8 b 9, fwGen := u32 b 12, setGen := u32 b 16 }
  else none

/-- The valid records of a journal copy, 0 or 1. -/
def journalCopy (m : Tbl Byte) (k : Nat) : List Journal :=
  let mk := keySectorMem m k
  (dedup (mk.map (fun e => (e.1 - keySector k) / 64))).filterMap (fun i => readJournal (memRead mk (keySector k + 64 * i) 64))

/-- The record in force: the valid record, in either copy, with the highest COUNTER (R595). -/
def journal (m : Tbl Byte) : Option Journal :=
  (journalCopy m 0 ++ journalCopy m 1).foldl (fun a r => match a with | none => some r | some x => if x.counter < r.counter then some r else some x) none

/-- The place of the next record of a copy: after the last place that anything has been written to. -/
def journalNext (m : Tbl Byte) (k : Nat) : Nat := (keySectorMem m k).foldl (fun a e => max a ((e.1 - keySector k) / 64 + 1)) 0

/-- The bytes of a journal record. -/
def journalBytes (j : Journal) (cause : Nat) : List Byte :=
  let b := beBytes 4 0x544B4A4E ++ beBytes 4 j.counter ++ beBytes 1 j.fwBank ++ beBytes 1 j.setBank ++ beBytes 1 cause ++ [0] ++ beBytes 4 j.fwGen
    ++ beBytes 4 j.setGen ++ List.replicate 40 0
  b ++ beBytes 4 (crcBytes b)

/-- Programs a record into a copy. -/
def programJournal (m : Tbl Byte) (k : Nat) (j : Journal) (cause : Nat) : Tbl Byte := memWrite m (keySector k + 64 * journalNext m k) (journalBytes j cause)

/-- Erases a range of flash: nothing of it is written any more. -/
def eraseRange (m : Tbl Byte) (a n : Nat) : Tbl Byte := m.filter (fun e => !(decide (a ≤ e.1) && decide (e.1 < a + n)))

/-- At an arming or SAVE a copy without room for another record is erased, and the record in force is written into it first (R596). -/
def makeRoom (m : Tbl Byte) : Tbl Byte :=
  ([0, 1] : List Nat).foldl (fun a k =>
    if 1024 ≤ journalNext a k then
      match journal a with
      | some j => memWrite (eraseRange a (keySector k) 65536) (keySector k) (journalBytes j (u8 (memRead a (keySector k) 64) 10))
      | none => eraseRange a (keySector k) 65536
    else a) m

/-- The journal's registers (R613). -/
def Chip.showJournal (c : Chip) (m : Tbl Byte) : Chip :=
  let j := journal m
  let c1 := ((c.set Reg.UPD_JOURNAL_FW_BANK 0 ((j.map Journal.fwBank).getD 0)).set Reg.UPD_JOURNAL_SET_BANK 0 ((j.map Journal.setBank).getD 0)).set
    Reg.UPD_JOURNAL_CTR_COUNTER 0 ((j.map Journal.counter).getD 0)
  (c1.set Reg.UPD_JOURNAL_COPY1_VALID 0 (flag (!(journalCopy m 0).isEmpty))).set Reg.UPD_JOURNAL_COPY2_VALID 0 (flag (!(journalCopy m 1).isEmpty))

/-- How a journal commit ends (R596): the copy whose program or read-back fails, 0 when both succeed. -/
def Chip.commitJournal (c : Chip) (m : Tbl Byte) (j : Journal) (cause fails : Nat) : Chip × Tbl Byte :=
  let m1 := if fails = 1 then m else programJournal m 0 j cause
  let m2 := if fails = 0 then programJournal m1 1 j cause else m1
  (c.showJournal m2, m2)

/-! ## The key table (R597) -/

/-- The bytes of a key table copy before its CRC. -/
def keyTableLen : Nat := 1552

/-- A valid key table copy: its counter and its bytes. -/
def keyCopy (m : Tbl Byte) (k : Nat) : Option (Nat × List Byte) :=
  let b := memRead (keySectorMem m (2 + k)) (keySector (2 + k)) (keyTableLen + 4)
  if u32 b 0 = 0x544B4B59 ∧ u32 b keyTableLen = crcBytes (b.take keyTableLen) then some (u32 b 4, b.take keyTableLen) else none

/-- The key table in force: the valid copy with the higher counter. -/
def keyTable (m : Tbl Byte) : Option (Nat × List Byte) :=
  match keyCopy m 0, keyCopy m 1 with
  | some a, some b => if a.1 < b.1 then some b else some a
  | some a, none => some a
  | none, o => o

/-- The entry of a key slot: its ceiling and its key, when it is in use. -/
def keyEntry (m : Tbl Byte) (slot : Nat) : Option (Nat × List Byte) :=
  match keyTable m with
  | none => none
  | some (_, b) =>
    let e := bytesAt b (16 + 64 * slot) 64
    if u8 e 1 = 1 then some (u8 e 2, bytesAt e 32 32) else none

/-- The registers of the key table (R613). -/
def Chip.showKeys (c : Chip) (m : Tbl Byte) : Chip :=
  let mask := fun (n k : Nat) => ((List.range k).map (fun i => if (keyEntry m (n + i)).isSome then 2 ^ i else 0)).sum
  if (keyTable m).isNone then (c.set Reg.UPD_KEYS_SESSION 0 0).set Reg.UPD_KEYS_SETTINGS 0 0
  else (c.set Reg.UPD_KEYS_SESSION 0 (mask 0 16)).set Reg.UPD_KEYS_SETTINGS 0 (mask 16 8)

/-- The key table with an entry written: its bytes with the CRC. -/
def keyTableWith (m : Tbl Byte) (slot : Nat) (inUse : Bool) (ceiling : Nat) (key : List Byte) : List Byte :=
  let old := keyTable m
  let entry := beBytes 1 slot ++ beBytes 1 (flag inUse) ++ beBytes 1 ceiling ++ List.replicate 29 0 ++ key
  let head := beBytes 4 0x544B4B59 ++ beBytes 4 ((match old with | some o => o.1 | none => 0) + 1) ++ List.replicate 8 0
  let entries := (List.range 24).flatMap (fun i => if i = slot then entry
    else match old with
      | some o => bytesAt o.2 (16 + 64 * i) 64
      | none => beBytes 1 i ++ List.replicate 63 0)
  head ++ entries ++ beBytes 4 (crcBytes (head ++ entries))

/-- Writes the key table: the older copy first, then the other (R597). `fails`: the program that fails, first or second; 0 for none. -/
def writeKeyTable (m : Tbl Byte) (b : List Byte) (fails : Nat) : Tbl Byte :=
  let older : Nat := match keyCopy m 0, keyCopy m 1 with
    | some x, some y => if x.1 ≤ y.1 then 0 else 1
    | some _, none => 1
    | none, _ => 0
  let put := fun (a : Tbl Byte) (k : Nat) => memWrite (eraseRange a (keySector (2 + k)) 65536) (keySector (2 + k)) b
  if fails = 1 then eraseRange m (keySector (2 + older)) 65536 else if fails = 2 then put m older else put (put m older) (1 - older)

/-! ## Images (R494 to R500) -/

/-- Whether the signer and the signature of a manifest are accepted (R497). -/
def authOk (m : Tbl Byte) (kind : Nat) (b : List Byte) : Bool :=
  let signed := b.take 65472
  let key := bytesAt b 32 32
  if u8 b 7 = 1 then
    edVerify key signed (bytesAt b 65472 64) &&
      (sha512 key == Config.rootKeyHash || (kind == 2 && (List.range 8).any (fun i => (keyEntry m (16 + i)).map Prod.snd == some key)))
  else kind == 2 && u8 b 7 == 2 && bytesAt b 65472 64 == hmac Config.deviceKey signed ++ List.replicate 32 0

/-- Checks 1 to 3 of R496 on a manifest: the code of the first that fails. -/
def manifestCode (kind : Nat) (b : List Byte) : Option Nat :=
  firstCode [
    (!(u32 b 0 == 0x544B4D46 && u16 b 4 == 1 && u8 b 6 == kind && within (u32 b 20) 1 (if kind = 1 then 767 else 255) && within (u32 b 24) 1 65536), 1),
    (u32 b 8 != 0x544B1024, 2), (!(decide (u32 b 12 ≤ 0x0B00) && decide (0x0B00 ≤ u32 b 16)), 3)]

/-- The CRC-32C of data block `k` (from 1) that a manifest gives. -/
def entryCrc (b : List Byte) (k : Nat) : Nat := u32 b (64 + 68 * (k - 1))

/-- The SHA-512 of data block `k` that a manifest gives. -/
def entrySha (b : List Byte) (k : Nat) : List Byte := bytesAt b (68 + 68 * (k - 1)) 64

/-- The settings body of a bank (R498). -/
def bankBody (m : Tbl Byte) (bank : Nat) : List Byte :=
  let b := manifest m 2 bank
  memRead m (flashBase + bankOffset 2 bank + blockBytes) (blockBytes * (u32 b 20 - 1) + u32 b 24)

/-- The sections of a settings body from an offset (R499, R500): types with their optional bit, and bodies; none where the structure fails. -/
def sectionsFrom (b : List Byte) : Nat → Nat → Nat → Option (List (Nat × List Byte))
  | 0, off, _ => if off = b.length then some [] else none
  | n + 1, off, low =>
    let len := u32 b (off + 4)
    let stop := off + 8 + ceilDiv len 8 * 8
    let ty := u16 b off
    if b.length < stop ∨ ty % 32768 < low ∨ u8 b (off + 2) ≠ 1 ∨ u8 b (off + 3) ≠ 0 ∨ zeroAt b (off + 8 + len) (stop - off - 8 - len) = false then none
    else (sectionsFrom b n stop (ty % 32768 + 1)).map (fun r => (ty, bytesAt b (off + 8) len) :: r)

/-- The structure of a settings body (R498 to R500): its label and its sections. -/
def readBody (b : List Byte) : Option (List Byte × List (Nat × List Byte)) :=
  let len := u32 b 8
  if u32 b 0 = 0x544B5354 ∧ u16 b 4 = 1 ∧ u16 b 6 ≤ 512 ∧ zeroAt b 12 4 = true ∧ 48 ≤ len ∧ b.length = len then
    (sectionsFrom b (u16 b 6) 48 0).map (fun s => (bytesAt b 16 32, s))
  else none

/-- The code of R496 with which a bank fails, 0 when it verifies. `fails`: a read of the flash does not complete. -/
def bankCode (m : Tbl Byte) (kind bank : Nat) (fails : Bool) : Nat :=
  let b := manifest m kind bank
  match manifestCode kind b with
  | some k => k
  | none =>
    let ks := (List.range (u32 b 20)).map (fun i => i + 1)
    (firstCode [(!(authOk m kind b), 4), (ks.any (fun k => crcBytes (bankBlock m kind bank k) != entryCrc b k), 5),
      (ks.any (fun k => sha512 (bankBlock m kind bank k) != entrySha b k), 6), (kind == 2 && (readBody (bankBody m bank)).isNone, 7), (fails, 8)]).getD 0

/-! ## Activations (R605 to R609) -/

/-- The load of a kind: 1 firmware, 2 settings. -/
def Chip.load (c : Chip) (kind : Nat) : Load := if kind = 1 then c.upd.fw else c.upd.set

/-- Changes the load of a kind. -/
def Chip.modLoad (c : Chip) (kind : Nat) (f : Load → Load) : Chip :=
  { c with upd := if kind = 1 then { c.upd with fw := f c.upd.fw } else { c.upd with set := f c.upd.set } }

/-- The result of the last activation, arm or SAVE (R613). -/
def Chip.lastResult (c : Chip) (code cause : Nat) : Chip := (c.set Reg.UPD_LAST_RESULT_CODE 0 code).set Reg.UPD_LAST_RESULT_CAUSE 0 cause

/-- The activation under way begins to revert (R608). -/
def Chip.startRevert (c : Chip) (cause ty code : Nat) : Chip :=
  { c with upd := { c.upd with act := c.upd.act.map (fun a => { a with state := 5, why := some (cause, ty, code) }) } }

/-- The revert is complete (R608, R609): the armed kinds return to IDLE, the old images run, the requests that waited are processed. -/
def Chip.endRevert (c : Chip) (a : Activation) (cause ty code : Nat) : Chip :=
  let c1 := ([1, 2] : List Nat).foldl (fun x k => if (x.load k).state = .armed then x.modLoad k (fun _ => Load.idle) else x) c.releaseCores
  let c2 : Chip := { c1 with upd := { c1.upd with act := none } }
  let c3 := (((c2.mark Reg.UPD_STATUS_REVERT_SEEN).count Reg.UPD_COUNTS_REVERTS 0 1).set Reg.UPD_T_ACTIVATE_US 0 ((c.now - a.startedAt) / 27000)).lastResult 0x1409 cause
  (c3.event Ev.updateReverted [cause * 16777216 + ty, code]).opDone a.slot a.session a.reqSeq (statusOf 0x1409 cause)

/-- Every notice of what has applied while the service cores were down follows now, in order of application (R565). -/
def Chip.sendKept (c : Chip) : Chip :=
  c.flt.notices.foldl (fun a n => a.noticeTo n.1 n.2.1 n.2.2.1 n.2.2.2) { c with flt := { c.flt with notices := [] } }

end Sys2Proof.Machine
end

