-- ==== Sys2Proof/Machine/BootOps.lean ====
section
/-! DEFINITION. Shared operations of start-up (R489 to R517): the reset of the device, the choice of the banks, putting sections in force, and the loss of what the
firmware refuses. -/

namespace Sys2Proof.Machine

/-! ## Reset (R489, R490) -/

/-- What a reset leaves of a memory: the flash. -/
def flashOnly (m : Tbl Byte) : Tbl Byte := m.filter (fun e => decide (flashBase ≤ e.1) && decide (e.1 < flashBase + 0x10000000))

/-- The drives keep their recordings through a reset (R468, R490). -/
def CapSt.kept (x : CapSt) : CapSt := { CapSt.reset with drives := x.drives, store := x.store, sets := x.sets, headers := x.headers }

/-- The device enters reset for a cause (R489: 1 power-on, 2 pin, 4 command): every block is reset but the OTP, the flash, the management target and what the drives hold, and
its outputs take their states in reset (R665). -/
def Chip.resetFor (c : Chip) (cause : Nat) : Chip :=
  let causes := if c.run = .inReset then c.boot.causes else 0
  let c1 : Chip := { Chip.reset with
    now := c.now, free := c.free, sent := c.sent, run := .inReset, released := c.now,
    boot := { BootSt.reset with causes := causes ||| cause },
    cap := c.cap.kept, pin := c.pin,
    pwr := { PwrSt.reset with alert := c.pwr.alert, railLow := c.pwr.railLow, tripped := c.pwr.tripped, due := c.pwr.due } }
  let c2 := if c.isSet Reg.PWR_STATUS_TRIP_SEEN 0 then c1.mark Reg.PWR_STATUS_TRIP_SEEN else c1
  ([9, 10, 11, 12] : List Nat).foldl (fun a n => a.emit (.pin n false a.now)) ((c2.emit (.pin 6 true c.now)).emit (.pin 7 true c.now))

/-- The reset of the device with its memories. -/
def Chip.inReset (c : Chip) (m : Tbl Byte) (cause : Nat) : Chip × Tbl Byte := (c.resetFor cause, flashOnly m)

/-- Runs a command that takes effect whether or not the module runs, and reaches the memories. -/
def actMemAlways (t : Nat) (s : State) (f : Chip → Tbl Byte → Chip × Tbl Byte) : Host.Outcome State Fault Refusal :=
  let r := f (s.chip.begin t) s.mem
  .next { s with mem := r.2, chip := { r.1 with now := max s.chip.now t } }

/-! ## The banks (R506) -/

/-- `BOOT.FAIL` of a bank: kind 1 firmware, 2 settings; bank 1 A, 2 B. -/
def failField (kind bank : Nat) : Fld :=
  if kind = 1 then (if bank = 1 then Reg.BOOT_FAIL_FW_A else Reg.BOOT_FAIL_FW_B) else if bank = 1 then Reg.BOOT_FAIL_SET_A else Reg.BOOT_FAIL_SET_B

/-- Verifies a bank and shows its code (R496). -/
def Chip.verifyBank (c : Chip) (m : Tbl Byte) (kind bank : Nat) (fails : List Nat) : Chip :=
  c.set (failField kind bank) 0 (bankCode m kind bank (fails.contains (bank - 1)))

/-- The code shown for a bank. -/
def Chip.bankFail (c : Chip) (kind bank : Nat) : Nat := c.fld (failField kind bank) 0

/-- The bank of a kind that the journal makes active, A without a journal (R506). -/
def activeBank (m : Tbl Byte) (kind : Nat) : Nat :=
  match journal m with
  | some j => let b := if kind = 1 then j.fwBank else j.setBank; if b = 2 then 2 else 1
  | none => 1

/-- A settings bank is in use: its generation, its sections and its label. -/
def Chip.useSettings (c : Chip) (m : Tbl Byte) (bank : Nat) : Chip :=
  let b := (readBody (bankBody m bank)).getD ([], [])
  let c1 := (c.set Reg.BOOT_STATUS_SET_BANK 0 bank).set Reg.BOOT_SET_GEN_GEN 0 (u32 (manifest m 2 bank) 28)
  { c1 with boot := { c1.boot with label := b.1, sections := b.2 } }

/-- The choice of the settings bank (R506). -/
def Chip.chooseSettings (c : Chip) (m : Tbl Byte) (fails : List Nat) : Chip :=
  let a := activeBank m 2
  let o := 3 - a
  let c1 := c.verifyBank m 2 a fails
  if c1.bankFail 2 a = 0 then c1.useSettings m a
  else
    let c2 := c1.verifyBank m 2 o fails
    if c2.bankFail 2 o = 0 then
      ((c2.useSettings m o).set Reg.BOOT_STATUS_SET_FALLBACK 0 1).event Ev.bootSettingsFallback [o + 16 * c2.bankFail 2 a]
    else c2.event Ev.bootNoSettings [c2.bankFail 2 1 + 16 * c2.bankFail 2 2]

/-- ROM recovery begins (R515): its host ports start. -/
def Chip.enterRecovery (c : Chip) (strap : Bool) : Chip :=
  let c1 := (c.set Reg.BOOT_STATUS_PHASE 0 4).event Ev.bootRecovery [c.bankFail 1 1 + 16 * c.bankFail 1 2 + 256 * flag strap]
  (List.range 8).foldl (fun a i => a.laneAsk (128 + i) false) c1

/-- A firmware bank is started. -/
def Chip.startFw (c : Chip) (m : Tbl Byte) (bank : Nat) : Chip :=
  (c.set Reg.BOOT_STATUS_FW_BANK 0 bank).set Reg.BOOT_FW_GEN_GEN 0 (u32 (manifest m 1 bank) 28)

/-- The other firmware bank is tried after one has failed; ROM recovery when it fails too (R506). -/
def Chip.otherFw (c : Chip) (m : Tbl Byte) (bank : Nat) (fails : List Nat) : Chip :=
  let o := 3 - bank
  let c1 := c.verifyBank m 1 o fails
  if c1.bankFail 1 o = 0 then
    ((c1.startFw m o).set Reg.BOOT_STATUS_FW_FALLBACK 0 1).event Ev.bootFwFallback [o + 16 * c1.bankFail 1 bank]
  else (c1.set Reg.BOOT_STATUS_FW_BANK 0 0).enterRecovery false

/-- The journal is read and the settings bank chosen (step 3 of R507). -/
def Chip.readBanks (c : Chip) (m : Tbl Byte) (fails : List Nat) : Chip :=
  let c1 := if (journal m).isNone then (c.set Reg.BOOT_STATUS_JOURNAL_LOST 0 1).event Ev.bootJournalLost [] else c
  let c2 := (c1.showJournal m).chooseSettings m fails
  let c3 : Chip := { c2 with boot := { c2.boot with booted := true, lo := true } }
  if c3.isSet Reg.BOOT_RESET_CAUSE_RECOVER 0 then c3.enterRecovery true else c3

/-! ## Sections in force (R501 to R504) -/

/-- The pilot sections (R501). -/
def pilotTypes : List Nat := [tyTick, tySources, tyDests, tyPilotRoutes, tyMacPorts, tyMacAddrs, tyLanes, tySdi, tyEntries, tyRefs, tyBoot]

/-- The sections that the firmware puts in force once it has checked them: those of blocks that run during pilot service (R511). -/
def earlyTypes : List Nat := [tyMacGates, tySplice, tyOutputs, tyPtp, tySpl, tySplPorts, tySplDomains, tyTwin, tyLan, tyFlt, tyLog, tyFab, tyPwr]

/-- The type of a section without its optional bit. -/
def plainType (ty : Nat) : Nat := ty % 32768

/-- A record of a section is put in force at a start: a destination stands in its domain at once, a port's links wait for their lanes, and routes and layouts apply at
their ticks. -/
def Chip.bootRecord (c : Chip) (ty i : Nat) (r : List Byte) : Chip :=
  if ty = tyDests then (c.setRec ty i r).modDst i (fun x => { x with td := u8 r 2 })
  else if ty = tyMacPorts then (c.setRec ty i r).writePort i
  else if ty = tyRoutes ∨ ty = tyPilotRoutes ∨ ty = tyLayouts then c.setRec ty i r
  else c.applyRecordOf ty i i r []

/-- Puts records in force, those that are in force already aside. -/
def Chip.putInForce (c : Chip) (l : Tbl (List Byte)) : Chip :=
  l.foldl (fun a e =>
    let ty := e.1 / 1048576
    let i := e.1 % 1048576
    if a.record ty i = e.2 then a else a.bootRecord ty i e.2) c

/-- A section that has failed (R503). -/
def Chip.sectionFailed (c : Chip) (f : SectionFail) : Chip :=
  (c.count Reg.BOOT_STATUS_SECTIONS_FAILED 0 1).event Ev.setSectionFailed [f.1 * 65536 + f.2.1, f.2.2]

/-- The sections of a bank whose type the device does not know: an optional one is ignored, another fails (R499, R502). -/
def Chip.unknownSections (c : Chip) (ss : List (Nat × List Byte)) : Chip :=
  (ss.filter (fun s => !(allTypes.contains (plainType s.1)))).foldl (fun a s =>
    if 32768 ≤ s.1 then a.event Ev.setSectionIgnored [s.1] else a.sectionFailed (s.1, 0x1004, 0xFFFFFFFF)) c

/-- The firmware checks every section (R502 to R504): the records to put in force wait for their instants, and a pilot section that the ROM accepted and the firmware does not
stays in force until the first ticks of full service. -/
def Chip.checkAll (c : Chip) : Chip :=
  let ss := c.boot.sections.map (fun s => (plainType s.1, s.2))
  let r := c.checkSections ss
  let c1 := r.2.foldl (fun a f => a.sectionFailed f) (c.unknownSections c.boot.sections)
  let failed := (r.2.map Prod.fst).filter (fun ty => pilotTypes.contains ty && c.listed ty != [])
  let swap := ({ c1 with cfg := r.1.cfg } : Chip).requestSwap
  { c1 with
    arb := swap.arb,
    boot := { c1.boot with next := r.1.cfg, checked := true, dropDue := failed.flatMap (fun ty => ([0, 1, 2, 3] : List Nat).map (fun td => (ty, td))) } }

/-! ## Pilot sections that the firmware refuses (R504) -/

/-- A binding of SDI ends. -/
def Chip.dropSdi (c : Chip) (i : Nat) : Chip :=
  let o := c.record tySdi i
  let c1 := (sdiSpan o).foldl (fun a n => a.stopReceiver n) c
  let c2 := (sdiSpan o).foldl (fun a n =>
    (((a.set Reg.LNE_L_SDI_TX_RATE (sdiLane n) 0).set Reg.LNE_L_SDI_TX_FRACT (sdiLane n) 0).set Reg.LNE_L_SDI_GROUP (sdiLane n) 0).modLane (sdiLane n)
      (fun x => { x with tx := none })) (c1.setRec tySdi i [])
  let c3 := (sdiSpan o).foldl (fun a n => (a.clearLane (sdiLane n)).laneAsk (sdiLane n) false) c2
  if bit (u8 o 2) 0 then c3.rebound (u16 o 4) else c3

/-- The registers of a domain return to the values without a section. -/
def Chip.dropDomain (c : Chip) (td : Nat) : Chip :=
  [Reg.TICK_TD_CFG_ENABLE td, Reg.TICK_TD_CFG_RATE td, Reg.TICK_TD_CFG_REF_ENTRY td, Reg.TICK_TD_CFG_SPLICE td, Reg.TICK_TD_CFG_AUTO_FIRST td,
    Reg.TICK_TD_OUT_DELAY_DELAY_NS td, Reg.TICK_TD_WINDOW_LEAD_MIN td, Reg.TICK_TD_WINDOW_LEAD_MAX td, Reg.TICK_TD_PHASE_LIMIT_LIMIT_NS td].foldl
    (fun a f => a.set f 0 f.reset) (c.setRec tyTick td [])

/-- A record of a refused pilot section ends, at the first tick of full service of domain `td`: what belongs to a domain at that domain's tick, the rest at that of TD0. -/
def Chip.dropRecord (c : Chip) (ty td i : Nat) : Chip :=
  if ty = tyTick then (if i = td then c.dropDomain td else c)
  else if ty = tyDests then
    (if c.dstTd i = td then
      ((c.setRec ty i []).modDst i (fun x => { x with td := 0 })).eachLevel (fun a l => match a.route i l with | some r => a.serveLevel i l r.src r.dev | none => a)
     else c)
  else if ty = tyPilotRoutes then
    (if c.dstTd i = td then
      let src := u16 (c.record ty i) 2
      let mine := (levelsOf (u8 (c.record ty i) 4)).filter (fun l => c.xpt.pilotSet.contains (i * 4 + l) && c.routeSrc i l == src)
      let c1 := mine.foldl (fun a l => (a.setRoute i l none).modDst i (fun x => x.withLvl l ⟨.normal, .none, .none⟩)) (c.setRec ty i [])
      { c1 with
        xpt := { c1.xpt with pilotSet := c1.xpt.pilotSet.filter (fun k => !(mine.contains (k % 4) && k / 4 == i)) },
        boot := { c1.boot with pilotDue := c1.boot.pilotDue.filter (fun k => k / 4 != i) } }
     else c)
  else if ty = tySdi then
    (if td = (if bit (u8 (c.record ty i) 2) 1 then c.dstTd (u16 (c.record ty i) 6) else 0) then c.dropSdi i else c)
  else if td ≠ 0 then c
  else if ty = tySources then ((c.setRec ty i []).set Reg.XPT_SRC_CFG_MODE i Reg.XPT_SRC_CFG_MODE.reset).set Reg.XPT_SRC_CFG_LOSS_FRAMES i Reg.XPT_SRC_CFG_LOSS_FRAMES.reset
  else if ty = tyMacPorts then (c.changePort i (({ c with cfg := Tbl.del c.cfg (cfgKey ty i) } : Chip).macRec i)).setRec ty i []
  else if ty = tyEntries then (c.setRec ty i []).refChanged i (c.record ty i)
  else c.setRec ty i []

/-- The refused pilot sections are absent from the first tick of full service in a domain (R504). -/
def Chip.dropSections (c : Chip) (td : Nat) : Chip :=
  let due := (c.boot.dropDue.filter (fun e => e.2 == td)).map Prod.fst
  let c1 := due.foldl (fun a ty => (a.listed ty).foldl (fun b i => b.dropRecord ty td i) a) c
  { c1 with boot := { c1.boot with dropDue := c1.boot.dropDue.filter (fun e => e.2 != td) } }

end Sys2Proof.Machine
end

