-- ==== Sys2Proof/Machine/Boot.lean ====
section
/-! DEFINITION. Reset and start-up (R489 to R517), and the loss of LO_CLK (R347, R567). -/

namespace Sys2Proof.Machine

/-! ## Reset causes (R489, R517) -/

/-- POWER_ON (R489): every block but the OTP and the flash is new; the rails have returned. -/
def execPowerOn (t : Nat) (s : State) : Host.Outcome State Fault Refusal :=
  actMemAlways t s (fun c m =>
    let r := c.inReset m 1
    ({ r.1 with pwr := { r.1.pwr with railLow := false },
                pin := { PinSt.reset with resetLow := c.pin.resetLow, warnLow := c.pin.warnLow } }, r.2))

/-- RESET_PIN (R489): RESET_N low holds the device in reset until it rises. -/
def execResetPin (t : Nat) (low : Bool) (s : State) : Host.Outcome State Fault Refusal :=
  actMemAlways t s (fun c m =>
    if low then
      let r := c.inReset m 2
      ({ r.1 with pin := { r.1.pin with resetLow := true } }, r.2)
    else ({ c with pin := { c.pin with resetLow := false } }, m))

/-- A write of `COLD_RESET` (R517): only with the right key. -/
def Chip.coldReset (c : Chip) (m : Tbl Byte) (key : Nat) : Chip × Tbl Byte := if key = 0xC0DE then c.inReset m 4 else (c, m)

/-- COLD_RESET (R489, R517). -/
def execColdReset (t : Nat) (key : Fin 65536) (s : State) : Host.Outcome State Fault Refusal := actMem t s (fun c m => c.coldReset m key)

/-- The start of the module at reset release, up to the search for LO_CLK (steps 1 and 2 of R507): causes, strap, time, the recorder's first record (R587) and what follows it
(R468, R651). -/
def Chip.release (c : Chip) (m : Tbl Byte) (recoveryLow : Bool) : Chip × Tbl Byte :=
  let causes := c.boot.causes ||| (if recoveryLow then 8 else 0)
  let c1 : Chip := { c with
    run := .running, released := c.now, clock := { Clock.reset with baseAt := c.now }, boot := { c.boot with causes := causes } }
  let c2 := (((c1.set Reg.BOOT_RESET_CAUSE_POWER_ON 0 (causes % 2)).set Reg.BOOT_RESET_CAUSE_PIN 0 (causes / 2 % 2)).set Reg.BOOT_RESET_CAUSE_COMMAND 0
    (causes / 4 % 2)).set Reg.BOOT_RESET_CAUSE_RECOVER 0 (causes / 8 % 2)
  let r := c2.startLog m
  let c3 := r.1.pwr.due.foldl (fun (a : Chip) e => a.event (if e.1 then Ev.pwrThermTrip else Ev.pwrRailLow) [e.2.1, e.2.2]) r.1
  let c4 := (c3.interruptSets 1).showKeys r.2
  ({ c4 with pwr := { c4.pwr with due := [] }, boot := { c4.boot with causes := 0 } }, r.2)

/-- RESET_RELEASE (R489 to R491, R506, R507, R510): every reset cause has ended and every rail stands within its limits. -/
def execResetRelease (t : Nat) (recoveryLow lo : Bool) (fails : List (Fin 2)) (s : State) : Host.Outcome State Fault Refusal :=
  actMemAlways t s (fun c m =>
    if (c.run = .inReset ∨ (c.run = .running ∧ c.boot.booted = false)) ∧ c.pin.resetLow = false ∧ c.pwr.railLow = false ∧ c.pwr.tripped = false then
      let r := c.release m recoveryLow
      if lo then (r.1.readBanks r.2 (fails.map Fin.val), r.2)
      else ((({ r.1 with boot := { r.1.boot with lo := false } } : Chip).set Reg.BOOT_STATUS_LO_WAIT 0 1).set Reg.REFS_STATUS_LO_OK 0 0, r.2)
    else (c, m))

/-- LO_CLK_PRESENT (R510): the steps of the start continue. -/
def execLoClkPresent (t : Nat) (fails : List (Fin 2)) (s : State) : Host.Outcome State Fault Refusal :=
  actMem t s (fun c m =>
    if c.boot.lo = false ∧ c.boot.booted = false then (((c.set Reg.BOOT_STATUS_LO_WAIT 0 0).set Reg.REFS_STATUS_LO_OK 0 1).readBanks m (fails.map Fin.val), m) else (c, m))

/-! ## Pilot service (R507, R511, R512) -/

/-- The domains, the house sample tick and the slot frame start (step 5 of R507). -/
def Chip.startTiming (c : Chip) : Chip :=
  let c1 := ([0, 1, 2, 3] : List Nat).foldl (fun a td => a.modDom td (fun x => { x with
    rate := a.tdRate td, outDelay := a.fld (Reg.TICK_TD_OUT_DELAY_DELAY_NS td) 0, leadMin := a.fld (Reg.TICK_TD_WINDOW_LEAD_MIN td) 0,
    leadMax := a.fld (Reg.TICK_TD_WINDOW_LEAD_MAX td) 0, entry := a.fld (Reg.TICK_TD_CFG_REF_ENTRY td) 0, splice := a.isSet (Reg.TICK_TD_CFG_SPLICE td) 0,
    nextTick := c.now, arriving := true })) c
  { c1 with tick := { c1.tick with running := true, samples := 0, sampleAt := c.now, slotFrames := 0, slotAt := c.now, seqNext := 0 } }

/-- FREE_RUNNING_TIMING_START (R55, R504, R507): the pilot sections that pass the boot ROM's checks are in force. What fails them is absent, and is recorded when the firmware
fails it too (R503). -/
def execFreeRunningTimingStart (t : Nat) (s : State) : Host.Outcome State Fault Refusal :=
  act t s (fun c =>
    if c.boot.booted = true ∧ c.boot.lo = true ∧ c.tick.running = false then
      let ss := (c.boot.sections.map (fun s => (plainType s.1, s.2))).filter (fun s => pilotTypes.contains s.1)
      let c1 := (c.putInForce (c.checkSections ss).1.cfg).startTiming
      { c1 with boot := { c1.boot with
        timing := true,
        pilotDue := (c1.listed tyPilotRoutes).flatMap (fun d => (levelsOf (u8 (c1.record tyPilotRoutes d) 4)).map (fun l => d * 4 + l)) } }
    else c)

/-- Pilot service begins (step 7 of R507): a start in ROM recovery stays in its phase (R515). -/
def Chip.startPilot (c : Chip) : Chip :=
  let us := c.uptime / 1000
  let c1 := (({ c with boot := { c.boot with pilotAt := some c.now } } : Chip).set Reg.BOOT_T_PILOT_US 0 us).event Ev.bootPilot [us]
  (if c1.phase = 4 then c1 else c1.set Reg.BOOT_STATUS_PHASE 0 1).showIdle

/-- PILOT_SERVICE_START (R506, R507, R515): the firmware is verified. In ROM recovery pilot service runs as long as the settings bank verifies. -/
def execPilotServiceStart (t : Nat) (fails : List (Fin 2)) (s : State) : Host.Outcome State Fault Refusal :=
  actMem t s (fun c m =>
    if c.boot.timing = true ∧ c.boot.pilotAt = none then
      let a := activeBank m 1
      let c1 := if c.phase = 4 then c else c.verifyBank m 1 a (fails.map Fin.val)
      let c2 := if c1.phase = 4 then c1 else if c1.bankFail 1 a = 0 then c1.startFw m a else c1.otherFw m a (fails.map Fin.val)
      (if c2.phase = 4 ∧ c2.fld Reg.BOOT_STATUS_SET_BANK 0 = 0 then c2 else c2.startPilot, m)
    else (c, m))

/-! ## The firmware (R38, R502, R507) -/

/-- The processors run: the remap bit is set, the Ethernet and splice lanes start, and every section is checked. -/
def Chip.releaseProcessors (c : Chip) : Chip :=
  let c1 := c.checkAll
  let c2 := c1.putInForce (c1.boot.next.filter (fun e => earlyTypes.contains (e.1 / 1048576)))
  let c3 := (List.range 152).foldl (fun a l => a.laneAsk l false) c2
  { c3.set Reg.FAB_CTRL_REMAP 0 1 with boot := { c3.boot with released := true }, fab := { c3.fab with remap := true, held := [] } }

/-- PROCESSORS_RELEASED (R38, R506, R507): a bank whose image fails is abandoned, and the other is tried. -/
def execProcessorsReleased (t : Nat) (ok : Bool) (fails : List (Fin 2)) (s : State) : Host.Outcome State Fault Refusal :=
  actMem t s (fun c m =>
    if c.phase = 1 ∧ c.boot.released = false then
      if ok then (c.releaseProcessors, m)
      else
        let b := c.fld Reg.BOOT_STATUS_FW_BANK 0
        let c1 := c.set (failField 1 b) 0 9
        (if c.isSet Reg.BOOT_STATUS_FW_FALLBACK 0 then (c1.set Reg.BOOT_STATUS_FW_BANK 0 0).enterRecovery false else c1.otherFw m b (fails.map Fin.val), m)
    else (c, m))

/-! ## Full service (R508, R509) -/

/-- The conditions of R508 that are not met, as `BOOT_LATE` gives them. -/
def Chip.unmet (c : Chip) : Nat := flag (!c.boot.released) + 2 * flag (!c.fst.ready) + 4 * flag (!c.boot.checked) + 8 * flag (!c.boot.swapped)

/-- FULL_SERVICE_START (R508): instant F. Every accepted section is in force, and the drives leave their reset (R459). -/
def execFullServiceStart (t : Nat) (s : State) : Host.Outcome State Fault Refusal :=
  act t s (fun c =>
    if c.phase = 1 ∧ c.unmet = 0 then
      let us := c.uptime / 1000
      let c1 := ((({ c with boot := { c.boot with fullAt := some c.now } } : Chip).set Reg.BOOT_STATUS_PHASE 0 2).set Reg.BOOT_T_FULL_US 0 us).event
        Ev.bootFullService [us]
      let c2 := c1.putInForce c1.boot.next
      c2.enabledDrives.foldl (fun a l => a.emit (.pin (9 + l) true a.now)) { c2 with boot := { c2.boot with next := [] } }
    else c)

/-- The entries of `XPT_ROUTES` for the destinations of a domain, on the levels that pilot service has not set (R103, R107). -/
def Chip.sectionRoutes (c : Chip) (td : Nat) : Chip :=
  ((c.listed tyRoutes).filter (fun d => c.dstTd d == td)).foldl (fun a d =>
    let r := a.record tyRoutes d
    let s := u16 r 2
    let ls := (levelsOf (u8 r 4)).filter (fun l => !(a.xpt.pilotSet.contains (d * 4 + l)))
    let mask := (ls.map (fun l => 2 ^ l)).sum
    if mask = 0 then a
    else match a.checkTake ⟨d, s, 0xFFFF, mask⟩ none none with
      | some code => a.event Ev.xptRouteSkipped [d * 65536 + s, code + mask * 65536]
      | none => ls.foldl (fun b l => b.serveLevel d l s none) a) c

/-- The drives as found when the store starts (R457 to R459). The recordings on drives of another store are not this module's. -/
def Chip.findDrives (c : Chip) (fs : List DriveFact) : Chip :=
  let c1 := (fs.filter (fun f => c.enabledDrives.contains f.link)).foldl (fun a f =>
    let b := a.modDrive f.link (fun _ => { present := true, failed := !f.meets, label := f.label, extents := f.extents, width := f.width, gen := f.gen })
    if f.meets then b else (b.mark Reg.CAP_STATUS_DRIVE_FAIL_SEEN).event Ev.capDriveFail [f.link + 16, 0]) { c with cap := { c.cap with drives := [] } }
  let c2 := c1.judgeStore
  match c2.enabledDrives.head? with
  | some l =>
    let id := ((c2.drive l).label).getD 0
    if c2.cap.ready = true ∧ id ≠ c2.cap.store then { c2 with cap := { c2.cap with store := id, sets := [], headers := [] } } else c2
  | none => c2

/-- FIRST_TICK_OF_FULL_SERVICE (R102, R103, R107, R110, R198, R210, R225, R504, R508): refused pilot sections end, the routes and layouts of the settings apply, held takes and
layouts are checked; in TD0 the store and the splice start. -/
def execFirstTickOfFullService (t : Nat) (td : Fin 4) (facts : List Remote) (drives : List DriveFact) (s : State) : Host.Outcome State Fault Refusal :=
  act t s (fun c =>
    match c.boot.fullAt with
    | none => c
    | some f =>
      if c.now < f + msU 1 ∨ c.fullIn td = true ∨ c.tdOn td = false then c
      else
        let c1 := (c.dropSections td).modDom td (fun x => { x with fullTick := true })
        let c2 := if td = 0 then (c1.set Reg.XPT_STATUS_PILOT 0 0).findDrives drives else c1
        let c3 := (c2.sectionRoutes td).sectionLayouts td
        let c4 := ((Chip.releaseHeld td 16384 [] facts c3).releaseLayouts td).releaseAudio
        ((if td = 0 then c4.followSplice false else c4).settle c))

/-- BOOT_LATE (R509). -/
def execBootLate (t : Nat) (s : State) : Host.Outcome State Fault Refusal :=
  act t s (fun c =>
    if c.boot.fullAt = none ∧ c.phase ≠ 4 ∧ c.released + secU 4 ≤ c.now ∧ c.isSet Reg.BOOT_STATUS_LATE 0 = false then
      (c.set Reg.BOOT_STATUS_LATE 0 1).event Ev.bootLate [c.unmet]
    else c)

/-- Every held take, salvo, audio take and layout is refused with `BOOT_NO_FULL` (R509). -/
def Chip.refuseHeld (c : Chip) : Chip :=
  let st := statusOf 0x1002 wholeIndex
  let held := c.xpt.queue.filter (fun q => q.held)
  let c1 : Chip := { c with
    xpt := { c.xpt with queue := c.xpt.queue.filter (fun q => !q.held), audQueue := c.xpt.audQueue.filter (fun q => !q.held) },
    cmp := { c.cmp with layouts := c.cmp.layouts.filter (fun y => !y.held) } }
  let c2 := (dedup (held.map Take.id)).foldl (fun (a : Chip) k =>
    match held.find? (fun q => q.id == k) with
    | some q => a.noticeTo q.slot q.session 0x8002 (beBytes 8 k ++ beBytes 4 st)
    | none => a) c1
  let c3 := (c.xpt.audQueue.filter (fun q => q.held)).foldl (fun (a : Chip) q => a.noticeTo q.slot q.session 0x8002 (beBytes 8 q.id ++ beBytes 4 st)) c2
  ((c.cmp.layouts.filter (fun y => y.held)).foldl (fun (a : Chip) y =>
    a.noticeTo y.slot y.session 0x8004 (beBytes 1 y.cmp ++ beBytes 3 0 ++ bytesAt y.body 4 4 ++ beBytes 4 st)) c3).settle c

/-- PILOT_ONLY_SERVICE (R509): the frame store has failed training, or F has not come in 10 s. -/
def execPilotOnlyService (t : Nat) (s : State) : Host.Outcome State Fault Refusal :=
  act t s (fun c =>
    if c.phase = 1 ∧ (c.isSet Reg.FST_STATUS_TRAIN_FAIL 0 = true ∨ c.released + secU 10 ≤ c.now) then
      (c.set Reg.BOOT_STATUS_PHASE 0 3).refuseHeld
    else c)

/-! ## LO_CLK (R347, R360, R567) -/

/-- REF_LO_LOST (R347, R567): steps 1 to 3 of R567, then every transmitter is idle and every timing output floats, and the device waits for LO_CLK. -/
def execRefLoLost (t : Nat) (s : State) : Host.Outcome State Fault Refusal :=
  actMem t s (fun c m =>
    if c.boot.lo = true ∧ c.boot.booted = true then
      let r := ((c.event Ev.refLoLost []).releaseAct).commitAll m
      let c1 : Chip := { r.1 with
        boot := { r.1.boot with lo := false }, tick := { r.1.tick with running := false }, ref := { r.1.ref with history := [] } }
      let c2 := (((c1.set Reg.REFS_STATUS_LO_OK 0 0).set Reg.REFS_DPLL_HIST_VALID 0 0).set Reg.REFS_DPLL_HIST_S 0 0).set Reg.BOOT_STATUS_LO_WAIT 0 1 |>.showIdle
      (c2, r.2)
    else (c, m))

/-- LO_CLK_RECOVERED (R567): LO_CLK has been present for 1 s; a cold start begins. -/
def execLoClkRecovered (t : Nat) (s : State) : Host.Outcome State Fault Refusal :=
  actMem t s (fun c m => if c.boot.lo = false ∧ c.boot.booted = true then c.inReset m 4 else (c, m))

end Sys2Proof.Machine
end

