-- ==== Sys2Proof/Machine/Boundary.lean ====
section
/-! DEFINITION. The slot frame boundary: the real-time work of the slot frame that is not finished is abandoned (R55, R154, R155). -/

namespace Sys2Proof.Machine

/-- The records that abandoned work of `STAGE` loses, by channel: gap records of cause 1 (R155, R473). -/
def Chip.stageAbandoned (c : Chip) (lost : List (Fin 32 × Nat)) : Chip :=
  lost.foldl (fun a p => match a.liveSets.find? (fun i => (a.capSet i).channels.contains p.1.val) with
    | some i => a.loseRecords i p.1 1 p.2 a.uptime
    | none => a) c

/-- SLOT_FRAME_BOUNDARY (R55, R56, R154, R155): six sample ticks close a slot frame. -/
def execSlotFrameBoundary (t : Nat) (late : List (Fin 5)) (lateNs : Nat) (lost : List (Fin 32 × Nat)) (s : State) : Host.Outcome State Fault Refusal :=
  act t s (fun c =>
    if c.tick.running = true ∧ 6 * (c.tick.slotFrames + 1) ≤ c.tick.samples then
      let owners := if c.fst.ready then c.abandoned (late.map Fin.val) else []
      let c1 : Chip := { c with
        tick := { c.tick with slotFrames := c.tick.slotFrames + 1, slotAt := c.now, stretch := if (c.dom 0).arriving then c.tick.stretch else 0 },
        arb := { c.arb with catchUp := [], maskLive := c.fld Reg.ARB_RT_MASK_MASK 0 } }
      let c2 := (owners.foldl (fun a o => a.count (Reg.ARB_RT_ABANDON_COUNT (o - 1)) 0 1) c1).stageAbandoned (if owners.contains 4 then lost else [])
      if owners = [] then c2
      else ((c2.count Reg.TICK_SLOT_OVR_COUNT 0 1).mark Reg.TICK_STATUS_SLOT_OVERRUN).event Ev.tickOverrun
        [6 * 16777216, c2.tick.slotFrames, sat 32 lateNs]
    else c)

end Sys2Proof.Machine
end

