-- ==== Sys2Proof/Machine/FrameTick.lean ====
section
/-! DEFINITION. The frame ticks of the domains, their alignment, and the commands of the tick block (R44 to R76, R411 to R413, R673). -/

namespace Sys2Proof.Machine

/-! ## Phase (R47, R48, R411 to R413) -/

/-- A phase in the range (−T/2, T/2]. -/
def wrapPhase (period : Nat) (v : Int) : Int :=
  let m := v % (max period 1 : Nat)
  if (period : Int) < 2 * m then m - period else m

/-- The tick of a domain minus the bound phase origin, in units. A splice domain takes the master's tick; a CLK10 or PPS entry gives the alignment point computed from
device time; `origin` is what was measured against a pulse, an SDI input or PTP time. None while the bound origin is not qualified. -/
def Chip.tickPhase (c : Chip) (td : Nat) (origin : Option Int) : Option Int :=
  let m := c.dom td
  let p := framePeriod m.rate
  if m.splice then
    (if c.spliceLed then (Tbl.get none c.spl.ticks td).map (fun q => wrapPhase p (((c.deviceQ : Int) - (q : Int)) / 65536)) else none)
  else if c.givesOrigin m.entry td then
    (if 3 ≤ c.refType m.entry ∧ c.refType m.entry ≤ 6 then some (wrapPhase p (c.deviceQ / 65536 : Nat)) else origin.map (wrapPhase p))
  else none

/-- Sets or clears one bit of a field. -/
def Chip.setBit (c : Chip) (f : Fld) (i : Nat) (b : Bool) : Chip :=
  let v := c.fld f 0
  c.set f 0 (if b = bit v i then v else if b then v + 2 ^ i else v - 2 ^ i)

/-- Shows the phase of a domain and judges it against `TDn_PHASE_LIMIT` (R72, R74), and a splice domain's tick error (R413). -/
def Chip.showPhase (c : Chip) (td : Nat) (phase : Option Int) : Chip :=
  let ns : Option Int := phase.map (fun v => roundDiv v 27)
  let far := match ns with | some v => decide ((c.fld (Reg.TICK_TD_PHASE_LIMIT_LIMIT_NS td) 0 : Int) < v.natAbs) | none => false
  let was := bit (c.fld Reg.TICK_STATUS_PHASE_ERR 0) td
  let word := match ns with | some v => unsigned 32 v | none => 0x80000000
  let c1 := ((c.modDom td (fun m => { m with phase := phase })).set (Reg.TICK_TD_PHASE_PHASE_NS td) 0 word).setBit Reg.TICK_STATUS_PHASE_ERR td far
  let c2 := if far = true ∧ was = false then c1.event Ev.tickPhaseErr [td, word] else c1
  if (c.dom td).splice ∧ phase.isSome then
    let limit := if c.hasRec tySpl 0 then u16 (c.record tySpl 0) 4 else 500
    let bad := (c.dom td).aligned && (match ns with | some v => decide (limit < v.natAbs) | none => false)
    let c3 := c2.set (Reg.SPL_TD_TICK_ERR_NS td) 0 word
    if bad = true ∧ c.spl.tickErr.contains td = false then
      ({ c3 with spl := { c3.spl with tickErr := c3.spl.tickErr ++ [td] } } : Chip).event Ev.splTickErr [td, word]
    else if bad then c3
    else { c3 with spl := { c3.spl with tickErr := c3.spl.tickErr.filter (fun x => x != td) } }
  else c2.set (Reg.SPL_TD_TICK_ERR_NS td) 0 0x80000000

/-! ## Line window (R66, R82, R98, R258) -/

/-- One source against a ticking domain: the lead measured, the window, and the runs of ticks. -/
def Chip.measureLead (c : Chip) (td : Nat) (facts : List LeadFact) (s : Nat) : Chip :=
  let m := c.dom td
  let fact := facts.find? (fun f => f.src == s)
  let same := c.srcRate s == some m.rate
  let inside : Bool := match fact with
    | some f => same && f.locked && decide (((16 * m.leadMin : Nat) : Int) ≤ f.lead) && decide (f.early ≤ ((16 * m.leadMax : Nat) : Int))
    | none => false
  c.modSrc s (fun x => { x with
    freqLock := match fact with | some f => f.locked | none => x.freqLock,
    leads := Tbl.upd SrcLead.reset x.leads td (fun l =>
      { lead := match fact with | some f => if same then f.lead else l.lead | none => l.lead,
        inWindow := inside, inRun := if inside then l.inRun + 1 else 0, outRun := if inside then 0 else l.outRun + 1,
        rateRun := if same then l.rateRun + 1 else 0 }) })

/-- The sources that are measured at a tick: those known and those that the measurement names. -/
def Chip.measureLeads (c : Chip) (td : Nat) (facts : List LeadFact) : Chip :=
  ((dedup (c.xpt.srcs.map Prod.fst ++ facts.map LeadFact.src)).filter isExternalSrc).foldl (fun a s => a.measureLead td facts s) c

/-! ## The tick itself (R53, R68, R76, R673) -/

/-- What takes effect at a tick of a domain: the frame counter, the rate, window and binding in force, and at an aligned tick the output delay and the offset of the frame
pulse. -/
def Chip.beginFrame (c : Chip) (td : Nat) : Chip :=
  let m := c.dom td
  let rate := c.tdRate td
  let c1 := c.modDom td (fun x => { x with
    frame := (x.frame + 1) % 2 ^ 48, tickAt := c.now, nextTick := c.now + framePeriod rate, rate := rate,
    outDelay := if m.arriving then c.fld (Reg.TICK_TD_OUT_DELAY_DELAY_NS td) 0 else x.outDelay,
    leadMin := c.fld (Reg.TICK_TD_WINDOW_LEAD_MIN td) 0, leadMax := c.fld (Reg.TICK_TD_WINDOW_LEAD_MAX td) 0,
    entry := c.fld (Reg.TICK_TD_CFG_REF_ENTRY td) 0, splice := c.isSet (Reg.TICK_TD_CFG_SPLICE td) 0, arriving := false })
  let c2 := (if m.arriving then c1.alignOut td else c1).tickOut td
  if td = 0 then
    let pos := if fiveFrame rate then c.tick.seqNext else 0
    { c2 with tick := { c2.tick with seqPos := pos, seqNext := (pos + 1) % 5 } }
  else c2

/-- The lines that a domain's destinations have repeated in the frame that ends are recorded (R33). -/
def Chip.lineMisses (c : Chip) (td : Nat) : Chip :=
  (c.xpt.dsts.filter (fun e => decide (e.2.missed ≠ 0) && c.dstTd e.1 == td)).foldl (fun a e =>
    (a.event Ev.xptLineMiss [e.1 * 65536 + a.routeSrc e.1 0, e.2.missed, (c.dom td).frame]).modDst e.1 (fun x => { x with missed := 0 })) c

/-- The alignment that a tick brings, or the request that it clears (R49, R51): a first alignment when the domain is to take one and its origin is qualified. -/
def Chip.judgeAlign (c : Chip) (td : Nat) : Chip :=
  let m := c.dom td
  let first := c.isSet (Reg.TICK_TD_CFG_AUTO_FIRST td) 0 && !m.aligned && m.phase.isSome
  let auto := c.modDom td (fun x => { x with due := if first then some 1 else none })
  if c.tdOn td = false then c.modDom td (fun x => { x with due := none, pend := none })
  else match m.pend with
    | some p =>
      if c.now < p.notBefore then auto
      else if m.phase.isSome then c.modDom td (fun x => { x with due := some p.cause, pend := none })
      else (c.modDom td (fun x => { x with due := none, pend := none })).event Ev.tickRealignSkipped [td, m.frame]
    | none => auto

/-- The tick master sends the device time of a tick (R412). -/
def Chip.sendTick (c : Chip) (td : Nat) : Chip :=
  if c.channelMaster && c.tdOn td then c.channelPorts.foldl (fun a p => a.emit (.cell p 2 [td, secOf c.deviceQ, nsOf c.deviceQ])) c else c

/-- The jobs of R60 that open at a tick of an enabled domain. While the service cores are down only the read-out engines and the readiness latch work (R563). -/
def Chip.openJobs (c : Chip) (td : Nat) (syncInTime cmpInTime : Bool) : Chip :=
  let c1 := c.tickSwitches td
  let c2 := if syncInTime || c.suspended then (c1.syncJob td).startBlocks td else c1
  let c3 := if c.suspended then (c2.composersOf td).foldl (fun a i => a.latchOnly i td) c2 else if cmpInTime then c2.cmpJob td else c2
  c3.modDom td (fun m => { m with
    syncOpen := !syncInTime && !c.suspended, cmpOpen := !cmpInTime && !c.suspended, occlOpen := !c.suspended && c.composersOf td != [] })

/-- The interval of flow watch counts a tick of TD0; its closure opens at the last one (R60, R441). -/
def Chip.watchTick (c : Chip) : Chip :=
  let n := c.fwa.ticks + 1
  let c1 : Chip := { c with fwa := { c.fwa with ticks := n } }
  c1.modDom 0 (fun m => { m with fwaOpen := !c.suspended && n % c.intervalFrames == 0 })

/-- FRAME_TICK (R673): `leads` are the sources as measured against the domain (R66), `origin` the tick minus the origin of a pulse, SDI or PTP entry, `late` the players whose
frame is not in staging (R476); `syncInTime` and `cmpInTime` say whether the SYNC and CMP jobs finish by their deadlines (R60). -/
def execFrameTick (t : Nat) (td : Fin 4) (leads : List LeadFact) (origin : Option Int) (late : List (Fin 32)) (syncInTime cmpInTime : Bool) (s : State) :
    Host.Outcome State Fault Refusal :=
  act t s (fun c =>
    if c.tick.running then
      let on := c.tdOn td
      let c1 := (((c.capFrameEnd td).endBlocks td).lineMisses td).beginFrame td
      let c2 := (c1.showPhase td (c1.tickPhase td origin)).judgeAlign td
      let c3 := ((if on then c2.measureLeads td leads else c2).tickTx td).sendTick td
      let c4 := if on then c3.openJobs td syncInTime cmpInTime else c3
      let c5 := (c4.genTick td).playersTick td (late.map Fin.val)
      (if td = 0 then c5.watchTick else c5).capTick td
    else c)

/-! ## Alignment (R50 to R53) -/

/-- The position in the five-frame sequence of the frame that an alignment of TD0 begins at instant `u` (R53): by device time, by the mark of the entry, or 0. -/
def Chip.alignedPos (c : Chip) (u mark : Nat) : Nat :=
  let m := c.dom 0
  if fiveFrame m.rate = false then 0
  else if m.splice then mark
  else if 3 ≤ c.refType m.entry ∧ c.refType m.entry ≤ 7 then (roundDiv (c.deviceQAt u / 65536 : Nat) (framePeriod m.rate) % 5).toNat
  else if (c.refType m.entry = 1 ∨ c.refType m.entry = 2) ∧ bit (u8 (c.record tyEntries m.entry) 5) 4 then mark
  else 0

/-- DOMAIN_ALIGNMENT (R50, R52, R53): the frame in progress is lengthened by e. `mark` is the position, as the bound entry marks it, of the frame that begins at the aligned tick:
of a REFP entry with `FIVE`, and of the master's TD0. -/
def execDomainAlignment (t : Nat) (td : Fin 4) (mark : Fin 5) (s : State) : Host.Outcome State Fault Refusal :=
  act t s (fun c =>
    let m := c.dom td
    match m.due, m.phase with
    | some cause, some ph =>
      let p := framePeriod m.rate
      let e := ((-ph) % (p : Int)).toNat
      let next := m.tickAt + p + e
      let c1 := c.modDom td (fun x => { x with due := none, aligned := true, nextTick := next, arriving := true })
      let c2 := c1.event (if m.aligned then Ev.tickRealigned else Ev.tickAligned) [td.val + cause * 16777216, e / 27, m.frame]
      let c3 : Chip := if td = 0 then
          { c2 with tick := { c2.tick with seqNext := c.alignedPos next mark, stretch := (next - c.tick.sampleAt) % samplePeriod } }
        else c2
      c3.spliceAligned td
    | _, _ => c)

/-! ## Commands of the tick block (R51, R70, R540) -/

/-- Requests alignment of the domains of a mask (R51): one that waits already keeps its tick. -/
def Chip.realign (c : Chip) (mask : Nat) : Chip :=
  ([0, 1, 2, 3].filter (fun td => bit mask td)).foldl (fun a td =>
    a.modDom td (fun m => if m.pend.isSome then m else { m with pend := some ⟨c.now + msU 1, 2⟩ })) c

/-- Whether a mask names a disabled domain (R75, R540). -/
def Chip.realignBad (c : Chip) (mask : Nat) : Bool := [0, 1, 2, 3].any (fun td => bit mask td && !(c.tdOn td))

/-- REALIGN (R51, R539). -/
def execRealign (t : Nat) (slot : Fin 16) (body : List Byte) (s : State) : Host.Outcome State Fault Refusal :=
  act t s (fun c => c.request slot 0x0106 2 false (decide (body.length = 4) && decide (u8 body 0 < 16) && zeroAt body 1 3) (fun c =>
    if c.realignBad (u8 body 0) then c.refuse slot 0x0106 0x110A wholeIndex else (c.realign (u8 body 0)).done slot 0x0106 []))

/-- What `TICK.CTRL.CLR_OVR` clears (R70). -/
def Chip.clrTick (c : Chip) : Chip :=
  c.clearAll ((List.range 4).flatMap (fun td =>
    [Reg.TICK_TD_OVR_TAKE td, Reg.TICK_TD_OVR_SYNC td, Reg.TICK_TD_OVR_CMP td, Reg.TICK_TD_OVR_FWA td]) ++ [Reg.TICK_SLOT_OVR_COUNT])

/-- TICK_CLR_OVR (R70). -/
def execTickClrOvr (t : Nat) (s : State) : Host.Outcome State Fault Refusal := act t s (fun c => c.clrTick)

end Sys2Proof.Machine
end

