-- ==== Sys2Proof/Machine/Faults.lean ====
section
/-! DEFINITION. Faults and recovery (R558 to R575): uncorrectable SRAM errors, warm restarts, the halt, device faults, and the overruns of per-frame jobs (R62). -/

namespace Sys2Proof.Machine

/-! ## Warm restart (R562 to R566) -/

/-- The jobs of a domain when the service cores stop (R563, R564): a frame whose commit flag is set, or was due to be set, is carried out; what another frame has staged
stays queued. -/
def Chip.stopJobs (c : Chip) (td : Nat) : Chip :=
  let m := c.dom td
  let tick := if m.jobFrame = some m.frame then m.tickAt else m.nextTick
  let due := match c.earliestOffset td with | some off => decide (tick + off ≤ c.now + usU 25) | none => false
  let c1 := match m.jobFrame with
    | none => c
    | some f =>
      if m.commit = some f then c
      else if due then c.modDom td (fun x => { x with commit := some f })
      else (c.unstage td).modDom td (fun x => { x with jobFrame := none })
  c1.modDom td (fun x => { x with cmpOpen := false, occlOpen := false, fwaOpen := false })

/-- A load in `ERASING` or `LOADING` is abandoned (R601); the request that waits for its end is answered after the restart (R566). -/
def Chip.abandonLoad (c : Chip) (kind : Nat) : Chip :=
  let l := c.load kind
  if l.state = .erasing ∨ l.state = .loading then
    let c1 := c.modLoad kind (fun _ => Load.idle)
    if l.state = .erasing ∨ l.verifying = true then { c1 with flt := { c1.flt with abandoned := c1.flt.abandoned ++ [(l.slot, l.session, l.reqSeq)] } } else c1
  else c

/-- A `SAVE` in progress is abandoned (R566). -/
def Chip.abandonSave (c : Chip) : Chip :=
  match c.upd.save with
  | none => c
  | some j => { c with upd := { c.upd with save := none }, flt := { c.flt with abandoned := c.flt.abandoned ++ [(j.slot, j.session, j.reqSeq)] } }

/-- A pending activation is cancelled (R604). -/
def Chip.cancelAct (c : Chip) : Chip :=
  match c.upd.act with
  | some a => if a.state = 1 then ({ c with upd := { c.upd with act := none } } : Chip).opDone a.slot a.session a.reqSeq (statusOf 0x0201 wholeIndex) else c
  | none => c

/-- The service cores stop: what a warm restart, or the halt in its place, cuts off (R563, R564, R566, R569). -/
def Chip.stopCores (c : Chip) (m : Tbl Byte) : Chip × Tbl Byte :=
  let r := c.resetCores m
  let c1 := ([0, 1, 2, 3] : List Nat).foldl (fun a td => a.stopJobs td) r.1
  let c2 := (List.range 8).foldl (fun a e => if a.refType e = 7 then a.refLose e else a) (c1.interruptSets 2)
  ((((c2.abandonLoad 1).abandonLoad 2).abandonSave).cancelAct, r.2)

/-- A cause of warm restart (R559, R562): one that comes during an activation reverts it (R608), one beyond the limit halts the device (R568), and while the device is halted there
is nothing to restart. -/
def Chip.beginRestart (c : Chip) (m : Tbl Byte) (cause processor : Nat) : Chip × Tbl Byte :=
  if c.halted then (c, m)
  else if (match c.upd.act with | some a => decide (2 ≤ a.state) && decide (a.state ≤ 4) | none => false) then (c.startRevert 5 0 0, m)
  else
    let recent := c.flt.restarts.filter (fun u => decide (c.now < u + secU 600))
    if c.restartLimit ≤ recent.length then
      let c1 := (((c.set Reg.FLT_STATUS_HALTED 0 1).set Reg.FLT_STATUS_RESTART 0 0).set Reg.XPT_STATUS_RESTART 0 0).event Ev.fltHalted [recent.length]
      ((c1.faultIs Ev.fltHalted 3).releaseAct).stopCores m
    else
      let n := recent.length + 1
      let c1 : Chip := { c with flt := { c.flt with restarts := recent ++ [c.now], startedAt := c.now } }
      let c2 := (((c1.set Reg.FLT_STATUS_RESTART 0 1).set Reg.XPT_STATUS_RESTART 0 1).mark Reg.FLT_STATUS_RESTART_SEEN).count Reg.FLT_RESTARTS_TOTAL 0 1
      ((c2.event Ev.fltWarmRestart [cause + processor * 256, n]).faultIs Ev.fltWarmRestart 2).stopCores m

/-- RESTART_DONE (R562, R565, R566): the cores work again; notices and abandoned requests follow, and the time source starts anew. -/
def execRestartDone (t : Nat) (s : State) : Host.Outcome State Fault Refusal :=
  act t s (fun c =>
    if c.restarting then
      let us := (c.now - c.flt.startedAt) / 27000
      let c1 := ((c.set Reg.FLT_STATUS_RESTART 0 0).set Reg.XPT_STATUS_RESTART 0 0).set Reg.FLT_T_RESTART_US 0 us
      let c2 := ((((c1.event Ev.fltRestartDone [us]).releaseCores).restartPtp).pausePlayers).sendKept
      c2.flt.abandoned.foldl (fun (a : Chip) q => a.opDone q.1 q.2.1 q.2.2 (statusOf 0x0201 wholeIndex)) { c2 with flt := { c2.flt with abandoned := [] } }
    else c)

/-- SERVICE_CORE_EXCEPTION (R559). -/
def execServiceCoreException (t : Nat) (core : Fin 4) (s : State) : Host.Outcome State Fault Refusal :=
  actMem t s (fun c m => if c.boot.released then c.beginRestart m 3 (core + 1) else (c, m))

/-- The watchdog counter of a core (R574). -/
def wdField (core : Nat) : Fld := if core = 0 then Reg.FLT_WD_M1 else if core = 1 then Reg.FLT_WD_M2 else if core = 2 then Reg.FLT_WD_M3 else Reg.FLT_WD_M4

/-- SERVICE_CORE_WATCHDOG (R559): a core that runs has not signalled within `WD_MS`. -/
def execServiceCoreWatchdog (t : Nat) (core : Fin 4) (s : State) : Host.Outcome State Fault Refusal :=
  actMem t s (fun c m => if c.boot.released ∧ c.fab.held = [] then (c.count (wdField core) 0 1).beginRestart m 4 (core + 1) else (c, m))

/-- A write of `FORCE_RESTART` (R559, R575). -/
def Chip.forceRestart (c : Chip) (m : Tbl Byte) (key : Nat) : Chip × Tbl Byte :=
  if key = 0x7E57 ∧ c.halted = false then c.beginRestart m 6 0 else (c.mark Reg.FLT_STATUS_CFG_REJECT, m)

/-- FORCE_RESTART (R574, R575). -/
def execForceRestart (t : Nat) (key : Fin 65536) (s : State) : Host.Outcome State Fault Refusal := actMem t s (fun c m => c.forceRestart m key)

/-! ## Device faults (R567) -/

/-- The outcome of a fault of the lamplighter: record, TWIN_ACT, the archive, a cold start. -/
def Chip.deviceFault (c : Chip) (m : Tbl Byte) (cause : Nat) : Chip × Tbl Byte :=
  let r := (((c.event Ev.fltLamplighter [cause]).faultIs Ev.fltLamplighter 3).releaseAct).commitAll m
  r.1.inReset r.2 4

/-- LAMPLIGHTER_WATCHDOG (R567). -/
def execLamplighterWatchdog (t : Nat) (s : State) : Host.Outcome State Fault Refusal := actMem t s (fun c m => c.deviceFault m 1)

/-! ## SRAM errors (R560, R561) -/

/-- The partition and row of R560 that an error belongs to; none for the frame store. -/
def hitPlace : SramHit → Option (Nat × Nat)
  | .lineShare _ _ _ _ => some (0, 1)
  | .layerPixels _ _ _ _ _ => some (1, 2)
  | .occlusionMap _ => some (1, 2)
  | .rxPacket => some (2, 3)
  | .ringPacket _ _ => some (2, 3)
  | .txFrame _ _ _ => some (2, 4)
  | .audioRx _ _ _ => some (3, 5)
  | .audioFifo _ _ _ => some (3, 5)
  | .watch _ => some (3, 6)
  | .flowEntry _ _ _ => some (3, 7)
  | .audioEntry _ _ _ => some (3, 7)
  | .route _ _ _ => some (4, 8)
  | .queueEntry _ _ _ => some (4, 8)
  | .records _ => some (4, 9)
  | .core _ => some (4, 10)
  | .lamplighter => some (4, 11)
  | .storeSystem _ => none

/-- The class of an error's fault (R560). -/
def hitClass : SramHit → Nat
  | .core _ => 2
  | .lamplighter => 3
  | .route _ _ lost => if lost then 1 else 0
  | .queueEntry _ _ lost => if lost then 1 else 0
  | _ => 1

/-- The share of a bank in a line of a slot is that of the slot's previous line; each reader counts a line miss (R33, R560). -/
def Chip.loseShare (c : Chip) (src td line : Nat) (cols : List Nat) : Chip :=
  let k := 4 * src + td
  let x := Tbl.get LineSlot.reset c.fst.slots k
  let prev := Tbl.get [] x.lines (line - 1)
  let row := ((Tbl.get [] x.lines line).zipIdx).map (fun e => if cols.contains e.2 then prev.getD e.2 0 else e.1)
  let c1 : Chip := { c with fst := { c.fst with slots := Tbl.upd LineSlot.reset c.fst.slots k (fun y => { y with lines := Tbl.put [] y.lines line row }) } }
  (c.routesList.filter (fun e => e.2.1 == 0 && e.2.2.src == src && e.2.2.dev.isNone && c.dstTd e.1 == td)).foldl (fun a e =>
    ((a.count Reg.XPT_LINE_MISS_COUNT e.1 1).mark Reg.XPT_STATUS_LINE_MISS_SEEN).modDst e.1 (fun y => { y with missed := y.missed + 1 })) c1

/-- A configuration entry both copies of which are bad (R560): kinds of R672. -/
def Chip.configLost (c : Chip) (kind index : Nat) : Chip :=
  (c.faultIs Ev.fltConfigLost 1).event Ev.fltConfigLost [kind * 1073741824 + index]

/-- A flow's record without its enable bit. -/
def flowDisabled (r : List Byte) : List Byte := r.set 3 (BitVec.ofNat 8 (u8 r 3 / 2 * 2))

/-- A flow description is hit: one copy is rewritten and the frame in progress counts as incomplete; without a good copy the flow is disabled. -/
def Chip.hitFlow (c : Chip) (tx : Bool) (i : Nat) (both : Bool) : Chip :=
  let r := c.record (if tx then tyTx else tyRx) i
  if both then
    (if r = [] then c else if tx then c.changeTx i (flowDisabled r) else c.changeRx i (flowDisabled r)).configLost (if tx then 1 else 0) i
  else if tx = false ∧ flowOn r = true ∧ videoKind (flowKind r) = true then c.frameLost (u16 r 4) else c

/-- An audio binding is hit: without a good copy the position is unbound. -/
def Chip.hitAudio (c : Chip) (dst : Bool) (pos : Nat) (both : Bool) : Chip :=
  if both then
    let ty := if dst then tyDstCh else tySrcCh
    (match (c.listed ty).find? (fun i => (audTakes (c.record ty i)).contains pos) with
      | some i => c.setRec ty i []
      | none => c).configLost (if dst then 3 else 2) pos
  else c

/-- A word of the route table is hit (R561): repaired from the majority, or the level has no route. -/
def Chip.hitRoute (c : Chip) (d l : Nat) (lost : Bool) : Chip :=
  if lost then
    let c1 := (c.setRoute d l none).modDst d (fun x => x.withLvl l ⟨.normal, .none, .none⟩)
    let c2 := ((c1.count Reg.FLT_RT_LOST_COUNT 0 1).mark Reg.FLT_STATUS_ROUTE_LOST_SEEN).faultIs Ev.fltRouteLost 1
    let c3 := c2.event Ev.fltRouteLost [d * 65536 + 2 ^ l, 0, 0]
    (if l = 2 then c3.followAudio d else c3).settle c
  else c.count Reg.FLT_RT_REPAIR_COUNT 0 1

/-- A word of the take queue is hit (R561): repaired, or the entry is removed and its sender told. -/
def Chip.hitQueue (c : Chip) (id d : Nat) (lost : Bool) : Chip :=
  if lost then
    let st := statusOf 0x1203 wholeIndex
    let tell := fun (a : Chip) (slot session levels : Nat) =>
      let word := if 2 ^ 64 ≤ id then 0 else id
      ((((if 2 ^ 64 ≤ id then a else a.noticeTo slot session 0x8002 (beBytes 8 id ++ beBytes 4 st)).count Reg.FLT_RT_LOST_COUNT 0 1).mark
        Reg.FLT_STATUS_ROUTE_LOST_SEEN).faultIs Ev.fltRouteLost 1).event Ev.fltRouteLost [d * 65536 + levels, word / 4294967296, word % 4294967296]
    match c.xpt.queue.find? (fun q => q.id == id && q.dst == d) with
    | some q =>
      (tell { c with xpt := { c.xpt with queue := c.xpt.queue.filter (fun x => !(x.id == id && x.dst == d)) } } q.slot q.session q.levels).settle c
    | none =>
      match c.xpt.audQueue.find? (fun q => q.id == id) with
      | some q => tell { c with xpt := { c.xpt with audQueue := c.xpt.audQueue.filter (fun x => x.id != id) } } q.slot q.session 0
      | none => c
  else c.count Reg.FLT_RT_REPAIR_COUNT 0 1

/-- Records of the ring and the commit buffer are lost (R560). -/
def Chip.recordsLost (c : Chip) (seqs : List Nat) : Chip :=
  let keep := fun (l : List Rec) => l.filter (fun r => !(seqs.contains r.seq))
  ({ c with log := { c.log with ring := keep c.log.ring, side := keep c.log.side, commit := keep c.log.commit } } : Chip).event Ev.fltRecordLost [seqs.length]

/-- The outcome of an error (R560), once it is counted and recorded. -/
def Chip.sramOutcome (c : Chip) (m : Tbl Byte) : SramHit → Chip × Tbl Byte
  | .lineShare s td l cols => (c.loseShare s td l cols, m)
  | .layerPixels i l y x n => ({ c with cmp := { c.cmp with holes := c.cmp.holes ++ [(i, l, y, x, n)] } }, m)
  | .occlusionMap _ => (c, m)
  | .rxPacket => (c, m)
  | .ringPacket f i => (c.modRx f (fun x => { x with ring := x.ring.filter (fun p => p.idx != i) }), m)
  | .txFrame p b n => (c.modMac (macKey p b) (fun x => { x with frames := x.frames.zipIdx.map (fun e => if e.2 = n then { e.1 with bad := true } else e.1) }), m)
  | .audioRx f ts ch => (c.modRx f (fun x => { x with audio := Tbl.put [] x.audio ts ((Tbl.get [] x.audio ts).set ch 0) }), m)
  | .audioFifo s n ch =>
    ({ c with aud := { c.aud with sdi := Tbl.upd AudFifo.reset c.aud.sdi s (fun x => { x with frames := x.frames.set n ((x.frames.getD n []).set ch 0) }) } }, m)
  | .watch s => ({ c with fwa := { c.fwa with rebound := dedup (c.fwa.rebound ++ [s]) } }, m)
  | .flowEntry tx i both => (c.hitFlow tx i both, m)
  | .audioEntry dst p both => (c.hitAudio dst p both, m)
  | .route d l lost => (c.hitRoute d l lost, m)
  | .queueEntry id d lost => (c.hitQueue id d lost, m)
  | .records seqs => (c.recordsLost seqs, m)
  | .core p => c.beginRestart m 1 p
  | .lamplighter => c.deviceFault m 2
  | .storeSystem a =>
    ((((c.count Reg.FST_ECC_UE_COUNT 0 1).set Reg.FST_ECC_ADDR_LO_ADDR 0 (a % 4294967296)).set Reg.FST_ECC_ADDR_HI_ADDR 0 (a / 4294967296))).beginRestart m 2 0

/-- SRAM_UNCORRECTABLE_ERROR (R560, R561), or an error in a system region of the frame store (R135). -/
def execSramUncorrectableError (t : Nat) (hit : SramHit) (offset : Nat) (s : State) : Host.Outcome State Fault Refusal :=
  actMem t s (fun c m =>
    let c1 := match hitPlace hit with
      | none => c
      | some (part, row) =>
        let a := (((c.count Reg.FLT_SRAM_UE_COUNT part 1).set Reg.FLT_SRAM_ADDR_OFFSET part offset).mark Reg.FLT_STATUS_UE_SEEN).event Ev.fltSramUe
          [part + row * 256, offset]
        if hitClass hit = 0 then a else a.faultIs Ev.fltSramUe (hitClass hit)
    c1.sramOutcome m hit)

/-! ## Overruns of per-frame jobs (R62, R63, R65, R559) -/

/-- An overrun of a job is counted and recorded. -/
def Chip.jobOverrun (c : Chip) (td job : Nat) (f : Fld) (frame late : Nat) : Chip :=
  ((c.count f 0 1).setBit Reg.TICK_STATUS_OVERRUN td true).event Ev.tickOverrun [job * 16777216 + td, frame % 4294967296, min late 0xFFFFFFFF]

/-- JOB_DEADLINE (R62): the job of a class that is open in a domain has not finished by its deadline. Its work is abandoned. -/
def execJobDeadline (t : Nat) (td : Fin 4) (job : Fin 6) (late : Nat) (s : State) : Host.Outcome State Fault Refusal :=
  actMem t s (fun c m =>
    let d := c.dom td
    if job = 1 then
      match d.jobFrame with
      | none => (c, m)
      | some f =>
        if d.commit = some f then (c, m)
        else
          let c1 := ((c.unstage td).modDom td (fun x => { x with jobFrame := none, takeOvr := x.takeOvr + 1 })).jobOverrun td 1 (Reg.TICK_TD_OVR_TAKE td) f late
          if c1.takeOvrLimit ≤ d.takeOvr + 1 then
            ((c1.modDom td (fun x => { x with takeOvr := 0 })).event Ev.fltTakeStall [td, f]).beginRestart m 5 0
          else (c1, m)
    else if job = 2 ∧ d.syncOpen = true then
      (((c.modDom td (fun x => { x with syncOpen := false })).syncAbandoned td).startBlocks td |>.jobOverrun td 2 (Reg.TICK_TD_OVR_SYNC td) d.frame late, m)
    else if job = 3 ∧ d.cmpOpen = true then
      ((c.modDom td (fun x => { x with cmpOpen := false })).jobOverrun td 3 (Reg.TICK_TD_OVR_CMP td) d.frame late, m)
    else if job = 4 ∧ d.occlOpen = true then
      (((c.modDom td (fun x => { x with occlOpen := false })).occlAbandoned td).jobOverrun td 4 (Reg.TICK_TD_OVR_CMP td) d.frame late, m)
    else if job = 5 ∧ d.fwaOpen = true then
      ((c.modDom td (fun x => { x with fwaOpen := false })).jobOverrun td 5 (Reg.TICK_TD_OVR_FWA td) d.frame late, m)
    else (c, m))

/-- What `FLT.CTRL.CLR_CNT` clears (R574). -/
def Chip.clrFlt (c : Chip) : Chip :=
  c.clearAll [Reg.FLT_RT_REPAIR_COUNT, Reg.FLT_RT_LOST_COUNT, Reg.FLT_FAB_RESETS_COUNT, Reg.FLT_SRAM_CE_COUNT, Reg.FLT_SRAM_UE_COUNT,
    Reg.FLT_WD_M1, Reg.FLT_WD_M2, Reg.FLT_WD_M3, Reg.FLT_WD_M4]

/-- FLT_CLR_CNT (R574). -/
def execFltClrCnt (t : Nat) (s : State) : Host.Outcome State Fault Refusal := act t s (fun c => c.clrFlt)

end Sys2Proof.Machine
end

