-- ==== Sys2Proof/Machine/Lan.lean ====
section
/-! DEFINITION. Lanyard sessions: opening, sealed datagrams, fragments and windows, the timers of a session, its end (R518 to R538). -/

namespace Sys2Proof.Machine

/-! ## Datagrams (R518 to R520) -/

/-- Whether a datagram begins with a valid outer header of a kind (R520). -/
def outerOk (kind : Nat) (b : List Byte) : Bool := decide (16 ≤ b.length) && u16 b 0 == 0x4C4E && u8 b 2 == 1 && u8 b 3 == kind

/-- Whether a host port (0 HPA, 1 HPB) carries lanyard traffic (R515, R518). -/
def Chip.lanCarries (c : Chip) (port : Nat) : Bool := if c.phase = 4 then c.recoveryPort (16 + port) else c.lanPort port

/-- A datagram on a host port without lanyard traffic is discarded as in R249. -/
def Chip.lanUnmatched (c : Chip) : Chip := (c.mark Reg.PMI_STATUS_UNMATCHED_SEEN).count Reg.PMI_RX_UNMATCHED_COUNT 0 1

/-- The largest datagram that the device accepts (R519). -/
def Chip.dgramLimit (c : Chip) : Nat := max 1200 (min (c.maxFrame 16) (c.maxFrame 17) - 70)

/-- Authentication fails (R522, R525): counted and recorded, with the kind of the datagram and the reason of R671. -/
def Chip.authFail (c : Chip) (port kind reason session addr : Nat) : Chip :=
  ((c.count Reg.LAN_AUTH_FAIL_COUNT 0 1).mark Reg.LAN_STATUS_AUTH_FAIL_SEEN).event Ev.lanAuthFail [port + 16 * kind + 256 * reason, session, addr]

/-! ## Opening (R524, R525) -/

/-- The session key. -/
def sessionKey (key hostNonce deviceNonce : List Byte) (session : Nat) : List Byte :=
  hmac key ([0x6C, 0x61, 0x6E, 0x79, 0x61, 0x72, 0x64, 0x2D, 0x31] ++ hostNonce ++ deviceNonce ++ beBytes 4 session)

/-- The slots that hold no session. -/
def Chip.freeSlots (c : Chip) : List Nat := (List.range 16).filter (fun i => (c.session i).state == .free)

/-- Whether an identifier and a nonce are ones that the device may draw: the identifier is not 0, and no session has it (R525). -/
def Chip.drawOk (c : Chip) (session : Nat) (nonce : List Byte) : Bool :=
  decide (0 < session) && decide (session < 4294967296) && decide (nonce.length = 32)
    && !((List.range 16).any (fun i => (c.session i).state != .free && (c.session i).id == session))

/-- A session in its slot, half-open (R525, R557). -/
def Chip.halfOpen (c : Chip) (slot : Nat) (key : List Byte) (port : Nat) (ipv6 : Bool) (addr udpPort : Nat) (b : List Byte) (session : Nat) (nonce : List Byte) : Chip :=
  c.modSession slot (fun _ => { Session.free with
    state := .halfOpen, id := session, keyId := u8 b 16, priv := u8 b 17, port := port, ipv6 := ipv6, addr := addr, udpPort := udpPort,
    maxDgram := min (u16 b 18) c.dgramLimit, openedAt := c.now, lastAt := c.now, key := sessionKey key (bytesAt b 24 32) nonce session })

/-- An `OPEN` whose key and `MAC` hold and whose nonce is new (R525). -/
def Chip.openAnswer (c : Chip) (ceiling : Nat) (key : List Byte) (port : Nat) (ipv6 : Bool) (addr udpPort : Nat) (b : List Byte) (session : Nat) (nonce : List Byte) : Chip :=
  if ceiling < u8 b 17 then c.emit (.reject 0 0x1102)
  else match c.freeSlots with
    | [] => c.emit (.reject 0 0x1106)
    | slot :: _ =>
      if c.drawOk session nonce then
        (c.halfOpen slot key port ipv6 addr udpPort b session nonce).emit
          (.openAck session (bytesAt b 24 32) nonce (min (u16 b 18) c.dgramLimit) (u8 b 17))
      else c

/-- Whether an `OPEN` has its length, values and reserved bytes (R524). -/
def openOk (b : List Byte) : Bool :=
  outerOk 1 b && decide (b.length = 88) && u32 b 4 == 0 && u64 b 8 == 0 && within (u8 b 17) 1 3 && decide (1200 ≤ u16 b 18) && zeroAt b 20 4

/-- OPEN (R525). -/
def execOpenSession (t : Nat) (port : Fin 2) (ipv6 : Bool) (addr udpPort : Nat) (bytes : List Byte) (session : Nat) (nonce : List Byte) (s : State) :
    Host.Outcome State Fault Refusal :=
  actMem t s (fun c m =>
    if !(c.lanCarries port) then (c.lanUnmatched, m)
    else if !(openOk bytes) then (c.count Reg.LAN_RX_BAD_COUNT 0 1, m)
    else match (if u8 bytes 16 < 16 then keyEntry m (u8 bytes 16) else none) with
      | none => (c.authFail port 1 4 0 addr, m)
      | some (ceiling, key) =>
        if hmac key (bytes.take 56) ≠ bytesAt bytes 56 32 then (c.authFail port 1 3 0 addr, m)
        else
          let old := c.lan.nonces.filter (fun e => decide (c.now ≤ e.2.2 + secU 600))
          let seen := old.any (fun e => e.1 == u8 bytes 16 && e.2.1 == bytesAt bytes 24 32)
          let c1 : Chip := { c with lan := { c.lan with nonces := old ++ [(u8 bytes 16, bytesAt bytes 24 32, c.now)] } }
          if seen then (c1.count Reg.LAN_REPLAY_COUNT 0 1, m)
          else (c1.openAnswer ceiling key port ipv6 addr udpPort bytes session nonce, m))

/-- HALF_OPEN_TIMEOUT (R525): 2 s without a valid datagram remove a half-open session. -/
def execHalfOpenTimeout (t : Nat) (slot : Fin 16) (s : State) : Host.Outcome State Fault Refusal :=
  act t s (fun c =>
    if (c.session slot).state = .halfOpen ∧ (c.session slot).openedAt + secU 2 ≤ c.now then c.modSession slot (fun x => { x with state := .free }) else c)

/-! ## The end of a session (R537) -/

/-- What the records of a session show in word 8 (R671). -/
def Session.word (s : Session) (slot : Nat) : Nat := slot + 16 * s.keyId + 256 * s.priv + 4096 * s.port + 8192 * flag s.ipv6

/-- A session closes: a freeze of its own ends (R583), M7 is reset for an entry of its own (R635), and the slot is free. -/
def Chip.closeSession (c : Chip) (m : Tbl Byte) (slot cause : Nat) : Chip × Tbl Byte :=
  if (c.session slot).state = .opened then
    let c1 := (c.event Ev.lanSessionClosed [slot + 65536 * cause, (c.session slot).id]).modSession slot (fun x => { x with state := .free })
    let c2 := match c1.log.freeze with | some f => if f.owner = FreezeOwner.session slot then c1.thaw else c1 | none => c1
    if c2.fab.txs.any (fun x => x.master == 7 && x.slot == slot) then c2.resetMaster m 7 else (c2, m)
  else (c.modSession slot (fun x => { x with state := .free }), m)

/-- Every session closes (R537, R556). -/
def Chip.closeAll (c : Chip) (m : Tbl Byte) : Chip × Tbl Byte :=
  (List.range 16).foldl (fun (a : Chip × Tbl Byte) i => if (a.1.session i).state = .free then a else a.1.closeSession a.2 i 3) (c, m)

/-- CLOSE_ALL (R537, R556). -/
def execCloseAll (t : Nat) (s : State) : Host.Outcome State Fault Refusal := actMem t s (fun c m => c.closeAll m)

/-- SESSION_IDLE_TIMEOUT (R537): `IDLE_S` without an authenticated datagram. -/
def execSessionIdleTimeout (t : Nat) (slot : Fin 16) (s : State) : Host.Outcome State Fault Refusal :=
  actMem t s (fun c m =>
    if (c.session slot).state = .opened ∧ (c.session slot).lastAt + secU c.idleS ≤ c.now then c.closeSession m slot 2 else (c, m))

/-! ## Fragments (R527, R528) -/

/-- Whether two fragments differ in a byte that both hold. -/
def Frag.clashes (f g : Frag) : Bool :=
  let lo := max f.off g.off
  let n := min (f.off + f.data.length) (g.off + g.data.length) - lo
  (f.data.drop (lo - f.off)).take n != (g.data.drop (lo - g.off)).take n

/-- The bytes that fragments cover without a gap from byte 0, extended in `n` rounds. -/
def assemble (frags : List Frag) : Nat → List Byte → List Byte
  | 0, acc => acc
  | n + 1, acc =>
    assemble frags n (frags.foldl (fun (a : List Byte) f =>
      if f.off ≤ a.length ∧ a.length < f.off + f.data.length then a ++ f.data.drop (a.length - f.off) else a) acc)

/-- The bytes of incomplete requests that a session holds. -/
def Session.heldBytes (s : Session) : Nat := (s.partials.map (fun p => (p.frags.map (fun f => f.data.length)).sum)).sum

/-- A session takes a fragment of a request that is not complete; none when the request is discarded for it (R528). -/
def Session.takeFrag (s : Session) (now seq msgType len : Nat) (f : Frag) : Option Session :=
  let p := (s.partials.find? (fun x => x.seq == seq)).getD ⟨seq, msgType, len, [], now⟩
  if p.msgType ≠ msgType ∨ p.len ≠ len ∨ 266240 < len ∨ len < f.off + f.data.length ∨ p.frags.any f.clashes = true then none
  else
    let frags := p.frags ++ [f]
    let body := assemble frags frags.length []
    let others := s.partials.filter (fun x => x.seq != seq)
    if body.length = len then some { s with partials := others, complete := s.complete ++ [(seq, msgType, body)] }
    else if 1048576 < s.heldBytes + f.data.length then none
    else some { s with partials := others ++ [{ p with frags := frags }] }

/-- Discards an incomplete request. -/
def Session.dropPartial (s : Session) (seq : Nat) : Session := { s with partials := s.partials.filter (fun x => x.seq != seq) }

/-- REASSEMBLY_TIMEOUT (R528): a request is still incomplete 1 s after its first fragment. -/
def execReassemblyTimeout (t : Nat) (slot : Fin 16) (seq : Nat) (s : State) : Host.Outcome State Fault Refusal :=
  act t s (fun c =>
    if (c.session slot).partials.any (fun p => p.seq == seq && decide (p.since + secU 1 ≤ c.now)) then
      (c.modSession slot (fun x => x.dropPartial seq)).count Reg.LAN_REASM_DROP_COUNT 0 1
    else c)

/-! ## Sealed datagrams (R521, R522, R527, R530, R531, R536) -/

/-- The host's acknowledgements: responses and notices that they cover are no longer kept (R532, R534). -/
def Session.acknowledge (s : Session) (ackR ackN : Nat) : Session :=
  let r := max s.ackR (min ackR s.done)
  let n := max s.ackN (min ackN s.noticeSeq)
  { s with ackR := r, ackN := n, responses := s.responses.filter (fun x => decide (r < x.seq)), notices := s.notices.filter (fun x => decide (n < x.seq)) }

/-- A request that has been received already (R531): counted once, at its first fragment; a response that has been sent goes out again. -/
def Chip.duplicate (c : Chip) (slot seq off : Nat) : Chip :=
  if off ≠ 0 then c
  else
    let c1 := c.count Reg.LAN_DUP_REQ_COUNT 0 1
    if c.spl.mirror.any (fun x => x.1 == slot && x.2.1 == seq) then c1
    else match (c.session slot).responses.find? (fun r => r.seq == seq) with
      | some r => c1.sendMsg slot 2 r.msgType r.status r.seq r.body
      | none => c1

/-- A fragment of a request (R528, R530, R531). -/
def Chip.fragment (c : Chip) (slot : Nat) (p : List Byte) : Chip :=
  let x := c.session slot
  let seq := u64 p 8
  if seq = 0 then c
  else if x.ackR + 257 ≤ seq then c.count Reg.LAN_WINDOW_DROP_COUNT 0 1
  else if seq ≤ x.done ∨ x.complete.any (fun r => r.1 == seq) = true then c.duplicate slot seq (u32 p 36)
  else match x.takeFrag c.now seq (u16 p 2) (u32 p 32) ⟨u32 p 36, p.drop 40⟩ with
    | some y => c.modSession slot (fun _ => y)
    | none => (c.modSession slot (fun s => s.dropPartial seq)).count Reg.LAN_REASM_DROP_COUNT 0 1

/-- A half-open session opens (R525); its cursor starts at the oldest record of the ring (R589). -/
def Chip.opens (c : Chip) (slot : Nat) : Chip :=
  if (c.session slot).state = .halfOpen then
    let c1 := c.modSession slot (fun x => { x with state := .opened })
    ({ c1 with log := { c1.log with cursors := Tbl.put 0 c1.log.cursors slot c1.oldestSeq } } : Chip).event Ev.lanSessionOpen
      [(c1.session slot).word slot, (c1.session slot).id]
  else c

/-- A session moves to the port and address of the latest authenticated datagram (R536). -/
def Chip.moves (c : Chip) (slot port : Nat) (ipv6 : Bool) (addr udpPort : Nat) : Chip :=
  let x := c.session slot
  if x.port = port ∧ x.ipv6 = ipv6 ∧ x.addr = addr ∧ x.udpPort = udpPort then c
  else
    let c1 := c.modSession slot (fun y => { y with port := port, ipv6 := ipv6, addr := addr, udpPort := udpPort })
    c1.event Ev.lanPortMove [(c1.session slot).word slot, x.id]

/-- An authenticated datagram whose counter is new: `p` is its plaintext. -/
def Chip.accepted (c : Chip) (slot port : Nat) (ipv6 : Bool) (addr udpPort ctr : Nat) (p : List Byte) : Chip :=
  let c1 := (c.modSession slot (fun x =>
    let top := max x.rxTop ctr
    { x with lastAt := c.now, rxTop := top, rxSeen := (x.rxSeen ++ [ctr]).filter (fun n => decide (top ≤ n + 1024)) })).countWrap Reg.LAN_RX_SEALED_COUNT 0 1
  let c2 := ((c1.opens slot).moves slot port ipv6 addr udpPort).modSession slot (fun x => if p.length < 40 then x else x.acknowledge (u64 p 16) (u64 p 24))
  let c3 := if 40 ≤ p.length ∧ u8 p 0 = 1 then c2.fragment slot p else c2
  if c3.serves slot then Chip.answerUnknown slot 256 c3 else c3

/-- The nonce of a datagram from the host (R521). -/
def hostNonce (b : List Byte) : List Byte := [0, 0, 0, 1] ++ bytesAt b 8 8

/-- SEALED (R522). -/
def execSealed (t : Nat) (port : Fin 2) (ipv6 : Bool) (addr udpPort : Nat) (bytes : List Byte) (s : State) : Host.Outcome State Fault Refusal :=
  act t s (fun c =>
    if !(c.lanCarries port) then c.lanUnmatched
    else if !(outerOk 3 bytes) then c.count Reg.LAN_RX_BAD_COUNT 0 1
    else match (List.range 16).find? (fun i => (c.session i).state != .free && (c.session i).id == u32 bytes 4) with
      | none => (c.authFail port 3 2 (u32 bytes 4) addr).emit (.reject (u32 bytes 4) 0x1107)
      | some slot =>
        let x := c.session slot
        if x.maxDgram < bytes.length then c.count Reg.LAN_RX_BAD_COUNT 0 1
        else match gcmOpen x.key (hostNonce bytes) (bytes.take 16) (bytes.drop 16) with
          | none => c.authFail port 3 1 (u32 bytes 4) addr
          | some p =>
            if u64 bytes 8 + 1024 < x.rxTop ∨ x.rxSeen.contains (u64 bytes 8) = true then c.count Reg.LAN_REPLAY_COUNT 0 1
            else c.accepted slot port ipv6 addr udpPort (u64 bytes 8) p)

/-! ## What the session sends, as bytes (R520, R521, R524, R526 to R528) -/

/-- The outer header (R520). -/
def outerHeader (kind session ctr : Nat) : List Byte := beBytes 2 0x4C4E ++ beBytes 1 1 ++ beBytes 1 kind ++ beBytes 4 session ++ beBytes 8 ctr

/-- The nonce of a datagram from the device (R521). -/
def deviceNonce (ctr : Nat) : List Byte := [0, 0, 0, 2] ++ beBytes 8 ctr

/-- A `SEALED` datagram of a session: outer header, ciphertext, tag (R521). -/
def Session.seal (x : Session) (ctr : Nat) (plain : List Byte) : List Byte :=
  outerHeader 3 x.id ctr ++ gcmSeal x.key (deviceNonce ctr) (outerHeader 3 x.id ctr) plain

/-- The highest request received together with every lower one, `ACK_R` from the device (R527). -/
def Session.ackRequests (x : Session) : Nat :=
  x.complete.foldl (fun n _ => if x.complete.any (fun r => r.1 == n + 1) then n + 1 else n) x.done

/-- The inner header of a fragment (R527). -/
def Session.innerHeader (x : Session) (channel msgType status seq len off : Nat) : List Byte :=
  beBytes 1 channel ++ beBytes 1 0 ++ beBytes 2 msgType ++ beBytes 4 status ++ beBytes 8 seq ++ beBytes 8 x.ackRequests ++ beBytes 8 0 ++ beBytes 4 len ++ beBytes 4 off

/-- The datagrams in which a session sends a message, in order: what `Out.message` stands for, of the session as it was before (R519, R522, R527, R528). -/
def Session.wire (x : Session) (channel msgType status seq : Nat) (body : List Byte) : List (List Byte) :=
  (List.range (datagrams x.maxDgram body.length)).map (fun i =>
    let off := i * (x.maxDgram - 72)
    x.seal (x.txCtr + 1 + i) (x.innerHeader channel msgType status seq body.length off ++ (body.drop off).take (x.maxDgram - 72)))

/-- The bytes of an `OPEN_ACK`, which `Out.openAck` stands for (R524). -/
def openAckBytes (key : List Byte) (session : Nat) (hostNonce devNonce : List Byte) (maxDgram priv : Nat) : List Byte :=
  let b := outerHeader 2 session 0 ++ hostNonce ++ devNonce ++ beBytes 2 maxDgram ++ beBytes 1 priv ++ beBytes 1 0
  b ++ hmac key b

/-- The bytes of a `REJECT`, which `Out.reject` stands for (R526). -/
def rejectBytes (session code : Nat) : List Byte := outerHeader 4 session 0 ++ beBytes 2 code ++ beBytes 2 0

/-! ## Timers of a session (R533, R534) -/

/-- ACK_TIMER (R533): a datagram on channel 4, when a request has been received and its response has not been sent. -/
def execAckTimer (t : Nat) (slot : Fin 16) (s : State) : Host.Outcome State Fault Refusal :=
  act t s (fun c =>
    if (c.session slot).state = .opened ∧ (c.session slot).complete ≠ [] then c.sendMsg slot 4 0 0 0 [] else c)

/-- NOTICE_RESEND (R534): the first unacknowledged notice goes out again, and its interval doubles up to 640 ms. -/
def execNoticeResend (t : Nat) (slot : Fin 16) (s : State) : Host.Outcome State Fault Refusal :=
  act t s (fun c =>
    match (c.session slot).notices with
    | [] => c
    | n :: r =>
      if (c.session slot).state = .opened ∧ n.sentAt + msU n.interval ≤ c.now then
        (c.modSession slot (fun x => { x with notices := { n with sentAt := c.now, interval := min 640 (2 * n.interval) } :: r })).sendMsg slot 3 n.code 0 n.seq n.body
      else c)

/-! ## Requests of the session itself (R539) -/

/-- PING (R539). -/
def execPing (t : Nat) (slot : Fin 16) (body : List Byte) (s : State) : Host.Outcome State Fault Refusal :=
  act t s (fun c => c.request slot 0x0001 1 true (decide (body.length = 0)) (fun c => c.done slot 0x0001 []))

/-- CLOSE (R537, R539): the session closes after its response has been sent. -/
def execClose (t : Nat) (slot : Fin 16) (body : List Byte) (s : State) : Host.Outcome State Fault Refusal :=
  actMem t s (fun c m =>
    let ok := c.serves slot && (c.gateCode slot 0x0002 1 true (decide (body.length = 0))).isNone
    let c1 := c.request slot 0x0002 1 true (decide (body.length = 0)) (fun c => c.done slot 0x0002 [])
    if ok then c1.closeSession m slot 1 else (c1, m))

/-- SUBSCRIBE (R539): the session's classes and `MIN_SEV` are replaced. -/
def execSubscribe (t : Nat) (slot : Fin 16) (body : List Byte) (s : State) : Host.Outcome State Fault Refusal :=
  act t s (fun c => c.request slot 0x0003 1 true (decide (body.length = 8) && zeroAt body 5 3) (fun c =>
    (c.modSession slot (fun x => { x with mask := u32 body 0, minSev := u8 body 4 })).done slot 0x0003 []))

/-- The counters of the block (R556). -/
def lanCounters : List Fld :=
  [Reg.LAN_RX_SEALED_COUNT, Reg.LAN_AUTH_FAIL_COUNT, Reg.LAN_REPLAY_COUNT, Reg.LAN_RX_BAD_COUNT, Reg.LAN_DUP_REQ_COUNT, Reg.LAN_WINDOW_DROP_COUNT,
    Reg.LAN_REASM_DROP_COUNT]

/-- A write of `LAN.CTRL.CLR_CNT` (R556): every counter of the block, those of notices discarded among them. -/
def Chip.clrLan (c : Chip) : Chip :=
  (List.range 16).foldl (fun a i => if (a.session i).lost = 0 then a else a.modSession i (fun x => { x with lost := 0 })) (c.clearAll lanCounters)

/-- LAN_CLR_CNT (R556). -/
def execLanClrCnt (t : Nat) (s : State) : Host.Outcome State Fault Refusal := act t s (fun c => c.clrLan)

end Sys2Proof.Machine
end

