-- ==== Sys2Proof/Machine/Power.lean ====
section
/-! DEFINITION. Supply monitoring, the supply hold and temperature (R643 to R655), and the management target and boundary scan (R666, R667, R669). -/

namespace Sys2Proof.Machine

/-! ## Settings (R652) -/

/-- `HOLDUP_US` in force. -/
def Chip.holdupUs (c : Chip) : Nat := if c.hasRec tyPwr 0 then u16 (c.record tyPwr 0) 0 else 0

/-- `WARN_C` in force. -/
def Chip.warnC (c : Chip) : Nat := if c.hasRec tyPwr 0 then u8 (c.record tyPwr 0) 2 else 100

/-- `ALERT_C` in force. -/
def Chip.alertC (c : Chip) : Nat := if c.hasRec tyPwr 0 then u8 (c.record tyPwr 0) 3 else 110

/-- `WARN_EN` in force. -/
def Chip.warnEn (c : Chip) : Bool := if c.hasRec tyPwr 0 then bit (u8 (c.record tyPwr 0) 4) 0 else true

/-! ## The management target (R666, R667) -/

/-- The values of the management target, which follow the samples of every 1 ms: `rails` are the rails within limits, `hot` the hottest sensor as it is shown. -/
def Chip.mgmtValues (c : Chip) (rails hot : Nat) : List Nat :=
  let run := c.run == .running
  let state := (if run then c.phase else 7) + 8 * c.fld Reg.PWR_STATUS_HOLD 0 + 16 * flag c.pwr.alert + 32 * c.fld Reg.PWR_STATUS_TRIP_SEEN 0
  let causes := c.fld Reg.BOOT_RESET_CAUSE_POWER_ON 0 + 2 * c.fld Reg.BOOT_RESET_CAUSE_PIN 0 + 4 * c.fld Reg.BOOT_RESET_CAUSE_COMMAND 0
    + 8 * c.fld Reg.BOOT_RESET_CAUSE_RECOVER 0
  [0x544B1024, 0x00000B00, state, hot, causes, rails]

/-- Updates the management target. -/
def Chip.mgmtUpdate (c : Chip) (rails hot : Nat) : Chip := { c with pin := { c.pin with values := c.mgmtValues rails hot } }

/-- The register of the management target at a pointer (R667): 0 where it names none. -/
def Chip.mgmtReg (c : Chip) (p : Nat) : Nat :=
  if p % 4 ≠ 0 then 0
  else if p = 0x18 then Config.otpBaseMac % 2 ^ 48 / 2 ^ 32
  else if p = 0x1C then Config.otpBaseMac % 2 ^ 32
  else c.pin.values.getD (p / 4) 0

/-- Reads one byte: the first of a register latches it, and the pointer advances after the fourth (R666). -/
def Chip.mgmtByte (c : Chip) : Chip :=
  let v := if c.pin.taken = 0 then c.mgmtReg c.pin.pointer else c.pin.latched
  let b := v / 256 ^ (3 - c.pin.taken) % 256
  let c1 := c.emit (.value (0x5A * 256 + c.pin.pointer) b)
  { c1 with pin := { c1.pin with
      latched := v, taken := (c.pin.taken + 1) % 4, pointer := if c.pin.taken = 3 then (c.pin.pointer + 4) % 256 else c.pin.pointer } }

/-- MGMT_I2C_TRANSFER (R666): the pointer written, then the bytes read. It answers in reset and whatever the firmware does. -/
def execMgmtI2cTransfer (t : Nat) (pointer : Option (Fin 256)) (reads : Nat) (s : State) : Host.Outcome State Fault Refusal :=
  actAlways t s (fun c =>
    let c1 : Chip := { c with pin := { c.pin with pointer := match pointer with | some p => p.val | none => c.pin.pointer, taken := 0 } }
    (List.range reads).foldl (fun a _ => a.mgmtByte) c1)

/-- BOUNDARY_SCAN_INSTRUCTION (R669): the module provides none of its functions until a cold start. -/
def execBoundaryScanInstruction (t : Nat) (takesPins : Bool) (s : State) : Host.Outcome State Fault Refusal :=
  actAlways t s (fun c => if takesPins then { c with run := .scan } else c)

/-! ## Rails (R643, R644, R653) -/

/-- The rails: nominal voltage in mV, tolerance in per mille, threshold of R646 in mV (0: none). -/
def rails : List (Nat × Nat × Nat) :=
  [(750, 30, 700), (850, 30, 0), (1200, 30, 0), (900, 30, 0), (1100, 30, 0), (400, 25, 0)] ++
  [(1800, 50, 0), (900, 30, 0), (900, 30, 0), (1800, 50, 1710), (1800, 50, 0)]

/-- Whether a voltage lies within a rail's tolerance. -/
def railOk (nominal tol mv : Nat) : Bool := decide (nominal * (1000 - tol) ≤ 1000 * mv) && decide (1000 * mv ≤ nominal * (1000 + tol))

/-- One rail is sampled. -/
def Chip.sampleRail (c : Chip) (n mv : Nat) : Chip :=
  let r := rails.getD n (0, 0, 0)
  let ok := railOk r.1 r.2.1 mv
  let left := c.isSet Reg.PWR_RAIL_STATE_IN_LIMITS n && !ok
  let c1 := (c.set Reg.PWR_RAIL_V_MV n mv).set Reg.PWR_RAIL_V_MIN_MV n (min mv (c.fld Reg.PWR_RAIL_V_MIN_MV n))
  ((c1.set Reg.PWR_RAIL_STATE_IN_LIMITS n (flag ok)).set Reg.PWR_RAIL_STATE_SAG n (flag (decide (mv < r.2.2)))).count Reg.PWR_RAIL_STATE_EXCURSIONS n (flag left)

/-- SUPPLY_MONITOR_SAMPLE (R653, R667). -/
def execSupplyMonitorSample (t : Nat) (mv : List Nat) (s : State) : Host.Outcome State Fault Refusal :=
  actAlways t s (fun c =>
    if mv.length = 11 then
      let word := ((mv.zip rails).zipIdx.map (fun e => if railOk e.1.2.1 e.1.2.2.1 e.1.1 then 2 ^ e.2 else 0)).sum
      let c1 := if c.run = .running then mv.zipIdx.foldl (fun a e => a.sampleRail e.2 e.1) c else c
      c1.mgmtUpdate word (c.pin.values.getD 3 0)
    else c)

/-- RAIL_RESET (R644, R651): power counts as absent until POWER_ON; the record follows the next start. -/
def execRailReset (t : Nat) (rail : Fin 11) (mv : Nat) (s : State) : Host.Outcome State Fault Refusal :=
  actMemAlways t s (fun c m =>
    let r := c.inReset m 0
    ({ r.1 with pwr := { r.1.pwr with railLow := true, due := r.1.pwr.due ++ [(false, rail.val, mv)] } }, r.2))

/-! ## The supply hold (R646 to R648) -/

/-- SUPPLY_HOLD_START (R646): a condition that counts begins the hold; another one during it is noted. -/
def execSupplyHoldStart (t : Nat) (conds : Fin 8) (s : State) : Host.Outcome State Fault Refusal :=
  act t s (fun c =>
    let seen := if c.warnEn then conds.val else conds.val % 4
    let warn := bit conds.val 2
    let c1 := if warn then ({ c with pin := { c.pin with warnLow := true } } : Chip).set Reg.PWR_STATUS_WARN_IN 0 1 else c
    if seen = 0 then c1
    else match c1.pwr.hold with
      | some h => { c1 with pwr := { c1.pwr with hold := some { h with conds := h.conds ||| seen } } }
      | none =>
        let c2 : Chip := { c1 with
          pwr := { c1.pwr with hold := some { since := c.now, conds := seen, holdup := c.holdupUs } }, cap := { c1.cap with hold := true } }
        (((c2.set Reg.PWR_STATUS_HOLD 0 1).mark Reg.PWR_STATUS_HOLD_SEEN).count Reg.PWR_HOLDS_COUNT 0 1).event Ev.pwrSupplyHold [seen, 0])

/-- SUPPLY_HOLD_END (R646). -/
def execSupplyHoldEnd (t : Nat) (s : State) : Host.Outcome State Fault Refusal :=
  act t s (fun c =>
    let c1 := ({ c with pin := { c.pin with warnLow := false } } : Chip).set Reg.PWR_STATUS_WARN_IN 0 0
    match c1.pwr.hold with
    | none => c1
    | some h =>
      let us := (c.now - h.since) / 27000
      let c2 : Chip := { c1 with pwr := { c1.pwr with hold := none }, cap := { c1.cap with hold := false } }
      ((c2.set Reg.PWR_STATUS_HOLD 0 0).peak Reg.PWR_HOLD_MAX_US 0 us).event Ev.pwrSupplyOk [h.conds, us])

/-! ## Temperature (R649 to R651) -/

/-- The state of a threshold in °C after a reading: set at or above it, cleared 5 °C below it, else as before. -/
def thermState (was : Bool) (limit : Nat) (hot : Int) : Bool :=
  if ((16 * limit : Nat) : Int) ≤ hot then true else if hot ≤ ((16 * (limit - 5) : Nat) : Int) then false else was

/-- The hottest of some readings: its value and the lowest sensor that shows it. -/
def hottest (l : List Int) : Int × Nat :=
  l.zipIdx.foldl (fun a e => if a.1 < e.1 then e else a) (l.headD 0, 0)

/-- Judges the hottest sensor (R651). The records and the release of TWIN_ACT are those of a module that runs. -/
def Chip.judgeHeat (c : Chip) (h : Int × Nat) : Chip :=
  let word := unsigned 32 h.1
  let warn := thermState c.pwr.warn c.warnC h.1
  let alert := thermState c.pwr.alert c.alertC h.1
  let limit := thermState c.pwr.limit 115 h.1
  let run := c.run == .running
  let c1 : Chip := { c with pwr := { c.pwr with warn := warn, alert := alert, limit := limit } }
  let c2 := if alert = c.pwr.alert then c1 else c1.emit (.pin 8 (!alert) c.now)
  if run then
    let c3 := (c2.set Reg.PWR_STATUS_ALERT 0 (flag alert)).eventIf (warn && !c.pwr.warn) Ev.pwrThermWarn [h.2, word]
    let c4 := c3.eventIf (alert && !c.pwr.alert) Ev.pwrThermAlert [h.2, word]
    if limit && !c.pwr.limit then ((c4.mark Reg.PWR_STATUS_LIMIT_SEEN).event Ev.pwrThermLimit [h.2, word]).releaseAct else c4
  else c2

/-- One sensor is read: `MAX` starts below every reading (R653). -/
def Chip.sampleTemp (c : Chip) (n : Nat) (v : Int) : Chip :=
  (c.set Reg.PWR_TEMP_NOW n (unsigned 16 v)).set Reg.PWR_TEMP_MAX n (unsigned 16 (max v (signed 16 (c.fld Reg.PWR_TEMP_MAX n))))

/-- TEMPERATURE_SAMPLE (R649, R651, R653, R667). -/
def execTemperatureSample (t : Nat) (readings : List Int) (s : State) : Host.Outcome State Fault Refusal :=
  actAlways t s (fun c =>
    if readings.length = 12 then
      let h := hottest readings
      let c1 := if c.run = .running then
          ((readings.zipIdx.foldl (fun a e => a.sampleTemp e.2 e.1) c).set Reg.PWR_TEMP_HOT_NOW 0 (unsigned 16 h.1)).set Reg.PWR_TEMP_HOT_SENSOR 0 h.2
        else c
      (c1.judgeHeat h).mgmtUpdate (c.pin.values.getD 5 0) (unsigned 16 h.1 + 65536 * h.2)
    else c)

/-- THERMAL_TRIP (R651): the device enters reset and stays there until THERMAL_TRIP_RECOVERY; the record follows the next start. -/
def execThermalTrip (t : Nat) (sensor : Fin 12) (reading : Int) (s : State) : Host.Outcome State Fault Refusal :=
  actMemAlways t s (fun c m =>
    let r := c.inReset m 0
    let c1 : Chip := { r.1 with pwr := { r.1.pwr with tripped := true, due := r.1.pwr.due ++ [(true, sensor.val, unsigned 32 reading)] } }
    (c1.mark Reg.PWR_STATUS_TRIP_SEEN, r.2))

/-- THERMAL_TRIP_RECOVERY (R651): the cold start that follows has cause `POWER_ON`. -/
def execThermalTripRecovery (t : Nat) (s : State) : Host.Outcome State Fault Refusal :=
  actAlways t s (fun c =>
    if c.pwr.tripped then { c with pwr := { c.pwr with tripped := false }, boot := { c.boot with causes := c.boot.causes ||| 1 } } else c)

/-- What `PWR.CTRL.CLR_CNT` clears (R653). -/
def Chip.clrPwr (c : Chip) : Chip :=
  c.clearAll [Reg.PWR_HOLDS_COUNT, Reg.PWR_HOLD_MAX_US, Reg.PWR_RAIL_V_MIN_MV, Reg.PWR_RAIL_STATE_EXCURSIONS, Reg.PWR_TEMP_MAX]

/-- PWR_CLR_CNT (R653): every counter, minimum and maximum. -/
def execPwrClrCnt (t : Nat) (s : State) : Host.Outcome State Fault Refusal := act t s (fun c => c.clrPwr)

end Sys2Proof.Machine
end

