-- ==== Sys2Proof/Machine/Update.lean ====
section
/-! DEFINITION. Firmware and settings update (R594 to R614): loads, SAVE, key enrolment, activation. -/

namespace Sys2Proof.Machine

/-! ## Shared operations -/

/-- The bank of a kind that `BOOT.STATUS` does not show in use (R599); where it shows none, the one that the journal does not name (R611). -/
def Chip.spareBank (c : Chip) (m : Tbl Byte) (kind : Nat) : Nat :=
  let used := c.fld (if kind = 1 then Reg.BOOT_STATUS_FW_BANK else Reg.BOOT_STATUS_SET_BANK) 0
  if used = 1 ∨ used = 2 then 3 - used else 3 - activeBank m kind

/-- Where a bank begins in memory. -/
def bankBase (kind bank : Nat) : Nat := flashBase + bankOffset kind bank

/-- The size of a bank in bytes (R493). -/
def bankSize (kind : Nat) : Nat := if kind = 1 then 0x03000000 else 0x01000000

/-- Whether an image write of a kind is in progress: its load is in `ERASING` or `LOADING` (R601). -/
def Chip.loading (c : Chip) (kind : Nat) : Bool := (c.load kind).state == .erasing || (c.load kind).state == .loading

/-- Whether an activation is pending or under way. -/
def Chip.actBusy (c : Chip) : Bool := c.upd.act.isSome

/-- Whether the fields of a body other than `KIND` and `ARG` are as an operation without time has them (R598). -/
def updPlain (b : List Byte) : Bool := u64 b 8 == 0 && u32 b 16 == 0

/-- An `UPDATE` request once R540 is passed: refused with the first code whose condition holds, else carried out. Recovery serves some of them for firmware (R611). -/
def Chip.update (c : Chip) (slot : Nat) (body : List Byte) (ops : List Nat) (rec : Bool) (codes : Chip → List (Bool × Nat)) (f : Chip → Chip) : Chip :=
  if ops.contains (u8 body 0) then
    c.request slot 0x0701 3 rec (decide (body.length = if u8 body 0 = 5 then 52 else 20) && zeroAt body 2 2) (fun c =>
      match firstCode (codes c) with
      | some code => c.refuse slot 0x0701 code wholeIndex
      | none => f c)
  else c

/-- The job of a request that a notice will answer. -/
def Chip.flashJob (c : Chip) (slot : Nat) : FlashJob :=
  { slot := slot, session := (c.session slot).id, reqSeq := c.reqSeq slot, entry := 0, inUse := false, ceiling := 0, key := [] }

/-! ## Loads (R599 to R601) -/

/-- Whether an activation that is pending names a kind. -/
def Chip.actNames (c : Chip) (kind : Nat) : Bool := match c.upd.act with | some a => bit a.kinds (kind - 1) | none => false

/-- UPDATE_BEGIN (R598, R599). -/
def execUpdateBegin (t : Nat) (slot : Fin 16) (body : List Byte) (s : State) : Host.Outcome State Fault Refusal :=
  actMem t s (fun c m =>
    let op := u8 body 0
    let kind := u8 body 1
    let arg := u32 body 4
    (c.update slot body (if 2 ≤ op ∧ op ≤ 5 then [] else [op]) (op == 1 && kind == 1) (fun c =>
      [(op != 1, 0x1408), (!(within kind 1 2 && within arg 2 (if kind = 1 then 768 else 256) && updPlain body), 0x1408),
        (c.loading kind || c.actNames kind, 0x1401), (c.upd.save.isSome || c.loading (3 - kind), 0x1109)])
      (fun c =>
        let l : Load := { Load.idle with
          state := .erasing, arg := arg, bank := c.spareBank m kind, slot := slot, session := (c.session slot).id, reqSeq := c.reqSeq slot }
        (c.modLoad kind (fun _ => l)).started slot 0x0701 []), m))

/-- ERASE_DONE (R599). -/
def execEraseDone (t : Nat) (kind : Fin 3) (fails : Bool) (s : State) : Host.Outcome State Fault Refusal :=
  actMem t s (fun c m =>
    let l := c.load kind
    if kind.val ≠ 0 ∧ l.state = .erasing ∧ c.flashStopped = false then
      if fails then ((c.modLoad kind (fun _ => Load.idle)).opDone l.slot l.session l.reqSeq (statusOf 0x1406 wholeIndex), m)
      else ((c.modLoad kind (fun x => { x with state := .loading })).opDone l.slot l.session l.reqSeq (statusOf 0 wholeIndex),
            eraseRange m (bankBase kind l.bank) (65536 * l.arg))
    else (c, m))

/-- The kind whose load takes blocks now. -/
def Chip.loadingKind (c : Chip) : Option Nat :=
  ([1, 2] : List Nat).find? (fun k => (c.load k).state == .loading && !(c.load k).verifying)

/-- A block that fails its CRC is counted (R599). -/
def Chip.crcFail (c : Chip) (slot : Nat) : Chip := (c.count Reg.UPD_CRC_FAIL_COUNT 0 1).refuse slot 0x0801 0x1402 wholeIndex

/-- One image block arrives (R599): it is checked, and programmed when it is right. -/
def Chip.imageBlock (c : Chip) (m : Tbl Byte) (slot id : Nat) (data : List Byte) (fails : Bool) : Chip × Tbl Byte :=
  match c.loadingKind with
  | none => (c.refuse slot 0x0801 0x1401 wholeIndex, m)
  | some kind =>
    let l := c.load kind
    let man := manifest m kind l.bank
    let crc := crcBytes data
    let put : Chip × Tbl Byte :=
      if fails then ((c.modLoad kind (fun _ => Load.idle)).refuse slot 0x0801 0x1406 wholeIndex, m)
      else ((c.modLoad kind (fun x => { x with written := x.written ++ [id] })).done slot 0x0801 [], memWrite m (bankBase kind l.bank + 65536 * id) data)
    if id = 0 then
      if l.written.contains 0 then (if crc = crcBytes man then (c.done slot 0x0801 [], m) else (c.crcFail slot, m))
      else match manifestCode kind data with
        | some k => (c.refuse slot 0x0801 0x1404 k, m)
        | none => if u32 data 20 ≠ l.arg - 1 then (c.refuse slot 0x0801 0x1403 wholeIndex, m) else put
    else if l.written.contains 0 = false ∨ u32 man 20 < id then (c.refuse slot 0x0801 0x1403 wholeIndex, m)
    else if crc ≠ entryCrc man id then (c.crcFail slot, m)
    else if l.written.contains id then (c.done slot 0x0801 [], m)
    else put

/-- IMAGE_BLOCK (R552, R599): target 3 of `BULK_WRITE`. While the supply hold is in force the request waits (R647). -/
def execImageBlock (t : Nat) (slot : Fin 16) (body : List Byte) (fails : Bool) (s : State) : Host.Outcome State Fault Refusal :=
  actMem t s (fun c m =>
    if u8 body 0 ≠ 3 ∨ c.holding = true then (c, m)
    else
      let data := body.drop 16
      let ok := bulkWriteOk body && decide (data.length = 65536)
      let run := fun (c : Chip) => if u64 body 8 ≠ 0 then (c.refuse slot 0x0801 0x1108 wholeIndex, m) else c.imageBlock m slot (u32 body 4) data fails
      let passes := c.serves slot && (c.gateCode slot 0x0801 3 true ok).isNone
      (c.request slot 0x0801 3 true ok (fun c => (run c).1), if passes then (run c).2 else m))

/-- UPDATE_ARM (R598, R600). -/
def execUpdateArm (t : Nat) (slot : Fin 16) (body : List Byte) (s : State) : Host.Outcome State Fault Refusal :=
  act t s (fun c =>
    let kind := u8 body 1
    c.update slot body [2] (kind == 1) (fun c =>
      [(!(within kind 1 2 && u32 body 4 == 0 && updPlain body), 0x1408),
        (!((c.load kind).state == .loading && !(c.load kind).verifying && (c.load kind).written.length == (c.load kind).arg), 0x1401), (c.upd.save.isSome, 0x1109)])
      (fun c =>
        (c.modLoad kind (fun x => { x with
          verifying := true, slot := slot, session := (c.session slot).id, reqSeq := c.reqSeq slot })).started slot 0x0701 []))

/-- ARM_VERIFY_DONE (R596, R600): every check of R496 on the target bank. An armed firmware has the inactive settings bank erased for a conversion, and the journal gets
room. -/
def execArmVerifyDone (t : Nat) (kind : Fin 3) (fails : Bool) (s : State) : Host.Outcome State Fault Refusal :=
  actMem t s (fun c m =>
    let l := c.load kind
    if kind.val ≠ 0 ∧ l.state = .loading ∧ l.verifying = true ∧ c.flashStopped = false then
      let code := bankCode m kind l.bank fails
      if code ≠ 0 then
        (((c.modLoad kind (fun _ => Load.idle)).lastResult 0x1404 0).opDone l.slot l.session l.reqSeq (statusOf 0x1404 code), m)
      else
        let m1 := if kind.val = 1 ∧ c.upd.set.state ≠ .armed then eraseRange m (bankBase 2 (c.spareBank m 2)) (bankSize 2) else m
        let m2 := makeRoom m1
        let c1 := ((c.modLoad kind (fun x => { x with state := .armed, verifying := false })).lastResult 0 0).event Ev.updateArmed
          [kind.val + 256 * l.bank, u32 (manifest m kind l.bank) 28]
        ((c1.opDone l.slot l.session l.reqSeq (statusOf 0 wholeIndex)).showJournal m2, m2)
    else (c, m))

/-- UPDATE_ABORT (R598, R604). -/
def execUpdateAbort (t : Nat) (slot : Fin 16) (body : List Byte) (s : State) : Host.Outcome State Fault Refusal :=
  act t s (fun c =>
    let kind := u8 body 1
    c.update slot body [4] false (fun c =>
      [(!(decide (kind ≤ 2) && u32 body 4 == 0 && updPlain body), 0x1408),
        (if kind = 0 then !(c.upd.act.any (fun a => a.state == 1)) else (c.load kind).state == .idle || c.actNames kind, 0x1401)])
      (fun c =>
        (if kind = 0 then ({ c with upd := { c.upd with act := none } } : Chip).event Ev.updateCancelled [] else c.modLoad kind (fun _ => Load.idle)).done slot 0x0701 []))

/-! ## Keys (R597, R602) -/

/-- ENROL_KEY (R598, R602). -/
def execEnrolKey (t : Nat) (slot : Fin 16) (body : List Byte) (s : State) : Host.Outcome State Fault Refusal :=
  act t s (fun c =>
    let arg := u32 body 4
    let k := arg % 32
    let ceiling := arg / 256 % 4
    let del := bit arg 12
    c.update slot body [5] false (fun c =>
      [(!(u8 body 1 == 0 && arg == k + 256 * ceiling + 4096 * flag del && updPlain body), 0x1408),
        (decide (23 < k) || (if del then !(zeroAt body 20 32) else if k < 16 then ceiling == 0 else ceiling != 0), 0x1407),
        (c.upd.enrol.isSome || c.upd.save.isSome, 0x1109)])
      (fun c =>
        let j : FlashJob := { c.flashJob slot with entry := k, inUse := !del, ceiling := ceiling, key := bytesAt body 20 32 }
        ({ c with upd := { c.upd with enrol := some j } } : Chip).started slot 0x0701 []))

/-- ENROL_DONE (R597, R602). -/
def execEnrolDone (t : Nat) (fails : Fin 3) (s : State) : Host.Outcome State Fault Refusal :=
  actMem t s (fun c m =>
    match c.upd.enrol with
    | none => (c, m)
    | some j =>
      if c.flashStopped then (c, m)
      else
        let m1 := writeKeyTable m (keyTableWith m j.entry j.inUse (if j.inUse then j.ceiling else 0) j.key) fails
        let c1 := ({ c with upd := { c.upd with enrol := none } } : Chip).showKeys m1
        if fails = 0 then
          ((c1.event Ev.updateKeyEnrolled [j.entry + 256 * j.ceiling + 4096 * flag (!j.inUse)]).opDone j.slot j.session j.reqSeq (statusOf 0 wholeIndex), m1)
        else (c1.opDone j.slot j.session j.reqSeq (statusOf 0x1406 wholeIndex), m1))

/-! ## SAVE (R603) -/

/-- One section of a body (R499). -/
def sectionBytes (ty : Nat) (b : List Byte) : List Byte := beBytes 2 ty ++ [1, 0] ++ beBytes 4 b.length ++ padTo 8 b

/-- The settings body of the sections in force (R498, R603). -/
def Chip.buildBody (c : Chip) : List Byte :=
  let tys := allTypes.filter (fun ty => ty != tySurface && c.listed ty != [])
  let rest := tys.flatMap (fun ty => sectionBytes ty ((c.listed ty).flatMap (fun i => c.record ty i)))
  let label := if c.boot.label.length = 32 then c.boot.label else List.replicate 32 0
  beBytes 4 0x544B5354 ++ beBytes 2 1 ++ beBytes 2 tys.length ++ beBytes 4 (48 + rest.length) ++ beBytes 4 0 ++ label ++ rest

/-- The image of a settings body that the device signs with its own key (R495, R603): its blocks from the manifest on. -/
def ownImage (body : List Byte) (gen : Nat) : List Byte :=
  let n := ceilDiv body.length 65536
  let data := padTo 65536 body
  let entries := (List.range n).flatMap (fun k =>
    let blk := bytesAt data (65536 * k) 65536
    beBytes 4 (crcBytes blk) ++ sha512 blk)
  let head := beBytes 4 0x544B4D46 ++ beBytes 2 1 ++ [2, 2] ++ beBytes 4 0x544B1024 ++ beBytes 4 0x0B00 ++ beBytes 4 0x0B00 ++ beBytes 4 n
    ++ beBytes 4 (body.length - 65536 * (n - 1)) ++ beBytes 4 gen ++ List.replicate 32 0 ++ entries
  let signed := head ++ List.replicate (65472 - head.length) 0
  signed ++ hmac Config.deviceKey signed ++ List.replicate 32 0 ++ data

/-- Writes a settings body into a bank. -/
def writeSettings (m : Tbl Byte) (bank : Nat) (body : List Byte) (gen : Nat) : Tbl Byte :=
  memWrite (eraseRange m (bankBase 2 bank) (bankSize 2)) (bankBase 2 bank) (ownImage body gen)

/-- SAVE (R603). -/
def execSave (t : Nat) (slot : Fin 16) (body : List Byte) (s : State) : Host.Outcome State Fault Refusal :=
  act t s (fun c => c.request slot 0x0402 2 false (body == []) (fun c =>
    match firstCode [(c.upd.set.state == .armed || c.actBusy, 0x1401), (c.upd.save.isSome || c.upd.enrol.isSome || c.loading 1 || c.loading 2, 0x1109)] with
    | some code => c.refuse slot 0x0402 code wholeIndex
    | none => ({ c with upd := { c.upd with save := some { c.flashJob slot with key := c.buildBody } } } : Chip).started slot 0x0402 []))

/-- The journal record that follows the one in force. -/
def Chip.nextJournal (c : Chip) (m : Tbl Byte) : Journal :=
  match journal m with
  | some j => { j with counter := (j.counter + 1) % 4294967296 }
  | none => ⟨1, max 1 (c.fld Reg.BOOT_STATUS_FW_BANK 0), max 1 (c.fld Reg.BOOT_STATUS_SET_BANK 0), c.fld Reg.BOOT_FW_GEN_GEN 0, c.fld Reg.BOOT_SET_GEN_GEN 0⟩

/-- SAVE_DONE (R596, R603): the bank is verified and the journal names it, or the SAVE fails. -/
def execSaveDone (t : Nat) (fails : Bool) (journalFails : Fin 3) (s : State) : Host.Outcome State Fault Refusal :=
  actMem t s (fun c m =>
    match c.upd.save with
    | none => (c, m)
    | some j =>
      if c.flashStopped then (c, m)
      else
        let bank := c.spareBank m 2
        let gen := (c.fld Reg.BOOT_SET_GEN_GEN 0 + 1) % 4294967296
        let m1 := makeRoom (writeSettings m bank j.key gen)
        let c1 : Chip := { c with upd := { c.upd with save := none } }
        let fail := fun (x : Chip) => (x.lastResult 0x1406 0).opDone j.slot j.session j.reqSeq (statusOf 0x1406 wholeIndex)
        if fails = true ∨ bankCode m1 2 bank false ≠ 0 then ((fail c1).showJournal m1, m1)
        else
          let r := c1.commitJournal m1 { c1.nextJournal m1 with setBank := bank, setGen := gen } 2 journalFails
          if journalFails ≠ 0 then (fail r.1, r.2)
          else
            let c2 := r.1.useSettings r.2 bank
            let c3 : Chip := { c2 with boot := { c2.boot with unsaved := decide (c2.buildBody ≠ j.key) } }
            (((c3.lastResult 0 0).event Ev.updateSaved [bank, gen]).opDone j.slot j.session j.reqSeq (statusOf 0 wholeIndex), r.2))

/-! ## Activation (R604 to R611) -/

/-- Whether a time lies 1 s to 86,400 s after device time (R604). -/
def Chip.actTimeOk (c : Chip) (sec ns : Nat) : Bool :=
  c.isSet Reg.PTP_STATUS_TIME_VALID 0 && decide (c.deviceQ + qSec ≤ qOf sec ns) && decide (qOf sec ns ≤ c.deviceQ + 86400 * qSec)

/-- UPDATE_ACTIVATE (R598, R604, R611): it starts, or its time is reached, at ACTIVATION_START. -/
def execUpdateActivate (t : Nat) (slot : Fin 16) (body : List Byte) (s : State) : Host.Outcome State Fault Refusal :=
  act t s (fun c =>
    let arg := u32 body 4
    let timed := bit arg 8
    let kinds := arg % 4
    c.update slot body [3] (arg == 1) (fun c =>
      [(!(u8 body 1 == 0 && kinds != 0 && arg == kinds + 256 * flag timed && decide (u32 body 16 < 1000000000) && (timed || updPlain body)), 0x1408),
        ((bit kinds 0 && c.upd.fw.state != .armed) || (bit kinds 1 && c.upd.set.state != .armed) || c.actBusy, 0x1401), (c.upd.save.isSome, 0x1109),
        (timed && !(c.actTimeOk (u64 body 8) (u32 body 16)), 0x1405)])
      (fun c =>
        let time := if timed then some (u64 body 8, u32 body 16) else none
        let a : Activation := ⟨1, kinds, time, 0, none, slot, (c.session slot).id, c.reqSeq slot⟩
        ({ c with upd := { c.upd with act := some a } } : Chip).started slot 0x0701 []))

/-- Whether the instant of a pending activation has come (R604). -/
def Chip.actDue (c : Chip) (a : Activation) : Bool := match a.time with | some w => decide (qOf w.1 w.2 ≤ c.deviceQ) | none => true

/-- In ROM recovery an activation commits the journal and starts a cold start (R611). -/
def Chip.recoveryActivate (c : Chip) (m : Tbl Byte) (a : Activation) (fails : Nat) : Chip × Tbl Byte :=
  let b := c.upd.fw.bank
  let r := c.commitJournal m { c.nextJournal m with fwBank := b, fwGen := u32 (manifest m 1 b) 28 } 3 fails
  if fails = 0 then r.1.inReset r.2 4 else (r.1.endRevert { a with startedAt := c.now } 6 0 0, r.2)

/-- ACTIVATION_START (R604, R605, R611). -/
def execActivationStart (t : Nat) (journalFails : Fin 3) (s : State) : Host.Outcome State Fault Refusal :=
  actMem t s (fun c m =>
    match c.upd.act with
    | none => (c, m)
    | some a =>
      if a.state ≠ 1 ∨ c.actDue a = false then (c, m)
      else if c.phase = 4 then (if c.holding then (c, m) else c.recoveryActivate m a journalFails)
      else
        let c1 : Chip := { c with upd := { c.upd with act := some { a with state := 2, startedAt := c.now } } }
        let c2 := c1.event Ev.updateActivating [a.kinds + 256 * flag a.time.isSome]
        let r := c2.resetCores m
        (([0, 1, 2, 3] : List Nat).foldl (fun x td => x.stopJobs td) (if bit a.kinds 0 then r.1.interruptSets 3 else r.1), r.2))

/-- A record in force that the new settings do not hold ends: what hangs on it as for a refused pilot section, else the record alone. -/
def Chip.endRecord (c : Chip) (ty i : Nat) : Chip :=
  if ty = tyTick ∨ ty = tyDests ∨ ty = tySdi ∨ ty = tySources ∨ ty = tyMacPorts ∨ ty = tyEntries then
    c.dropRecord ty (if ty = tyTick then i else if ty = tyDests then c.dstTd i
      else if ty = tySdi ∧ bit (u8 (c.record ty i) 2) 1 = true then c.dstTd (u16 (c.record ty i) 6) else 0) i
  else if ty = tyRx then (c.changeRx i (flowDisabled (c.record ty i))).setRec ty i []
  else if ty = tyTx then (c.changeTx i (flowDisabled (c.record ty i))).setRec ty i []
  else if ty = tyGens then (c.setRec ty i []).modGen i (fun g => { g with next := some (List.replicate 16 0, c.now) })
  else if ty = tyFab ∨ ty = tyArb ∨ ty = tyFstSources ∨ ty = tyFstGlobal then
    (if ty = tyFab then [Reg.FAB_HOG_LIMIT_BEATS, Reg.FAB_TIMEOUT_REG_US, Reg.FAB_TIMEOUT_MEM_MS] else if ty = tyFstSources then [] else
      if ty = tyFstGlobal then [Reg.FST_SCRUB_PERIOD_S, Reg.FST_CTRL_SCRUB_EN] else Reg.ARB_HOG_LIMIT_BEATS :: (List.range 6).map Reg.ARB_BE_CFG_WEIGHT).foldl
      (fun a f => a.set f 0 f.reset)
      (if ty = tyFstSources then (c.setRec ty i []).set Reg.FST_SRC_CFG_MISS_LINES i Reg.FST_SRC_CFG_MISS_LINES.reset else if ty = tyFab then
        (List.range 9).foldl (fun a k => a.set Reg.FAB_M_CFG_WEIGHT k 0) (c.setRec ty i []) else c.setRec ty i [])
  else c.applyRecordOf ty i i [] []

/-- The sections whose records an activation does not apply (R607). -/
def notApplied : List Nat := [tyRoutes, tyPilotRoutes, tyLayouts]

/-- Applies the differences of a section list as CONFIGURE messages would, each judged on what those before it leave; the type and code of the first that would be
refused (R607). -/
def Chip.applyDiffs (c : Chip) (slot : Nat) : List (Nat × List Byte) → Except (Nat × Nat) Chip
  | [] => .ok c
  | (k, r) :: rest =>
    let ty := k / 1048576
    let i := k % 1048576
    if c.record ty i = r then c.applyDiffs slot rest
    else if r = [] then
      match firstOfRank ty (c.busyCodes slot ty i i [] []) with
      | some code => .error (ty, code)
      | none => (c.endRecord ty i).applyDiffs slot rest
    else
      match c.configureCode slot ty (if ty = tyTick then i else 0) i r [] with
      | some code => .error (ty, code)
      | none => (c.applyRecordOf ty i i r []).applyDiffs slot rest

/-- What a settings list changes, in ascending order: the records that differ, and those in force that it does not hold. -/
def Chip.diffsTo (c : Chip) (new : Tbl (List Byte)) : List (Nat × List Byte) :=
  let keys := (allTypes.flatMap (fun ty => (dedup ((c.listed ty) ++ (new.filter (fun e => e.1 / 1048576 == ty)).map (fun e => e.1 % 1048576))).map (cfgKey ty)))
  (keys.filter (fun k => !(notApplied.contains (k / 1048576)))).map (fun k => (k, Tbl.get [] new k))

/-- Step 4 of R605 on a list of sections: the module with the settings in force, or why it reverts (R608). -/
def Chip.trial (c : Chip) (slot : Nat) (ss : List (Nat × List Byte)) (refuses : Option (Nat × Nat)) : Except (Nat × Nat × Nat) Chip :=
  match refuses with
  | some (ty, code) => .error (2, ty, code)
  | none =>
    match ss.find? (fun s => decide (s.1 < 32768) && !(allTypes.contains s.1)) with
    | some s => .error (2, s.1, 0x1004)
    | none =>
      let r := c.checkSections (ss.map (fun s => (plainType s.1, s.2)))
      match r.2 with
      | f :: _ => .error (2, f.1, f.2.1)
      | [] =>
        match c.applyDiffs slot (c.diffsTo r.1.cfg) with
        | .error e => .error (3, e.1, e.2)
        | .ok c1 =>
          let keep := notApplied.foldl (fun (a : Chip) ty =>
            (r.1.listed ty).foldl (fun b i => b.setRec ty i (r.1.record ty i)) (a.clearSection ty)) c1
          .ok (ss.foldl (fun (a : Chip) s => if 32768 ≤ s.1 ∧ !(allTypes.contains (plainType s.1)) then a.event Ev.setSectionIgnored [s.1] else a) keep)

/-- The commit of an activation (step 5 of R605): the banks that the journal names are in use, the requests that waited are processed. -/
def Chip.commitAct (c : Chip) (m : Tbl Byte) (a : Activation) (j : Journal) (settings : Bool) : Chip :=
  let c1 := if bit a.kinds 0 then c.startFw m j.fwBank else c
  let c2 := if settings then
      (let x := c1.useSettings m j.setBank; { x with boot := { x.boot with unsaved := false } })
    else c1
  let c3 := ([1, 2] : List Nat).foldl (fun (x : Chip) k => if bit a.kinds (k - 1) then x.modLoad k (fun _ => Load.idle) else x) c2
  let c4 : Chip := { c3.releaseCores with upd := { c3.upd with act := none } }
  let c5 := (((c4.mark Reg.UPD_STATUS_COMMIT_SEEN).count Reg.UPD_COUNTS_COMMITS 0 1).set Reg.UPD_T_ACTIVATE_US 0 ((c.now - a.startedAt) / 27000)).lastResult 0 0
  (((c5.event Ev.updateCommitted [j.fwBank + 4 * j.setBank, j.counter]).opDone a.slot a.session a.reqSeq (statusOf 0 wholeIndex)).pausePlayers).sendKept

/-- The settings that the trial checks (R605, R606): memory with a converted body written, its bank when there is one, and the sections; none when the conversion fails. -/
def Chip.trialSettings (c : Chip) (m : Tbl Byte) (a : Activation) (x : Trial) : Option (Tbl Byte × Option Nat × List (Nat × List Byte)) :=
  if bit a.kinds 1 then some (m, some c.upd.set.bank, ((readBody (bankBody m c.upd.set.bank)).getD ([], [])).2)
  else match (if bit a.kinds 0 = true ∧ c.upd.set.state ≠ .armed then x.converted else none) with
    | some (body, ok) =>
      let bank := c.spareBank m 2
      let m1 := writeSettings m bank body ((c.fld Reg.BOOT_SET_GEN_GEN 0 + 1) % 4294967296)
      if ok = true ∧ bankCode m1 2 bank false = 0 then some (m1, some bank, ((readBody body).getD ([], [])).2) else none
    | none => some (m, none, ((readBody c.buildBody).getD ([], [])).2)

/-- ACTIVATION_END (R605 to R609): the journal is committed, or the activation has reverted. -/
def execActivationEnd (t : Nat) (trial : Trial) (s : State) : Host.Outcome State Fault Refusal :=
  actMem t s (fun c m =>
    match c.upd.act with
    | none => (c, m)
    | some a =>
      let revert := fun (m : Tbl Byte) (w : Nat × Nat × Nat) => (((c.endRevert a w.1 w.2.1 w.2.2).pausePlayers).sendKept, m)
      if a.state < 2 ∨ c.flashStopped = true then (c, m)
      else match a.why with
        | some w => revert m w
        | none =>
          if trial.images = false ∧ bit a.kinds 0 = true then revert m (1, 0, 0)
          else if trial.late then revert m (7, 0, 0)
          else match c.trialSettings m a trial with
            | none => revert m (4, 0, 0)
            | some (m1, bank, ss) =>
              match c.trial a.slot ss (if bit a.kinds 0 then trial.refuses else none) with
              | .error w => revert m1 w
              | .ok c1 =>
                let j0 := c.nextJournal m1
                let j1 := if bit a.kinds 0 then { j0 with fwBank := c.upd.fw.bank, fwGen := u32 (manifest m1 1 c.upd.fw.bank) 28 } else j0
                let j := match bank with | some b => { j1 with setBank := b, setGen := u32 (manifest m1 2 b) 28 } | none => j1
                if trial.journalFails ≠ 0 then
                  let r := c.commitJournal m1 j 1 trial.journalFails
                  (((r.1.endRevert a 6 0 0).pausePlayers).sendKept, r.2)
                else
                  let r := c1.commitJournal m1 j 1 0
                  (r.1.commitAct r.2 a j bank.isSome, r.2))

/-- What `UPD.CTRL.CLR_CNT` clears (R613). -/
def Chip.clrUpd (c : Chip) : Chip :=
  c.clearAll [Reg.UPD_CRC_FAIL_COUNT]

/-- UPD_CLR_CNT (R613). -/
def execUpdClrCnt (t : Nat) (s : State) : Host.Outcome State Fault Refusal := act t s (fun c => c.clrUpd)

end Sys2Proof.Machine
end

