-- ==== Sys2Proof/Machine/RegView.lean ====
section
/-! DEFINITION. What the registers read: the fields that show structured state, the banks that select registers choose, and the latched high words
(R5, R636, R637 and the register tables of the chapters). -/

namespace Sys2Proof.Machine

/-! ## Select registers -/

/-- A select register that shows a bank of registers: the field that selects, the number of banks, and the first and last address shown. -/
structure Bank where
  sel : Fld
  count : Nat
  first : Nat
  last : Nat
  deriving DecidableEq, Repr

/-- The banks of the register tables. -/
def banks : List Bank :=
  [⟨Reg.XPT_DST_SEL_DST, 1568, 0x40000024, 0x40000038⟩, ⟨Reg.XPT_SRC_SEL_SRC, 1120, 0x40000044, 0x4000004C⟩,
   ⟨Reg.FST_SRC_SEL_SRC, 1120, 0x40020044, 0x40020060⟩, ⟨Reg.FST_SYNC_SEL_SRC, 1120, 0x40020074, 0x40020084⟩,
   ⟨Reg.ARB_TBL_SEL_ROW, 2288, 0x40030024, 0x40030024⟩, ⟨Reg.CMP_SEL_CMP, 32, 0x40040024, 0x4004003C⟩,
   ⟨Reg.CMP_LAYER_SEL_LAYER, 16, 0x40040044, 0x40040054⟩, ⟨Reg.AUD_DST_SEL_CH, 16384, 0x40050024, 0x40050030⟩,
   ⟨Reg.AUD_SRC_SEL_CH, 16384, 0x40050044, 0x40050054⟩, ⟨Reg.AUD_PORT_SEL_PORT, 24, 0x40050064, 0x40050074⟩,
   ⟨Reg.PMI_FLOW_SEL_FLOW, 4096, 0x40060024, 0x40060048⟩, ⟨Reg.PMO_FLOW_SEL_FLOW, 4096, 0x40070024, 0x4007003C⟩] ++
  [⟨Reg.MAC_PORT_SEL_PORT, 18, 0x40080024, 0x4008002C⟩, ⟨Reg.MAC_PORT_SEL_PORT, 18, 0x40080034, 0x400800B0⟩,
   ⟨Reg.LNE_LANE_SEL_LANE, 216, 0x40090024, 0x4009005C⟩, ⟨Reg.REFS_E_SEL_ENTRY, 8, 0x60000034, 0x60000044⟩,
   ⟨Reg.SPL_PORT_SEL_PORT, 8, 0x60020034, 0x60020044⟩, ⟨Reg.SPL_DST_SEL_DST, 1568, 0x60020054, 0x60020058⟩,
   ⟨Reg.GEN_SEL_GEN, 32, 0x400B0024, 0x400B002C⟩, ⟨Reg.GEN_SEL_GEN, 32, 0x400B0034, 0x400B0038⟩,
   ⟨Reg.FWA_SRC_SEL_SRC, 1024, 0x400A0024, 0x400A0050⟩, ⟨Reg.FWA_SRC_SEL_SRC, 1024, 0x400A0058, 0x400A0060⟩,
   ⟨Reg.FWA_SRC_SEL_SRC, 1024, 0x400A0068, 0x400A0068⟩, ⟨Reg.FWA_CH_SEL_CH, 16384, 0x400A0084, 0x400A0088⟩] ++
  [⟨Reg.FWA_D_SEL_ANA, 8, 0x400A00C4, 0x400A00D8⟩, ⟨Reg.CAP_DRV_SEL_LINK, 4, 0x400C0024, 0x400C002C⟩,
   ⟨Reg.CAP_SET_SEL_SET, 256, 0x400C0044, 0x400C004C⟩, ⟨Reg.CAP_K_SEL_CH, 32, 0x400C0064, 0x400C0070⟩,
   ⟨Reg.CAP_P_SEL_PLAYER, 32, 0x400C0084, 0x400C008C⟩, ⟨Reg.LAN_S_SEL_SLOT, 16, 0x60040044, 0x60040060⟩,
   ⟨Reg.FLT_SRAM_SEL_PART, 5, 0x60050024, 0x6005002C⟩, ⟨Reg.FAB_M_SEL_MASTER, 9, 0x400D0034, 0x400D0044⟩,
   ⟨Reg.PWR_RAIL_SEL_RAIL, 11, 0x60080024, 0x60080028⟩, ⟨Reg.PWR_TEMP_SEL_SENSOR, 12, 0x60080034, 0x60080034⟩]

/-- Whether the latest write of a select register named nothing (R109, R142, R344 and their like). -/
def Chip.noneSelected (c : Chip) (sel : Fld) : Bool := c.noSel.contains sel.addr || (sel == Reg.LNE_LANE_SEL_LANE && c.lne.noLane)

/-- The bank that an address shows; none where nothing is selected, so that it reads as 0. -/
def Chip.bankAt (c : Chip) (a : Nat) : Option Nat :=
  match banks.find? (fun b => decide (b.first ≤ a) && decide (a ≤ b.last)) with
  | none => some 0
  | some b =>
    let v := c.fld b.sel 0
    if c.noneSelected b.sel then none
    else if (within a 0x400A0058 0x400A0060 && c.noneSelected Reg.FWA_S_CRC_SEL_ENTRY) || (within a 0x400B0034 0x400B0038 && c.noneSelected Reg.GEN_G_CRC_SEL_ENTRY) then none
    else if b.sel = Reg.FST_SYNC_SEL_SRC then some (pairBank v (c.fld Reg.FST_SYNC_SEL_TD 0))
    else if b.sel = Reg.ARB_TBL_SEL_ROW then some 0
    else if b.sel = Reg.CMP_LAYER_SEL_LAYER then some (c.fld Reg.CMP_SEL_CMP 0 * 16 + v)
    else if b.sel = Reg.MAC_PORT_SEL_PORT then
      (if c.fld Reg.MAC_PORT_SEL_BREAKOUT 0 < c.breakouts v then some (macKey v (c.fld Reg.MAC_PORT_SEL_BREAKOUT 0)) else none)
    else some v

/-- Packs flags as bits from bit 0. -/
def bitMap (n : Nat) (f : Nat → Bool) : Nat := ((List.range n).map (fun i => flag (f i) * 2 ^ i)).sum

/-! ## Fields that show structured state -/

/-- `TICK` (R70 to R74). -/
def Chip.viewTick (c : Chip) : List (Fld × Nat) :=
  let s := c.fld Reg.TICK_SRC_PHASE_SEL_SRC 0
  let td := c.fld Reg.TICK_SRC_PHASE_SEL_TD 0
  let known := if isExternalSrc s then c.bound s && (c.srcFormat s).isSome else decide (s < 1120) && c.internalOn s
  [(Reg.TICK_STATUS_REALIGN_PEND, bitMap 4 (fun i => (c.dom i).pend.isSome || (c.dom i).due.isSome)),
   (Reg.TICK_STATUS_ALIGNED, bitMap 4 (fun i => (c.dom i).aligned)), (Reg.TICK_STATUS_ENABLED, bitMap 4 c.tdOn),
   (Reg.TICK_STATUS_FREE_RUN, flag (c.fld Reg.REFS_DPLL_STATE 0 == 0)), (Reg.TICK_SEQ_POS, c.tick.seqPos),
   (Reg.TICK_SAMPLE_CNT_COUNT, c.tick.samples), (Reg.TICK_SLOTFRAME_CNT_COUNT, c.tick.slotFrames),
   (Reg.TICK_SRC_PHASE_LEAD, if isExternalSrc s then unsigned 16 (c.lead s td).lead else 0), (Reg.TICK_SRC_PHASE_VALID, flag known),
   (Reg.TICK_SRC_PHASE_RATE_MATCH, flag (decide (s < 1120) && c.srcRate s == some (c.tdRate td))),
   (Reg.TICK_SRC_PHASE_IN_WINDOW, flag (decide (s < 1120) && c.inWindow s td))] ++
  (List.range 4).flatMap (fun n => [(Reg.TICK_TD_FRAME_LO_COUNT n, (c.dom n).frame), (Reg.TICK_TD_FRAME_HI_COUNT n, (c.dom n).frame / 4294967296)])

/-- The level that `XPT.DST_STATE.STATE` shows: the video level, or the ancillary one when that is normal or has no route (R108). -/
def Chip.shownLevel (c : Chip) (d : Nat) : Level :=
  let x := c.dst d
  if (c.route d 0).isNone || x.video.state == .normal then x.anc else x.video

/-- The path of a route, as `DST_STATE` codes it. -/
def Chip.pathCode (c : Chip) (d lvl : Nat) : Nat := match c.route d lvl with | some r => r.path.code | none => 0

/-- The fields of `XPT.DST_STATE` (R108). -/
def Chip.viewDst (c : Chip) (d : Nat) : List (Fld × Nat) :=
  let v := c.shownLevel d
  [(Reg.XPT_DST_STATE_PATH, c.pathCode d (if (c.route d 0).isNone then 1 else 0)), (Reg.XPT_DST_STATE_FALLBACK, c.dstFallback d),
   (Reg.XPT_DST_STATE_STATE, v.state.code), (Reg.XPT_DST_STATE_CAUSE, if v.fallen then v.cause.code else 0),
   (Reg.XPT_DST_STATE_TD, c.dstTd d), (Reg.XPT_DST_STATE_HELD, flag (c.xpt.queue.any (fun q => q.dst == d && q.held))),
   (Reg.XPT_DST_STATE_PATH_A, c.pathCode d 1),
   (Reg.XPT_DST_STATE_PENDING, min 255 (c.xpt.queue.filter (fun q => q.dst == d)).length), (Reg.XPT_DST_STATE_PATH_F, c.pathCode d 2)]

/-- The source that a route register shows: 0x7FE for a remote one (R430). -/
def Chip.shownSource (c : Chip) (d lvl : Nat) : Nat := match c.route d lvl with | none => noSource | some r => if r.dev.isSome then 0x7FE else r.src

/-- Whether any level of any destination is in fallback (R108). -/
def Chip.anyFallback (c : Chip) : Bool := c.xpt.dsts.any (fun e => e.2.video.fallen || e.2.anc.fallen || e.2.follow.fallen)

/-- `XPT` (R108), with bank `b`. -/
def Chip.viewXpt (c : Chip) (b : Nat) : List (Fld × Nat) :=
  [(Reg.XPT_STATUS_FALLBACK_ACTIVE, flag c.anyFallback), (Reg.XPT_QUEUE_USED, c.queueUsed),
   (Reg.XPT_HELD_COUNT, (c.xpt.queue.filter (fun q => q.held)).length + (c.xpt.audQueue.filter (fun q => q.held)).length),
   (Reg.XPT_SLOTS_USED, c.slotsUsed), (Reg.XPT_DST_ROUTE_V_SRC, c.shownSource b 0), (Reg.XPT_DST_ROUTE_A_SRC, c.shownSource b 1),
   (Reg.XPT_DST_ROUTE_F_SRC, c.shownSource b 2), (Reg.XPT_DST_ALT_SRC, c.dstAlt b)] ++ c.viewDst b ++
  [(Reg.XPT_SRC_STATE_BOUND, flag (c.bound b)), (Reg.XPT_SRC_STATE_LOST, flag (c.src b).lost), (Reg.XPT_SRC_STATE_IS_22, flag (c.is22 b)),
   (Reg.XPT_SRC_STATE_PILOT_CAP, flag (c.pilotSrc b c.sdiLocked)), (Reg.XPT_SRC_STATE_READOUT, bitMap 4 (fun n => c.readouts.contains (pairKey none b n))),
   (Reg.XPT_SRC_STATE_FANOUT, (dedup ((c.routesList.filter (fun e => e.2.2.src == b && e.2.2.dev.isNone)).map Prod.fst)).length)]

/-- `FST` (R141), with bank `b`; the decision registers show source `b / 4` in domain `b % 4`. -/
def Chip.viewFst (c : Chip) (b : Nat) : List (Fld × Nat) :=
  let y := c.sync b
  let d := c.decision (b / 4) (b % 4)
  [(Reg.FST_PYR_SETS_USED, c.pyramids.length), (Reg.FST_COMP_RATIO, Config.compRatio (c.uptime / 1000000000) % 65536),
   (Reg.FST_COMP_RAW_PM, Config.compRatio (c.uptime / 1000000000) / 65536 % 1001), (Reg.FST_WR_STATE_ACTIVE, flag (c.written b)),
   (Reg.FST_WR_STATE_PYRAMID, flag (c.pyramidOn b)), (Reg.FST_WR_STATE_NEWEST, y.newest.getD 3), (Reg.FST_WR_STATE_WRITING, y.writing.getD 3),
   (Reg.FST_SYNC_STATE_EXISTS, flag d.live), (Reg.FST_SYNC_STATE_AWAIT, flag d.await), (Reg.FST_SYNC_STATE_LATCHED, d.latched.getD 3),
   (Reg.FST_SYNC_STATE_LAST_REPEAT, flag d.repeated), (Reg.FST_SYNC_STATE_LAST_DROP, flag d.dropped), (Reg.FST_SYNC_FRAME_FRAME, d.last.getD 0)]

/-- The owner codes of the selected row of a slot table (R172). -/
def Chip.tableWord (c : Chip) : Nat :=
  let x := if c.isSet Reg.ARB_TBL_SEL_BANK 0 then c.arb.active else c.arb.shadow
  ((List.range 8).map (fun k => x.owner (c.fld Reg.ARB_TBL_SEL_CH 0) (8 * c.fld Reg.ARB_TBL_SEL_ROW 0 + k) * 16 ^ k)).sum

/-- `ARB` (R172); `OWNED` shows the channel that `TBL_SEL` names. -/
def Chip.viewArb (c : Chip) : List (Fld × Nat) :=
  let ch := c.fld Reg.ARB_TBL_SEL_CH 0
  [(Reg.ARB_STATUS_SWAP_PEND, flag c.arb.swapPend), (Reg.ARB_STATUS_QUAR, c.fld Reg.ARB_QUAR_CLIENT 0), (Reg.ARB_RT_MASK_ACTIVE, c.arb.maskLive),
   (Reg.ARB_SLOT_CNT_COUNT, c.slotCount), (Reg.ARB_OWNED_ACTIVE, c.arb.active.owned ch), (Reg.ARB_OWNED_SHADOW, c.arb.shadow.owned ch),
   (Reg.ARB_TBL_DATA_OWNERS, c.tableWord)]

/-- The scaling that a layer uses; none for a layer that scales nothing (R185). -/
def Chip.layerScale (c : Chip) (cmp l : Nat) : Option Scale :=
  let y := c.layer cmp l
  if u8 y.record 0 = 1 ∨ u8 y.record 0 = 2 then
    let z := c.jobSize y.record (c.routeSrc (1024 + 16 * cmp + l) 0) (c.cmpTd cmp)
    some (scaleAt y.record z.1 z.2 (if 2 < y.level then 2 else y.level))
  else none

/-- `CMP` (R212), with bank `b`: a composer, or a composer and layer as 16 · composer + layer. -/
def Chip.viewCmp (c : Chip) (b : Nat) : List (Fld × Nat) :=
  let y := c.layer (b / 16) (b % 16)
  let z := c.layerScale (b / 16) (b % 16)
  [(Reg.CMP_ENABLED_MAP, bitMap 32 c.cmpOn), (Reg.CMP_RES_LUT_SETS, 1 + (c.listed tyLuts).length),
   (Reg.CMP_RES_SURFACES, (c.cmp.surfaces.filter (fun e => e.2.isSome)).length), (Reg.CMP_C_STATE_TD, c.cmpTd b),
   (Reg.CMP_C_STATE_SPACE, u8 (c.record tyComposers b) 7), (Reg.CMP_C_STATE_PEND, flag (c.cmp.layouts.any (fun l => l.cmp == b))),
   (Reg.CMP_C_STATE_HELD, flag (c.cmp.layouts.any (fun l => l.cmp == b && l.held))), (Reg.CMP_L_STATE_KIND, u8 y.record 0),
   (Reg.CMP_L_STATE_LEVEL, if y.fill then 3 else y.level), (Reg.CMP_L_STATE_PF_H, match z with | some s => Nat.log2 s.ph | none => 0),
   (Reg.CMP_L_STATE_PF_V, match z with | some s => Nat.log2 s.pv | none => 0), (Reg.CMP_L_STATE_READY, flag y.ready),
   (Reg.CMP_L_STATE_DEMOTED, flag y.demoted), (Reg.CMP_L_STATE_FILL, flag y.fill), (Reg.CMP_L_STATE_REPEATS, y.repeats),
   (Reg.CMP_L_STATE_LIMIT, if y.record = [] then 8 else u8 y.record 6), (Reg.CMP_L_WIDTH_WIDTH, match z with | some s => s.width | none => 0)]

/-- What `AUD.DST_ROUTE` shows of a signal: the position, and whether it is a follow position (R221, R245). -/
def Chip.audShown (c : Chip) (g : AudSig) : Nat × Bool :=
  match g with
  | .live p => (p, false)
  | .follow s td e => (match c.aud.follows.find? (fun x => x.2 == followKey s td e + 1) with | some x => (x.1, true) | none => (0x7FFF, false))
  | .remote _ _ => (c.openVal 15, false)
  | _ => (0x7FFF, false)

/-- Whether a source position is slipped under R237: a port that is asynchronous, or SDI that is not frequency-locked. -/
def Chip.audAsync (c : Chip) (p : Nat) : Bool :=
  match c.audBind false p with
  | none => false
  | some (r, _) =>
    if u8 r 2 = 4 ∨ u8 r 2 = 5 then c.portAsync (u16 r 4) else u8 r 2 == 3 && (c.srcSdi (u16 r 4)).isSome && !(c.src (u16 r 4)).freqLock

/-- The kind of a position's binding, 0 when unbound. -/
def Chip.audKind (c : Chip) (dstSide : Bool) (p : Nat) : Nat := match c.audBind dstSide p with | some (r, _) => u8 r 2 | none => 0

/-- `AUD` (R245), with bank `b`. -/
def Chip.viewAud (c : Chip) (b : Nat) : List (Fld × Nat) :=
  let d := c.audDst b
  let p := c.audPort b
  [(Reg.AUD_USE_SRC, (c.boundPositions false).length), (Reg.AUD_USE_FOLLOW, c.aud.follows.length), (Reg.AUD_USE_DST_DST, (c.boundPositions true).length),
   (Reg.AUD_DST_ROUTE_SRC, (c.audShown d.route).1), (Reg.AUD_DST_ROUTE_FOLLOW, flag (c.audShown d.route).2), (Reg.AUD_DST_ROUTE_KIND, c.audKind true b),
   (Reg.AUD_DST_ROUTE_RATE96, flag (c.audRate96 true b)), (Reg.AUD_DST_ROUTE_PAIR, flag (c.audPair true b)),
   (Reg.AUD_DST_ROUTE_XFADE, flag (decide (d.fadeAt < 64) || decide (d.rampAt < 64))), (Reg.AUD_DST_LEVEL_GAIN, unsigned 16 d.gain),
   (Reg.AUD_DST_LEVEL_MUTE, flag d.mute), (Reg.AUD_DST_LEVEL_INVERT, flag d.invert), (Reg.AUD_SRC_STATE_BOUND, flag (c.audBound false b)),
   (Reg.AUD_SRC_STATE_RATE96, flag (c.audRate96 false b)), (Reg.AUD_SRC_STATE_PAIR, flag (c.audPair false b))] ++
  [(Reg.AUD_SRC_STATE_ASYNC, flag (c.audAsync b)), (Reg.AUD_SRC_STATE_KIND, c.audKind false b),
   (Reg.AUD_SRC_STATE_FANOUT, (c.aud.dsts.filter (fun e => e.2.route == .live b)).length),
   (Reg.AUD_PORT_STATE_CLOCK, if c.portMaster b then 3 else p.clock), (Reg.AUD_PORT_STATE_CLASS, p.cls), (Reg.AUD_PORT_STATE_MUTED, flag p.muted),
   (Reg.AUD_PORT_STATE_ENABLED, flag (c.portOn b)), (Reg.AUD_PORT_STATE_FILL, p.input.frames.length)]

/-- The index that `BIND` shows (R280, R282). -/
def bindShown (r : List Byte) : Nat := if flowKind r = 2 ∨ flowKind r = 3 then 0x7FF else u16 r 4

/-- Whether every multicast path of a flow holds its membership (R280). -/
def Chip.flowJoined (c : Chip) (r : List Byte) : Bool :=
  (flowPaths r).all (fun b =>
    let q := flowPath r b
    !(isGroup (flowV6 r) (pathDst (flowV6 r) q)) || c.net.members.any (fun m => m.port == u8 q 0 && m.breakout == u8 q 1 && m.vlan == u16 q 2
      && m.v6 == flowV6 r && m.group == pathDst (flowV6 r) q && (m.srcs == [] || m.srcs.contains (pathSrc (flowV6 r) q))))

/-- `PMI` (R280), with bank `b`. -/
def Chip.viewPmi (c : Chip) (b : Nat) : List (Fld × Nat) :=
  let r := c.record tyRx b
  let x := c.rx b
  [(Reg.PMI_FLOWS_ENABLED, c.rxFlows.length), (Reg.PMI_FLOWS_DUAL, (c.rxFlows.filter (fun f => flowDual (c.record tyRx f))).length),
   (Reg.PMI_F_STATE_ENABLE, flag (flowOn r)), (Reg.PMI_F_STATE_KIND, flowKind r), (Reg.PMI_F_STATE_DUAL, flag (flowDual r)),
   (Reg.PMI_F_STATE_A_UP, flag x.upA), (Reg.PMI_F_STATE_B_UP, flag x.upB), (Reg.PMI_F_STATE_JOINED, flag (r != [] && c.flowJoined r)),
   (Reg.PMI_F_STATE_SSRC_SET, flag x.ssrc.isSome), (Reg.PMI_F_STATE_BIND, bindShown r), (Reg.PMI_F_SSRC_SSRC, x.ssrc.getD 0)]

/-- `PMO` (R282), with bank `b`. -/
def Chip.viewPmo (c : Chip) (b : Nat) : List (Fld × Nat) :=
  let r := c.record tyTx b
  let x := c.tx b
  [(Reg.PMO_FLOWS_ENABLED, ((c.listed tyTx).filter (fun f => flowOn (c.record tyTx f))).length),
   (Reg.PMO_RINGS_RX22, (c.rxFlows.filter (fun f => flowKind (c.record tyRx f) == 1)).length),
   (Reg.PMO_INJ_BUSY, bitMap 8 (fun i => (Tbl.get none c.net.inject i).isSome)), (Reg.PMO_F_STATE_ENABLE, flag (flowOn r)),
   (Reg.PMO_F_STATE_KIND, flowKind r), (Reg.PMO_F_STATE_DUAL, flag (flowDual r)), (Reg.PMO_F_STATE_SENDER, u8 r 7),
   (Reg.PMO_F_STATE_SENDING, flag x.sending), (Reg.PMO_F_STATE_MISMATCH, flag x.mismatch), (Reg.PMO_F_STATE_BIND, bindShown r)]

/-- The entry of a gate list that `P_GCL_SEL` names (R310). -/
def Chip.gateEntry (c : Chip) (k : Nat) : Nat × Nat :=
  ((if c.isSet Reg.MAC_P_GCL_SEL_BANK 0 then (c.mac k).gates else (c.mac k).gatesNew).getD (c.fld Reg.MAC_P_GCL_SEL_ENTRY 0) (0, 0))

/-- `MAC` (R310), with bank `b` as port × 8 + breakout. -/
def Chip.viewMac (c : Chip) (b : Nat) : List (Fld × Nat) :=
  let m := c.mac b
  let p := b / 8
  let flags := u8 (c.macRec p) 6
  [(Reg.MAC_BASE_MAC_LO_ADDR, Config.otpBaseMac), (Reg.MAC_BASE_MAC_HI_ADDR, Config.otpBaseMac / 2 ^ 32),
   (Reg.MAC_LINKS_UP, bitMap 18 (fun q => (List.range 8).any (fun i => (c.mac (macKey q i)).up))), (Reg.MAC_P_STATE_LINK_UP, flag m.up),
   (Reg.MAC_P_STATE_MODE, c.portMode p), (Reg.MAC_P_STATE_SPEED, c.macSpeed p), (Reg.MAC_P_STATE_PAUSED, flag (Tbl.has m.pauseUntil 8)),
   (Reg.MAC_P_STATE_WD_IGNORE, flag (m.ignoreUntil.any (fun e => decide (c.now < e.2)))),
   (Reg.MAC_P_STATE_MAC_DEFAULT, flag (beNat (bytesAt (c.addrRec p (b % 8)) 4 6) == 0)),
   (Reg.MAC_P_STATE_PFC_PAUSED, bitMap 8 (fun i => Tbl.has m.pauseUntil i)), (Reg.MAC_P_CFG_MAX_FRAME, c.maxFrame p),
   (Reg.MAC_P_PAUSE_RX_PAUSE, flag (bit flags 1)), (Reg.MAC_P_PAUSE_TX_PAUSE, flag (bit flags 2)), (Reg.MAC_P_PAUSE_PFC_MODE, flag (bit flags 3)),
   (Reg.MAC_P_PAUSE_PFC_MASK, u8 (c.macRec p) 7)] ++
  [(Reg.MAC_P_GCL_DATA_DURATION_NS, (c.gateEntry b).1), (Reg.MAC_P_GCL_DATA_OPEN, (c.gateEntry b).2), (Reg.MAC_P_GCL_STATE_ENTRIES, m.gates.length),
   (Reg.MAC_P_GCL_STATE_SWAP_PEND, flag m.gateSwap), (Reg.MAC_TS_RX_LAT_NS, Config.tsRxLat (isHostPort p) (c.portMode p)),
   (Reg.MAC_TS_TX_LAT_NS, Config.tsTxLat (isHostPort p) (c.portMode p)), (Reg.MAC_TS_CAP_NS_NS, match m.stamps with | e :: _ => e.1 | [] => 0),
   (Reg.MAC_TS_CAP_SEC_SEC, match m.stamps with | e :: _ => e.2.1 | [] => 0), (Reg.MAC_TS_CAP_TAG_TAG, match m.stamps with | e :: _ => e.2.2 | [] => 0),
   (Reg.MAC_TS_CAP_TAG_VALID, flag (m.stamps != []))]

/-- `LNE` (R343), with bank `b`. -/
def Chip.viewLne (c : Chip) (b : Nat) : List (Fld × Nat) := [(Reg.LNE_L_RAW_DATA_DATA, (c.lane b).raw.getD (c.fld Reg.LNE_L_RAW_ADDR_WORD b) 0)]

/-- The whole seconds left on an entry's `QUAL_S` or `HOLDOFF_S` timer (R371). -/
def Chip.timerLeft (c : Chip) (e : Nat) : Nat :=
  let limit := if c.refState e = 2 then c.qualS e else if c.refState e = 4 then c.holdoffS e else 0
  match (c.refEntry e).timer with
  | some u => ceilDiv (secU limit - (c.now - u)) (secU 1)
  | none => 0

/-- `REFS` (R371), with bank `b`. -/
def Chip.viewRefs (c : Chip) (b : Nat) : List (Fld × Nat) :=
  [(Reg.REFS_DPLL_BW, u8 c.refGlobal 0), (Reg.REFS_OUT_STATE_ENABLED, bitMap 6 (fun n => bit (c.outRec n).flags 0)),
   (Reg.REFS_OUT_STATE_PEND, bitMap 6 (fun n => decide (n ≤ 3) && (c.outRec n).offset != (c.refOut n).offset)), (Reg.REFS_E_STATE_TYPE, c.refType b),
   (Reg.REFS_E_STATE_RANK, c.refRank b), (Reg.REFS_E_STATE_SIGNAL, flag (c.refSignal b)), (Reg.REFS_E_STATE_SELECTED, flag (c.refSelected == b)),
   (Reg.REFS_E_STATE_TIMER_S, min 255 (c.timerLeft b))]

/-- `PTP` (R392). -/
def Chip.viewPtp (c : Chip) : List (Fld × Nat) :=
  let q := c.deviceQ
  [(Reg.PTP_STATUS_SOURCE, c.timeSource), (Reg.PTP_TIME_NS_NS, nsOf q), (Reg.PTP_TIME_FRAC_FRAC, q % (27 * 65536) / 27), (Reg.PTP_TIME_SEC_LO_SEC, secOf q),
   (Reg.PTP_TIME_SEC_HI_SEC, secOf q / 4294967296), (Reg.PTP_UPTIME_LO_NS, c.uptime), (Reg.PTP_UPTIME_HI_NS, c.uptime / 4294967296),
   (Reg.PTP_RATE_FREQ, satSigned 32 (roundDiv c.clock.rate 10000))]

/-- The path latency of the import that serves a destination's video route (R404, R430). -/
def Chip.dstLatency (c : Chip) (d : Nat) : Nat :=
  match c.route d 0 with
  | some r => (match r.dev with
    | some v => (match c.spl.imports.find? (fun x => x.pair == pairKey (some v) r.src (c.dstTd d)) with | some x => x.latency | none => 0)
    | none => 0)
  | none => 0

/-- `SPL` (R430), with bank `b`. -/
def Chip.viewSpl (c : Chip) (b : Nat) : List (Fld × Nat) :=
  let remote := (c.route b 0).bind (fun r => r.dev.map (fun v => (v, r.src)))
  [(Reg.SPL_ROUTES_EXPORTS, c.spl.exports.length), (Reg.SPL_ROUTES_IMPORTS, c.spl.imports.length),
   (Reg.SPL_ROUTES_SEVERED, (dedup (c.spl.severed.map (fun k => k / 4))).length), (Reg.SPL_P_RESV_TX, c.txTotal b), (Reg.SPL_P_RESV_RX, c.rxTotal b),
   (Reg.SPL_DST_REMOTE_DEV, match remote with | some x => x.1 | none => 0), (Reg.SPL_DST_REMOTE_REMOTE, flag remote.isSome),
   (Reg.SPL_DST_REMOTE_SRC, match remote with | some x => x.2 | none => noSource), (Reg.SPL_DST_LAT_NS, c.dstLatency b)]

/-- `GEN` (R453), with bank `b`. -/
def Chip.viewGen (c : Chip) (b : Nat) : List (Fld × Nat) :=
  let g := c.gen b
  let k := g.checks.getD (c.fld Reg.GEN_G_CRC_SEL_ENTRY 0) (0, 0)
  [(Reg.GEN_ENABLED_MAP, bitMap 32 c.genOn), (Reg.GEN_G_STATE_TD, u8 (c.record tyGens b) 1), (Reg.GEN_G_STATE_PATTERN, u8 g.record 3),
   (Reg.GEN_G_STATE_STAMP, flag (bit (u8 g.record 4) 1)), (Reg.GEN_G_STATE_PEND, flag g.next.isSome), (Reg.GEN_G_STATE_RUNNING, flag g.running),
   (Reg.GEN_G_FRAME_LO_COUNT, g.frame), (Reg.GEN_G_FRAME_HI_COUNT, g.frame / 4294967296), (Reg.GEN_G_CRC_CRC, k.1), (Reg.GEN_G_CRC_FRAME_FRAME, k.2)]

/-- `FWA` (R454), with bank `b`; the histogram keeps 32 bins for each source. -/
def Chip.viewFwa (c : Chip) (b : Nat) : List (Fld × Nat) :=
  let k := (Tbl.get [] c.fwa.checks b).getD (c.fld Reg.FWA_S_CRC_SEL_ENTRY 0) { crc := 0, frame := 0, ident := none, damaged := false, field := false }
  [(Reg.FWA_S_CRC_CRC, k.crc), (Reg.FWA_S_CRC_ID_FRAME, k.ident.getD 0xFFFFFFFF), (Reg.FWA_S_CRC_FRAME_FRAME, k.frame),
   (Reg.FWA_S_CRC_FRAME_DAMAGED, flag k.damaged), (Reg.FWA_S_CRC_FRAME_FIELD, flag k.field),
   (Reg.FWA_S_HIST_COUNT, c.fld Reg.FWA_S_HIST_COUNT (b * 32 + c.fld Reg.FWA_S_HIST_SEL_PATH 0 * 16 + c.fld Reg.FWA_S_HIST_SEL_BIN 0)),
   (Reg.FWA_D_BASE_LO_ADDR, Config.ringBase b % 103079215104), (Reg.FWA_D_BASE_HI_ADDR, Config.ringBase b % 103079215104 / 4294967296)]

/-- `CAP` (R487), with bank `b`. -/
def Chip.viewCap (c : Chip) (b : Nat) : List (Fld × Nat) :=
  let d := c.drive b
  let x := c.capSet b
  let mine := c.liveSets.find? (fun i => (c.capSet i).channels.contains b)
  let k := match mine with | some i => (c.capSet i).chan b | none => CapChan.reset
  let p := c.player b
  [(Reg.CAP_STORE_TOTAL, c.totalExtents), (Reg.CAP_STORE_FREE, c.freeExtents), (Reg.CAP_RATE_LIMIT, c.admitted), (Reg.CAP_RATE_USED, c.reservedRate),
   (Reg.CAP_STAGE_USED, 2 * c.reservedRate / 10), (Reg.CAP_DRV_STATE_PRESENT, flag d.present),
   (Reg.CAP_DRV_STATE_READY, flag (d.present && !d.failed && c.cap.ready && (c.enabledDrives.contains b) && d.label == some c.cap.store)),
   (Reg.CAP_DRV_STATE_FAILED, flag d.failed), (Reg.CAP_DRV_STATE_WIDTH, if d.width = 4 then 1 else if d.width = 8 then 2 else 0),
   (Reg.CAP_DRV_STATE_GEN, d.gen), (Reg.CAP_DRV_EXTENTS_COUNT, d.extents), (Reg.CAP_SET_STATE_STATE, x.state), (Reg.CAP_SET_STATE_CAUSE, x.cause),
   (Reg.CAP_SET_STATE_TD, x.td), (Reg.CAP_SET_STATE_TRIG_IGNORED, min x.ignored 65535), (Reg.CAP_SET_CHANNELS_MAP, u32 x.body 4)] ++
  [(Reg.CAP_SET_EXTENTS_USED, if x.state = 0 then 0 else x.used), (Reg.CAP_SET_EXTENTS_RESERVED, x.reserved), (Reg.CAP_K_STATE_ENABLED, flag (c.capOn b)),
   (Reg.CAP_K_STATE_LEVEL, c.capLevel b), (Reg.CAP_K_STATE_TD, u8 (c.record tyCapCh b) 1), (Reg.CAP_K_STATE_IN_SET, flag mine.isSome),
   (Reg.CAP_K_STATE_SET, mine.getD 0), (Reg.CAP_K_STAGE_FILL_FILL, if mine.isSome then k.fill else 0), (Reg.CAP_K_STAGE_FILL_PEAK, k.peak),
   (Reg.CAP_P_STATE_STATE, p.state), (Reg.CAP_P_STATE_TD, c.playerTd b), (Reg.CAP_P_STATE_SET, p.set), (Reg.CAP_P_STATE_CH, p.ch),
   (Reg.CAP_P_FRAME_INDEX, p.index)]

/-- `LAN` (R556), with bank `b`. -/
def Chip.viewLan (c : Chip) (b : Nat) : List (Fld × Nat) :=
  let s := c.session b
  let n := fun (x : SlotState) => ((List.range 16).filter (fun i => (c.session i).state == x)).length
  [(Reg.LAN_SESSIONS_OPEN, n .opened), (Reg.LAN_SESSIONS_HALF_OPEN, n .halfOpen),
   (Reg.LAN_S_STATE_STATE, match s.state with | .free => 0 | .halfOpen => 1 | .opened => 2), (Reg.LAN_S_STATE_PRIV, s.priv),
   (Reg.LAN_S_STATE_KEY_ID, s.keyId), (Reg.LAN_S_STATE_PORT, s.port), (Reg.LAN_S_STATE_IPV6, flag s.ipv6),
   (Reg.LAN_S_STATE_OUTSTANDING, s.done - s.ackR), (Reg.LAN_S_ID_SESSION, s.id), (Reg.LAN_S_REQ_LO_SEQ, s.done), (Reg.LAN_S_REQ_HI_SEQ, s.done / 4294967296),
   (Reg.LAN_S_NOTICE_LO_SEQ, s.noticeSeq), (Reg.LAN_S_NOTICE_HI_SEQ, s.noticeSeq / 4294967296), (Reg.LAN_S_UNACKED_NOTICES, s.notices.length),
   (Reg.LAN_S_UNACKED_LOST, s.lost), (Reg.LAN_S_IDLE_MS_MS, if s.state = .free then 0 else min ((c.now - s.lastAt) / msU 1) 0xFFFFFFFF)]

/-- `FLT` (R574). -/
def Chip.viewFlt (c : Chip) : List (Fld × Nat) :=
  [(Reg.FLT_RESTARTS_RECENT, min 255 (c.flt.restarts.filter (fun u => decide (c.now ≤ u + secU 600))).length)]

/-- Whether commits are held: a supply hold is in force (R586). -/
def Chip.commitsHeld (c : Chip) : Bool := c.isSet Reg.PWR_STATUS_HOLD 0

/-- `LOG` (R592). -/
def Chip.viewLog (c : Chip) : List (Fld × Nat) :=
  [(Reg.LOG_STATUS_FROZEN, flag c.log.freeze.isSome), (Reg.LOG_STATUS_ARCH_HELD, flag c.commitsHeld), (Reg.LOG_SEQ_NEXT_SEQ, c.log.seqNext),
   (Reg.LOG_RING_RECORDS, c.log.ring.length), (Reg.LOG_RING_FREE, ringUnits - unitsOf c.log.ring), (Reg.LOG_OLDEST_SEQ_SEQ, c.oldestSeq),
   (Reg.LOG_SIDE_RECORDS, c.log.side.length), (Reg.LOG_COMMIT_PENDING, unitsOf c.log.commit), (Reg.LOG_ARCH_HEAD_SECTOR, c.log.sector)]

/-- A load state as `UPD.STATUS` codes it (R613). -/
def LoadState.code : LoadState → Nat
  | .idle => 0 | .erasing => 1 | .loading => 2 | .armed => 3

/-- `UPD` (R613). -/
def Chip.viewUpd (c : Chip) : List (Fld × Nat) :=
  let time := (c.upd.act.bind (fun a => a.time)).getD (0, 0)
  [(Reg.UPD_STATUS_FW_STATE, c.upd.fw.state.code), (Reg.UPD_STATUS_SET_STATE, if c.upd.save.isSome then 4 else c.upd.set.state.code),
   (Reg.UPD_STATUS_ACT_STATE, match c.upd.act with | some a => a.state | none => 0), (Reg.UPD_FW_BLOCKS_EXPECTED, c.upd.fw.arg),
   (Reg.UPD_FW_BLOCKS_WRITTEN, c.upd.fw.written.length), (Reg.UPD_SET_BLOCKS_EXPECTED, c.upd.set.arg), (Reg.UPD_SET_BLOCKS_WRITTEN, c.upd.set.written.length),
   (Reg.UPD_ACT_SEC_LO_SEC, time.1), (Reg.UPD_ACT_SEC_HI_SEC, time.1 / 4294967296), (Reg.UPD_ACT_NS_NS, time.2)]

/-- `FAB` (R640), with bank `b` a master, as master `master` reads it through session slot `slot`. -/
def Chip.viewFab (c : Chip) (master slot b : Nat) : List (Fld × Nat) :=
  [(Reg.FAB_STATUS_REMAP_ACTIVE, flag c.fab.remap), (Reg.FAB_FSWIN_BASE_PAGE, c.fabPage master slot), (Reg.FAB_CYC_CNT_COUNT, c.fabCycle),
   (Reg.FAB_M_CFG_WEIGHT, c.fabWeight b), (Reg.FAB_M_STATE_OUTSTANDING, (c.fab.txs.filter (fun x => x.master == b)).length),
   (Reg.FAB_M_STATE_LOCKED, flag ((List.range 7).any (fun t => (c.port t).lock.any (fun l => l.1 == b)))),
   (Reg.FAB_M_STATE_QUARANTINED, flag (bit (c.fld Reg.FAB_QUAR_MASTER 0) b)), (Reg.FAB_M_STATE_IN_RESET, flag (c.fab.held.contains b)),
   (Reg.FAB_M_STATE_PARKED_ON, ((List.range 7).find? (fun t => (c.port t).parked == some b)).getD 7)]

/-- `PWR` (R653). -/
def Chip.viewPwr (c : Chip) : List (Fld × Nat) :=
  [(Reg.PWR_CFG_HOLDUP_US, c.holdupUs), (Reg.PWR_CFG_WARN_C, c.warnC), (Reg.PWR_CFG_ALERT_C, c.alertC)]

/-- The fields of the block at a base that show structured state. -/
def Chip.views (c : Chip) (master slot blockBase b : Nat) : List (Fld × Nat) :=
  match blockBase with
  | 0x40000000 => c.viewXpt b
  | 0x40010000 => c.viewTick
  | 0x40020000 => c.viewFst b
  | 0x40030000 => c.viewArb
  | 0x40040000 => c.viewCmp b
  | 0x40050000 => c.viewAud b
  | 0x40060000 => c.viewPmi b
  | 0x40070000 => c.viewPmo b
  | 0x40080000 => c.viewMac b
  | 0x40090000 => c.viewLne b
  | 0x400A0000 => c.viewFwa b
  | 0x400B0000 => c.viewGen b
  | 0x400C0000 => c.viewCap b
  | 0x400D0000 => c.viewFab master slot b
  | 0x60000000 => c.viewRefs b
  | 0x60010000 => c.viewPtp
  | 0x60020000 => c.viewSpl b
  | 0x60040000 => c.viewLan b
  | 0x60050000 => c.viewFlt
  | 0x60060000 => c.viewLog
  | 0x60070000 => c.viewUpd
  | 0x60080000 => c.viewPwr
  | _ => []

/-- What a field holds now. -/
def Chip.fieldNow (c : Chip) (master slot : Nat) (f : Fld) (b : Nat) : Nat :=
  (match (c.views master slot (f.addr / 65536 * 65536) b).find? (fun e => e.1 == f) with
   | some e => e.2
   | none => c.fld f b) % 2 ^ f.width

/-! ## Reading -/

/-- The fields that a read of a register latches (the register pairs of the chapters). -/
def latchedBy (a : Nat) : List Fld :=
  match a with
  | 0x40010050 => [Reg.TICK_TD_FRAME_HI_COUNT 0]
  | 0x40010070 => [Reg.TICK_TD_FRAME_HI_COUNT 1]
  | 0x40010090 => [Reg.TICK_TD_FRAME_HI_COUNT 2]
  | 0x400100B0 => [Reg.TICK_TD_FRAME_HI_COUNT 3]
  | 0x40080044 => [Reg.MAC_RX_BYTES_HI_COUNT]
  | 0x40080074 => [Reg.MAC_TX_BYTES_HI_COUNT]
  | 0x40090040 => [Reg.LNE_L_PRBS_BITS_HI_COUNT]
  | 0x40090048 => [Reg.LNE_L_PRBS_ERR_HI_COUNT]
  | 0x400B0028 => [Reg.GEN_G_FRAME_HI_COUNT]
  | 0x60010008 => [Reg.PTP_TIME_FRAC_FRAC, Reg.PTP_TIME_SEC_LO_SEC, Reg.PTP_TIME_SEC_HI_SEC]
  | 0x60010018 => [Reg.PTP_UPTIME_HI_NS]
  | 0x6001002C => [Reg.PTP_GM_ID_HI_ID]
  | 0x60010044 => [Reg.PTP_JUMP_OFFSET_HI_NS]
  | 0x6004004C => [Reg.LAN_S_REQ_HI_SEQ]
  | 0x60040054 => [Reg.LAN_S_NOTICE_HI_SEQ]
  | 0x60070014 => [Reg.UPD_ACT_SEC_HI_SEC]
  | _ => []

/-- The addresses whose reads latch. -/
def latchAddrs : List Nat :=
  [0x40010050, 0x40010070, 0x40010090, 0x400100B0, 0x40080044, 0x40080074, 0x40090040, 0x40090048, 0x400B0028, 0x60010008, 0x60010018, 0x6001002C,
   0x60010044, 0x6004004C, 0x60040054, 0x60070014]

/-- Whether a field reads as latched. -/
def isLatched (f : Fld) : Bool := latchAddrs.any (fun a => (latchedBy a).contains f)

/-- What a read returns of a field: 0 of a write-only one, the latched value of a high word, else what it holds (R5). -/
def Chip.fieldRead (c : Chip) (master slot : Nat) (f : Fld) (b : Nat) : Nat :=
  if f.acc = .wo then 0 else if isLatched f then Tbl.get 0 c.latch (f.key b) else c.fieldNow master slot f b

/-- The word that a read of a register returns: 0 at a reserved offset and where nothing is selected; reserved bits are 0 (R6, R637). -/
def Chip.regWord (c : Chip) (master slot a : Nat) : Nat :=
  match c.bankAt a with
  | none => 0
  | some b => ((Regs.atAddr a).map (fun f => c.fieldRead master slot f b % 2 ^ f.width * 2 ^ f.lo)).sum

/-- What else a read does: it latches high words, takes a transmit stamp from its buffer (R304), advances `L_RAW_ADDR` (R343). -/
def Chip.afterRead (c : Chip) (master slot a : Nat) : Chip :=
  match c.bankAt a with
  | none => c
  | some b =>
    if a = Reg.MAC_TS_CAP_TAG_TAG.addr then c.modMac b (fun m => { m with stamps := m.stamps.drop 1 })
    else if a = Reg.LNE_L_RAW_DATA_DATA.addr then c.set Reg.LNE_L_RAW_ADDR_WORD b (c.fld Reg.LNE_L_RAW_ADDR_WORD b + 1)
    else { c with latch := (latchedBy a).foldl (fun l f => Tbl.put 0 l (f.key b) (c.fieldNow master slot f b)) c.latch }

/-- A read of a register (R637): what it returns, and what it does. -/
def Chip.regRead (c : Chip) (master slot a : Nat) : Chip × Nat := (c.afterRead master slot a, c.regWord master slot a)

end Sys2Proof.Machine
end

