-- ==== Sys2Proof/Machine/RegWrite.lean ====
section
/-! DEFINITION. What a write of a register does: the writes each block rejects, and the effect of the others (R5, R6, R637 and the register sections of
the chapters). -/

namespace Sys2Proof.Machine

/-- The value that a written word gives a field. -/
def Fld.of (f : Fld) (v : Nat) : Nat := v / 2 ^ f.lo % 2 ^ f.width

/-- Whether a written word sets a one-bit field. -/
def Fld.on (f : Fld) (v : Nat) : Bool := f.of v != 0

/-! ## Select registers -/

/-- The select registers whose range a rule gives: the field, the largest value, and whether the registers it shows then read as 0. -/
def selectors : List (Fld × Nat × Bool) :=
  [(Reg.FST_SRC_SEL_SRC, 1119, true), (Reg.CMP_SEL_CMP, 31, false), (Reg.AUD_DST_SEL_CH, 16383, false), (Reg.AUD_SRC_SEL_CH, 16383, false),
   (Reg.AUD_PORT_SEL_PORT, 23, false), (Reg.PMI_FLOW_SEL_FLOW, 4095, false), (Reg.PMO_FLOW_SEL_FLOW, 4095, false), (Reg.LNE_LANE_SEL_LANE, 215, true),
   (Reg.SPL_PORT_SEL_PORT, 7, false), (Reg.SPL_DST_SEL_DST, 1567, false), (Reg.GEN_SEL_GEN, 31, true), (Reg.GEN_G_CRC_SEL_ENTRY, 15, true),
   (Reg.FWA_SRC_SEL_SRC, 1023, true), (Reg.FWA_S_CRC_SEL_ENTRY, 15, true), (Reg.FWA_CH_SEL_CH, 16383, true), (Reg.FWA_D_SEL_ANA, 7, true)] ++
  [(Reg.CAP_DRV_SEL_LINK, 3, true), (Reg.CAP_SET_SEL_SET, 255, true), (Reg.CAP_K_SEL_CH, 31, true), (Reg.CAP_P_SEL_PLAYER, 31, true),
   (Reg.LAN_S_SEL_SLOT, 15, false), (Reg.FLT_SRAM_SEL_PART, 4, true), (Reg.FAB_M_SEL_MASTER, 8, true), (Reg.PWR_RAIL_SEL_RAIL, 10, true),
   (Reg.PWR_TEMP_SEL_SENSOR, 11, true)]

/-- Whether the word written to a select register lies outside its range. -/
def selectBad (a v : Nat) : Bool := selectors.any (fun e => e.1.addr == a && decide (e.2.1 < v))

/-- Whether a port and a breakout exist (R284, R311). -/
def Chip.portThere (c : Chip) (v : Nat) : Bool :=
  decide (Reg.MAC_PORT_SEL_PORT.of v < 18) && decide (Reg.MAC_PORT_SEL_BREAKOUT.of v < c.breakouts (Reg.MAC_PORT_SEL_PORT.of v))

/-- Whether a rejected write leaves the registers that its select register shows reading as 0. -/
def blinds (a : Nat) : Bool :=
  selectors.any (fun e => e.1.addr == a && e.2.2) || [Reg.FST_SYNC_SEL_SRC.addr, Reg.ARB_TBL_SEL_ROW.addr, Reg.MAC_PORT_SEL_PORT.addr].contains a

/-- Whether an address is that of a select register. -/
def selects (a : Nat) : Bool := blinds a || banks.any (fun x => x.sel.addr == a)

/-- Marks a select register whose write has named nothing, or one whose write has named something. -/
def Chip.setBlind (c : Chip) (a : Nat) (b : Bool) : Chip :=
  let c1 : Chip := if a = Reg.LNE_LANE_SEL_LANE.addr then { c with lne := { c.lne with noLane := b } } else c
  { c1 with noSel := if b then (if c1.noSel.contains a then c1.noSel else a :: c1.noSel) else c1.noSel.filter (fun x => x != a) }

/-! ## The writes that are rejected -/

/-- `TICK` (R75). -/
def Chip.badTick (c : Chip) (a v : Nat) : Bool :=
  (a == Reg.TICK_CTRL_REALIGN.addr && c.realignBad (Reg.TICK_CTRL_REALIGN.of v)) ||
  ([0, 1, 2, 3] : List Nat).any (fun n =>
    let rate := (Reg.TICK_TD_CFG_RATE n).of v
    let delay := min 1000000 ((Reg.TICK_TD_OUT_DELAY_DELAY_NS n).of v)
    (a == (Reg.TICK_TD_CFG_RATE n).addr && ((rate != c.tdRate n && c.tdOn n) || decide (12 < rate)
      || (n != 0 && !((Reg.TICK_TD_CFG_ENABLE n).on v) && c.tdOn n && c.assigned n))) ||
    (a == (Reg.TICK_TD_WINDOW_LEAD_MIN n).addr && decide ((Reg.TICK_TD_WINDOW_LEAD_MAX n).of v < (Reg.TICK_TD_WINDOW_LEAD_MIN n).of v)) ||
    (a == (Reg.TICK_TD_OUT_DELAY_DELAY_NS n).addr && c.budgetNs n != 0 && decide (delay < c.budgetNs n + 25000)))

/-- `ARB` (R173). -/
def Chip.badArb (c : Chip) (a v : Nat) : Bool :=
  (a == Reg.ARB_TBL_DATA_OWNERS.addr && (c.isSet Reg.ARB_TBL_SEL_BANK 0 || !(c.isSet Reg.ARB_CTRL_HOST_TBL 0) || c.arb.swapPend
    || (List.range 8).any (fun k => decide (4 < v / 16 ^ k % 16)))) ||
  (a == Reg.ARB_TBL_SEL_ROW.addr && decide (2287 < Reg.ARB_TBL_SEL_ROW.of v)) ||
  (a == Reg.ARB_HOG_LIMIT_BEATS.addr && !(within (Reg.ARB_HOG_LIMIT_BEATS.of v) 64 4096)) ||
  (List.range 6).any (fun i => a == (Reg.ARB_BE_CFG_WEIGHT i).addr && (Reg.ARB_BE_CFG_WEIGHT i).of v == 0)

/-- `MAC` (R311), with the breakout that `PORT_SEL` shows. -/
def Chip.badMac (c : Chip) (a v b : Nat) : Bool :=
  let p := c.fld Reg.MAC_PORT_SEL_PORT 0
  (a == Reg.MAC_PORT_SEL_PORT.addr && !(c.portThere v)) ||
  (a == Reg.MAC_P_CFG_START_THRESH.addr && !(within (Reg.MAC_P_CFG_START_THRESH.of v) 256 (c.maxFrame p))) ||
  (a == Reg.MAC_P_PAUSE_WD_MS.addr && !(isHostPort p && within (Reg.MAC_P_PAUSE_WD_MS.of v) 1 1000)) ||
  (a == Reg.MAC_P_GCL_DATA_OPEN.addr && (c.isSet Reg.MAC_P_GCL_SEL_BANK 0 || (c.mac b).gateSwap || isHostPort p)) ||
  (a == Reg.MAC_CTRL_GCL_SWAP.addr && Reg.MAC_CTRL_GCL_SWAP.on v && isHostPort p)

/-- `LNE` (R334, R336, R344), with the lane that `LANE_SEL` shows. -/
def Chip.badLne (c : Chip) (a v l : Nat) : Bool :=
  let diag := Reg.LNE_L_CTRL_DIAG.of v
  (a == Reg.LNE_L_CTRL_DIAG.addr && (Reg.LNE_L_CTRL_PSTATE.of v == 3 || decide (4 < diag)
    || (diag != 0 && c.laneUsed l && !(diag == 1 && c.manual l)) || (Reg.LNE_L_CTRL_SLIP.on v && !(diag == 1 || c.manual l))
    || (Reg.LNE_L_CTRL_ERR_INJ.on v && diag != 2))) ||
  (a == Reg.LNE_L_EYE_CTRL_EYE.addr && ((Reg.LNE_L_EYE_CTRL_START.on v && !(c.laneActive l))
    || ((Reg.LNE_L_EYE_CTRL_EYE.of v == 0 || Reg.LNE_L_EYE_CTRL_EYE.of v == 2) && c.laneNrz l)))

/-- `PTP` (R393). -/
def Chip.badPtp (c : Chip) (a v : Nat) : Bool :=
  (a == Reg.PTP_CTRL_SET_TIME.addr && ((Reg.PTP_CTRL_STEP_AUTH.on v && (c.stepRefused 0).isSome)
    || (Reg.PTP_CTRL_SET_TIME.on v && (c.setRefused (Reg.PTP_CTRL_AT_PPS.on v) (c.fld Reg.PTP_SET_NS_NS 0)).isSome))) ||
  (a == Reg.PTP_SET_NS_NS.addr && decide (999999999 < Reg.PTP_SET_NS_NS.of v))

/-- `FWA` (R455), with the analyser that `D_SEL` shows. -/
def Chip.badFwa (c : Chip) (a v ana : Nat) : Bool :=
  let src := Reg.FWA_D_CFG_SRC.of v
  a == Reg.FWA_D_CFG_SRC.addr && !(c.packetSource src && (src == c.fld Reg.FWA_D_CFG_SRC ana || !(c.isSet Reg.FWA_D_STATE_RUNNING ana)))
    && (src != c.fld Reg.FWA_D_CFG_SRC ana || Reg.FWA_D_CFG_START.on v)

/-- `LOG` (R593). -/
def Chip.badLog (c : Chip) (a v : Nat) : Bool :=
  let freeze := Reg.LOG_CTRL_FREEZE.on v
  (a == Reg.LOG_CTRL_FREEZE.addr && ((freeze && c.frozenByOther .window)
    || (Reg.LOG_CTRL_THAW.on v && !(freeze || c.log.freeze.any (fun f => f.owner == .window))))) ||
  (a == Reg.LOG_WIN_CURSOR_SEQ.addr && v == 0xFFFFFFFF)

/-- `FAB` (R641). -/
def Chip.badFab (c : Chip) (master a v : Nat) : Bool :=
  (a == Reg.FAB_CTRL_REMAP.addr && Reg.FAB_CTRL_REMAP.on v != c.isSet Reg.FAB_CTRL_REMAP 0 && master != 0) ||
  (a == Reg.FAB_FSWIN_BASE_PAGE.addr && decide (95 < Reg.FAB_FSWIN_BASE_PAGE.of v)) ||
  (a == Reg.FAB_HOG_LIMIT_BEATS.addr && !(within (Reg.FAB_HOG_LIMIT_BEATS.of v) 64 4096)) ||
  (a == Reg.FAB_M_CFG_WEIGHT.addr && Reg.FAB_M_CFG_WEIGHT.of v == 0) ||
  (a == Reg.FAB_TIMEOUT_REG_US.addr && (Reg.FAB_TIMEOUT_REG_US.of v == 0 || Reg.FAB_TIMEOUT_MEM_MS.of v == 0)) ||
  (a == Reg.FAB_QUAR_MASTER.addr && decide (512 ≤ v))

/-- Whether the write of a word to an address is rejected: `b` is the bank that the address shows. -/
def Chip.regBad (c : Chip) (master a v b : Nat) : Bool :=
  let f := fun (x : Fld) => a == x.addr
  selectBad a v || c.badTick a v || c.badArb a v || c.badMac a v b || c.badLne a v b || c.badPtp a v || c.badFwa a v b || c.badLog a v
    || c.badFab master a v ||
  (f Reg.XPT_SRC_CFG_MODE && (Reg.XPT_SRC_CFG_MODE.of v == 3 || Reg.XPT_SRC_CFG_LOSS_FRAMES.of v == 0)) ||
  (f Reg.FST_SCRUB_PERIOD_S && Reg.FST_SCRUB_PERIOD_S.of v == 0) ||
  (f Reg.FST_SYNC_SEL_SRC && decide (1119 < Reg.FST_SYNC_SEL_SRC.of v)) ||
  (f Reg.REFS_CTRL_FORCE_EN && Reg.REFS_CTRL_FORCE_EN.on v && c.refType (Reg.REFS_CTRL_FORCE_ENTRY.of v) == 0) ||
  (f Reg.SPL_CTRL_REJOIN && ((Reg.SPL_CTRL_REJOIN.on v && !c.inSystem) || (Reg.SPL_CTRL_HANDOVER.on v && !c.canHandOver))) ||
  (f Reg.FLT_CTRL_KEY && Reg.FLT_CTRL_FORCE_RESTART.on v && (Reg.FLT_CTRL_KEY.of v != 0x7E57 || c.halted)) ||
  (a / 65536 == 0x6007 && !(f Reg.UPD_CTRL_CLR_CNT) && !(f Reg.UPD_STATUS_CFG_REJECT) && Regs.atAddr a != [])

/-- The `CFG_REJECT` of the block of an address. -/
def rejectFld (a : Nat) : Option Fld :=
  [Reg.TICK_STATUS_CFG_REJECT, Reg.XPT_STATUS_CFG_REJECT, Reg.FST_STATUS_CFG_REJECT, Reg.ARB_STATUS_CFG_REJECT, Reg.CMP_STATUS_CFG_REJECT,
   Reg.AUD_STATUS_CFG_REJECT, Reg.PMI_STATUS_CFG_REJECT, Reg.PMO_STATUS_CFG_REJECT, Reg.MAC_STATUS_CFG_REJECT, Reg.LNE_STATUS_CFG_REJECT,
   Reg.REFS_STATUS_CFG_REJECT, Reg.PTP_STATUS_CFG_REJECT, Reg.SPL_STATUS_CFG_REJECT, Reg.GEN_STATUS_CFG_REJECT, Reg.FWA_STATUS_CFG_REJECT,
   Reg.CAP_STATUS_CFG_REJECT, Reg.LAN_STATUS_CFG_REJECT, Reg.FLT_STATUS_CFG_REJECT, Reg.LOG_STATUS_CFG_REJECT, Reg.UPD_STATUS_CFG_REJECT,
   Reg.FAB_STATUS_CFG_REJECT, Reg.PWR_STATUS_CFG_REJECT].find? (fun f => f.addr / 65536 == a / 65536)

/-- A write that is rejected is completed without effect, and sets its block's `CFG_REJECT`. -/
def Chip.rejectWrite (c : Chip) (a : Nat) : Chip :=
  let c1 := match rejectFld a with | some f => c.mark f | none => c
  if blinds a then c1.setBlind a true else c1

/-! ## The effect of a write -/

/-- The addresses whose writes an operation of their own carries out. -/
def ownWrite (a : Nat) : Bool :=
  ([Reg.ARB_CTRL_HOST_TBL, Reg.ARB_QUAR_CLIENT, Reg.ARB_TBL_DATA_OWNERS, Reg.MAC_P_GCL_DATA_OPEN, Reg.REFS_CTRL_FORCE_EN, Reg.FAB_QUAR_MASTER,
    Reg.FAB_CTRL_REMAP, Reg.FAB_FSWIN_BASE_PAGE, Reg.FAB_M_CFG_WEIGHT] ++ (List.range 6).map Reg.ARB_BE_CFG_WEIGHT
    ++ (List.range 4).map Reg.TICK_TD_OUT_DELAY_DELAY_NS ++ (List.range 4).map Reg.TICK_TD_PHASE_LIMIT_LIMIT_NS).any (fun f => f.addr == a)

/-- The codes of R5: a read-write field takes its value, a 1 clears a bit of a write-1-to-clear field. `ENABLE` of TD0 is read-only (R74). -/
def Chip.writeField (c : Chip) (b v : Nat) (f : Fld) : Chip :=
  if f.acc = .rw ∧ f ≠ Reg.TICK_TD_CFG_ENABLE 0 then c.set f b (f.of v)
  else if f.acc = .w1c then c.set f b (c.fld f b - (c.fld f b &&& f.of v))
  else c

/-- Writes the plain fields of a register. -/
def Chip.writePlain (c : Chip) (a b v : Nat) : Chip := if ownWrite a then c else (Regs.atAddr a).foldl (fun x f => x.writeField b v f) c

/-- Runs `f` when a field of a write is set. -/
def Chip.onBit (c : Chip) (f : Fld) (v : Nat) (g : Chip → Chip) : Chip := if f.on v then g c else c

/-- What a write to `TICK` does (R51, R70, R74). -/
def Chip.doTick (c : Chip) (a v : Nat) : Chip :=
  if a = Reg.TICK_CTRL_REALIGN.addr then (c.realign (Reg.TICK_CTRL_REALIGN.of v)).onBit Reg.TICK_CTRL_CLR_OVR v Chip.clrTick
  else ([0, 1, 2, 3] : List Nat).foldl (fun x n =>
    if a = (Reg.TICK_TD_OUT_DELAY_DELAY_NS n).addr then x.set (Reg.TICK_TD_OUT_DELAY_DELAY_NS n) 0 (min 1000000 ((Reg.TICK_TD_OUT_DELAY_DELAY_NS n).of v))
    else if a = (Reg.TICK_TD_PHASE_LIMIT_LIMIT_NS n).addr then
      x.set (Reg.TICK_TD_PHASE_LIMIT_LIMIT_NS n) 0 (min 1000000 ((Reg.TICK_TD_PHASE_LIMIT_LIMIT_NS n).of v))
    else x) c

/-- Writes the selected row of the shadow table, of one channel or of all (R172). -/
def Chip.writeRow (c : Chip) (v : Nat) : Chip :=
  let chs := if c.isSet Reg.ARB_TBL_SEL_ALL 0 then List.range 64 else [c.fld Reg.ARB_TBL_SEL_CH 0]
  let row := 8 * c.fld Reg.ARB_TBL_SEL_ROW 0
  let w := chs.foldl (fun (t : Tbl Nat) ch => (List.range 8).foldl (fun (t : Tbl Nat) k => Tbl.ins t (ch * 32768 + row + k) (v / 16 ^ k % 16 + 1)) t) c.arb.shadow.writes
  { c with arb := { c.arb with shadow := { c.arb.shadow with writes := w } } }

/-- What a write to `ARB` does (R152, R157, R166, R167, R172). -/
def Chip.doArb (c : Chip) (a v : Nat) : Chip :=
  if a = Reg.ARB_CTRL_SWAP.addr then
    ((c.hostTbl (Reg.ARB_CTRL_HOST_TBL.on v)).onBit Reg.ARB_CTRL_SWAP v Chip.arbSwap).onBit Reg.ARB_CTRL_CLR_CNT v Chip.clrArb
  else if a = Reg.ARB_QUAR_CLIENT.addr then c.clearQuar (Reg.ARB_QUAR_CLIENT.of v)
  else if a = Reg.ARB_TBL_DATA_OWNERS.addr then c.writeRow v
  else (List.range 6).foldl (fun (x : Chip) i =>
    if a = (Reg.ARB_BE_CFG_WEIGHT i).addr then
      { x.set (Reg.ARB_BE_CFG_WEIGHT i) 0 ((Reg.ARB_BE_CFG_WEIGHT i).of v) with arb := { x.arb with weightAt := Tbl.ins x.arb.weightAt i x.now } }
    else x) c

/-- Writes an entry of the shadow gate list (R299). -/
def Chip.writeGate (c : Chip) (k v : Nat) : Chip :=
  let n := c.fld Reg.MAC_P_GCL_SEL_ENTRY 0
  c.modMac k (fun m =>
    { m with gatesNew := (m.gatesNew ++ List.replicate (n + 1 - m.gatesNew.length) (0, 0)).set n (Reg.MAC_P_GCL_DATA_DURATION_NS.of v, Reg.MAC_P_GCL_DATA_OPEN.of v) })

/-- What a write to `MAC` does (R299, R310). -/
def Chip.doMac (c : Chip) (a b v : Nat) : Chip :=
  if a = Reg.MAC_CTRL_GCL_SWAP.addr then (c.onBit Reg.MAC_CTRL_GCL_SWAP v Chip.gclSwap).onBit Reg.MAC_CTRL_CLR_CNT v Chip.clrMac
  else if a = Reg.MAC_P_GCL_DATA_OPEN.addr then c.writeGate b v
  else c

/-- What a write to `LNE` does beside its fields (R327, R332 to R338); `was` is `PSTATE` before the write. -/
def Chip.doLne (c : Chip) (a l v was : Nat) : Chip :=
  if a = Reg.LNE_CTRL_CLR_CNT.addr then c.onBit Reg.LNE_CTRL_CLR_CNT v (fun x => x.clearAll lneCounters)
  else if a = Reg.LNE_L_CTRL_DIAG.addr then
    ((((c.laneAsk l (was != c.fld Reg.LNE_L_CTRL_PSTATE l)).onBit Reg.LNE_L_CTRL_SLIP v Chip.slip).onBit Reg.LNE_L_CTRL_RAW_CAP v Chip.rawCap).onBit
      Reg.LNE_L_CTRL_RETRAIN v Chip.retrain).onBit Reg.LNE_L_CTRL_ERR_INJ v Chip.errInj
  else if a = Reg.LNE_L_EYE_CTRL_EYE.addr then c.onBit Reg.LNE_L_EYE_CTRL_START v Chip.eyeStart
  else c

/-- What a write to `REFS` does (R364, R371). -/
def Chip.doRefs (c : Chip) (a v : Nat) : Chip :=
  if a = Reg.REFS_CTRL_FORCE_EN.addr then
    (((c.set Reg.REFS_CTRL_FORCE_EN 0 (Reg.REFS_CTRL_FORCE_EN.of v)).set Reg.REFS_CTRL_FORCE_ENTRY 0 (Reg.REFS_CTRL_FORCE_ENTRY.of v)).forceHold
      (Reg.REFS_CTRL_FORCE_HOLD.on v)).onBit Reg.REFS_CTRL_CLR_CNT v (fun x => x.clearAll refsCounters)
  else c

/-- What a write to `PTP` does beside its fields (R380, R392). -/
def Chip.doPtp (c : Chip) (a v : Nat) : Chip :=
  if a = Reg.PTP_CTRL_SET_TIME.addr then
    ((c.onBit Reg.PTP_CTRL_STEP_AUTH v Chip.acceptStep).onBit Reg.PTP_CTRL_SET_TIME v (fun x =>
      x.acceptSet (x.isSet Reg.PTP_CTRL_AT_PPS 0) (x.fld Reg.PTP_SET_SEC_HI_SEC 0 * 4294967296 + x.fld Reg.PTP_SET_SEC_LO_SEC 0)
        (x.fld Reg.PTP_SET_NS_NS 0))).onBit Reg.PTP_CTRL_CLR_CNT v (fun x => x.clearAll ptpCounters)
  else c

/-- What a write to `SPL` does (R418, R422, R430). -/
def Chip.doSpl (c : Chip) (a v : Nat) : Chip :=
  if a = Reg.SPL_CTRL_REJOIN.addr then
    ((c.onBit Reg.SPL_CTRL_REJOIN v (fun x => (x.flood none 2 [7]).rejoin)).onBit Reg.SPL_CTRL_HANDOVER v (fun x =>
      x.planHandover.emit (.cell 7 5 [8]))).onBit Reg.SPL_CTRL_CLR_CNT v Chip.clrSpl
  else c

/-- What a write to `FWA` does beside its fields (R447, R454). -/
def Chip.doFwa (c : Chip) (a b v : Nat) : Chip :=
  if a = Reg.FWA_CTRL_CLR_CNT.addr then c.onBit Reg.FWA_CTRL_CLR_CNT v Chip.clrFwa
  else if a = Reg.FWA_D_CFG_SRC.addr then
    (c.onBit Reg.FWA_D_CFG_START v (fun x => x.deepStart b)).onBit Reg.FWA_D_CFG_STOP v (fun x => x.deepStop b)
  else c

/-- What a write to `LOG` does beside its fields (R588, R590, R592). -/
def Chip.doLog (c : Chip) (a v : Nat) : Chip :=
  if a = Reg.LOG_CTRL_FREEZE.addr then
    ((((c.onBit Reg.LOG_CTRL_FREEZE v Chip.windowFreeze).onBit Reg.LOG_CTRL_WIN_LOAD v Chip.winLoad).onBit Reg.LOG_CTRL_THAW v Chip.windowThaw).onBit
      Reg.LOG_CTRL_CLEAR v (fun x => x.logClear 0 0)).onBit Reg.LOG_CTRL_CLR_CNT v (fun x => x.clearAll logCounters)
  else c

/-- What a write to `FAB` does (R619, R628, R629, R631, R640). -/
def Chip.doFab (c : Chip) (master slot a b v : Nat) : Chip :=
  if a = Reg.FAB_CTRL_REMAP.addr then (c.writeRemap (Reg.FAB_CTRL_REMAP.on v)).onBit Reg.FAB_CTRL_CLR_CNT v Chip.clrFab
  else if a = Reg.FAB_QUAR_MASTER.addr then c.fabClearQuar (Reg.FAB_QUAR_MASTER.of v)
  else if a = Reg.FAB_FSWIN_BASE_PAGE.addr then c.set Reg.FAB_FSWIN_BASE_PAGE (if master = 7 then 16 + slot else master) (Reg.FAB_FSWIN_BASE_PAGE.of v)
  else if a = Reg.FAB_M_CFG_WEIGHT.addr then c.fabSetWeight b (Reg.FAB_M_CFG_WEIGHT.of v)
  else c

/-- The counters that `CLR_CNT` of the other blocks clears. -/
def Chip.doClear (c : Chip) (a v : Nat) : Chip :=
  let on := fun (f : Fld) (g : Chip → Chip) (x : Chip) => if a = f.addr ∧ f.on v = true then g x else x
  (on Reg.XPT_CTRL_CLR_CNT Chip.clrXpt (on Reg.FST_CTRL_CLR_CNT Chip.clrFst (on Reg.CMP_CTRL_CLR_CNT Chip.clrCmp (on Reg.AUD_CTRL_CLR_CNT Chip.clrAud
    (on Reg.PMI_CTRL_CLR_CNT Chip.clrPmi (on Reg.PMO_CTRL_CLR_CNT Chip.clrPmo (on Reg.CAP_CTRL_CLR_CNT Chip.clrCap (on Reg.LAN_CTRL_CLR_CNT Chip.clrLan
      (on Reg.FLT_CTRL_CLR_CNT Chip.clrFlt (on Reg.UPD_CTRL_CLR_CNT Chip.clrUpd (on Reg.PWR_CTRL_CLR_CNT Chip.clrPwr c)))))))))))

/-- A bank that no register has: what a write is judged by where nothing is selected. -/
def noBank : Nat := 1048575

/-- A write that is carried out: its plain fields, then what its block does; a bank that shows nothing takes no write. -/
def Chip.carryOut (c : Chip) (master slot a b v : Nat) : Chip :=
  let was := c.fld Reg.LNE_L_CTRL_PSTATE b
  let plain := c.writePlain a b v
  let c1 := if selects a then plain.setBlind a ((a == Reg.XPT_DST_SEL_DST.addr && decide (1567 < v)) || (a == Reg.XPT_SRC_SEL_SRC.addr && decide (1119 < v)))
    else plain
  ((((((((((c1.doTick a v).doArb a v).doMac a b v).doLne a b v was).doRefs a v).doPtp a v).doSpl a v).doFwa a b v).doLog a v).doFab master slot a b v).doClear a v

/-- A write of a word to a register (R637): the module and the memories after it. Where a select register has named nothing, no bank takes the write; a value
that its register never takes is rejected all the same. -/
def Chip.regWrite (c : Chip) (m : Tbl Byte) (master slot a v : Nat) : Chip × Tbl Byte :=
  match c.bankAt a with
  | none => (if c.regBad master a v noBank then c.rejectWrite a else c, m)
  | some b =>
    if c.regBad master a v b then (c.rejectWrite a, m)
    else
      let c1 := c.carryOut master slot a b v
      if a = Reg.BOOT_CTRL_COLD_RESET.addr ∧ Reg.BOOT_CTRL_COLD_RESET.on v = true then c1.coldReset m (Reg.BOOT_CTRL_KEY.of v)
      else if a = Reg.FLT_CTRL_FORCE_RESTART.addr ∧ Reg.FLT_CTRL_FORCE_RESTART.on v = true then c1.forceRestart m (Reg.FLT_CTRL_KEY.of v)
      else if a = Reg.LAN_CTRL_CLOSE_ALL.addr ∧ Reg.LAN_CTRL_CLOSE_ALL.on v = true then c1.closeAll m
      else (c1, m)

/-- REGISTER_WRITE (R5 to R7, R637): reserved bits have no effect, a rejected write has none either. -/
def execRegisterWrite (t : Nat) (master : Fin 9) (slot : Fin 16) (reg value : BitVec 32) (s : State) : Host.Outcome State Fault Refusal :=
  actMem t s (fun c m => if reg.toNat % 4 = 0 then c.regWrite m master slot reg.toNat value.toNat else (c, m))

end Sys2Proof.Machine
end

