-- ==== Sys2Proof/Machine/Fabric.lean ====
section
/-! DEFINITION. The control fabric: one beat at a target, transactions and their order, the arbiters, cuts, timeouts (R615 to R642). -/

namespace Sys2Proof.Machine

/-! ## One beat at a target (R617, R630 to R634) -/

/-- Writes a word at a target: registers, the memories, or out of a PCIe link (R633). -/
def Chip.storeBeat (c : Chip) (m : Tbl Byte) (master slot target a v : Nat) : Chip × Tbl Byte :=
  if target = 3 ∨ target = 4 then c.regWrite m master slot a v
  else if target = 6 then (c.emit (.pcie a [v]), m)
  else (c, memWrite m (c.fabPlace target master slot a) (beBytes 4 v))

/-- What a counter of the silicon has gained by a read (R22, R133, R337, R558): corrected errors of an SRAM partition or of the frame store, and what the checker of a lane in a PRBS mode has compared. They
saturate (R141, R343, R574), the two long ones at 48 bits. -/
def Chip.gain (c : Chip) : Gain → Chip
  | .corrected part n => c.count Reg.FLT_SRAM_CE_COUNT part n
  | .store n => c.count Reg.FST_ECC_CE_COUNT 0 n
  | .prbs lane bits errors resyncs =>
    if c.fld Reg.LNE_L_CTRL_DIAG lane = 2 ∨ c.fld Reg.LNE_L_CTRL_DIAG lane = 3 then
      ((c.count48 Reg.LNE_L_PRBS_BITS_LO_COUNT Reg.LNE_L_PRBS_BITS_HI_COUNT lane bits).count48 Reg.LNE_L_PRBS_ERR_LO_COUNT Reg.LNE_L_PRBS_ERR_HI_COUNT lane
        errors).count Reg.LNE_L_PRBS_ERR_HI_RESYNC lane resyncs
    else c

/-- All that the counters have gained by a read. -/
def Chip.gainAll (c : Chip) (l : List Gain) : Chip := l.foldl Chip.gain c

/-- Reads a word at a target. The boot ROM's contents are open; a PCIe link's answer, and the code of a surface of the device in the frame store, come with the
command. -/
def Chip.loadBeat (c : Chip) (m : Tbl Byte) (master slot target a : Nat) (fact : BusFact) : Chip × Nat :=
  if target = 3 ∨ target = 4 then (c.gainAll fact.gains).regRead master slot a
  else if target = 0 ∧ c.romAddress a = true then (c, beNat ((List.range 4).map (fun i => Config.romByte (a % 0x00040000 + i))))
  else match (if target = 5 ∨ target = 6 then fact.data else none) with
    | some v => (c, v % 4294967296)
    | none => if target = 6 then (c.nextFree, c.openVal 32) else (c, beNat (memRead m (c.fabPlace target master slot a) 4))

/-- Why a target does not carry out an access (R624, R632, R633): the kind of its error response, 0 for none. -/
def Chip.targetKind (c : Chip) (target : Nat) (write : Bool) (fact : BusFact) : Nat :=
  if fact.late ∧ 2 ≤ target then 4
  else if target = 5 ∧ (c.fst.ready = false ∨ c.quarantined 4 = true ∨ (fact.fails = true ∧ write = false)) then 3
  else if target = 6 ∧ fact.fails = true then 3
  else 0

/-- An error response of a target: one of PCIe counts in `CAP.DRV_ERRORS` (R633). -/
def Chip.targetError (c : Chip) (master target kind : Nat) (write : Bool) (a : Nat) : Chip :=
  let c1 := if target = 6 ∧ kind = 3 then c.count Reg.CAP_DRV_ERRORS_COUNT ((a - 0xC0000000) / 0x10000000) 1 else c
  c1.fabError master target kind write a

/-- One access of one word by a master, from the map to the target: the module and the memories after it, the kind of the error response (0 for none), and the word
read. -/
def Chip.busBeat (c : Chip) (m : Tbl Byte) (master slot a : Nat) (write : Option Nat) (fact : BusFact) : (Chip × Tbl Byte) × Nat × Nat :=
  match c.fabAccess master a 4 write.isSome with
  | .error (t, k) => ((c.fabError master t k write.isSome a, m), k, 0)
  | .ok t =>
    let c1 := c.countWrap Reg.FAB_M_BEATS_COUNT master 1
    let k := c1.targetKind t write.isSome fact
    match write with
    | some v =>
      let r := if k = 0 ∨ (k = 4 ∧ fact.tookEffect = true) then c1.storeBeat m master slot t a v else (c1, m)
      if k = 0 then (r, 0, 0) else ((r.1.targetError master t k true a, r.2), k, 0)
    | none =>
      if k = 0 then let r := c1.loadBeat m master slot t a fact; ((r.1, m), 0, r.2)
      else ((c1.targetError master t k false a, m), k, 0)

/-! ## Outcomes for the masters (R630) -/

/-- What an error response leads to: a cold start for M0 in full service, a warm restart for M1 to M4. -/
def Chip.masterError (c : Chip) (m : Tbl Byte) (master : Nat) : Chip × Tbl Byte :=
  if master = 0 then (if c.phase = 2 then c.deviceFault m 3 else (c, m))
  else if master ≤ 4 then c.beginRestart m 3 master
  else (c, m)

/-! ## Grants and completions (R620, R625 to R627) -/

/-- Removes a transaction from those outstanding. -/
def Chip.dropTx (c : Chip) (x : FabTx) : Chip := { c with fab := { c.fab with txs := c.fab.txs.erase x } }

/-- The beats of a burst that a target carries out, in address order. -/
def Chip.runBeats (c : Chip) (m : Tbl Byte) (x : FabTx) (n : Nat) (facts : List BusFact) : (Chip × Tbl Byte) × List Nat :=
  (List.range n).foldl (fun (a : (Chip × Tbl Byte) × List Nat) i =>
    if x.write then (a.1.1.storeBeat a.1.2 x.master x.slot x.target (x.addr + 4 * i) (x.words.getD i 0), a.2)
    else
      let r := a.1.1.loadBeat a.1.2 x.master x.slot x.target (x.addr + 4 * i) (facts.getD i ⟨false, false, false, none, []⟩)
      ((r.1, a.1.2), a.2 ++ [r.2])) ((c, m), [])

/-- A granted burst ends: its beats take effect and its response goes back, or the target's error response ends it. -/
def Chip.completeTx (c : Chip) (m : Tbl Byte) (x : FabTx) (facts : List BusFact) : Chip × Tbl Byte :=
  let c0 := (c.dropTx x).modFabPort x.target (fun p => { p with lock := none })
  let k := c0.targetKind x.target x.write ⟨(facts.take x.words.length).any BusFact.fails, false, false, none, []⟩
  if k = 0 then
    let r := c0.runBeats m x x.words.length facts
    (r.1.1.settleRemap.emit (.bus x.master x.target 0 r.2), r.1.2)
  else
    let c1 := (c0.targetError x.master x.target k x.write x.addr).emit (.bus x.master x.target k [])
    c1.masterError m x.master

/-- Whether a transaction can be granted, given those issued before it (R619 to R622, R627). -/
def Chip.issuable (c : Chip) (before : List FabTx) (x : FabTx) : Bool :=
  let mine := before.filter (fun y => y.master == x.master)
  !x.granted && !(mine.any (fun y => y.target == x.target)) && !(mine.any FabTx.barrier) && !(x.barrier && mine != [])
    && !((x.target == 3 || x.target == 4) && mine.any (fun y => y.write && (y.target == 3 || y.target == 4)))
    && !((List.range 7).any (fun t => t != x.target && (c.port t).lock.any (fun l => l.1 == x.master)))

/-- The transactions that contend for a target. -/
def Chip.contenders (c : Chip) (target : Nat) : List FabTx :=
  (c.fab.txs.zipIdx.filter (fun e => e.1.target == target && c.issuable (c.fab.txs.take e.2) e.1)).map Prod.fst

/-- The burst in progress at a target. -/
def Chip.inProgress (c : Chip) (target : Nat) : Option FabTx := c.fab.txs.find? (fun x => x.target == target && x.granted)

/-- Grants a transaction its target (R625, R627, R640). -/
def Chip.grantTx (c : Chip) (x : FabTx) : Chip :=
  let n := x.words.length
  let c1 : Chip := { c with fab := { c.fab with txs := c.fab.txs.map (fun y => if y = x then { y with granted := true } else y) } }
  let c2 := c1.modFabPort x.target (fun p => { p with
    parked := none, spent := Tbl.put 0 p.spent x.master (Tbl.get 0 p.spent x.master + n), lock := if x.lock then some (x.master, min 64 n) else none })
  ((c2.countWrap Reg.FAB_M_BEATS_COUNT x.master n).peak Reg.FAB_M_WAIT_MAX_CYCLES x.master (unsigned 32 ((c2.fabCycle : Int) - (x.stamp : Int)))).count
    Reg.FAB_M_EVENTS_LOCK_TRUNC x.master (flag (x.lock && decide (64 < n)))

/-- The weight in force of a master (R628, R638). -/
def Chip.fabWeightLive (c : Chip) (i : Nat) : Nat := match Tbl.get 0 c.fab.weightLive i with | 0 => fabDefaults.getD i 0 | w => w - 1

/-- The instant at which a number of fabric cycles from now have passed. -/
def Chip.cyclesOn (c : Chip) (n : Nat) : Nat := c.now + ceilDiv (n * 135) 4

/-- A fabric arbiter decides (R161 to R163 with the differences of R625): every 16th grant goes to the oldest request, any other to the most credit among the
masters not in backoff and the oldest; those that lose back off. -/
def Chip.fabDecide (c : Chip) (target : Nat) : Chip :=
  let p := c.port target
  let reqs := (c.contenders target).map (fun x => (⟨x.master, 0, x.stamp, x.words.length, x.lock, x.write⟩ : BeReq))
  let oldest := oldestOf reqs
  let cand := reqs.filter (fun r => decide (Tbl.get 0 p.offUntil r.client ≤ c.now) || oldest == some r)
  let n := (p.grants + 1) % 16
  match (if n = 0 then oldest else richest (fun r => c.fabWeightLive r.client * 256 - Tbl.get 0 p.spent r.client) cand) with
  | none => c
  | some w =>
    let losers := cand.filter (fun r => r != w)
    let c1 := c.modFabPort target (fun q => { q with
      grants := n,
      backoff := Tbl.put 1 (losers.foldl (fun t r => Tbl.put 1 t r.client (min (2 * Tbl.get 1 t r.client) 1024)) q.backoff) w.client 1,
      offUntil := losers.foldl (fun t r => Tbl.put 0 t r.client (c.cyclesOn (Tbl.get 1 q.backoff r.client))) q.offUntil })
    match (c1.contenders target).find? (fun x => x.master == w.client) with
    | some x => c1.grantTx x
    | none => c1

/-- Parks an idle port on the last master that held it, when no other master requests (R626). -/
def Chip.park (c : Chip) (target master : Nat) : Chip :=
  if c.fab.txs.any (fun x => x.target == target) then c else c.modFabPort target (fun p => { p with parked := some master })

/-! ## The commands -/

/-- FABRIC_TRANSACTION (R616 to R623): decoded, protected, queued; a port parked on the master begins it at once (R626). -/
def execFabricTransaction (t : Nat) (master : Fin 9) (slot : Fin 16) (addr : BitVec 32) (write : Bool) (words : List (BitVec 32)) (lock barrier : Bool) (s : State) :
    Host.Outcome State Fault Refusal :=
  actMem t s (fun c m =>
    let a := addr.toNat
    if c.fab.held.contains master.val ∨ words = [] ∨ a % 4 ≠ 0 ∨ 16 ≤ (c.fab.txs.filter (fun x => x.master == master.val)).length then (c, m)
    else match c.fabAccess master a (4 * words.length) write with
      | .error (tg, k) => ((c.fabError master tg k write a).emit (.bus master tg k [])).masterError m master
      | .ok tg =>
        if tg = 0 ∧ c.fab.remapDue = true then (c, m)
        else
          let x : FabTx := ⟨master, tg, a, write, words.map BitVec.toNat, lock, barrier, c.fabCycle, c.now, slot, false⟩
          let parked := (c.port tg).parked
          let c1 : Chip := { c with fab := { c.fab with txs := c.fab.txs ++ [x] } }
          if parked = some master.val ∧ c1.contenders tg = [x] then (c1.grantTx x, m)
          else (c1.modFabPort tg (fun p => { p with parked := if parked = some master.val then parked else none }), m))

/-- FABRIC_ARBITER_DECISION (R625 to R627): the current burst ends, and the next grant is decided from the requests present. -/
def execFabricArbiterDecision (t : Nat) (target : Fin 7) (facts : List BusFact) (s : State) : Host.Outcome State Fault Refusal :=
  actMem t s (fun c m =>
    match c.inProgress target with
    | none => (c.fabDecide target, m)
    | some x =>
      let r := c.completeTx m x facts
      if r.1.run = .running then ((r.1.fabDecide target).park target x.master, r.2) else r)

/-- FABRIC_CREDIT_REFILL (R625, R628): every credit counter is refilled, with the weights written at least one cycle before. -/
def execFabricCreditRefill (t : Nat) (s : State) : Host.Outcome State Fault Refusal :=
  act t s (fun c =>
    let due := (c.fab.weightAt.filter (fun e => decide (e.2 + 34 ≤ c.now))).map Prod.fst
    { c with fab := { c.fab with
      ports := c.fab.ports.map (fun e => (e.1, { e.2 with spent := [] })),
      weightLive := due.foldl (fun a i => Tbl.put 0 a i (c.fabWeight i + 1)) c.fab.weightLive,
      weightAt := c.fab.weightAt.filter (fun e => !(due.contains e.1)) } })

/-- The outstanding transactions of a master in quarantine end (R629). -/
def Chip.endQuarantined (c : Chip) (master : Nat) : Chip :=
  (c.fab.txs.filter (fun x => x.master == master && !x.granted)).foldl (fun a x =>
    ((a.dropTx x).fabError master x.target 5 x.write x.addr).emit (.bus master x.target 5 [])) c

/-- FABRIC_HOG_CUT (R629): a grant that has held its target for the hog limit while another master waits is cut; what it has delivered stays written. -/
def execFabricHogCut (t : Nat) (target : Fin 7) (delivered : Nat) (facts : List BusFact) (s : State) : Host.Outcome State Fault Refusal :=
  actMem t s (fun c m =>
    match c.inProgress target with
    | none => (c, m)
    | some x =>
      if c.fab.txs.any (fun y => y.target == target.val && y.master != x.master) then
        let r := if x.write then (c.runBeats m x (min delivered x.words.length) facts).1 else (c, m)
        let c1 := (r.1.dropTx x).modFabPort target (fun p => { p with lock := none })
        let c2 := ((c1.count Reg.FAB_M_EVENTS_HOG_CUTS x.master 1).mark Reg.FAB_STATUS_HOG_SEEN).event Ev.fabHogCut
          [x.master * 268435456 + target * 33554432 + flag x.write * 2097152, x.addr]
        let keep := x.master = 0 ∨ x.master = 5 ∨ x.master = 6
        let q := c2.fld Reg.FAB_QUAR_MASTER 0
        let c3 := if keep ∨ bit q x.master = true then c2 else (c2.set Reg.FAB_QUAR_MASTER 0 (q + 2 ^ x.master)).endQuarantined x.master
        ((c3.settleRemap).fabDecide target, r.2)
      else (c, m))

/-- FABRIC_TIMEOUT (R624, R634): the oldest transaction of a master at a target has not completed in time. -/
def execFabricTimeout (t : Nat) (master : Fin 9) (target : Fin 7) (tookEffect : Bool) (s : State) : Host.Outcome State Fault Refusal :=
  actMem t s (fun c m =>
    let limit := if target.val = 3 ∨ target.val = 4 then usU (c.fld Reg.FAB_TIMEOUT_REG_US 0) else msU (c.fld Reg.FAB_TIMEOUT_MEM_MS 0)
    match c.fab.txs.find? (fun x => x.master == master.val && x.target == target.val) with
    | none => (c, m)
    | some x =>
      if 2 ≤ target.val ∧ x.at_ + limit ≤ c.now then
        let r := if x.write ∧ tookEffect = true then (c.runBeats m x x.words.length []).1 else (c, m)
        let c1 := if x.granted then (r.1.dropTx x).modFabPort target (fun p => { p with lock := none }) else r.1.dropTx x
        let o := ((c1.fabError master target 4 x.write x.addr).emit (.bus master target 4 [])).masterError r.2 master
        if x.granted ∧ o.1.run = .running then ((o.1.fabDecide target).park target master, o.2) else o
      else (c, m))

/-- REMAP (R619): M0 writes `FAB.CTRL.REMAP`. -/
def execRemap (t : Nat) (on : Bool) (s : State) : Host.Outcome State Fault Refusal := act t s (fun c => c.writeRemap on)

/-- FAB_QUAR_CLEAR (R629). -/
def execFabQuarClear (t : Nat) (mask : Fin 512) (s : State) : Host.Outcome State Fault Refusal := act t s (fun c => c.fabClearQuar mask)

/-- FAB_CLR_CNT (R640). -/
def execFabClrCnt (t : Nat) (s : State) : Host.Outcome State Fault Refusal := act t s (fun c => c.clrFab)

end Sys2Proof.Machine
end

