-- ==== Sys2Proof/Machine/Window.lean ====
section
/-! DEFINITION. Queries, the register window and bulk transfers of the lanyard (R546, R547, R552). -/

namespace Sys2Proof.Machine

/-! ## Queries (R546) -/

/-- Whether a `QUERY` body has its length and reserved bytes. -/
def queryOk (b : List Byte) : Bool := decide (b.length = 8) && zeroAt b 1 1 && zeroAt b 6 2

/-- Runs a query whose kind is one of those that `mine` accepts: kinds 2 to 4 take no range. -/
def Chip.query (c : Chip) (slot : Nat) (body : List Byte) (mine : Bool) (answer : Chip → List Byte) : Chip :=
  if mine then
    c.request slot 0x0201 1 true (queryOk body) (fun c =>
      if zeroAt body 2 4 then c.done slot 0x0201 (answer c) else c.refuse slot 0x0201 0x0202 wholeIndex)
  else c

/-- What a query shows of a route's source. -/
def Chip.querySource (c : Chip) (d lvl : Nat) : Nat := match c.route d lvl with | none => 0x07FF | some r => r.src

/-- The origin device of a destination: of its video route, else of the first level that has one. -/
def Chip.queryDev (c : Chip) (d : Nat) : Nat := (([0, 1, 2].filterMap (fun l => c.route d l)).findSome? (fun r => r.dev)).getD 0xFFFF

/-- The 16 bytes of a destination. -/
def Chip.queryDst (c : Chip) (d : Nat) : List Byte :=
  beBytes 2 (c.querySource d 0) ++ beBytes 2 (c.querySource d 1) ++ beBytes 2 (c.querySource d 2) ++ beBytes 2 (c.queryDev d)
    ++ beBytes 4 (((c.viewDst d).map (fun e => e.2 % 2 ^ e.1.width * 2 ^ e.1.lo)).sum) ++ List.replicate 4 0

/-- QUERY_ROUTES (R546); a kind that R546 does not list is refused here. -/
def execQueryRoutes (t : Nat) (slot : Fin 16) (body : List Byte) (s : State) : Host.Outcome State Fault Refusal :=
  act t s (fun c =>
    if u8 body 0 = 2 ∨ u8 body 0 = 3 ∨ u8 body 0 = 4 then c
    else c.request slot 0x0201 1 true (queryOk body) (fun c =>
      let first := u16 body 2
      let n := u16 body 4
      if u8 body 0 ≠ 1 then c.refuse slot 0x0201 0x1101 wholeIndex
      else if 1567 < first ∨ 1568 < first + n then c.refuse slot 0x0201 0x0202 wholeIndex
      else c.done slot 0x0201 ((List.range n).flatMap (fun i => c.queryDst (first + i)))))

/-- QUERY_IDENTITY (R546). -/
def execQueryIdentity (t : Nat) (slot : Fin 16) (body : List Byte) (s : State) : Host.Outcome State Fault Refusal :=
  act t s (fun c => c.query slot body (u8 body 0 == 2) (fun c =>
    beBytes 4 (c.fld Reg.BOOT_DEV_ID_ID 0) ++ beBytes 4 (c.fld Reg.BOOT_REV_ID_REV 0) ++ beBytes 6 Config.otpBaseMac ++ beBytes 2 0
      ++ beBytes 2 c.deviceId ++ beBytes 1 c.phase ++ beBytes 1 0))

/-- QUERY_SETTINGS (R546). -/
def execQuerySettings (t : Nat) (slot : Fin 16) (body : List Byte) (s : State) : Host.Outcome State Fault Refusal :=
  act t s (fun c => c.query slot body (u8 body 0 == 3) (fun c =>
    (c.boot.label ++ List.replicate 32 0).take 32 ++ beBytes 4 (c.fld Reg.BOOT_SET_GEN_GEN 0) ++ beBytes 4 (c.fld Reg.BOOT_FW_GEN_GEN 0)
      ++ beBytes 1 (c.fld Reg.BOOT_STATUS_SET_BANK 0) ++ beBytes 1 (c.fld Reg.BOOT_STATUS_FW_BANK 0) ++ beBytes 1 (flag c.boot.unsaved) ++ beBytes 1 0
      ++ c.setDigest s.mem ++ c.fwDigest s.mem))

/-- QUERY_SESSIONS (R546). -/
def execQuerySessions (t : Nat) (slot : Fin 16) (body : List Byte) (s : State) : Host.Outcome State Fault Refusal :=
  act t s (fun c => c.query slot body (u8 body 0 == 4) (fun c =>
    (List.range 16).flatMap (fun i =>
      let x := c.session i
      if x.state = .free then List.replicate 8 0
      else beBytes 4 x.id ++ beBytes 1 x.keyId ++ beBytes 1 x.priv ++ beBytes 1 x.port ++ beBytes 1 0)))

/-! ## The register window (R547, R635) -/

/-- One entry: its address, and the word that a write carries. -/
abbrev WinEntry := Nat × Option Nat

/-- The entries of a `REG_READ`. -/
def readEntries (b : List Byte) : List WinEntry :=
  (List.range (u16 b 4)).map (fun i => (u32 b 0 + (if bit (u16 b 6) 0 then 0 else 4 * i), none))

/-- The entries of a `REG_WRITE`. -/
def writeEntries (b : List Byte) : List WinEntry := (List.range (u16 b 0)).map (fun i => (u32 b (4 + 8 * i), some (u32 b (8 + 8 * i))))

/-- The registers that hold a field for which a write needs MAINTAIN. -/
def maintained (a : Nat) : Bool :=
  [Reg.BOOT_CTRL_KEY, Reg.FLT_CTRL_KEY, Reg.PTP_CTRL_SET_TIME, Reg.SPL_CTRL_REJOIN, Reg.REFS_CTRL_FORCE_EN, Reg.LOG_CTRL_CLEAR, Reg.LAN_CTRL_CLOSE_ALL,
   Reg.FAB_QUAR_MASTER, Reg.FAB_HOG_LIMIT_BEATS, Reg.FAB_TIMEOUT_REG_US].any (fun f => f.addr == a)

/-- The privilege that an entry needs (R547). -/
def entryNeed (e : WinEntry) : Nat :=
  if e.1 < 0x40000000 ∨ 0x7FFFFFFF < e.1 then 3 else if e.2.isNone then 1 else if maintained e.1 then 3 else 2

/-- The privilege that a request needs. -/
def windowNeed (l : List WinEntry) : Nat := l.foldl (fun a e => max a (entryNeed e)) 1

/-- The first entry whose address is misaligned or unmapped. -/
def Chip.badEntry (c : Chip) (l : List WinEntry) : Option Nat := l.findIdx? (fun e => e.1 % 4 != 0 || (c.fabDecode e.1).isNone)

/-- The entries in order, each after the one before has completed: what they read, or the entry that an error response ends. A session that closes, and a module that no longer
runs, takes no further entry. -/
def Chip.runEntries (slot : Nat) : List WinEntry → List BusFact → Nat → List Byte → Chip → Tbl Byte → (Chip × Tbl Byte) × Except Nat (List Byte)
  | [], _, _, out, c, m => ((c, m), .ok out)
  | e :: rest, facts, i, out, c, m =>
    if c.run = .running ∧ (c.session slot).state = .opened then
      let r := c.busBeat m 7 slot e.1 e.2 (facts.headD ⟨false, false, false, none, []⟩)
      if r.2.1 = 0 then Chip.runEntries slot rest (facts.drop 1) (i + 1) (if e.2.isNone then out ++ beBytes 4 r.2.2 else out) r.1.1 r.1.2
      else (r.1, .error i)
    else ((c, m), .ok out)

/-- Runs a request of the register window once the checks of R540 are passed. -/
def Chip.runWindow (c : Chip) (m : Tbl Byte) (slot msgType : Nat) (l : List WinEntry) (facts : List BusFact) : Chip × Tbl Byte :=
  match c.badEntry l with
  | some i => (c.refuse slot msgType 0x1104 i, m)
  | none =>
    let r := Chip.runEntries slot l facts 0 [] c m
    if r.1.1.run = .running ∧ (r.1.1.session slot).state = .opened then
      (match r.2 with
        | .ok out => (r.1.1.done slot msgType out, r.1.2)
        | .error i => (r.1.1.refuse slot msgType 0x1105 i, r.1.2))
    else r.1

/-- A request of the register window: the gate of R540, then its entries. -/
def Chip.window (c : Chip) (m : Tbl Byte) (slot msgType : Nat) (l : List WinEntry) (lenOk : Bool) (facts : List BusFact) : Chip × Tbl Byte :=
  if c.serves slot && (c.gateCode slot msgType (windowNeed l) false lenOk).isNone then
    let r := c.runWindow m slot msgType l facts
    (Chip.answerUnknown slot 256 (r.1.mirrorOut c slot msgType), r.2)
  else (c.request slot msgType (windowNeed l) false lenOk id, m)

/-- REG_READ (R547). -/
def execRegRead (t : Nat) (slot : Fin 16) (body : List Byte) (facts : List BusFact) (s : State) : Host.Outcome State Fault Refusal :=
  actMem t s (fun c m =>
    c.window m slot 0x0301 (readEntries body) (decide (body.length = 8) && within (u16 body 4) 1 64 && decide (u16 body 6 ≤ 1)) facts)

/-- REG_WRITE (R547). -/
def execRegWrite (t : Nat) (slot : Fin 16) (body : List Byte) (facts : List BusFact) (s : State) : Host.Outcome State Fault Refusal :=
  actMem t s (fun c m =>
    c.window m slot 0x0302 (writeEntries body) (decide (body.length = 4 + 8 * u16 body 0) && within (u16 body 0) 1 64 && zeroAt body 2 2) facts)

/-! ## Bulk transfers of bytes (R552) -/

/-- The bytes of the frame store (R111). -/
def storeSize : Nat := 103079215104

/-- Whether the `BULK` client answers with an error (R166, R174). -/
def Chip.bulkOut (c : Chip) : Bool := !c.fst.ready || c.quarantined 3

/-- FRAME_STORE_WRITE (R552): target 2 of `BULK_WRITE`. -/
def execFrameStoreWrite (t : Nat) (slot : Fin 16) (body : List Byte) (s : State) : Host.Outcome State Fault Refusal :=
  actMem t s (fun c m =>
    if u8 body 0 ≠ 2 then (c, m)
    else
      let ok := bulkWriteOk body
      let range := u64 body 8 % 64 == 0 && decide (u64 body 8 + (body.length - 16) ≤ storeSize)
      let c1 := c.request slot 0x0801 3 false ok (fun c =>
        if !range then c.refuse slot 0x0801 0x1108 wholeIndex
        else if c.bulkOut then c.refuse slot 0x0801 0x1105 wholeIndex
        else c.done slot 0x0801 [])
      (c1, if c.serves slot && (c.gateCode slot 0x0801 3 false ok).isNone && range && !c.bulkOut then memWrite m (storeBase + u64 body 8) (body.drop 16) else m))

/-- FRAME_STORE_READ (R552): target 2 of `BULK_READ`; bytes of the device's own surfaces are its internal code (R116). -/
def execFrameStoreRead (t : Nat) (slot : Fin 16) (body : List Byte) (codes : List (Nat × Byte)) (s : State) : Host.Outcome State Fault Refusal :=
  act t s (fun c =>
    if u8 body 0 ≠ 2 then c
    else c.request slot 0x0802 3 false (bulkReadOk body) (fun c =>
      if u64 body 8 % 64 ≠ 0 ∨ storeSize < u64 body 8 + u32 body 16 then c.refuse slot 0x0802 0x1108 wholeIndex
      else if c.bulkOut then c.refuse slot 0x0802 0x1105 wholeIndex
      else c.done slot 0x0802 (codes.foldl (fun (l : List Byte) e => l.set e.1 e.2) (memRead s.mem (storeBase + u64 body 8) (u32 body 16)))))

/-- DEEP_ANALYSER_RING_READ (R446, R552): target 5 of `BULK_READ`. -/
def execDeepAnalyserRingRead (t : Nat) (slot : Fin 16) (body : List Byte) (s : State) : Host.Outcome State Fault Refusal :=
  act t s (fun c =>
    if u8 body 0 ≠ 5 then c
    else c.request slot 0x0802 1 false (bulkReadOk body) (fun c =>
      if 7 < u32 body 4 ∨ u64 body 8 % 16 ≠ 0 ∨ 134217728 < u64 body 8 + u32 body 16 then c.refuse slot 0x0802 0x1108 wholeIndex
      else if c.bulkOut then c.refuse slot 0x0802 0x1105 wholeIndex
      else c.done slot 0x0802 (memRead s.mem (storeBase + Config.ringBase (u32 body 4) % storeSize + u64 body 8) (u32 body 16))))

/-- FLASH_READ (R552): target 6 of `BULK_READ`; the keys region is excluded. -/
def execFlashRead (t : Nat) (slot : Fin 16) (body : List Byte) (s : State) : Host.Outcome State Fault Refusal :=
  act t s (fun c =>
    if u8 body 0 ≠ 6 then c
    else c.request slot 0x0802 3 false (bulkReadOk body) (fun c =>
      let stop := u64 body 8 + u32 body 16
      if 0x10000000 < stop ∨ (u64 body 8 < 0x0C100000 ∧ 0x0C000000 < stop) then c.refuse slot 0x0802 0x1108 wholeIndex
      else c.done slot 0x0802 (memRead s.mem (flashBase + u64 body 8) (u32 body 16))))

end Sys2Proof.Machine
end

