-- ==== Sys2Proof/Machine/Dispatch.lean ====
section
/-! DEFINITION. The command dispatch: one arm for each constructor of Instr. -/

namespace Sys2Proof.Machine

def exec (i : Instr) (s : State) : Host.Outcome State Fault Refusal :=
  match i with
  | .registerWrite t master slot reg value => Sys2Proof.Machine.execRegisterWrite t master slot reg value s
  | .powerOn t => Sys2Proof.Machine.execPowerOn t s
  | .resetPin t low => Sys2Proof.Machine.execResetPin t low s
  | .coldReset t key => Sys2Proof.Machine.execColdReset t key s
  | .resetRelease t recoveryLow lo fails => Sys2Proof.Machine.execResetRelease t recoveryLow lo fails s
  | .loClkPresent t fails => Sys2Proof.Machine.execLoClkPresent t fails s
  | .pilotServiceStart t fails => Sys2Proof.Machine.execPilotServiceStart t fails s
  | .frameStoreTrainingDone t fail => Sys2Proof.Machine.execFrameStoreTrainingDone t fail s
  | .fullServiceStart t => Sys2Proof.Machine.execFullServiceStart t s
  | .firstTickOfFullService t td facts drives => Sys2Proof.Machine.execFirstTickOfFullService t td facts drives s
  | .bootLate t => Sys2Proof.Machine.execBootLate t s
  | .pilotOnlyService t => Sys2Proof.Machine.execPilotOnlyService t s
  | .frameTick t td leads origin late syncInTime cmpInTime => Sys2Proof.Machine.execFrameTick t td leads origin late syncInTime cmpInTime s
  | .domainAlignment t td mark => Sys2Proof.Machine.execDomainAlignment t td mark s
  | .takeJobOpen t td => Sys2Proof.Machine.execTakeJobOpen t td s
  | .jobDeadline t td job late => Sys2Proof.Machine.execJobDeadline t td job late s
  | .occlJob t td => Sys2Proof.Machine.execOcclJob t td s
  | .composeFrame t cmp late corrected errors stored => Sys2Proof.Machine.execComposeFrame t cmp late corrected errors stored s
  | .switchPoint t dst td => Sys2Proof.Machine.execSwitchPoint t dst td s
  | .sourceLost t src => Sys2Proof.Machine.execSourceLost t src s
  | .houseSampleTick t sdi given => Sys2Proof.Machine.execHouseSampleTick t sdi given s
  | .slotFrameBoundary t late lateNs lost => Sys2Proof.Machine.execSlotFrameBoundary t late lateNs lost s
  | .tableSwap t => Sys2Proof.Machine.execTableSwap t s
  | .arbSwap t => Sys2Proof.Machine.execArbSwap t s
  | .arbHostTbl t value => Sys2Proof.Machine.execArbHostTbl t value s
  | .arbClrCnt t => Sys2Proof.Machine.execArbClrCnt t s
  | .arbQuarClear t mask => Sys2Proof.Machine.execArbQuarClear t mask s
  | .beRequest t ch client leaf beats lock write => Sys2Proof.Machine.execBeRequest t ch client leaf beats lock write s
  | .arbiterDecision t ch slot ready => Sys2Proof.Machine.execArbiterDecision t ch slot ready s
  | .backoffExpiry t ch client => Sys2Proof.Machine.execBackoffExpiry t ch client s
  | .creditRefill t => Sys2Proof.Machine.execCreditRefill t s
  | .hogCut t ch => Sys2Proof.Machine.execHogCut t ch s
  | .lineWrite t src line samples anc marker => Sys2Proof.Machine.execLineWrite t src line samples anc marker s
  | .readoutLine t src td line corrected errors sideLate => Sys2Proof.Machine.execReadoutLine t src td line corrected errors sideLate s
  | .lineSlotRead t dst line => Sys2Proof.Machine.execLineSlotRead t dst line s
  | .scrubPass t corrected errors => Sys2Proof.Machine.execScrubPass t corrected errors s
  | .fstClrCnt t => Sys2Proof.Machine.execFstClrCnt t s
  | .xptClrCnt t => Sys2Proof.Machine.execXptClrCnt t s
  | .tickClrOvr t => Sys2Proof.Machine.execTickClrOvr t s
  | .cmpClrCnt t => Sys2Proof.Machine.execCmpClrCnt t s
  | .surfaceSwap t surface => Sys2Proof.Machine.execSurfaceSwap t surface s
  | .portClockStop t port => Sys2Proof.Machine.execPortClockStop t port s
  | .portClockWindow t port rate => Sys2Proof.Machine.execPortClockWindow t port rate s
  | .portRateMeasurement t port rate => Sys2Proof.Machine.execPortRateMeasurement t port rate s
  | .audClrCnt t => Sys2Proof.Machine.execAudClrCnt t s
  | .receiveFrame t port breakout bytes fcsOk bufferFull fill learnt deepFull => Sys2Proof.Machine.execReceiveFrame t port breakout bytes fcsOk bufferFull fill learnt deepFull s
  | .ssrcAdoption t flow => Sys2Proof.Machine.execSsrcAdoption t flow s
  | .pathDown t flow pathB => Sys2Proof.Machine.execPathDown t flow pathB s
  | .skewMeasurement t flow => Sys2Proof.Machine.execSkewMeasurement t flow s
  | .packetLaunch t what => Sys2Proof.Machine.execPacketLaunch t what s
  | .passThroughForward t flow => Sys2Proof.Machine.execPassThroughForward t flow s
  | .membershipReport t port breakout => Sys2Proof.Machine.execMembershipReport t port breakout s
  | .pmiClrCnt t => Sys2Proof.Machine.execPmiClrCnt t s
  | .pmoClrCnt t => Sys2Proof.Machine.execPmoClrCnt t s
  | .send t port breakout req => Sys2Proof.Machine.execSend t port breakout req s
  | .transmitFrameStart t port breakout first => Sys2Proof.Machine.execTransmitFrameStart t port breakout first s
  | .sendCompletion t port breakout => Sys2Proof.Machine.execSendCompletion t port breakout s
  | .macTxUnderrun t port breakout => Sys2Proof.Machine.execMacTxUnderrun t port breakout s
  | .linkDown t port breakout => Sys2Proof.Machine.execLinkDown t port breakout s
  | .linkUp t port breakout => Sys2Proof.Machine.execLinkUp t port breakout s
  | .pauseExpiry t port breakout kind => Sys2Proof.Machine.execPauseExpiry t port breakout kind s
  | .pauseWatchdog t port kind => Sys2Proof.Machine.execPauseWatchdog t port kind s
  | .pauseIgnoreEnd t port kind => Sys2Proof.Machine.execPauseIgnoreEnd t port kind s
  | .pauseRepeat t port fill => Sys2Proof.Machine.execPauseRepeat t port fill s
  | .gclSwap t => Sys2Proof.Machine.execGclSwap t s
  | .gateScheduleSwap t port breakout => Sys2Proof.Machine.execGateScheduleSwap t port breakout s
  | .tsCapTagRead t => Sys2Proof.Machine.execTsCapTagRead t s
  | .macClrCnt t => Sys2Proof.Machine.execMacClrCnt t s
  | .signalDetect t lane rise => Sys2Proof.Machine.execSignalDetect t lane rise s
  | .sdiSearchStep t lane => Sys2Proof.Machine.execSdiSearchStep t lane s
  | .sdiEav t lane words ident raster skew => Sys2Proof.Machine.execSdiEav t lane words ident raster skew s
  | .sdiRateMeasure t lane offset => Sys2Proof.Machine.execSdiRateMeasure t lane offset s
  | .sdiLockLost t lane cdr => Sys2Proof.Machine.execSdiLockLost t lane cdr s
  | .laneStart t lane => Sys2Proof.Machine.execLaneStart t lane s
  | .trainingTimeout t lane => Sys2Proof.Machine.execTrainingTimeout t lane s
  | .linkStartTimeout t port breakout => Sys2Proof.Machine.execLinkStartTimeout t port breakout s
  | .alignmentLoss t port breakout => Sys2Proof.Machine.execAlignmentLoss t port breakout s
  | .retrainTimeout t port breakout => Sys2Proof.Machine.execRetrainTimeout t port breakout s
  | .retrain t => Sys2Proof.Machine.execRetrain t s
  | .wordBoundaryTimeout t port k => Sys2Proof.Machine.execWordBoundaryTimeout t port k s
  | .stepChange t port => Sys2Proof.Machine.execStepChange t port s
  | .laneStepCheck t port pass => Sys2Proof.Machine.execLaneStepCheck t port pass s
  | .stepBarExpiry t port => Sys2Proof.Machine.execStepBarExpiry t port s
  | .laneStateTransitionDone t lane => Sys2Proof.Machine.execLaneStateTransitionDone t lane s
  | .slip t => Sys2Proof.Machine.execSlip t s
  | .rawCap t => Sys2Proof.Machine.execRawCap t s
  | .rawCaptureDone t lane words => Sys2Proof.Machine.execRawCaptureDone t lane words s
  | .rawDataRead t => Sys2Proof.Machine.execRawDataRead t s
  | .errInj t => Sys2Proof.Machine.execErrInj t s
  | .eyeScanStart t => Sys2Proof.Machine.execEyeScanStart t s
  | .eyeScanDone t lane errors => Sys2Proof.Machine.execEyeScanDone t lane errors s
  | .lneClrCnt t => Sys2Proof.Machine.execLneClrCnt t s
  | .refLoLost t => Sys2Proof.Machine.execRefLoLost t s
  | .loClkRecovered t => Sys2Proof.Machine.execLoClkRecovered t s
  | .referenceMeasurement t facts freq phase => Sys2Proof.Machine.execReferenceMeasurement t facts freq phase s
  | .qualificationTimerExpiry t entry => Sys2Proof.Machine.execQualificationTimerExpiry t entry s
  | .holdoffTimerExpiry t entry => Sys2Proof.Machine.execHoldoffTimerExpiry t entry s
  | .selectionDecision t => Sys2Proof.Machine.execSelectionDecision t s
  | .referenceLoss t entry => Sys2Proof.Machine.execReferenceLoss t entry s
  | .referenceGlitch t entry => Sys2Proof.Machine.execReferenceGlitch t entry s
  | .dpllLock t => Sys2Proof.Machine.execDpllLock t s
  | .historyAverage t average => Sys2Proof.Machine.execHistoryAverage t average s
  | .forceHold t on => Sys2Proof.Machine.execForceHold t on s
  | .refsClrCnt t => Sys2Proof.Machine.execRefsClrCnt t s
  | .framePulse t output => Sys2Proof.Machine.execFramePulse t output s
  | .ppsPulse t entry => Sys2Proof.Machine.execPpsPulse t entry s
  | .ptpSync t m twoStep sec ns => Sys2Proof.Machine.execPtpSync t m twoStep sec ns s
  | .ptpFollowUp t m sec ns => Sys2Proof.Machine.execPtpFollowUp t m sec ns s
  | .ptpAnnounce t m a => Sys2Proof.Machine.execPtpAnnounce t m a s
  | .ptpDelayResp t m sec ns => Sys2Proof.Machine.execPtpDelayResp t m sec ns s
  | .delayReqSend t => Sys2Proof.Machine.execDelayReqSend t s
  | .announceReceiptTimeout t => Sys2Proof.Machine.execAnnounceReceiptTimeout t s
  | .measurementTimeout t => Sys2Proof.Machine.execMeasurementTimeout t s
  | .stepAuth t slot body => Sys2Proof.Machine.execStepAuth t slot body s
  | .setTime t slot body => Sys2Proof.Machine.execSetTime t slot body s
  | .ptpClrCnt t => Sys2Proof.Machine.execPtpClrCnt t s
  | .linkStateCellSend t => Sys2Proof.Machine.execLinkStateCellSend t s
  | .cellReceived t port bytes fecOk news => Sys2Proof.Machine.execCellReceived t port bytes fecOk news s
  | .splicePtpCell t port msg residence => Sys2Proof.Machine.execSplicePtpCell t port msg residence s
  | .splicePortInService t port neighbour proto => Sys2Proof.Machine.execSplicePortInService t port neighbour proto s
  | .splicePortOutOfService t port lane => Sys2Proof.Machine.execSplicePortOutOfService t port lane s
  | .tickMasterElection t => Sys2Proof.Machine.execTickMasterElection t s
  | .reservationExchangeDone t slot facts => Sys2Proof.Machine.execReservationExchangeDone t slot facts s
  | .reservationExchangeTimeout t slot => Sys2Proof.Machine.execReservationExchangeTimeout t slot s
  | .stepDownTimer t port => Sys2Proof.Machine.execStepDownTimer t port s
  | .twinRoleDecision t actIn => Sys2Proof.Machine.execTwinRoleDecision t actIn s
  | .mirrorAckTimeout t => Sys2Proof.Machine.execMirrorAckTimeout t s
  | .twinActRelease t => Sys2Proof.Machine.execTwinActRelease t s
  | .twinHandover t => Sys2Proof.Machine.execTwinHandover t s
  | .splClrCnt t => Sys2Proof.Machine.execSplClrCnt t s
  | .flowWatchIntervalClose t facts cs => Sys2Proof.Machine.execFlowWatchIntervalClose t facts cs s
  | .silenceDetected t pos => Sys2Proof.Machine.execSilenceDetected t pos s
  | .deepStart t ana => Sys2Proof.Machine.execDeepStart t ana s
  | .deepStop t ana => Sys2Proof.Machine.execDeepStop t ana s
  | .fwaClrCnt t => Sys2Proof.Machine.execFwaClrCnt t s
  | .genClrCnt t => Sys2Proof.Machine.execGenClrCnt t s
  | .arm t slot body => Sys2Proof.Machine.execArm t slot body s
  | .trigger t slot body => Sys2Proof.Machine.execTrigger t slot body s
  | .stop t slot body => Sys2Proof.Machine.execStop t slot body s
  | .delete t slot body => Sys2Proof.Machine.execDelete t slot body s
  | .format t slot body => Sys2Proof.Machine.execFormat t slot body s
  | .formatDone t => Sys2Proof.Machine.execFormatDone t s
  | .play t slot body => Sys2Proof.Machine.execPlay t slot body s
  | .pause t slot body => Sys2Proof.Machine.execPause t slot body s
  | .resume t slot body => Sys2Proof.Machine.execResume t slot body s
  | .stopPlayer t slot body => Sys2Proof.Machine.execStopPlayer t slot body s
  | .replay t slot body => Sys2Proof.Machine.execReplay t slot body s
  | .replayTick t facts => Sys2Proof.Machine.execReplayTick t facts s
  | .capTrigEdge t falling => Sys2Proof.Machine.execCapTrigEdge t falling s
  | .postTriggerEnd t set => Sys2Proof.Machine.execPostTriggerEnd t set s
  | .captureCommit t set => Sys2Proof.Machine.execCaptureCommit t set s
  | .gapRecordWrite t set ch bad => Sys2Proof.Machine.execGapRecordWrite t set ch bad s
  | .nvmeCompletion t link status set ch n => Sys2Proof.Machine.execNvmeCompletion t link status set ch n s
  | .driveFailure t link reason status lost => Sys2Proof.Machine.execDriveFailure t link reason status lost s
  | .capClrCnt t => Sys2Proof.Machine.execCapClrCnt t s
  | .openSession t port ipv6 addr udpPort bytes session nonce => Sys2Proof.Machine.execOpenSession t port ipv6 addr udpPort bytes session nonce s
  | .sealed t port ipv6 addr udpPort bytes => Sys2Proof.Machine.execSealed t port ipv6 addr udpPort bytes s
  | .halfOpenTimeout t slot => Sys2Proof.Machine.execHalfOpenTimeout t slot s
  | .reassemblyTimeout t slot seq => Sys2Proof.Machine.execReassemblyTimeout t slot seq s
  | .ackTimer t slot => Sys2Proof.Machine.execAckTimer t slot s
  | .noticeResend t slot => Sys2Proof.Machine.execNoticeResend t slot s
  | .sessionIdleTimeout t slot => Sys2Proof.Machine.execSessionIdleTimeout t slot s
  | .ping t slot body => Sys2Proof.Machine.execPing t slot body s
  | .close t slot body => Sys2Proof.Machine.execClose t slot body s
  | .subscribe t slot body => Sys2Proof.Machine.execSubscribe t slot body s
  | .take t slot body => Sys2Proof.Machine.execTake t slot body s
  | .salvo t slot body => Sys2Proof.Machine.execSalvo t slot body s
  | .cancel t slot body => Sys2Proof.Machine.execCancel t slot body s
  | .audioTake t slot body => Sys2Proof.Machine.execAudioTake t slot body s
  | .layout t slot body => Sys2Proof.Machine.execLayout t slot body s
  | .realign t slot body => Sys2Proof.Machine.execRealign t slot body s
  | .rejoin t slot body => Sys2Proof.Machine.execRejoin t slot body s
  | .handover t slot body => Sys2Proof.Machine.execHandover t slot body s
  | .inject t slot body => Sys2Proof.Machine.execInject t slot body s
  | .queryRoutes t slot body => Sys2Proof.Machine.execQueryRoutes t slot body s
  | .queryIdentity t slot body => Sys2Proof.Machine.execQueryIdentity t slot body s
  | .querySettings t slot body => Sys2Proof.Machine.execQuerySettings t slot body s
  | .querySessions t slot body => Sys2Proof.Machine.execQuerySessions t slot body s
  | .regRead t slot body facts => Sys2Proof.Machine.execRegRead t slot body facts s
  | .regWrite t slot body facts => Sys2Proof.Machine.execRegWrite t slot body facts s
  | .configure t slot body facts => Sys2Proof.Machine.execConfigure t slot body facts s
  | .save t slot body => Sys2Proof.Machine.execSave t slot body s
  | .saveDone t fails journalFails => Sys2Proof.Machine.execSaveDone t fails journalFails s
  | .logRead t slot body => Sys2Proof.Machine.execLogRead t slot body s
  | .logClear t slot body => Sys2Proof.Machine.execLogClear t slot body s
  | .updateBegin t slot body => Sys2Proof.Machine.execUpdateBegin t slot body s
  | .eraseDone t kind fails => Sys2Proof.Machine.execEraseDone t kind fails s
  | .updateArm t slot body => Sys2Proof.Machine.execUpdateArm t slot body s
  | .armVerifyDone t kind fails => Sys2Proof.Machine.execArmVerifyDone t kind fails s
  | .updateActivate t slot body => Sys2Proof.Machine.execUpdateActivate t slot body s
  | .updateAbort t slot body => Sys2Proof.Machine.execUpdateAbort t slot body s
  | .enrolKey t slot body => Sys2Proof.Machine.execEnrolKey t slot body s
  | .enrolDone t fails => Sys2Proof.Machine.execEnrolDone t fails s
  | .activationStart t journalFails => Sys2Proof.Machine.execActivationStart t journalFails s
  | .activationEnd t trial => Sys2Proof.Machine.execActivationEnd t trial s
  | .updClrCnt t => Sys2Proof.Machine.execUpdClrCnt t s
  | .surfaceLoad t slot body => Sys2Proof.Machine.execSurfaceLoad t slot body s
  | .frameStoreWrite t slot body => Sys2Proof.Machine.execFrameStoreWrite t slot body s
  | .imageBlock t slot body fails => Sys2Proof.Machine.execImageBlock t slot body fails s
  | .frameStoreRead t slot body codes => Sys2Proof.Machine.execFrameStoreRead t slot body codes s
  | .captureStoreRead t slot body data => Sys2Proof.Machine.execCaptureStoreRead t slot body data s
  | .deepAnalyserRingRead t slot body => Sys2Proof.Machine.execDeepAnalyserRingRead t slot body s
  | .flashRead t slot body => Sys2Proof.Machine.execFlashRead t slot body s
  | .surfaceRead t slot body => Sys2Proof.Machine.execSurfaceRead t slot body s
  | .closeAll t => Sys2Proof.Machine.execCloseAll t s
  | .lanClrCnt t => Sys2Proof.Machine.execLanClrCnt t s
  | .sramUncorrectableError t hit offset => Sys2Proof.Machine.execSramUncorrectableError t hit offset s
  | .serviceCoreException t core => Sys2Proof.Machine.execServiceCoreException t core s
  | .serviceCoreWatchdog t core => Sys2Proof.Machine.execServiceCoreWatchdog t core s
  | .forceRestart t key => Sys2Proof.Machine.execForceRestart t key s
  | .restartDone t => Sys2Proof.Machine.execRestartDone t s
  | .lamplighterWatchdog t => Sys2Proof.Machine.execLamplighterWatchdog t s
  | .fltClrCnt t => Sys2Proof.Machine.execFltClrCnt t s
  | .eventRecord t => Sys2Proof.Machine.execEventRecord t s
  | .archiveBatch t how => Sys2Proof.Machine.execArchiveBatch t how s
  | .freezeTimeout t => Sys2Proof.Machine.execFreezeTimeout t s
  | .logFreeze t => Sys2Proof.Machine.execLogFreeze t s
  | .logThaw t => Sys2Proof.Machine.execLogThaw t s
  | .winLoad t => Sys2Proof.Machine.execWinLoad t s
  | .logClrCnt t => Sys2Proof.Machine.execLogClrCnt t s
  | .fabricTransaction t master slot addr write words lock barrier => Sys2Proof.Machine.execFabricTransaction t master slot addr write words lock barrier s
  | .fabricTimeout t master target tookEffect => Sys2Proof.Machine.execFabricTimeout t master target tookEffect s
  | .fabricArbiterDecision t target facts => Sys2Proof.Machine.execFabricArbiterDecision t target facts s
  | .fabricCreditRefill t => Sys2Proof.Machine.execFabricCreditRefill t s
  | .fabricHogCut t target delivered facts => Sys2Proof.Machine.execFabricHogCut t target delivered facts s
  | .remap t on => Sys2Proof.Machine.execRemap t on s
  | .fabQuarClear t mask => Sys2Proof.Machine.execFabQuarClear t mask s
  | .fabClrCnt t => Sys2Proof.Machine.execFabClrCnt t s
  | .supplyHoldStart t conds => Sys2Proof.Machine.execSupplyHoldStart t conds s
  | .supplyHoldEnd t => Sys2Proof.Machine.execSupplyHoldEnd t s
  | .railReset t rail mv => Sys2Proof.Machine.execRailReset t rail mv s
  | .temperatureSample t readings => Sys2Proof.Machine.execTemperatureSample t readings s
  | .thermalTrip t sensor reading => Sys2Proof.Machine.execThermalTrip t sensor reading s
  | .pwrClrCnt t => Sys2Proof.Machine.execPwrClrCnt t s
  | .mgmtI2cTransfer t pointer reads => Sys2Proof.Machine.execMgmtI2cTransfer t pointer reads s
  | .boundaryScanInstruction t takesPins => Sys2Proof.Machine.execBoundaryScanInstruction t takesPins s
  | .freeRunningTimingStart t => Sys2Proof.Machine.execFreeRunningTimingStart t s
  | .processorsReleased t ok fails => Sys2Proof.Machine.execProcessorsReleased t ok fails s
  | .laneTrainingDone t lane => Sys2Proof.Machine.execLaneTrainingDone t lane s
  | .wordBoundaryFound t port k farMax farAuto => Sys2Proof.Machine.execWordBoundaryFound t port k farMax farAuto s
  | .referenceSignalPresent t entry => Sys2Proof.Machine.execReferenceSignalPresent t entry s
  | .audioInputSample t port words errors => Sys2Proof.Machine.execAudioInputSample t port words errors s
  | .spliceSyncSend t => Sys2Proof.Machine.execSpliceSyncSend t s
  | .importLineRelease t dev src td line => Sys2Proof.Machine.execImportLineRelease t dev src td line s
  | .supplyMonitorSample t mv => Sys2Proof.Machine.execSupplyMonitorSample t mv s
  | .thermalTripRecovery t => Sys2Proof.Machine.execThermalTripRecovery t s

end Sys2Proof.Machine
end

