-- ==== Sys2Proof/WellFormed.lean ====
section
/-! DEFINITION. Which commands are well formed: those whose operands their senders can form. The rest have no effect, or the answer that their rule gives. -/

namespace Sys2Proof

/-- The largest body that a request can have, in bytes: a longer message is never complete (R528). -/
def Request.maxBody : Nat := 266240

/-- The session slot and the body of a request of a session (R539). -/
def Instr.request? : Instr → Option (Nat × List Byte)
  | .stepAuth _ slot body => some (slot, body)
  | .setTime _ slot body => some (slot, body)
  | .arm _ slot body => some (slot, body)
  | .trigger _ slot body => some (slot, body)
  | .stop _ slot body => some (slot, body)
  | .delete _ slot body => some (slot, body)
  | .format _ slot body => some (slot, body)
  | .play _ slot body => some (slot, body)
  | .pause _ slot body => some (slot, body)
  | .resume _ slot body => some (slot, body)
  | .stopPlayer _ slot body => some (slot, body)
  | .replay _ slot body => some (slot, body)
  | .ping _ slot body => some (slot, body)
  | .close _ slot body => some (slot, body)
  | .subscribe _ slot body => some (slot, body)
  | .take _ slot body => some (slot, body)
  | .salvo _ slot body => some (slot, body)
  | .cancel _ slot body => some (slot, body)
  | .audioTake _ slot body => some (slot, body)
  | .layout _ slot body => some (slot, body)
  | .realign _ slot body => some (slot, body)
  | .rejoin _ slot body => some (slot, body)
  | .handover _ slot body => some (slot, body)
  | .inject _ slot body => some (slot, body)
  | .queryRoutes _ slot body => some (slot, body)
  | .queryIdentity _ slot body => some (slot, body)
  | .querySettings _ slot body => some (slot, body)
  | .querySessions _ slot body => some (slot, body)
  | .regRead _ slot body _ => some (slot, body)
  | .regWrite _ slot body _ => some (slot, body)
  | .configure _ slot body _ => some (slot, body)
  | .save _ slot body => some (slot, body)
  | .logRead _ slot body => some (slot, body)
  | .logClear _ slot body => some (slot, body)
  | .updateBegin _ slot body => some (slot, body)
  | .updateArm _ slot body => some (slot, body)
  | .updateActivate _ slot body => some (slot, body)
  | .updateAbort _ slot body => some (slot, body)
  | .enrolKey _ slot body => some (slot, body)
  | .surfaceLoad _ slot body => some (slot, body)
  | .frameStoreWrite _ slot body => some (slot, body)
  | .imageBlock _ slot body _ => some (slot, body)
  | .frameStoreRead _ slot body _ => some (slot, body)
  | .captureStoreRead _ slot body _ => some (slot, body)
  | .deepAnalyserRingRead _ slot body => some (slot, body)
  | .flashRead _ slot body => some (slot, body)
  | .surfaceRead _ slot body => some (slot, body)
  | _ => none

/-- Whether a burst is one that a master can issue (R615, R627): 1 to 16 beats at aligned addresses within 1 KiB, or a locked sequence. -/
def burstOk (addr : Nat) (beats : Nat) (lock : Bool) : Bool :=
  decide (addr % 4 = 0) && decide (1 ≤ beats) && (lock || (decide (beats ≤ 16) && decide (addr % 1024 + 4 * beats ≤ 1024)))

/-- Whether a command is well formed. -/
def Instr.wf (i : Instr) : Bool :=
  (match i.request? with | some r => decide (r.2.length ≤ Request.maxBody) | none => true) &&
  match i with
  | .registerWrite _ _ _ reg _ => decide (reg.toNat % 4 = 0)
  | .fabricTransaction _ _ _ addr _ words lock _ => burstOk addr.toNat words.length lock
  | .openSession _ _ _ _ udpPort _ session nonce => decide (udpPort < 65536) && decide (0 < session) && decide (session < 4294967296) && decide (nonce.length = 32)
  | .sealed _ _ _ _ udpPort _ => decide (udpPort < 65536)
  | .supplyMonitorSample _ mv => decide (mv.length = 11)
  | .temperatureSample _ readings => decide (readings.length = 12)
  | _ => true

end Sys2Proof
end

