-- ==== Sys2Proof/Safety.lean ====
section
/-! DEFINITION. The words that claims are stated in: when a command completes and with what, when the module serves a request, what it has
answered and recorded, and the invariants of a state. -/

namespace Sys2Proof

/-! ## Kinds of commands -/

/-- The commands that act whether or not the module runs: supplies, reset, temperature, the management target, boundary scan (R489, R644, R651, R666, R669). -/
def Instr.alwaysActs : Instr → Bool
  | .railReset _ _ _ => true
  | .thermalTrip _ _ _ => true
  | .powerOn _ => true
  | .resetPin _ _ => true
  | .resetRelease _ _ _ _ => true
  | .mgmtI2cTransfer _ _ _ => true
  | .boundaryScanInstruction _ _ => true
  | .supplyMonitorSample _ _ => true
  | .temperatureSample _ _ => true
  | .thermalTripRecovery _ => true
  | _ => false

/-- The commands that reach the byte-addressed memories: the fabric, the flash functions, bulk writes, and what can lead to a start or a restart. -/
def Instr.reachesMemory : Instr → Bool
  | .serviceCoreException _ _ => true
  | .serviceCoreWatchdog _ _ => true
  | .forceRestart _ _ => true
  | .lamplighterWatchdog _ => true
  | .sramUncorrectableError _ _ _ => true
  | .jobDeadline _ _ _ _ => true
  | .regRead _ _ _ _ => true
  | .regWrite _ _ _ _ => true
  | .frameStoreWrite _ _ _ => true
  | .updateBegin _ _ _ => true
  | .eraseDone _ _ _ => true
  | .imageBlock _ _ _ _ => true
  | .armVerifyDone _ _ _ => true
  | .enrolDone _ _ => true
  | .saveDone _ _ _ => true
  | .activationStart _ _ => true
  | .activationEnd _ _ => true
  | .arm _ _ _ => true
  | .replay _ _ _ => true
  | .fabricTransaction _ _ _ _ _ _ _ _ => true
  | .fabricArbiterDecision _ _ _ => true
  | .fabricHogCut _ _ _ _ => true
  | .fabricTimeout _ _ _ _ => true
  | .receiveFrame _ _ _ _ _ _ _ _ _ => true
  | .registerWrite _ _ _ _ _ => true
  | .openSession _ _ _ _ _ _ _ _ => true
  | .closeAll _ => true
  | .sessionIdleTimeout _ _ => true
  | .close _ _ _ => true
  | .coldReset _ _ => true
  | .loClkPresent _ _ => true
  | .pilotServiceStart _ _ => true
  | .processorsReleased _ _ _ => true
  | .refLoLost _ => true
  | .loClkRecovered _ => true
  | .archiveBatch _ _ => true
  | .railReset _ _ _ => true
  | .thermalTrip _ _ _ => true
  | .powerOn _ => true
  | .resetPin _ _ => true
  | .resetRelease _ _ _ _ => true
  | _ => false

end Sys2Proof

namespace Sys2Proof.Machine

/-! ## Completing -/

/-- The module's functions run: it is neither in reset nor taken over by boundary scan (R489, R669). -/
abbrev State.runs (s : State) : Prop := s.chip.run = .running

/-- The module of a state at the instant of a command that comes at `t`. -/
abbrev State.upon (s : State) (t : Nat) : Chip := s.chip.begin t

/-- The command is carried out: it leaves a next state with the queue and the memories as they were, and a module that satisfies `P`. -/
def Yields (i : Instr) (s : State) (P : Chip → Prop) : Prop := ∃ c, exec i s = .next { s with chip := c } ∧ P c

/-- The command is carried out: it leaves a next state with the queue as it was, and a module and memories that satisfy `P`. -/
def YieldsMem (i : Instr) (s : State) (P : Chip → Tbl Byte → Prop) : Prop := ∃ c m, exec i s = .next { s with chip := c, mem := m } ∧ P c m

/-! ## Requests -/

/-- The service cores take up the next request of a session: the session is open, nothing makes its requests wait, its privilege level suffices, the module is in
full service and not in a restart, a halt or the part of a standby (R421, R530, R538, R540, R563). -/
abbrev State.serving (s : State) (slot m need : Nat) : Prop :=
  s.runs ∧ s.chip.serves slot = true ∧ need ≤ (s.chip.session slot).priv ∧ s.chip.phase = 2 ∧ s.chip.stalled = false ∧
    (mirroredRequest m && s.chip.standby) = false

/-- The session holds the response to its request `q` (R529, R530). -/
abbrev Chip.answered (c : Chip) (slot q m status : Nat) (body : List Byte) : Prop :=
  ({ seq := q, msgType := m, status := status, body := body } : Resp) ∈ (c.session slot).responses

/-- The next request of the session, after the one that `before` has answered last, has its response (R530). -/
abbrev Chip.replied (c before : Chip) (slot m status : Nat) (body : List Byte) : Prop :=
  c.answered slot ((before.session slot).done + 1) m status body

/-- `DONE` as a status (R529). -/
abbrev done : Nat := statusOf 0 wholeIndex

/-- `STARTED` as a status (R529). -/
abbrev started : Nat := statusOf 2 wholeIndex

/-! ## Records and outputs -/

/-- An event record has been handed over to the recorder (R576, R578). -/
abbrev Chip.logged (c : Chip) (e : Ev) (payload : List Nat) : Prop :=
  ∃ r ∈ c.log.handed, r.block = e.block ∧ r.code = e.code ∧ r.sev = e.sev ∧ r.payload = payload.map (fun w => w % 4294967296)

/-- Every register field outside `fs` reads as it did, in every bank. -/
def Chip.sameRegs (c before : Chip) (fs : List Fld) : Prop :=
  ∀ (f : Fld) (b : Nat), f.lo < 32 → b < 1048576 → (∀ g ∈ fs, f.addr ≠ g.addr ∨ f.lo ≠ g.lo) → c.fld f b = before.fld f b

/-! ## Invariants -/

/-- The byte-addressed memories are in their canonical form. -/
abbrev State.memOk (s : State) : Prop := Memory.wf s.mem = true

end Sys2Proof.Machine
end

