-- ==== Sys2Proof/Certificates/Slice0/Obligations.lean ====
section
/-! DEFINITION. The statements about this model that the provers are asked to settle. -/

open Sys2Proof Sys2Proof.Machine

/-- In a module that runs: ARB_SWAP leaves a swap pending and changes nothing else; TABLE_SWAP with a swap pending, the store ready and a valid shadow
makes the shadow the active tables, leaves the shadow as it is, ends the pending swap and counts one swap; ARB_HOST_TBL sets HOST_TBL to the value
written and, when it returns to 0, leaves a swap pending; ARB_CLR_CNT returns every counter of R172 to 0; SLOT_FRAME_BOUNDARY after six sample ticks
counts one slot frame, ends the catch-up credits and puts the mask written in force; CREDIT_REFILL leaves no credit spent; BACKOFF_EXPIRY ends the
client's backoff on its channel and leaves every other arbiter alone. -/
def Obligations.SlotTableCommandsComplete : Prop :=
  (∀ (s : State) (t : Nat),
    s.runs →
    exec (.arbSwap t) s = .next { s with chip := { s.upon t with arb := { s.chip.arb with swapPend := true } } }) ∧
  (∀ (s : State) (t : Nat),
    s.runs →
    s.chip.arb.swapPend = true →
    s.chip.fst.ready = true →
    s.chip.arb.shadow.invalid = [] →
    Yields (.tableSwap t) s (fun c =>
      c.arb = { s.chip.arb with active := s.chip.arb.shadow, swapPend := false } ∧
      c.fld Reg.ARB_SWAPS_COUNT 0 = (s.chip.fld Reg.ARB_SWAPS_COUNT 0 + 1) % 2 ^ 32 ∧
      c.sameRegs s.chip [Reg.ARB_SWAPS_COUNT] ∧
      c = { s.upon t with arb := c.arb, regs := c.regs, boot := { s.chip.boot with swapped := true } })) ∧
  (∀ (s : State) (t : Nat) (v : Bool),
    s.runs →
    Yields (.arbHostTbl t v) s (fun c =>
      c.fld Reg.ARB_CTRL_HOST_TBL 0 = flag v ∧ c.sameRegs s.chip [Reg.ARB_CTRL_HOST_TBL] ∧
      c = { s.upon t with arb := c.arb, regs := c.regs } ∧
      (s.chip.isSet Reg.ARB_CTRL_HOST_TBL 0 = true ∧ v = false → c.arb.swapPend = true) ∧
      (s.chip.isSet Reg.ARB_CTRL_HOST_TBL 0 = false ∨ v = true → c.arb = s.chip.arb))) ∧
  (∀ (s : State) (t : Nat),
    s.runs →
    Yields (.arbClrCnt t) s (fun c =>
      (∀ n, n < 4 → c.fld (Reg.ARB_RT_ABANDON_COUNT n) 0 = 0) ∧
      (∀ n, n < 6 → c.fld (Reg.ARB_BE_BEATS_COUNT n) 0 = 0 ∧ c.fld (Reg.ARB_BE_WAIT_MAX_SLOTS n) 0 = 0 ∧
        c.fld (Reg.ARB_BE_EVENTS_HOG_CUTS n) 0 = 0 ∧ c.fld (Reg.ARB_BE_EVENTS_LOCK_TRUNC n) 0 = 0) ∧
      c = { s.upon t with regs := c.regs })) ∧
  (∀ (s : State) (t : Nat),
    s.runs →
    s.chip.tick.running = true →
    6 * (s.chip.tick.slotFrames + 1) ≤ s.chip.tick.samples →
    s.chip.arb.maskLive = 0 →
    Yields (.slotFrameBoundary t [] 0 []) s (fun c =>
      c.tick.slotFrames = s.chip.tick.slotFrames + 1 ∧ c.tick.slotAt = max s.chip.now t ∧
      c.arb = { s.chip.arb with catchUp := [], maskLive := s.chip.fld Reg.ARB_RT_MASK_MASK 0 } ∧ c.regs = s.chip.regs)) ∧
  (∀ (s : State) (t : Nat),
    s.runs →
    Yields (.creditRefill t) s (fun c => (∀ e ∈ c.arb.arbiters, e.2.spent = []) ∧ c = { s.upon t with arb := c.arb })) ∧
  (∀ (s : State) (t : Nat) (ch : Fin 64) (client : Fin 6),
    s.runs →
    Yields (.backoffExpiry t ch client) s (fun c =>
      client.val ∉ (c.arbiter ch).off ∧ (c.arbiter ch).waiting = (s.chip.arbiter ch).waiting ∧
      (∀ k, k ≠ ch.val → c.arbiter k = s.chip.arbiter k) ∧ c = { s.upon t with arb := c.arb }))

/-- In a module that runs with the store ready: BE_REQUEST of a leaf that exists, of a client that is not in quarantine, with no request of its own
waiting or granted, leaves that request, stamped with the slot count, waiting or presented at its arbiter; ARBITER_DECISION at a slot that no owner
holds, with no catch-up credit, grants the request that the decision of R162 chooses (for a client without leaves of its own, with its credit spent
and every other arbiter as it was); HOG_CUT of a grant that asks for more beats than the limit sets the client's bit of QUAR and HOG_SEEN, counts the
cut, records ARB_HOG_CUT and leaves no request of the client waiting on a channel; ARB_QUAR_CLEAR clears the bits written as ones and leaves each
client cleared with backoff 1 and no waiting request on every channel. -/
def Obligations.BestEffortCommandsComplete : Prop :=
  (∀ (s : State) (t : Nat) (ch : Fin 64) (client : Fin 6) (leaf : Fin 32) (beats : Nat) (lock write : Bool),
    let key := if hasLeaves client then localKey ch client else ch.val
    s.runs →
    s.chip.fst.ready = true →
    bit (s.chip.fld Reg.ARB_QUAR_CLIENT 0) client = false →
    leaf.val < leavesOf client →
    (∀ x ∈ (s.chip.arbiter key).waiting ++ (s.chip.arbiter key).grant.toList, x.client ≠ client.val ∨ x.leaf ≠ leaf.val) →
    Yields (.beRequest t ch client leaf beats lock write) s (fun c =>
      (⟨client, leaf, (s.upon t).slotCount, beats, lock, write⟩ : BeReq) ∈ (c.arbiter key).waiting ++ (c.arbiter key).grant.toList ∧
      c = { s.upon t with arb := c.arb })) ∧
  (∀ (s : State) (t : Nat) (ch : Fin 64) (slot : Fin 18304) (ready : List (Fin 5)) (a : Arbiter) (q : BeReq),
    s.runs →
    s.chip.fst.ready = true →
    s.chip.arb.active.owner ch slot = 0 →
    s.chip.arb.catchUp = [] →
    (s.chip.arbiter ch).decideNext BeReq.client (fun r => s.chip.credit ch r.client) (fun r => r.lock && decide (18288 ≤ slot.val)) = (a, some q) →
    Yields (.arbiterDecision t ch slot ready) s (fun c =>
      (c.arbiter ch).grant = some q ∧
      (hasLeaves q.client = false → c.arbiter ch = { a with
        grant := some q, spent := Tbl.put 0 a.spent q.client (Tbl.get 0 a.spent q.client + min q.beats (s.chip.fld Reg.ARB_HOG_LIMIT_BEATS 0)) } ∧
        ∀ k, k ≠ ch.val → c.arbiter k = s.chip.arbiter k))) ∧
  (∀ (s : State) (t : Nat) (ch : Fin 64) (q : BeReq),
    s.runs →
    (s.chip.arbiter ch).grant = some q →
    q.client < 6 →
    s.chip.fld Reg.ARB_HOG_LIMIT_BEATS 0 < q.beats →
    Yields (.hogCut t ch) s (fun c =>
      c.fld Reg.ARB_QUAR_CLIENT 0 = (s.chip.fld Reg.ARB_QUAR_CLIENT 0 ||| 2 ^ q.client) % 64 ∧
      c.isSet Reg.ARB_STATUS_HOG_SEEN 0 = true ∧
      c.fld (Reg.ARB_BE_EVENTS_HOG_CUTS q.client) 0 = min (s.chip.fld (Reg.ARB_BE_EVENTS_HOG_CUTS q.client) 0 + 1) 65535 ∧
      c.logged Ev.arbHogCut [q.client + ch * 256 + q.leaf * 65536, s.chip.fld Reg.ARB_HOG_LIMIT_BEATS 0] ∧
      ∀ e ∈ c.arb.arbiters, e.1 < 64 → ∀ r ∈ e.2.waiting, r.client ≠ q.client)) ∧
  (∀ (s : State) (t : Nat) (mask : Fin 64),
    s.runs →
    Yields (.arbQuarClear t mask) s (fun c =>
      c.fld Reg.ARB_QUAR_CLIENT 0 = (s.chip.fld Reg.ARB_QUAR_CLIENT 0 - (s.chip.fld Reg.ARB_QUAR_CLIENT 0 &&& mask.val)) % 64 ∧
      ∀ i, i < 6 → bit (s.chip.fld Reg.ARB_QUAR_CLIENT 0) i = true → bit mask i = true → ∀ e ∈ c.arb.arbiters, e.1 < 64 →
        Tbl.get 1 e.2.backoff i = 1 ∧ i ∉ e.2.off ∧ ∀ r ∈ e.2.waiting, r.client ≠ i))

/-- Whatever the module does, POWER_ON, RESET_PIN low, RAIL_RESET and THERMAL_TRIP put it in reset, with the cause of POWER_ON and of the pin noted,
sessions, routes, settings in force and event rings gone, the flash as it was and every other byte of memory as after reset; RESET_PIN high changes
the pin alone; COLD_RESET with the key 0xC0DE does so in a module that runs, with its cause noted, and with another key leaves the module and the
memories as they are; THERMAL_TRIP sets TRIP_SEEN, and THERMAL_TRIP_RECOVERY of a device that has tripped lets it start again with cause power-on;
BOUNDARY_SCAN_INSTRUCTION that takes the pins ends the module's functions. -/
def Obligations.ResetCausesEnterReset : Prop :=
  (∀ (s : State) (t : Nat),
    s.memOk →
    YieldsMem (.powerOn t) s (fun c m => c.run = .inReset ∧ bit c.boot.causes 0 = true ∧ c.lan = LanSt.reset ∧ c.xpt = XptSt.reset ∧
      c.cfg = [] ∧ c.pwr.railLow = false ∧ ∀ a, memByte m a = if flashBase ≤ a ∧ a < flashBase + 0x10000000 then memByte s.mem a else memUnlisted)) ∧
  (∀ (s : State) (t : Nat),
    s.memOk →
    YieldsMem (.resetPin t true) s (fun c m => c.run = .inReset ∧ bit c.boot.causes 1 = true ∧ c.pin.resetLow = true ∧ c.lan = LanSt.reset ∧
      c.xpt = XptSt.reset ∧ c.cfg = [] ∧
      ∀ a, memByte m a = if flashBase ≤ a ∧ a < flashBase + 0x10000000 then memByte s.mem a else memUnlisted)) ∧
  (∀ (s : State) (t : Nat),
    exec (.resetPin t false) s = .next { s with chip := { s.upon t with pin := { s.chip.pin with resetLow := false } } }) ∧
  (∀ (s : State) (t : Nat) (key : Fin 65536),
    s.runs →
    s.memOk →
    key.val = 0xC0DE →
    YieldsMem (.coldReset t key) s (fun c m => c.run = .inReset ∧ bit c.boot.causes 2 = true ∧ c.lan = LanSt.reset ∧ c.xpt = XptSt.reset ∧ c.cfg = [] ∧
      ∀ a, memByte m a = if flashBase ≤ a ∧ a < flashBase + 0x10000000 then memByte s.mem a else memUnlisted)) ∧
  (∀ (s : State) (t : Nat) (key : Fin 65536),
    s.runs →
    key.val ≠ 0xC0DE →
    exec (.coldReset t key) s = .next { s with chip := s.upon t }) ∧
  (∀ (s : State) (t : Nat) (rail : Fin 11) (mv : Nat),
    s.memOk →
    YieldsMem (.railReset t rail mv) s (fun c m => c.run = .inReset ∧ c.pwr.railLow = true ∧ c.lan = LanSt.reset ∧ c.xpt = XptSt.reset ∧ c.cfg = [] ∧
      ∀ a, memByte m a = if flashBase ≤ a ∧ a < flashBase + 0x10000000 then memByte s.mem a else memUnlisted)) ∧
  (∀ (s : State) (t : Nat) (sensor : Fin 12) (reading : Int),
    s.memOk →
    YieldsMem (.thermalTrip t sensor reading) s (fun c m => c.run = .inReset ∧ c.pwr.tripped = true ∧ c.isSet Reg.PWR_STATUS_TRIP_SEEN 0 = true ∧
      c.lan = LanSt.reset ∧ c.xpt = XptSt.reset ∧ c.cfg = [] ∧
      ∀ a, memByte m a = if flashBase ≤ a ∧ a < flashBase + 0x10000000 then memByte s.mem a else memUnlisted)) ∧
  (∀ (s : State) (t : Nat),
    s.chip.pwr.tripped = true →
    exec (.thermalTripRecovery t) s = .next { s with chip := { s.upon t with
      pwr := { s.chip.pwr with tripped := false }, boot := { s.chip.boot with causes := s.chip.boot.causes ||| 1 } } }) ∧
  (∀ (s : State) (t : Nat) (takesPins : Bool),
    exec (.boundaryScanInstruction t takesPins) s = .next { s with chip := { s.upon t with run := if takesPins then .scan else s.chip.run } })

/-- RESET_RELEASE of a device in reset with RESET_N high, its rails within limits and no trip in force makes it run from that instant; with LO_CLK present
the banks are chosen, without it the start waits with LO_WAIT set, and LO_CLK_PRESENT then ends the wait and the banks are chosen;
FREE_RUNNING_TIMING_START then starts the free-running timing with the house sample tick at that instant; PILOT_SERVICE_START begins pilot service at
that instant unless it finds no bank to run; PROCESSORS_RELEASED with a working image releases the processors and maps the control RAM at 0;
FULL_SERVICE_START with nothing unmet sets instant F and phase 2 and records BOOT_FULL_SERVICE, and leaves no section waiting; BOOT_LATE 4 s after
reset release sets LATE and records the conditions not met; PILOT_ONLY_SERVICE after a training failure or 10 s leaves nothing held. -/
def Obligations.StartUpCommandsComplete : Prop :=
  (∀ (s : State) (t : Nat) (recoveryLow : Bool) (fails : List (Fin 2)),
    s.chip.run = .inReset →
    s.chip.pin.resetLow = false →
    s.chip.pwr.railLow = false →
    s.chip.pwr.tripped = false →
    YieldsMem (.resetRelease t recoveryLow true fails) s (fun c _ => c.run = .running ∧ c.released = max s.chip.now t ∧ c.boot.booted = true) ∧
    YieldsMem (.resetRelease t recoveryLow false fails) s (fun c _ => c.run = .running ∧ c.released = max s.chip.now t ∧ c.boot.lo = false ∧
      c.isSet Reg.BOOT_STATUS_LO_WAIT 0 = true)) ∧
  (∀ (s : State) (t : Nat) (fails : List (Fin 2)),
    s.runs →
    s.chip.boot.lo = false →
    s.chip.boot.booted = false →
    Yields (.loClkPresent t fails) s (fun c => c.boot.lo = true ∧ c.boot.booted = true)) ∧
  (∀ (s : State) (t : Nat),
    s.runs →
    s.chip.boot.booted = true →
    s.chip.boot.lo = true →
    s.chip.tick.running = false →
    Yields (.freeRunningTimingStart t) s (fun c => c.tick.running = true ∧ c.tick.samples = 0 ∧ c.tick.slotFrames = 0 ∧ c.boot.timing = true)) ∧
  (∀ (s : State) (t : Nat) (fails : List (Fin 2)),
    s.runs →
    s.chip.boot.timing = true →
    s.chip.boot.pilotAt = none →
    Yields (.pilotServiceStart t fails) s (fun c =>
      (c.phase = 4 ∧ c.fld Reg.BOOT_STATUS_SET_BANK 0 = 0) ∨ c.boot.pilotAt = some (max s.chip.now t))) ∧
  (∀ (s : State) (t : Nat) (fails : List (Fin 2)),
    s.runs →
    s.chip.phase = 1 →
    s.chip.boot.released = false →
    Yields (.processorsReleased t true fails) s (fun c => c.boot.released = true ∧ c.fab.remap = true ∧ c.fld Reg.FAB_CTRL_REMAP 0 = 1)) ∧
  (∀ (s : State) (t : Nat),
    s.runs →
    s.chip.phase = 1 →
    s.chip.unmet = 0 →
    Yields (.fullServiceStart t) s (fun c => c.boot.next = [] ∧ (s.chip.boot.next = [] → c.phase = 2 ∧ c.boot.fullAt = some (max s.chip.now t) ∧
      c.fld Reg.BOOT_T_FULL_US 0 = (s.upon t).uptime / 1000 % 2 ^ 32 ∧ c.logged Ev.bootFullService [(s.upon t).uptime / 1000]))) ∧
  (∀ (s : State) (t : Nat),
    s.runs →
    s.chip.boot.fullAt = none →
    s.chip.phase ≠ 4 →
    s.chip.released + secU 4 ≤ max s.chip.now t →
    s.chip.isSet Reg.BOOT_STATUS_LATE 0 = false →
    Yields (.bootLate t) s (fun c => c.isSet Reg.BOOT_STATUS_LATE 0 = true ∧ c.logged Ev.bootLate [s.chip.unmet] ∧
      c.sameRegs s.chip [Reg.BOOT_STATUS_LATE] ∧ c = { s.upon t with regs := c.regs, log := c.log })) ∧
  (∀ (s : State) (t : Nat),
    s.runs →
    s.chip.phase = 1 →
    (s.chip.isSet Reg.FST_STATUS_TRAIN_FAIL 0 = true ∨ s.chip.released + secU 10 ≤ max s.chip.now t) →
    Yields (.pilotOnlyService t) s (fun c => (∀ y ∈ c.cmp.layouts, y.held = false) ∧ (∀ q ∈ c.xpt.queue, q.held = false)))

/-- SUPPLY_MONITOR_SAMPLE of eleven rails shows in the management target which rails stand within their limits, in reset too, and TEMPERATURE_SAMPLE of
twelve sensors the hottest sensor and its reading; in a module that runs a temperature sample shows the hottest sensor in TEMP_HOT unless that sample
crosses the limit threshold; SUPPLY_HOLD_START with a condition that counts and no hold in force begins the hold, with HOLD and HOLD_SEEN set, one
more hold counted and PWR_SUPPLY_HOLD recorded; SUPPLY_HOLD_END of a hold ends it, clears HOLD and records PWR_SUPPLY_OK with the conditions seen and
its length; PWR_CLR_CNT returns every counter, minimum and maximum of R653 to its reset value; MGMT_I2C_TRANSFER that writes a pointer and reads
nothing leaves that pointer, and one that reads a register's four bytes from a pointer sends its value most significant byte first and moves the
pointer on by 4. -/
def Obligations.PowerAndPinCommandsComplete : Prop :=
  (∀ (s : State) (t : Nat) (mv : List Nat),
    mv.length = 11 →
    Yields (.supplyMonitorSample t mv) s (fun c => ∀ n, n < 11 →
      bit (c.pin.values.getD 5 0) n = railOk (rails.getD n (0, 0, 0)).1 (rails.getD n (0, 0, 0)).2.1 (mv.getD n 0))) ∧
  (∀ (s : State) (t : Nat) (readings : List Int),
    readings.length = 12 →
    Yields (.temperatureSample t readings) s (fun c =>
      c.pin.values.getD 3 0 = unsigned 16 (hottest readings).1 + 65536 * (hottest readings).2 ∧
      (s.runs → (hottest readings).1 < 1840 → c.fld Reg.PWR_TEMP_HOT_NOW 0 = unsigned 16 (hottest readings).1))) ∧
  (∀ (s : State) (t : Nat) (conds : Fin 8),
    let seen := if s.chip.warnEn then conds.val else conds.val % 4
    s.runs →
    s.chip.pwr.hold = none →
    seen ≠ 0 →
    Yields (.supplyHoldStart t conds) s (fun c =>
      c.pwr.hold = some { since := max s.chip.now t, conds := seen, holdup := s.chip.holdupUs } ∧ c.cap.hold = true ∧
      c.isSet Reg.PWR_STATUS_HOLD 0 = true ∧ c.isSet Reg.PWR_STATUS_HOLD_SEEN 0 = true ∧
      c.fld Reg.PWR_HOLDS_COUNT 0 = min (s.chip.fld Reg.PWR_HOLDS_COUNT 0 + 1) 4294967295 ∧ c.logged Ev.pwrSupplyHold [seen, 0] ∧
      c.sameRegs s.chip [Reg.PWR_STATUS_WARN_IN, Reg.PWR_STATUS_HOLD, Reg.PWR_STATUS_HOLD_SEEN, Reg.PWR_HOLDS_COUNT] ∧
      c = { s.upon t with regs := c.regs, pwr := c.pwr, cap := { s.chip.cap with hold := true }, log := c.log, pin := c.pin })) ∧
  (∀ (s : State) (t : Nat) (h : SupplyHold),
    s.runs →
    s.chip.pwr.hold = some h →
    Yields (.supplyHoldEnd t) s (fun c => c.pwr.hold = none ∧ c.cap.hold = false ∧ c.isSet Reg.PWR_STATUS_HOLD 0 = false ∧
      c.logged Ev.pwrSupplyOk [h.conds, (max s.chip.now t - h.since) / 27000] ∧
      c.sameRegs s.chip [Reg.PWR_STATUS_WARN_IN, Reg.PWR_STATUS_HOLD, Reg.PWR_HOLD_MAX_US])) ∧
  (∀ (s : State) (t : Nat),
    s.runs →
    Yields (.pwrClrCnt t) s (fun c => c.fld Reg.PWR_HOLDS_COUNT 0 = 0 ∧ c.fld Reg.PWR_HOLD_MAX_US 0 = 0 ∧
      (∀ n, n < 11 → c.fld Reg.PWR_RAIL_V_MIN_MV n = 0xFFFF ∧ c.fld Reg.PWR_RAIL_STATE_EXCURSIONS n = 0) ∧
      (∀ n, n < 12 → c.fld Reg.PWR_TEMP_MAX n = 0x8000) ∧ c = { s.upon t with regs := c.regs })) ∧
  (∀ (s : State) (t : Nat) (p : Fin 256),
    exec (.mgmtI2cTransfer t (some p) 0) s = .next { s with chip := { s.upon t with pin := { s.chip.pin with pointer := p, taken := 0 } } } ∧
    Yields (.mgmtI2cTransfer t (some p) 4) s (fun c =>
      let v := s.chip.mgmtReg p
      c.sent = [.value (0x5A00 + p) (v / 0x1000000 % 256), .value (0x5A00 + p) (v / 0x10000 % 256), .value (0x5A00 + p) (v / 0x100 % 256),
        .value (0x5A00 + p) (v % 256)] ∧ c.pin.pointer = (p + 4) % 256))

/-- REF_LO_LOST in a device that has started stops the timing, forgets the history of the DPLL and leaves the start waiting with LO_WAIT set and LO_OK
clear; LO_CLK_RECOVERED after it puts the device in reset with the cause of a command noted, and only the flash keeps its bytes. -/
def Obligations.LocalOscillatorCommandsComplete : Prop :=
  (∀ (s : State) (t : Nat),
    s.runs →
    s.chip.boot.lo = true →
    s.chip.boot.booted = true →
    YieldsMem (.refLoLost t) s (fun c _ => c.boot.lo = false ∧ c.tick.running = false ∧ c.ref.history = [] ∧
      c.isSet Reg.REFS_STATUS_LO_OK 0 = false ∧ c.isSet Reg.BOOT_STATUS_LO_WAIT 0 = true ∧ c.fld Reg.REFS_DPLL_HIST_S 0 = 0)) ∧
  (∀ (s : State) (t : Nat),
    s.runs →
    s.memOk →
    s.chip.boot.lo = false →
    s.chip.boot.booted = true →
    YieldsMem (.loClkRecovered t) s (fun c m => c.run = .inReset ∧ bit c.boot.causes 2 = true ∧ c.lan = LanSt.reset ∧ c.cfg = [] ∧
      ∀ a, memByte m a = if flashBase ≤ a ∧ a < flashBase + 0x10000000 then memByte s.mem a else memUnlisted))

/-- In a module that runs: FRAME_TICK with free-running timing on advances the domain's 48-bit frame counter by one and sets its latest tick to that
instant; DOMAIN_ALIGNMENT with an alignment due and the origin qualified lengthens the frame in progress to the next phase origin, marks the domain
aligned and records TICK_ALIGNED or TICK_REALIGNED; TAKE_JOB_OPEN of an enabled domain opens the job of the coming frame; SWITCH_POINT of a
destination in its own domain, with that job open for the frame in progress, sets that frame's commit flag; SOURCE_LOST of a bound source with no
complete frame for LOSS_FRAMES frame periods begins condition LOST for that source alone; TICK_CLR_OVR clears the overrun counters; XPT_CLR_CNT clears
the counts and sets each peak to the number in use. -/
def Obligations.TimingCommandsComplete : Prop :=
  (∀ (s : State) (t : Nat) (td : Fin 4) (leads : List LeadFact) (origin : Option Int) (late : List (Fin 32)) (syncInTime cmpInTime : Bool),
    s.runs →
    s.chip.tick.running = true →
    Yields (.frameTick t td leads origin late syncInTime cmpInTime) s (fun c =>
      (c.dom td).frame = ((s.chip.dom td).frame + 1) % 2 ^ 48 ∧ (c.dom td).tickAt = max s.chip.now t)) ∧
  (∀ (s : State) (t : Nat) (td : Fin 4) (mark : Fin 5) (cause : Nat) (ph : Int),
    s.runs →
    (s.chip.dom td).due = some cause →
    (s.chip.dom td).phase = some ph →
    Yields (.domainAlignment t td mark) s (fun c =>
      let e := ((-ph) % (framePeriod (s.chip.dom td).rate : Int)).toNat
      (c.dom td).aligned = true ∧ (c.dom td).nextTick = (s.chip.dom td).tickAt + framePeriod (s.chip.dom td).rate + e ∧
      c.logged (if (s.chip.dom td).aligned then Ev.tickRealigned else Ev.tickAligned) [td.val + cause * 16777216, e / 27, (s.chip.dom td).frame])) ∧
  (∀ (s : State) (t : Nat) (td : Fin 4),
    s.runs →
    s.chip.tick.running = true →
    s.chip.tdOn td = true →
    s.chip.suspended = false →
    Yields (.takeJobOpen t td) s (fun c => (c.dom td).jobFrame = some (s.chip.jobFrameOf td).1 ∧
      c = { s.upon t with tick := c.tick, xpt := { s.chip.xpt with queue := c.xpt.queue } })) ∧
  (∀ (s : State) (t : Nat) (dst : Fin 1568) (td : Fin 4),
    s.runs →
    td.val = s.chip.dstTd dst →
    (s.chip.dom td).jobFrame = some (s.chip.dom td).frame →
    Yields (.switchPoint t dst td) s (fun c => (c.dom td).commit = some (s.chip.dom td).frame)) ∧
  (∀ (s : State) (t : Nat) (src : Fin 1120) (r : Nat),
    s.runs →
    s.chip.srcRate src = some r →
    s.chip.bound src = true →
    (s.chip.src src).lost = false →
    (s.chip.src src).lastGood + s.chip.fld Reg.XPT_SRC_CFG_LOSS_FRAMES src * framePeriod r ≤ max s.chip.now t →
    Yields (.sourceLost t src) s (fun c => (c.src src).lost = true ∧ (∀ k, k ≠ src.val → c.src k = s.chip.src k) ∧ c = { s.upon t with xpt := c.xpt })) ∧
  (∀ (s : State) (t : Nat),
    s.runs →
    Yields (.tickClrOvr t) s (fun c =>
      (∀ td, td < 4 → c.fld (Reg.TICK_TD_OVR_TAKE td) 0 = 0 ∧ c.fld (Reg.TICK_TD_OVR_SYNC td) 0 = 0 ∧ c.fld (Reg.TICK_TD_OVR_CMP td) 0 = 0 ∧
        c.fld (Reg.TICK_TD_OVR_FWA td) 0 = 0) ∧ c.fld Reg.TICK_SLOT_OVR_COUNT 0 = 0 ∧ c = { s.upon t with regs := c.regs })) ∧
  (∀ (s : State) (t : Nat),
    s.runs →
    Yields (.xptClrCnt t) s (fun c => c.fld Reg.XPT_REFUSED_COUNT 0 = 0 ∧ (∀ d, d < 2048 → c.fld Reg.XPT_LINE_MISS_COUNT d = 0 ∧ c.fld Reg.XPT_ANC_DROP_COUNT d = 0) ∧
      c.fld Reg.XPT_QUEUE_PEAK 0 = s.chip.queueUsed % 2 ^ Reg.XPT_QUEUE_PEAK.width ∧
      c.fld Reg.XPT_SLOTS_PEAK 0 = s.chip.slotsUsed % 2 ^ Reg.XPT_SLOTS_PEAK.width ∧ c = { s.upon t with regs := c.regs }))

/-- In full service, of a session that may send it: a TAKE of a local source that passes every check of R85 is answered DONE with its take identifier, the
highest given so far plus one, and stands in the take queue; so is a SALVO of at most 4,096 takes to different destinations that all pass; CANCEL of a
take none of which is staged or has applied leaves no take of that identifier in the queue and is answered DONE; an AUDIO_TAKE that passes its checks
is answered DONE with its identifier and stands in the audio queue; REALIGN of enabled domains is answered DONE and leaves a realignment waiting in
each. -/
def Obligations.CrosspointRequestsComplete : Prop :=
  (∀ (s : State) (t : Nat) (slot : Fin 16) (body : List Byte),
    let q : TakeAsk := ⟨u16 body 0, u16 body 2, u16 body 4, u8 body 6⟩
    let nb := notBeforeOf (u8 body 7) (u64 body 8) (u32 body 16)
    s.serving slot 0x0101 1 →
    takeBodyOk body = true →
    s.chip.remoteInPart q = false →
    s.chip.mustHold q = false →
    (s.upon t).checkTake q nb none = none →
    Yields (.take t slot body) s (fun c => c.lan.takeId = s.chip.lan.takeId + 1 ∧
      c.replied s.chip slot 0x0101 done (beBytes 8 (s.chip.lan.takeId + 1)) ∧
      ∃ x ∈ c.xpt.queue, x.id = s.chip.lan.takeId + 1 ∧ x.dst = q.dst ∧ x.src = q.src ∧ x.levels = q.levels ∧ x.accepted = max s.chip.now t)) ∧
  (∀ (s : State) (t : Nat) (slot : Fin 16) (body : List Byte) (c1 : Chip),
    let asks := salvoAsks body
    let nb := notBeforeOf (u8 body 2) (u64 body 8) (u32 body 4)
    s.serving slot 0x0102 1 →
    salvoBodyOk body = true →
    asks ≠ [] →
    asks.length ≤ 4096 →
    hasDup (asks.map TakeAsk.dst) = false →
    asks.any s.chip.remoteInPart = false →
    asks.any s.chip.mustHold = false →
    (s.upon t).admitAll (s.chip.lan.takeId + 1) nb (bit (u8 body 2) 0) slot (s.chip.session slot).id asks.length false 0 [] asks = .ok c1 →
    Yields (.salvo t slot body) s (fun c => c.lan.takeId = s.chip.lan.takeId + 1 ∧ c.replied s.chip slot 0x0102 done (beBytes 8 (s.chip.lan.takeId + 1)) ∧
      ∀ q ∈ asks, ∃ x ∈ c.xpt.queue, x.id = s.chip.lan.takeId + 1 ∧ x.dst = q.dst ∧ x.src = q.src ∧ x.levels = q.levels)) ∧
  (∀ (s : State) (t : Nat) (slot : Fin 16) (body : List Byte),
    let id := u64 body 0
    s.serving slot 0x0103 1 →
    body.length = 8 →
    ((s.chip.xpt.queue.filter (fun q => q.id == id)) ≠ [] ∨ (s.chip.xpt.audQueue.filter (fun q => q.id == id)) ≠ []) →
    (∀ q ∈ s.chip.xpt.queue, q.id = id → q.staged = false ∧ q.salvo ≤ (s.chip.xpt.queue.filter (fun q => q.id == id)).length) →
    (∀ q ∈ s.chip.xpt.audQueue, q.id = id → q.count ≤ q.records.length) →
    Yields (.cancel t slot body) s (fun c => c.replied s.chip slot 0x0103 done [] ∧ (∀ q ∈ c.xpt.queue, q.id ≠ id) ∧ (∀ q ∈ c.xpt.audQueue, q.id ≠ id))) ∧
  (∀ (s : State) (t : Nat) (slot : Fin 16) (body : List Byte),
    s.serving slot 0x0104 1 →
    audioBodyOk body = true →
    s.chip.audMustHold (audioRecords body) = false →
    (s.upon t).checkAud (audioRecords body) (notBeforeOf (u8 body 2) (u64 body 8) (u32 body 4)) = none →
    Yields (.audioTake t slot body) s (fun c => c.lan.takeId = s.chip.lan.takeId + 1 ∧ c.replied s.chip slot 0x0104 done (beBytes 8 (s.chip.lan.takeId + 1)) ∧
      ∃ x ∈ c.xpt.audQueue, x.id = s.chip.lan.takeId + 1 ∧ x.records = audioRecords body)) ∧
  (∀ (s : State) (t : Nat) (slot : Fin 16) (body : List Byte),
    s.serving slot 0x0106 2 →
    body.length = 4 →
    u8 body 0 < 16 →
    zeroAt body 1 3 = true →
    s.chip.realignBad (u8 body 0) = false →
    Yields (.realign t slot body) s (fun c => c.replied s.chip slot 0x0106 done [] ∧
      ∀ td, td < 4 → bit (u8 body 0) td = true → (c.dom td).pend = some ((s.chip.dom td).pend.getD ⟨max s.chip.now t + msU 1, 2⟩)))

/-- In a module that runs: RECEIVE_FRAME on a MAC whose link is up counts a frame shorter than 64 bytes as a runt, an intact one that the MAC accepts and
has room for as received, and with no change of fill does nothing else for a runt; on a MAC whose link is down nothing changes; SSRC_ADOPTION 50 ms
after another SSRC first arrived alone adopts it, counts the change and records PMI_SSRC_CHANGE; PATH_DOWN of a path that is up and has matched
nothing for its limit ends the path and records PMI_PATH_DOWN; SKEW_MEASUREMENT of an enabled flow with two paths starts a new second, and without a
second of skews shows 0x7FFFFFFF; MEMBERSHIP_REPORT sends the reports of its breakout and leaves each with one repetition less; LINE_SLOT_READ of a
destination with no route on its video level and no kind 4 flow sends black; PMI_CLR_CNT clears the counters of the block. -/
def Obligations.ReceptionCommandsComplete : Prop :=
  (∀ (s : State) (t : Nat) (port : Fin 18) (breakout : Fin 8) (data : List Byte) (fcsOk full : Bool),
    s.runs →
    (s.chip.mac (macKey port breakout)).up = true →
    isHostPort port = false ∨ (s.chip.mac (macKey port 0)).pausing = false →
    data.length < 64 →
    Yields (.receiveFrame t port breakout data fcsOk full 0 none []) s (fun c =>
      c.fld Reg.MAC_RX_RUNT_COUNT (macKey port breakout) = min (s.chip.fld Reg.MAC_RX_RUNT_COUNT (macKey port breakout) + 1) 4294967295 ∧
      c.sameRegs s.chip [Reg.MAC_RX_RUNT_COUNT] ∧ c = { s.upon t with regs := c.regs })) ∧
  (∀ (s : State) (t : Nat) (port : Fin 18) (breakout : Fin 8) (data : List Byte) (fill : Nat) (learnt : Option Format) (deepFull : List (Fin 8)),
    s.runs →
    (s.chip.mac (macKey port breakout)).up = true →
    64 ≤ data.length →
    data.length ≤ s.chip.maxFrame port →
    (readEth (data.take (data.length - 4))).tags ≤ 1 →
    (readEth (data.take (data.length - 4))).etype ≠ 0x8808 →
    s.chip.macAccepts port breakout (readEth (data.take (data.length - 4))).dst = true →
    ∃ c m, exec (.receiveFrame t port breakout data true false fill learnt deepFull) s = .next { s with chip := c, mem := m } ∧
    c.fld Reg.MAC_RX_FRAMES_COUNT (macKey port breakout) = (s.chip.fld Reg.MAC_RX_FRAMES_COUNT (macKey port breakout) + 1) % 2 ^ 32) ∧
  (∀ (s : State) (t : Nat) (port : Fin 18) (breakout : Fin 8) (data : List Byte) (fcsOk full : Bool) (fill : Nat) (learnt : Option Format) (deepFull : List (Fin 8)),
    s.runs →
    (s.chip.mac (macKey port breakout)).up = false →
    exec (.receiveFrame t port breakout data fcsOk full fill learnt deepFull) s = .next { s with chip := s.upon t }) ∧
  (∀ (s : State) (t : Nat) (flow : Fin 4096) (o : Nat × Nat),
    s.runs →
    (s.chip.rx flow).other = some o →
    o.2 + msU 50 ≤ max s.chip.now t →
    Yields (.ssrcAdoption t flow) s (fun c => (c.rx flow).ssrc = some o.1 ∧ (c.rx flow).other = none ∧
      c.fld Reg.PMI_F_ERRORS_SSRC_CHANGES flow = min (s.chip.fld Reg.PMI_F_ERRORS_SSRC_CHANGES flow + 1) (2 ^ Reg.PMI_F_ERRORS_SSRC_CHANGES.width - 1) ∧
      c.logged Ev.pmiSsrcChange [flow, (s.chip.rx flow).ssrc.getD 0, o.1])) ∧
  (∀ (s : State) (t : Nat) (flow : Fin 4096) (pathB : Bool),
    let limit := if flowKind (s.chip.record tyRx flow) = 4 then 3 * framePeriod (u8 (s.chip.record tyRx flow) 101) else msU 10
    s.runs →
    (if pathB then (s.chip.rx flow).upB else (s.chip.rx flow).upA) = true →
    (if pathB then (s.chip.rx flow).lastB else (s.chip.rx flow).lastA) + limit ≤ max s.chip.now t →
    Yields (.pathDown t flow pathB) s (fun c => (if pathB then (c.rx flow).upB else (c.rx flow).upA) = false ∧ (c.rx flow).bothUp = false ∧
      c.isSet Reg.PMI_STATUS_PATH_DOWN_SEEN 0 = true ∧ c.logged Ev.pmiPathDown [flow + flag pathB * 65536] ∧
      c.sameRegs s.chip [Reg.PMI_STATUS_PATH_DOWN_SEEN] ∧ c = { s.upon t with regs := c.regs, net := c.net, fwa := c.fwa, log := c.log })) ∧
  (∀ (s : State) (t : Nat) (flow : Fin 4096),
    s.runs →
    flowOn (s.chip.record tyRx flow) = true →
    flowDual (s.chip.record tyRx flow) = true →
    Yields (.skewMeasurement t flow) s (fun c => (c.rx flow).skewN = 0 ∧ (c.rx flow).skewSum = 0 ∧
      (c.rx flow).bothUp = ((s.chip.rx flow).upA && (s.chip.rx flow).upB) ∧
      ((s.chip.rx flow).bothUp = false ∨ (s.chip.rx flow).skewN = 0 → c.fld Reg.PMI_F_SKEW_SKEW_NS flow = 0x7FFFFFFF) ∧
      c = { s.upon t with regs := c.regs, net := c.net, log := c.log })) ∧
  (∀ (s : State) (t : Nat) (port : Fin 16) (breakout : Fin 8),
    s.runs →
    Yields (.membershipReport t port breakout) s (fun c =>
      c.net.reports = s.chip.net.reports.filterMap (fun r => if r.member.port = port.val ∧ r.member.breakout = breakout.val then
        (if r.times ≤ 1 then none else some { r with times := r.times - 1 }) else some r))) ∧
  (∀ (s : State) (t : Nat) (dst : Fin 1568) (line : Nat),
    s.runs →
    s.chip.route dst 0 = none →
    s.chip.route dst 1 = none →
    s.chip.ancFlow dst = none →
    s.chip.twinHeld = false →
    isCapture dst = false →
    Yields (.lineSlotRead t dst line) s (fun c => Out.line dst line (blackLine (s.chip.dstFormat dst)) [] ∈ c.sent ∧ c.regs = s.chip.regs ∧ c.xpt = s.chip.xpt)) ∧
  (∀ (s : State) (t : Nat),
    s.runs →
    Yields (.pmiClrCnt t) s (fun c => c.fld Reg.PMI_RX_UNMATCHED_COUNT 0 = 0 ∧ c.fld Reg.PMI_IGMP_QUERIES 0 = 0 ∧
      (∀ f, f < 4096 → c.fld Reg.PMI_F_PKTS_A_COUNT f = 0 ∧ c.fld Reg.PMI_F_PKTS_B_COUNT f = 0 ∧ c.fld Reg.PMI_F_DUP_COUNT f = 0 ∧
        c.fld Reg.PMI_F_TOO_OLD_COUNT f = 0 ∧ c.fld Reg.PMI_F_LOST_COUNT f = 0 ∧ c.fld Reg.PMI_F_ERRORS_HDR_ERR f = 0 ∧
        c.fld Reg.PMI_F_ERRORS_SSRC_CHANGES f = 0 ∧ c.fld Reg.PMI_F_ERRORS_SEQ_JUMPS f = 0) ∧ c = { s.upon t with regs := c.regs }))

/-- In a module that runs: PACKET_LAUNCH of an audio flow (kind 2 or 3) that may send sends a packet with the flow's next sequence number and counts it;
of a video flow in the course of a frame likewise; of an injection channel whose last segment is due counts it and frees the channel; of a queued
frame of a launch queue, with the link up and the queue not stopped, makes that frame the one in progress; PASS_THROUGH_FORWARD of a kind 1 flow that
follows its source and finds a packet 19 µs old or older in its ring forwards that packet and moves on to the next; PMO_CLR_CNT clears the counters of
R282 and R283. INJECT that passes its checks takes the lowest free channel and is answered STARTED with it. -/
def Obligations.EgressFlowCommandsComplete : Prop :=
  (∀ (s : State) (t : Nat) (flow : Fin 4096),
    s.runs →
    (s.chip.tx flow).next = 0 →
    (flowKind (s.chip.record tyTx flow) = 2 ∨ flowKind (s.chip.record tyTx flow) = 3) →
    s.chip.txOn flow = true →
    Yields (.packetLaunch t (.flow flow)) s (fun c => c.fld Reg.PMO_F_SEQ_SEQ flow = (s.chip.tx flow).seq % 2 ^ 32 ∧
      c.fld Reg.PMO_F_PKTS_COUNT flow = (s.chip.fld Reg.PMO_F_PKTS_COUNT flow + 1) % 2 ^ 32 ∧
      c.fld Reg.PMO_F_FRAMES_COUNT flow = (s.chip.fld Reg.PMO_F_FRAMES_COUNT flow + 1) % 2 ^ 32 ∧ (c.tx flow).seq = ((s.chip.tx flow).seq + 1) % 65536)) ∧
  (∀ (s : State) (t : Nat) (flow : Fin 4096),
    s.runs →
    (s.chip.tx flow).next ≠ 0 →
    (flowKind (s.chip.tx flow).record = 0 ∨ flowKind (s.chip.tx flow).record = 5) →
    (s.chip.tx flow).sending = true →
    Yields (.packetLaunch t (.flow flow)) s (fun c => c.fld Reg.PMO_F_SEQ_SEQ flow = (s.chip.tx flow).seq % 2 ^ 32 ∧
      c.fld Reg.PMO_F_PKTS_COUNT flow = (s.chip.fld Reg.PMO_F_PKTS_COUNT flow + 1) % 2 ^ 32)) ∧
  (∀ (s : State) (t : Nat) (ch : Fin 8) (x : Injection),
    s.runs →
    Tbl.get none s.chip.net.inject ch = some x →
    injCount x.desc ≤ x.next + 1 →
    Yields (.packetLaunch t (.injected ch)) s (fun c => Tbl.get none c.net.inject ch = none ∧
      c.fld Reg.PMO_INJ_SENT 0 = (s.chip.fld Reg.PMO_INJ_SENT 0 + 1) % 2 ^ Reg.PMO_INJ_SENT.width)) ∧
  (∀ (s : State) (t : Nat) (port : Fin 18) (breakout : Fin 8) (x : TxFrame),
    let k := macKey port breakout
    s.runs →
    (s.chip.mac k).frames.find? (fun x => x.queue == 7) = some x →
    s.chip.queueStopped port k 7 = false →
    (s.chip.mac k).up = true →
    Yields (.packetLaunch t (.queued port breakout)) s (fun c => (c.mac k).current = some (7, x.send, x.bytes.length) ∧
      (c.mac k).frames = (s.chip.mac k).frames.erase x)) ∧
  (∀ (s : State) (t : Nat) (flow : Fin 4096) (p : RingPkt) (f : Nat),
    let r := s.chip.record tyTx flow
    s.runs →
    flowKind r = 1 →
    s.chip.txOn flow = true →
    (s.chip.withheld r = false ∨ (s.chip.tx flow).inFrame = true) →
    ((s.chip.tx flow).src = s.chip.passSource r ∨ (s.chip.tx flow).inFrame = true) →
    (s.chip.tx flow).src = some f →
    (s.chip.rx f).nextIn (s.chip.tx flow).readIdx = some p →
    p.arrived + usU 19 ≤ max s.chip.now t →
    (s.chip.tx flow).awaitMark = false →
    Yields (.passThroughForward t flow) s (fun c => (c.tx flow).readIdx = p.idx + 1 ∧ (c.tx flow).srcSeq = some p.seq ∧
      (c.tx flow).inFrame = !p.marker ∧ c.fld Reg.PMO_F_PKTS_COUNT flow = (s.chip.fld Reg.PMO_F_PKTS_COUNT flow + 1) % 2 ^ 32)) ∧
  (∀ (s : State) (t : Nat),
    s.runs →
    Yields (.pmoClrCnt t) s (fun c => c.fld Reg.PMO_INJ_SENT 0 = 0 ∧ (∀ f, f < 4096 → c.fld Reg.PMO_F_PKTS_COUNT f = 0 ∧
      c.fld Reg.PMO_F_FRAMES_COUNT f = 0 ∧ c.fld Reg.PMO_F_LATE_COUNT f = 0 ∧ c.fld Reg.PMO_F_MISMATCH_COUNT f = 0) ∧ c = { s.upon t with regs := c.regs })) ∧
  (∀ (s : State) (t : Nat) (slot : Fin 16) (body : List Byte) (i : Nat),
    let d := body.take 154
    s.serving slot 0x010A 2 →
    154 < body.length →
    body.length ≤ 154 + 262144 →
    s.chip.injFields body = true →
    zeroAt body (28 + u8 body 3) (126 - u8 body 3) = true →
    (s.upon t).deviceQ + usU 100 * 65536 ≤ qOf (u64 d 8) (u32 d 16) →
    s.chip.injBad d (body.length - 154) = false →
    s.chip.freeChannel = some i →
    Yields (.inject t slot body) s (fun c => c.replied s.chip slot 0x010A started (beBytes 1 i ++ beBytes 3 0) ∧
      (Tbl.get none c.net.inject i).map Injection.desc = some d))

/-- In a module that runs, for a breakout that the port has: SEND of a send whose largest frame fits gives it the next number of the MAC, and one whose
largest frame is too long is completed with code 1 and counted as refused; TRANSMIT_FRAME_START makes the first frame that may start the one in
progress; SEND_COMPLETION returns the tag and code of the first send that has ended; MAC_TX_UNDERRUN of a frame of queues 0 to 6 ends it, raises the
start threshold by 256 bytes up to the maximum frame and records MAC_TX_UNDERRUN; LINK_DOWN of a link that is up discards what its queues hold and
records MAC_LINK_DOWN, and LINK_UP of a breakout whose lanes are ready brings the link up; PAUSE_EXPIRY, PAUSE_WATCHDOG and PAUSE_IGNORE_END end the
pause, or its being ignored, at its instant; PAUSE_REPEAT above 64 KiB sends the pause frame again; GCL_SWAP asks for the swap of the breakout
selected and GATE_SCHEDULE_SWAP carries a valid one out; TS_CAP_TAG_READ takes the oldest time stamp; MAC_CLR_CNT clears the counters. -/
def Obligations.MacCommandsComplete : Prop :=
  (∀ (s : State) (t : Nat) (port : Fin 18) (breakout : Fin 8) (req : SendReq),
    let k := macKey port breakout
    let largest := if req.segment then min req.segLen req.payload.length else req.payload.length
    s.runs →
    breakout.val < s.chip.breakouts port →
    Yields (.send t port breakout req) s (fun c => (c.mac k).sendNext = (s.chip.mac k).sendNext + 1 ∧
      (s.chip.maxFrame port < req.template.length + largest + 4 →
        (c.mac k).sends = (s.chip.mac k).sends ++ [{ id := (s.chip.mac k).sendNext, tag := req.tag, left := 0, code := 1 }] ∧
        c.fld Reg.MAC_TX_REFUSED_COUNT k = min (s.chip.fld Reg.MAC_TX_REFUSED_COUNT k + 1) 4294967295) ∧
      (req.template.length + largest + 4 ≤ s.chip.maxFrame port → (s.chip.mac k).up = true →
        (c.mac k).sends = (s.chip.mac k).sends ++ [{ id := (s.chip.mac k).sendNext, tag := req.tag, left := (sendFrames req).length, code := 0 }] ∧
        (c.mac k).frames.length = (s.chip.mac k).frames.length + (sendFrames req).length) ∧
      c = { s.upon t with net := c.net, regs := c.regs })) ∧
  (∀ (s : State) (t : Nat) (port : Fin 18) (breakout : Fin 8) (first : Option Nat) (x : TxFrame),
    let k := macKey port breakout
    s.runs →
    (s.chip.mac k).up = true →
    ((([6, 5, 4, 3, 2, 1, 0] : List Nat).filterMap (fun q => (s.chip.mac k).frames.find? (fun x => x.queue == q))).find? ((s.upon t).mayStart port k first)) = some x →
    Yields (.transmitFrameStart t port breakout first) s (fun c => (c.mac k).current = some (x.queue, x.send, x.bytes.length) ∧
      (c.mac k).frames = (s.chip.mac k).frames.erase x ∧ c.sent.any (fun o => match o with | .frame a b d _ => a == k / 8 && b == k % 8 && d == flag x.bad | _ => false) = true)) ∧
  (∀ (s : State) (t : Nat) (port : Fin 18) (breakout : Fin 8) (e : SendSt),
    let k := macKey port breakout
    s.runs →
    (s.chip.mac k).sends.find? (fun e => e.left == 0) = some e →
    Yields (.sendCompletion t port breakout) s (fun c => c.sent = [.completion port breakout e.tag e.code] ∧ (c.mac k).sends = (s.chip.mac k).sends.erase e ∧
      (∀ j, j ≠ k → c.mac j = s.chip.mac j) ∧ c = { s.upon t with net := c.net, sent := c.sent })) ∧
  (∀ (s : State) (t : Nat) (port : Fin 18) (breakout : Fin 8) (q id n : Nat),
    let k := macKey port breakout
    let th := min (s.chip.fld Reg.MAC_P_CFG_START_THRESH k + 256) (s.chip.maxFrame port)
    s.runs →
    (s.chip.mac k).current = some (q, id, n) →
    q ≠ 7 →
    Yields (.macTxUnderrun t port breakout) s (fun c => (c.mac k).current = none ∧ c.fld Reg.MAC_P_CFG_START_THRESH k = th % 2 ^ Reg.MAC_P_CFG_START_THRESH.width ∧
      c.fld Reg.MAC_TX_UNDERRUN_COUNT k = min (s.chip.fld Reg.MAC_TX_UNDERRUN_COUNT k + 1) (2 ^ Reg.MAC_TX_UNDERRUN_COUNT.width - 1) ∧
      c.isSet Reg.MAC_STATUS_UNDERRUN_SEEN 0 = true ∧ c.logged Ev.macTxUnderrun [port + breakout * 256, th] ∧
      (∀ e ∈ (c.mac k).sends, e.id = id → 3 ≤ e.code) ∧
      c.sameRegs s.chip [Reg.MAC_P_CFG_START_THRESH, Reg.MAC_TX_UNDERRUN_COUNT, Reg.MAC_STATUS_UNDERRUN_SEEN] ∧
      c = { s.upon t with net := c.net, regs := c.regs, log := c.log })) ∧
  (∀ (s : State) (t : Nat) (port : Fin 18) (breakout : Fin 8),
    let k := macKey port breakout
    s.runs →
    (s.chip.mac k).up = true →
    Yields (.linkDown t port breakout) s (fun c => (c.mac k).up = false ∧ (c.mac k).frames = [] ∧ (c.mac k).current = none ∧ (∀ e ∈ (c.mac k).sends, e.left = 0) ∧
      c.logged Ev.macLinkDown [port + breakout * 256 + s.chip.macSpeed port * 4096] ∧ c = { s.upon t with net := c.net, regs := c.regs, log := c.log })) ∧
  (∀ (s : State) (t : Nat) (port : Fin 18) (breakout : Fin 8),
    s.runs →
    (s.chip.mac (macKey port breakout)).up = false →
    breakout.val < s.chip.breakouts port →
    s.chip.macOn port = true →
    s.chip.breakoutReady port breakout = true →
    Yields (.linkUp t port breakout) s (fun c => (c.mac (macKey port breakout)).up = true ∧
      c.logged Ev.macLinkUp [port + breakout * 256 + s.chip.macSpeed port * 4096] ∧ c = { s.upon t with net := c.net, regs := c.regs, log := c.log, lne := c.lne })) ∧
  (∀ (s : State) (t : Nat) (port : Fin 18) (breakout : Fin 8) (kind : Fin 9) (u : Nat),
    let k := macKey port breakout
    s.runs →
    Tbl.find (s.chip.mac k).pauseUntil kind = some u →
    u ≤ max s.chip.now t →
    Yields (.pauseExpiry t port breakout kind) s (fun c => kind.val ∉ ((c.mac k).pauseUntil.map Prod.fst) ∧ kind.val ∉ ((c.mac k).pauseSince.map Prod.fst) ∧
      (∀ j, j ≠ k → c.mac j = s.chip.mac j) ∧ c = { s.upon t with net := c.net })) ∧
  (∀ (s : State) (t : Nat) (port : Fin 18) (kind : Fin 9) (u : Nat),
    let k := macKey port 0
    s.runs →
    isHostPort port = true →
    Tbl.find (s.chip.mac k).pauseSince kind = some u →
    u + msU (s.chip.fld Reg.MAC_P_PAUSE_WD_MS k) < max s.chip.now t →
    Yields (.pauseWatchdog t port kind) s (fun c => kind.val ∉ ((c.mac k).pauseUntil.map Prod.fst) ∧
      c.fld Reg.MAC_PAUSE_EVENTS_PAUSE_WD k = min (s.chip.fld Reg.MAC_PAUSE_EVENTS_PAUSE_WD k + 1) (2 ^ Reg.MAC_PAUSE_EVENTS_PAUSE_WD.width - 1) ∧
      c.isSet Reg.MAC_STATUS_WD_SEEN 0 = true ∧
      c.logged Ev.macPauseWatchdog [port + (if kind.val = 8 then 0 else 65536 + kind * 1048576), (max s.chip.now t - u) / 27000000] ∧
      c = { s.upon t with net := c.net, regs := c.regs, log := c.log })) ∧
  (∀ (s : State) (t : Nat) (port : Fin 18) (kind : Fin 9) (u : Nat),
    s.runs →
    Tbl.find (s.chip.mac (macKey port 0)).ignoreUntil kind = some u →
    u ≤ max s.chip.now t →
    Yields (.pauseIgnoreEnd t port kind) s (fun c => kind.val ∉ ((c.mac (macKey port 0)).ignoreUntil.map Prod.fst) ∧ c = { s.upon t with net := c.net })) ∧
  (∀ (s : State) (t : Nat) (port : Fin 18) (fill : Nat),
    s.runs →
    (s.chip.mac (macKey port 0)).pausing = true →
    65536 < fill →
    Yields (.pauseRepeat t port fill) s (fun c =>
      c.fld Reg.MAC_PAUSE_EVENTS_TX_PAUSE_SENT (macKey port 0) = min (s.chip.fld Reg.MAC_PAUSE_EVENTS_TX_PAUSE_SENT (macKey port 0) + 1) (2 ^ Reg.MAC_PAUSE_EVENTS_TX_PAUSE_SENT.width - 1) ∧
      (match c.sent with | [.frame a b d _] => a == port.val && b == 0 && d == 0 | _ => false) = true ∧ c = { s.upon t with regs := c.regs, sent := c.sent })) ∧
  (∀ (s : State) (t : Nat),
    let p := s.chip.fld Reg.MAC_PORT_SEL_PORT 0
    let k := macKey p (s.chip.fld Reg.MAC_PORT_SEL_BREAKOUT 0)
    s.runs →
    Reg.MAC_PORT_SEL_PORT.addr ∉ s.chip.noSel →
    isHostPort p = false →
    exec (.gclSwap t) s = .next { s with chip := (s.upon t).modMac k (fun m => { m with gateSwap := true }) }) ∧
  (∀ (s : State) (t : Nat) (port : Fin 16) (breakout : Fin 8),
    let k := macKey port breakout
    s.runs →
    (s.chip.mac k).gateSwap = true →
    gatesOk (s.chip.mac k).gatesNew = true →
    exec (.gateScheduleSwap t port breakout) s = .next { s with chip := (s.upon t).modMac k (fun m => { m with gates := gateList (s.chip.mac k).gatesNew, gateSwap := false }) }) ∧
  (∀ (s : State) (t : Nat) (e : Nat × Nat × Nat) (r : List (Nat × Nat × Nat)),
    let k := macKey (s.chip.fld Reg.MAC_PORT_SEL_PORT 0) (s.chip.fld Reg.MAC_PORT_SEL_BREAKOUT 0)
    s.runs →
    Reg.MAC_PORT_SEL_PORT.addr ∉ s.chip.noSel →
    (s.chip.mac k).stamps = e :: r →
    Yields (.tsCapTagRead t) s (fun c => (c.mac k).stamps = r ∧
      c.sent = [.value Reg.MAC_TS_CAP_TAG_TAG.addr (e.2.2 % 65536 + 65536 + s.chip.fld Reg.MAC_TS_CAP_TAG_TS_LOST k * 16777216)] ∧
      c = { s.upon t with net := c.net, sent := c.sent })) ∧
  (∀ (s : State) (t : Nat),
    s.runs →
    Yields (.macClrCnt t) s (fun c => (∀ k, k < 144 → c.fld Reg.MAC_RX_FRAMES_COUNT k = 0 ∧ c.fld Reg.MAC_RX_BYTES_LO_COUNT k = 0 ∧
      c.fld Reg.MAC_RX_DROP_COUNT k = 0 ∧ c.fld Reg.MAC_TX_FRAMES_COUNT k = 0 ∧ c.fld Reg.MAC_TX_PAD_COUNT k = 0 ∧ c.fld Reg.MAC_TX_UNDERRUN_COUNT k = 0 ∧
      c.fld Reg.MAC_PAUSE_EVENTS_PAUSE_WD k = 0 ∧ c.fld Reg.MAC_TS_CAP_TAG_TS_LOST k = 0) ∧ c = { s.upon t with regs := c.regs }))

/-- In a module that runs: SIGNAL_DETECT shows the signal and a signal that rises on a searching receiver restarts its cycle with the family that locked
last, else 12G-SDI; SDI_SEARCH_STEP after 2 ms tries the next family of the cycle; SDI_EAV, the fourth that agrees, declares lock; SDI_RATE_MEASURE 1
ms after lock shows the offset and takes the /1.001 rate below minus 500 ppm; SDI_LOCK_LOST of a locked receiver ends the lock, counts the loss and
marks LOST_SEEN; LANE_START, and a write of RETRAIN, on a lane in use in state ACTIVE start every lane of its breakout, with training or the preset (a
splice port's at step 0); LANE_TRAINING_DONE and TRAINING_TIMEOUT end the training of a lane that trains; LINK_START_TIMEOUT 1 s after a start without
link counts a failed start, starts the lanes again and records LNE_TRAIN_FAIL at the third in a row; ALIGNMENT_LOSS of a link that is up clears the
lanes' alignment; RETRAIN_TIMEOUT 100 ms later without link starts the lanes again. -/
def Obligations.SdiAndEthernetLaneCommandsComplete : Prop :=
  (∀ (s : State) (t : Nat) (lane : Fin 216) (rise : Bool),
    s.runs →
    Yields (.signalDetect t lane rise) s (fun c => c.fld Reg.LNE_L_STATE_SIGNAL lane = (if rise then 1 else 0) ∧
      (rise = true → 152 ≤ lane.val → (s.chip.lane lane).on = true → (s.chip.lane lane).lock = false → bit (s.chip.sdiFlags (lane.val - 152)) 2 = true →
        (c.lane lane).family = (if (s.chip.lane lane).last = 0 then 5 else (s.chip.lane lane).last) ∧ (c.lane lane).triedAt = max s.chip.now t) ∧
      c.sameRegs s.chip [Reg.LNE_L_STATE_SIGNAL, Reg.LNE_L_SEARCHES_COUNT] ∧ c = { s.upon t with regs := c.regs, lne := c.lne })) ∧
  (∀ (s : State) (t : Nat) (lane : Fin 64),
    let x := s.chip.lane (sdiLane lane)
    s.runs →
    x.on = true →
    x.lock = false →
    bit (s.chip.sdiFlags lane) 2 = true →
    x.triedAt + msU 2 ≤ max s.chip.now t →
    Yields (.sdiSearchStep t lane) s (fun c => (c.lane (sdiLane lane)).family = nextFamily x.first x.family ∧ (c.lane (sdiLane lane)).triedAt = max s.chip.now t ∧
      c.fld Reg.LNE_L_SEARCHES_COUNT (sdiLane lane) = min (s.chip.fld Reg.LNE_L_SEARCHES_COUNT (sdiLane lane) + 1) 4294967295 ∧
      (∀ k, k ≠ sdiLane lane → c.lane k = s.chip.lane k) ∧ c.sameRegs s.chip [Reg.LNE_L_SEARCHES_COUNT] ∧ c = { s.upon t with regs := c.regs, lne := c.lne })) ∧
  (∀ (s : State) (t : Nat) (lane : Fin 64) (words : Nat) (ident : Option (Format × Fin 4)) (raster : Option Format),
    let x := s.chip.lane (sdiLane lane)
    s.runs →
    x.on = true →
    x.lock = false →
    x.eavs = 3 →
    words = x.words →
    Yields (.sdiEav t lane words ident raster none) s (fun c => (c.lane (sdiLane lane)).lock = true ∧ (c.lane (sdiLane lane)).last = x.family)) ∧
  (∀ (s : State) (t : Nat) (lane : Fin 64) (offset : Int) (u : Nat),
    s.runs →
    (s.chip.lane (sdiLane lane)).lockAt = some u →
    u + msU 1 ≤ max s.chip.now t →
    Yields (.sdiRateMeasure t lane offset) s (fun c => (c.lane (sdiLane lane)).fract = decide (offset < -50000) ∧ (c.lane (sdiLane lane)).lockAt = none ∧
      c.fld Reg.LNE_L_OFFSET_PPM (sdiLane lane) = satSigned 32 offset % 2 ^ 32 ∧ c = { s.upon t with regs := c.regs, lne := c.lne })) ∧
  (∀ (s : State) (t : Nat) (lane : Fin 64) (cdr : Bool),
    s.runs →
    (s.chip.lane (sdiLane lane)).lock = true →
    Yields (.sdiLockLost t lane cdr) s (fun c => (c.lane (sdiLane lane)).lock = false ∧ c.isSet Reg.LNE_STATUS_LOST_SEEN 0 = true ∧
      c.fld Reg.LNE_L_LOCK_LOST_COUNT (sdiLane lane) = min (s.chip.fld Reg.LNE_L_LOCK_LOST_COUNT (sdiLane lane) + 1) (2 ^ Reg.LNE_L_LOCK_LOST_COUNT.width - 1) ∧
      (∀ k, k ≠ sdiLane lane → c.lane k = s.chip.lane k))) ∧
  (∀ (s : State) (t : Nat) (lane : Fin 216) (p b : Nat),
    s.runs →
    lane.val < 136 →
    s.chip.laneUsed lane = true →
    s.chip.laneActive lane = true →
    s.chip.laneBreakout lane = some (p, b) →
    (s.chip.mac (macKey p b)).up = false →
    Yields (.laneStart t lane) s (fun c => (∀ l ∈ s.chip.breakoutLanes p b, c.fld Reg.LNE_L_STATE_TRAIN l = (if s.chip.trains l then 1 else 3) ∧
        c.fld Reg.LNE_L_STATE_ALIGNED l = 0 ∧ (c.lane l).startedAt = max s.chip.now t) ∧ c = { s.upon t with regs := c.regs, lne := c.lne })) ∧
  (∀ (s : State) (t : Nat) (lane : Fin 216),
    s.runs →
    136 ≤ lane.val →
    lane.val < 152 →
    s.chip.laneUsed lane = true →
    s.chip.laneActive lane = true →
    Yields (.laneStart t lane) s (fun c => c.fld Reg.LNE_L_STATE_TRAIN lane = (if s.chip.trains lane then 1 else 3) ∧ c.fld Reg.LNE_L_STATE_STEP lane = 0 ∧
      c.fld Reg.SPL_P_STATE_STEP ((lane - 136) / 2) = 0 ∧ c = { s.upon t with regs := c.regs, lne := c.lne })) ∧
  (∀ (s : State) (t : Nat) (p b : Nat),
    let l := s.chip.fld Reg.LNE_LANE_SEL_LANE 0
    s.runs →
    s.chip.laneUsed l = true →
    s.chip.laneActive l = true →
    s.chip.laneBreakout l = some (p, b) →
    (s.chip.mac (macKey p b)).up = false →
    Yields (.retrain t) s (fun c => (∀ k ∈ s.chip.breakoutLanes p b, c.fld Reg.LNE_L_STATE_TRAIN k = (if s.chip.trains k then 1 else 3) ∧
        (c.lane k).startedAt = max s.chip.now t) ∧ c = { s.upon t with regs := c.regs, lne := c.lne })) ∧
  (∀ (s : State) (t : Nat) (lane : Fin 152),
    s.runs →
    s.chip.fld Reg.LNE_L_STATE_TRAIN lane = 1 →
    Yields (.laneTrainingDone t lane) s (fun c => c.fld Reg.LNE_L_STATE_TRAIN lane = 2 ∧ c.fld Reg.LNE_L_STATE_CDR_LOCK lane = 1 ∧
      (∀ k, k ≠ lane.val → c.fld Reg.LNE_L_STATE_TRAIN k = s.chip.fld Reg.LNE_L_STATE_TRAIN k ∧ c.lane k = s.chip.lane k) ∧
      c.sameRegs s.chip [Reg.LNE_L_STATE_TRAIN, Reg.LNE_L_STATE_CDR_LOCK] ∧ c = { s.upon t with regs := c.regs, lne := c.lne })) ∧
  (∀ (s : State) (t : Nat) (lane : Fin 152),
    s.runs →
    s.chip.fld Reg.LNE_L_STATE_TRAIN lane = 1 →
    (s.chip.lane lane).startedAt + s.chip.trainLimit lane ≤ max s.chip.now t →
    Yields (.trainingTimeout t lane) s (fun c => c.fld Reg.LNE_L_STATE_TRAIN lane = 3 ∧
      c.sameRegs s.chip [Reg.LNE_L_STATE_TRAIN] ∧ c = { s.upon t with regs := c.regs, lne := c.lne })) ∧
  (∀ (s : State) (t : Nat) (port : Fin 18) (breakout : Fin 8),
    let l := s.chip.firstLane port breakout
    s.runs →
    breakout.val < s.chip.breakouts port →
    s.chip.macOn port = true →
    s.chip.laneActive l = true →
    (s.chip.mac (macKey port breakout)).up = false →
    (s.chip.lane l).startedAt + secU 1 ≤ max s.chip.now t →
    Yields (.linkStartTimeout t port breakout) s (fun c => (c.lane l).fails = (s.chip.lane l).fails + 1 ∧
      ((s.chip.lane l).fails = 2 → c.logged Ev.lneTrainFail [l]) ∧
      (∀ k ∈ s.chip.breakoutLanes port breakout, c.fld Reg.LNE_L_STATE_TRAIN k = (if s.chip.trains k then 1 else 3)) ∧
      c = { s.upon t with regs := c.regs, lne := c.lne, log := c.log })) ∧
  (∀ (s : State) (t : Nat) (port : Fin 18) (breakout : Fin 8),
    s.runs →
    (s.chip.mac (macKey port breakout)).up = true →
    Yields (.alignmentLoss t port breakout) s (fun c => (c.lane (s.chip.firstLane port breakout)).lossAt = some (max s.chip.now t) ∧
      (∀ k ∈ s.chip.breakoutLanes port breakout, c.fld Reg.LNE_L_STATE_ALIGNED k = 0 ∧ c.fld Reg.LNE_L_STATE_CDR_LOCK k = 0))) ∧
  (∀ (s : State) (t : Nat) (port : Fin 18) (breakout : Fin 8) (u : Nat),
    s.runs →
    (s.chip.lane (s.chip.firstLane port breakout)).lossAt = some u →
    u + msU 100 ≤ max s.chip.now t →
    (s.chip.mac (macKey port breakout)).up = false →
    Yields (.retrainTimeout t port breakout) s (fun c => (∀ k ∈ s.chip.breakoutLanes port breakout,
        c.fld Reg.LNE_L_STATE_TRAIN k = (if s.chip.trains k then 1 else 3) ∧ (c.lane k).lossAt = none) ∧ c = { s.upon t with regs := c.regs, lne := c.lne }))

/-- In a module that runs: WORD_BOUNDARY_FOUND of a trained lane of an enabled splice port in no step change aligns it, and with both lanes aligned the
far end's MAX_STEP is known; WORD_BOUNDARY_TIMEOUT 100 ms after the last search starts another, and the third leads to manual alignment with
LNE_ALIGN_FAIL; STEP_CHANGE of a port whose target differs from its step starts with lane 1; LANE_STEP_CHECK passed on lane 1 leads to lane 0, passed
on lane 0 completes the change, and failed bars the step for 60 s and leads back; STEP_BAR_EXPIRY drops the bars that have ended;
LANE_STATE_TRANSITION_DONE reaches the state in transition; SLIP on a lane in raw mode moves its boundary by one, and is refused by CFG_REJECT on a
lane that is neither in raw mode nor in manual alignment; RAW_CAP starts a capture, RAW_CAPTURE_DONE fills the buffer with the words after the lane's
inversion, RAW_DATA_READ returns the word at WORD and advances it; ERR_INJ in PRBS mode inverts one bit; EYE_SCAN_START and EYE_SCAN_DONE start and
complete a scan; LNE_CLR_CNT clears every counter of the block. -/
def Obligations.SpliceLaneAndDiagnosticCommandsComplete : Prop :=
  (∀ (s : State) (t : Nat) (port : Fin 8) (k : Fin 2) (farMax : Fin 4) (farAuto : Bool),
    let l := spliceLane port k
    s.runs →
    s.chip.spliceOn port = true →
    2 ≤ s.chip.fld Reg.LNE_L_STATE_TRAIN l →
    (s.chip.stepSt port).change.isNone = true →
    Yields (.wordBoundaryFound t port k farMax farAuto) s (fun c => c.fld Reg.LNE_L_STATE_ALIGNED l = 1 ∧ c.fld Reg.LNE_L_STATE_CDR_LOCK l = 1 ∧
      (c.bothAligned port = true → (c.stepSt port).farMax = some farMax.val) ∧ c = { s.upon t with regs := c.regs, lne := c.lne })) ∧
  (∀ (s : State) (t : Nat) (port : Fin 8) (k : Fin 2),
    let l := spliceLane port k
    s.runs →
    s.chip.spliceOn port = true →
    s.chip.fld Reg.LNE_L_STATE_TRAIN l = 2 ∨ s.chip.fld Reg.LNE_L_STATE_TRAIN l = 3 →
    s.chip.isSet Reg.LNE_L_STATE_ALIGNED l = false →
    (s.chip.lane l).searchAt + msU 100 ≤ max s.chip.now t →
    Yields (.wordBoundaryTimeout t port k) s (fun c => (c.lane l).tries = (s.chip.lane l).tries + 1 ∧ (c.lane l).searchAt = max s.chip.now t ∧
      (2 ≤ (s.chip.lane l).tries → c.fld Reg.LNE_L_STATE_TRAIN l = 4 ∧ c.isSet Reg.LNE_STATUS_ALIGN_SEEN 0 = true ∧ c.logged Ev.lneAlignFail [l]) ∧
      c.sameRegs s.chip [Reg.LNE_L_STATE_TRAIN, Reg.LNE_STATUS_ALIGN_SEEN])) ∧
  (∀ (s : State) (t : Nat) (port : Fin 8),
    let now := s.chip.fld Reg.SPL_P_STATE_STEP port
    let goal := (s.upon t).targetStep port
    let new := if now < goal then now + 1 else now - 1
    s.runs →
    s.chip.spliceOn port = true →
    s.chip.bothAligned port = true →
    (s.chip.stepSt port).change.isNone = true →
    goal ≠ now →
    Tbl.has (s.chip.stepSt port).bars new = false →
    Yields (.stepChange t port) s (fun c => (c.stepSt port).change = some { old := now, new := new, lane := 1, back := false, since := max s.chip.now t } ∧
      c.fld Reg.LNE_L_STATE_TRAIN (spliceLane port 1) = (if s.chip.trains (spliceLane port 1) then 1 else 3) ∧ c = { s.upon t with regs := c.regs, lne := c.lne })) ∧
  (∀ (s : State) (t : Nat) (port : Fin 8) (x : StepChange),
    s.runs →
    (s.chip.stepSt port).change = some x →
    s.chip.fld Reg.LNE_L_STATE_TRAIN (spliceLane port x.lane) ≠ 1 →
    x.back = false →
    x.lane = 1 →
    Yields (.laneStepCheck t port true) s (fun c => c.fld Reg.LNE_L_STATE_STEP (spliceLane port 1) = x.new % 4 ∧
      (c.stepSt port).change = some { x with lane := 0, since := max s.chip.now t } ∧ c = { s.upon t with regs := c.regs, lne := c.lne })) ∧
  (∀ (s : State) (t : Nat) (port : Fin 8) (x : StepChange),
    s.runs →
    (s.chip.stepSt port).change = some x →
    s.chip.fld Reg.LNE_L_STATE_TRAIN (spliceLane port x.lane) ≠ 1 →
    x.back = false →
    x.lane = 0 →
    Yields (.laneStepCheck t port true) s (fun c => c.fld Reg.LNE_L_STATE_STEP (spliceLane port 0) = x.new % 4 ∧ c.fld Reg.SPL_P_STATE_STEP port = x.new % 4 ∧
      (c.stepSt port).change = none ∧ c.logged Ev.lneStep [port + x.old * 16 + x.new * 64])) ∧
  (∀ (s : State) (t : Nat) (port : Fin 8) (x : StepChange),
    s.runs →
    (s.chip.stepSt port).change = some x →
    s.chip.fld Reg.LNE_L_STATE_TRAIN (spliceLane port x.lane) ≠ 1 →
    x.back = false →
    Yields (.laneStepCheck t port false) s (fun c => (c.stepSt port).change = some { x with back := true, since := max s.chip.now t } ∧
      Tbl.has (c.stepSt port).bars x.new = true ∧ c.isSet Reg.LNE_STATUS_STEP_FAIL_SEEN 0 = true ∧ c.logged Ev.lneStepFail [port + x.old * 16 + x.new * 64])) ∧
  (∀ (s : State) (t : Nat) (port : Fin 8),
    s.runs →
    Yields (.stepBarExpiry t port) s (fun c => (c.stepSt port).bars = (s.chip.stepSt port).bars.filter (fun e => decide (max s.chip.now t < e.2)) ∧
      c.regs = s.chip.regs ∧ (∀ k, k ≠ port.val → c.stepSt k = s.chip.stepSt k))) ∧
  (∀ (s : State) (t : Nat) (lane : Fin 216),
    s.runs →
    (s.chip.lane lane).going = some (s.chip.laneWant lane) →
    Yields (.laneStateTransitionDone t lane) s (fun c => c.fld Reg.LNE_L_STATE_PSTATE lane = s.chip.laneWant lane ∧ (c.lane lane).going = none)) ∧
  (∀ (s : State) (t : Nat),
    let l := s.chip.fld Reg.LNE_LANE_SEL_LANE 0
    s.runs →
    s.chip.lne.noLane = false →
    s.chip.fld Reg.LNE_L_CTRL_DIAG l = 1 ∨ s.chip.manual l = true →
    Yields (.slip t) s (fun c => (c.lane l).slips = ((s.chip.lane l).slips + 1) % (if s.chip.laneNrz l then 32 else 16) ∧
      (∀ k, k ≠ l → c.lane k = s.chip.lane k) ∧ c.regs = s.chip.regs ∧ c = { s.upon t with lne := c.lne })) ∧
  (∀ (s : State) (t : Nat),
    let l := s.chip.fld Reg.LNE_LANE_SEL_LANE 0
    s.runs →
    s.chip.fld Reg.LNE_L_CTRL_DIAG l ≠ 1 →
    s.chip.manual l = false →
    Yields (.slip t) s (fun c => c.isSet Reg.LNE_STATUS_CFG_REJECT 0 = true ∧ c.sameRegs s.chip [Reg.LNE_STATUS_CFG_REJECT] ∧ c = { s.upon t with regs := c.regs })) ∧
  (∀ (s : State) (t : Nat),
    let l := s.chip.fld Reg.LNE_LANE_SEL_LANE 0
    s.runs →
    s.chip.lne.noLane = false →
    s.chip.fld Reg.LNE_L_CTRL_DIAG l = 1 →
    Yields (.rawCap t) s (fun c => c.fld Reg.LNE_L_CTRL_RAW_DONE l = 0 ∧ c.lane l = { s.chip.lane l with rawBusy := true } ∧
      c.sameRegs s.chip [Reg.LNE_L_CTRL_RAW_DONE] ∧ c = { s.upon t with regs := c.regs, lne := c.lne })) ∧
  (∀ (s : State) (t : Nat) (lane : Fin 216) (words : List (BitVec 32)),
    s.runs →
    (s.chip.lane lane).rawBusy = true →
    Yields (.rawCaptureDone t lane words) s (fun c => c.fld Reg.LNE_L_CTRL_RAW_DONE lane = 1 ∧ (c.lane lane).rawBusy = false ∧
      (c.lane lane).raw = (words.take 4096).map (fun w => if bit (s.chip.laneFlags lane) 0 then 4294967295 - w.toNat else w.toNat) ∧
      c.sameRegs s.chip [Reg.LNE_L_CTRL_RAW_DONE] ∧ c = { s.upon t with regs := c.regs, lne := c.lne })) ∧
  (∀ (s : State) (t : Nat),
    let l := s.chip.fld Reg.LNE_LANE_SEL_LANE 0
    let w := s.chip.fld Reg.LNE_L_RAW_ADDR_WORD l
    s.runs →
    s.chip.lne.noLane = false →
    Yields (.rawDataRead t) s (fun c => Out.value Reg.LNE_L_RAW_DATA_DATA.addr ((s.chip.lane l).raw.getD w 0) ∈ c.sent ∧
      c.fld Reg.LNE_L_RAW_ADDR_WORD l = (w + 1) % 4096 ∧ c.sameRegs s.chip [Reg.LNE_L_RAW_ADDR_WORD] ∧ c = { s.upon t with regs := c.regs, sent := c.sent })) ∧
  (∀ (s : State) (t : Nat),
    let l := s.chip.fld Reg.LNE_LANE_SEL_LANE 0
    s.runs →
    s.chip.lne.noLane = false →
    s.chip.fld Reg.LNE_L_CTRL_DIAG l = 2 →
    Yields (.errInj t) s (fun c => c.lane l = { s.chip.lane l with inverted := (s.chip.lane l).inverted + 1 } ∧
      (∀ k, k ≠ l → c.lane k = s.chip.lane k) ∧ c = { s.upon t with lne := c.lne })) ∧
  (∀ (s : State) (t : Nat),
    let l := s.chip.fld Reg.LNE_LANE_SEL_LANE 0
    s.runs →
    s.chip.lne.noLane = false →
    s.chip.laneActive l = true →
    Yields (.eyeScanStart t) s (fun c => c.fld Reg.LNE_L_EYE_CTRL_EYE_DONE l = 0 ∧ (c.lane l).scan = some (s.chip.fld Reg.LNE_L_EYE_CTRL_X l,
        s.chip.fld Reg.LNE_L_EYE_CTRL_Y l, s.chip.fld Reg.LNE_L_EYE_CTRL_EYE l, s.chip.fld Reg.LNE_L_EYE_CTRL_DWELL l) ∧
      c.sameRegs s.chip [Reg.LNE_L_EYE_CTRL_EYE_DONE] ∧ c = { s.upon t with regs := c.regs, lne := c.lne })) ∧
  (∀ (s : State) (t : Nat) (lane : Fin 216) (errors : Nat),
    s.runs →
    (s.chip.lane lane).scan.isSome = true →
    Yields (.eyeScanDone t lane errors) s (fun c => c.fld Reg.LNE_L_EYE_ERR_COUNT lane = min errors 4294967295 ∧ c.fld Reg.LNE_L_EYE_CTRL_EYE_DONE lane = 1 ∧
      (c.lane lane).scan = none ∧ c.sameRegs s.chip [Reg.LNE_L_EYE_ERR_COUNT, Reg.LNE_L_EYE_CTRL_EYE_DONE] ∧ c = { s.upon t with regs := c.regs, lne := c.lne })) ∧
  (∀ (s : State) (t : Nat),
    s.runs →
    Yields (.lneClrCnt t) s (fun c => (∀ f ∈ lneCounters, ∀ b, c.fld f b = 0) ∧ c.sameRegs s.chip lneCounters ∧ c = { s.upon t with regs := c.regs }))

/-- In a module that runs: REFERENCE_SIGNAL_PRESENT brings an entry of an input from NO_SIGNAL to QUALIFYING; REFERENCE_MEASUREMENT shows the phase
measured, and an entry within its limits that is qualifying while none is selectable has its timer running after it; QUALIFICATION_TIMER_EXPIRY QUAL_S
later makes it QUALIFIED and records REF_QUALIFIED; HOLDOFF_TIMER_EXPIRY HOLDOFF_S after it left its limits disqualifies it for the limit left;
SELECTION_DECISION in full service selects the entry of R353; REFERENCE_LOSS of an entry with a signal puts it in NO_SIGNAL with cause LOSS and counts
the loss; REFERENCE_GLITCH of an enabled entry that qualifies or is qualified counts alone; DPLL_LOCK 3 s after ACQUIRE makes it LOCKED;
HISTORY_AVERAGE after a second in LOCKED adds its average to the history of 62; FORCE_HOLD while the DPLL follows an entry with a history holds the
mean of R361, and its end acquires the entry selected again; FRAME_PULSE of an enabled output gives both edges of the pulse; REFS_CLR_CNT clears the
counters. The timers of QUALIFYING run from the start of pilot service. -/
def Obligations.ReferenceCommandsComplete : Prop :=
  (∀ (s : State) (t : Nat) (entry : Fin 8),
    s.runs →
    s.chip.refType entry ≤ 6 →
    s.chip.refOn entry = true →
    s.chip.refState entry = 1 →
    Yields (.referenceSignalPresent t entry) s (fun c => c.refState entry = 2 ∧ (c.refEntry entry).present = true ∧
      (c.refEntry entry).timer = (if s.chip.boot.pilotAt.isSome then some (max s.chip.now t) else none) ∧
      (∀ k, k ≠ entry.val → c.refState k = s.chip.refState k ∧ c.refEntry k = s.chip.refEntry k) ∧
      c.sameRegs s.chip [Reg.REFS_E_STATE_STATE] ∧ c = { s.upon t with regs := c.regs, ref := c.ref })) ∧
  (∀ (s : State) (t : Nat) (facts : List RefFact) (freq phase : Int),
    s.runs →
    Yields (.referenceMeasurement t facts freq phase) s (fun c => c.fld Reg.REFS_DPLL_PHASE_NS 0 = satSigned 32 phase % 2 ^ 32 ∧
      c.ref.measuredAt = max s.chip.now t)) ∧
  (∀ (s : State) (t : Nat) (f : RefFact) (freq phase : Int),
    s.runs →
    s.chip.refType f.entry ≤ 6 →
    s.chip.refOn f.entry = true →
    s.chip.refState f.entry = 2 →
    (s.chip.refEntry f.entry).present = true →
    magnitude f.offset ≤ s.chip.loLimit f.entry →
    s.chip.timersRun = true →
    ∀ x, x < 8 → s.chip.selectable x = false →
    Yields (.referenceMeasurement t [f] freq phase) s (fun c => c.refState f.entry = 2 ∧ c.fld Reg.REFS_E_OFF_LO_FREQ f.entry = satSigned 32 f.offset % 2 ^ 32 ∧
      (c.refEntry f.entry).timer = some ((s.chip.refEntry f.entry).timer.getD (max s.chip.now t)))) ∧
  (∀ (s : State) (t : Nat) (entry : Fin 8) (u : Nat),
    s.runs →
    (s.chip.refEntry entry).timer = some u →
    s.chip.refState entry = 2 →
    u + secU (s.chip.qualS entry) ≤ max s.chip.now t →
    Yields (.qualificationTimerExpiry t entry) s (fun c => c.refState entry = 3 ∧ c.fld Reg.REFS_E_STATE_CAUSE entry = 0 ∧ (c.refEntry entry).timer = none ∧
      c.logged Ev.refQualified [entry + s.chip.refType entry * 256, s.chip.fld Reg.REFS_E_OFF_LO_FREQ entry] ∧
      c.sameRegs s.chip [Reg.REFS_E_STATE_STATE, Reg.REFS_E_STATE_CAUSE] ∧ c = { s.upon t with regs := c.regs, ref := c.ref, log := c.log })) ∧
  (∀ (s : State) (t : Nat) (entry : Fin 8) (u : Nat),
    s.runs →
    (s.chip.refEntry entry).timer = some u →
    s.chip.refState entry = 4 →
    u + secU (s.chip.holdoffS entry) ≤ max s.chip.now t →
    Yields (.holdoffTimerExpiry t entry) s (fun c => c.refState entry = 5 ∧ c.fld Reg.REFS_E_STATE_CAUSE entry = (s.chip.refEntry entry).why % 8 ∧
      c.fld Reg.REFS_E_EVENTS_DISQ entry = min (s.chip.fld Reg.REFS_E_EVENTS_DISQ entry + 1) (2 ^ Reg.REFS_E_EVENTS_DISQ.width - 1) ∧
      (c.refEntry entry).timer = none ∧ c = { s.upon t with regs := c.regs, ref := c.ref, log := c.log })) ∧
  (∀ (s : State) (t : Nat),
    s.runs →
    s.chip.restarting = false →
    s.chip.spliceLed = false →
    s.chip.refSelected ≠ 14 →
    s.chip.fullIn 0 = true →
    Yields (.selectionDecision t) s (fun c => c.refSelected = (s.upon t).refDecision.1)) ∧
  (∀ (s : State) (t : Nat) (entry : Fin 8),
    s.runs →
    s.chip.refType entry ≤ 6 →
    s.chip.refOn entry = true →
    2 ≤ s.chip.refState entry →
    Yields (.referenceLoss t entry) s (fun c => c.refState entry = 1 ∧ c.fld Reg.REFS_E_STATE_CAUSE entry = 1 ∧ (c.refEntry entry).present = false ∧
      c.fld Reg.REFS_E_EVENTS_LOSSES entry = min (s.chip.fld Reg.REFS_E_EVENTS_LOSSES entry + 1) (2 ^ Reg.REFS_E_EVENTS_LOSSES.width - 1) ∧
      c.logged Ev.refLost [entry + 16 + s.chip.refType entry * 256, s.chip.fld Reg.REFS_E_OFF_LO_FREQ entry] ∧
      (∀ k, k ≠ entry.val → c.refState k = s.chip.refState k ∧ c.refEntry k = s.chip.refEntry k))) ∧
  (∀ (s : State) (t : Nat) (entry : Fin 8),
    s.runs →
    s.chip.refOn entry = true →
    2 ≤ s.chip.refState entry →
    Yields (.referenceGlitch t entry) s (fun c => c.fld Reg.REFS_E_GLITCH_COUNT entry = min (s.chip.fld Reg.REFS_E_GLITCH_COUNT entry + 1) (2 ^ Reg.REFS_E_GLITCH_COUNT.width - 1) ∧
      c.sameRegs s.chip [Reg.REFS_E_GLITCH_COUNT] ∧ c = { s.upon t with regs := c.regs })) ∧
  (∀ (s : State) (t : Nat),
    s.runs →
    s.chip.fld Reg.REFS_DPLL_STATE 0 = 1 →
    s.chip.ref.acquiredAt + secU 3 ≤ max s.chip.now t →
    Yields (.dpllLock t) s (fun c => c.fld Reg.REFS_DPLL_STATE 0 = 2 ∧ c.logged Ev.refLocked [s.chip.refSelected] ∧ c.ref.averagedAt = max s.chip.now t ∧
      c.sameRegs s.chip [Reg.REFS_DPLL_STATE] ∧ c = { s.upon t with regs := c.regs, ref := c.ref, log := c.log })) ∧
  (∀ (s : State) (t : Nat) (average : Int),
    s.runs →
    s.chip.fld Reg.REFS_DPLL_STATE 0 = 2 →
    s.chip.ref.averagedAt + secU 1 ≤ max s.chip.now t →
    Yields (.historyAverage t average) s (fun c => c.ref.history = ((max s.chip.now t, average) :: s.chip.ref.history).take 62 ∧
      c.fld Reg.REFS_DPLL_HIST_S 0 = c.ref.history.length ∧ (c.ref.history.length = 62 → c.isSet Reg.REFS_DPLL_HIST_VALID 0 = true) ∧
      c.sameRegs s.chip [Reg.REFS_DPLL_HIST_S, Reg.REFS_DPLL_HIST_VALID] ∧ c = { s.upon t with regs := c.regs, ref := c.ref })) ∧
  (∀ (s : State) (t : Nat) (f : Int),
    s.runs →
    s.chip.isSet Reg.REFS_CTRL_FORCE_HOLD 0 = false →
    s.chip.dpllFollows = true →
    (s.upon t).holdMean = some f →
    Yields (.forceHold t true) s (fun c => c.isSet Reg.REFS_CTRL_FORCE_HOLD 0 = true ∧ c.fld Reg.REFS_DPLL_STATE 0 = 3 ∧
      c.fld Reg.REFS_HOLD_FREQ_FREQ 0 = unsigned 32 f % 2 ^ 32 ∧ c.isSet Reg.REFS_STATUS_HOLDOVER_SEEN 0 = true ∧
      c.logged Ev.refHoldover [s.chip.refSelected + 48, unsigned 32 f] ∧ c = { s.upon t with regs := c.regs, log := c.log })) ∧
  (∀ (s : State) (t : Nat),
    s.runs →
    s.chip.isSet Reg.REFS_CTRL_FORCE_HOLD 0 = true →
    s.chip.refSelected ≠ 15 →
    s.chip.dpllFollows = false →
    Yields (.forceHold t false) s (fun c => c.isSet Reg.REFS_CTRL_FORCE_HOLD 0 = false ∧ c.fld Reg.REFS_DPLL_STATE 0 = 1 ∧ c.ref.acquiredAt = max s.chip.now t ∧
      c.sameRegs s.chip [Reg.REFS_CTRL_FORCE_HOLD, Reg.REFS_DPLL_STATE] ∧ c = { s.upon t with regs := c.regs, ref := c.ref })) ∧
  (∀ (s : State) (t : Nat) (output : Fin 4),
    let o := s.chip.refOut output
    let a := (s.chip.dom output).tickAt + nsU o.offset
    s.runs →
    bit o.flags 0 = true →
    s.chip.pulses output = true →
    s.chip.outHeld output = false →
    s.chip.isSet Reg.REFS_STATUS_LO_OK 0 = true →
    Yields (.framePulse t output) s (fun c => c.sent = [.pin output (!(bit o.flags 1)) a, .pin output (bit o.flags 1) (a + nsU (10 * o.width))] ∧
      c = { s.upon t with sent := c.sent })) ∧
  (∀ (s : State) (t : Nat),
    s.runs →
    Yields (.refsClrCnt t) s (fun c => (∀ f ∈ refsCounters, ∀ b, c.fld f b = 0) ∧ c.sameRegs s.chip refsCounters ∧ c = { s.upon t with regs := c.regs }))

/-- In a module that runs: PPS_PULSE notes the edge of a PPS entry, and with a SET waiting for it sets device time to its second at the edge of the
selected entry; PTP_SYNC of the selected master in the domain is paired with its origin time when it is one-step, waits for its Follow_Up when it is
two-step, and with a path delay known and fewer than 16 measurements gives one more; PTP_FOLLOW_UP of the Sync that waits completes it; PTP_ANNOUNCE
that the slave accepts is noted of its foreign master; a message outside the domain of a network time source is counted as ignored; PTP_DELAY_RESP to
the request sent completes the exchange; DELAY_REQ_SEND with a master takes the next sequence number; ANNOUNCE_RECEIPT_TIMEOUT drops a silent master;
MEASUREMENT_TIMEOUT after 2 s deselects it; PTP_CLR_CNT clears the counters. In full service, of a session that may send them: a TIME request of form
STEP with 16 measurements is answered DONE and waits for the next measurement; a TIME request of form SET without time source sets device time at once
and is answered DONE. -/
def Obligations.PtpCommandsComplete : Prop :=
  (∀ (s : State) (t : Nat) (entry : Fin 8),
    s.runs →
    s.chip.refType entry = 5 ∨ s.chip.refType entry = 6 →
    s.chip.ptp.pend = none →
    Yields (.ppsPulse t entry) s (fun c => (c.refEntry entry).edge = some (max s.chip.now t) ∧ (∀ k, k ≠ entry.val → c.refEntry k = s.chip.refEntry k) ∧
      c.sameRegs s.chip [Reg.REFS_E_GLITCH_COUNT] ∧ c = { s.upon t with regs := c.regs, ref := c.ref })) ∧
  (∀ (s : State) (t : Nat) (entry : Fin 8) (sec : Nat),
    s.runs →
    s.chip.refType entry = 5 ∨ s.chip.refType entry = 6 →
    s.chip.ptp.pend = some (.set sec) →
    s.chip.refSelected = entry.val →
    Yields (.ppsPulse t entry) s (fun c => c.deviceQ = qOf sec 0 ∧ c.ptp.pend = none ∧ c.ptp.wasSet = true ∧ c.isSet Reg.PTP_STATUS_TIME_VALID 0 = true ∧
      c.isSet Reg.PTP_STATUS_STEP_SEEN 0 = true)) ∧
  (∀ (s : State) (t : Nat) (m : PtpMsg) (sec ns : Nat),
    let rx : Int := (s.upon t).deviceQ
    s.runs →
    s.chip.ptpAccepts m = true →
    -7 ≤ m.log →
    m.log ≤ 0 →
    s.chip.restarting = false →
    s.chip.ptp.master = some (m.portB, m.source) →
    2 ≤ s.chip.ptpState →
    s.chip.ptp.delays = [] →
    Yields (.ptpSync t m false sec ns) s (fun c => c.ptp.sync = some ((qOf sec ns : Nat) + 27 * m.correction, rx) ∧ c.ptp.wait = none ∧
      c = { s.upon t with ptp := c.ptp })) ∧
  (∀ (s : State) (t : Nat) (m : PtpMsg) (sec ns : Nat),
    s.runs →
    s.chip.ptpAccepts m = true →
    -7 ≤ m.log →
    m.log ≤ 0 →
    s.chip.restarting = false →
    s.chip.ptp.master = some (m.portB, m.source) →
    2 ≤ s.chip.ptpState →
    Yields (.ptpSync t m true sec ns) s (fun c => c = { s.upon t with ptp := { s.chip.ptp with wait := some ⟨m.source, m.seq, (s.upon t).deviceQ, m.correction⟩ } })) ∧
  (∀ (s : State) (t : Nat) (m : PtpMsg) (sec ns : Nat),
    let rx : Int := (s.upon t).deviceQ
    s.runs →
    s.chip.ptpAccepts m = true →
    -7 ≤ m.log →
    m.log ≤ 0 →
    s.chip.restarting = false →
    s.chip.ptp.master = some (m.portB, m.source) →
    s.chip.ptpState = 2 →
    s.chip.ptp.delays ≠ [] →
    s.chip.ptp.valid < 15 →
    s.chip.ptp.pend = none →
    Yields (.ptpSync t m false sec ns) s (fun c =>
      c.ptp.offsets = (((qOf sec ns : Nat) + 27 * m.correction + meanDelay s.chip.ptp.delays - rx) :: s.chip.ptp.offsets).take 16 ∧
      c.ptp.valid = s.chip.ptp.valid + 1 ∧ c.ptp.validAt = max s.chip.now t ∧
      c.fld Reg.PTP_CNT_SYNC_COUNT 0 = (s.chip.fld Reg.PTP_CNT_SYNC_COUNT 0 + 1) % 2 ^ 32 ∧ c.sameRegs s.chip [Reg.PTP_CNT_SYNC_COUNT] ∧
      c = { s.upon t with regs := c.regs, ptp := c.ptp })) ∧
  (∀ (s : State) (t : Nat) (m : PtpMsg) (twoStep : Bool) (sec ns : Nat),
    s.runs →
    s.chip.timeSource = 1 →
    s.chip.restarting = false →
    s.chip.ptpAccepts m = false →
    Yields (.ptpSync t m twoStep sec ns) s (fun c =>
      c.fld Reg.PTP_CNT_ERR_IGNORED 0 = min (s.chip.fld Reg.PTP_CNT_ERR_IGNORED 0 + 1) (2 ^ Reg.PTP_CNT_ERR_IGNORED.width - 1) ∧
      c.sameRegs s.chip [Reg.PTP_CNT_ERR_IGNORED] ∧ c = { s.upon t with regs := c.regs })) ∧
  (∀ (s : State) (t : Nat) (m : PtpMsg) (w : SyncWait) (sec ns : Nat),
    s.runs →
    s.chip.ptpAccepts m = true →
    s.chip.restarting = false →
    s.chip.ptp.master = some (m.portB, m.source) →
    s.chip.ptp.wait = some w →
    w.source = m.source →
    w.seq = m.seq →
    s.chip.ptp.delays = [] →
    Yields (.ptpFollowUp t m sec ns) s (fun c => c.ptp.sync = some ((qOf sec ns : Nat) + 27 * (w.correction + m.correction), (w.rx : Int)) ∧ c.ptp.wait = none ∧
      c = { s.upon t with ptp := c.ptp })) ∧
  (∀ (s : State) (t : Nat) (m : PtpMsg) (a : Announce),
    s.runs →
    s.chip.ptpAccepts m = true →
    -3 ≤ m.log →
    m.log ≤ 1 →
    s.chip.restarting = false →
    Yields (.ptpAnnounce t m a) s (fun c => ∃ f ∈ c.ptp.foreign, f.portB = m.portB ∧ f.source = m.source ∧ f.gm = a.gm ∧ f.log = m.log ∧
      f.heard.head? = some (max s.chip.now t))) ∧
  (∀ (s : State) (t : Nat) (m : PtpMsg) (sec ns : Nat) (x : Int × Int) (u : Nat),
    s.runs →
    s.chip.ptpAccepts m = true →
    s.chip.restarting = false →
    s.chip.ptp.sync = some x →
    s.chip.ptp.reqAt = some u →
    s.chip.ptp.reqSeq = some m.seq →
    s.chip.ptp.master = some (m.portB, m.source) →
    s.chip.ptp.delays.length < 16 →
    Yields (.ptpDelayResp t m sec ns) s (fun c =>
      c.ptp.delays = (((x.2 - x.1) + ((qOf sec ns : Nat) - 27 * m.correction - (u : Int))) / 2) :: s.chip.ptp.delays ∧ c.ptp.reqSeq = none ∧
      c.fld Reg.PTP_CNT_DELAY_COUNT 0 = (s.chip.fld Reg.PTP_CNT_DELAY_COUNT 0 + 1) % 2 ^ 32 ∧
      c.sameRegs s.chip [Reg.PTP_CNT_DELAY_COUNT, Reg.PTP_PATH_DELAY_NS] ∧ c = { s.upon t with regs := c.regs, ptp := c.ptp })) ∧
  (∀ (s : State) (t : Nat),
    s.runs →
    s.chip.timeSource = 1 →
    s.chip.ptp.master.isSome = true →
    2 ≤ s.chip.ptpState →
    Yields (.delayReqSend t) s (fun c => c.ptp = { s.chip.ptp with reqSeq := some s.chip.ptp.seqNext, reqAt := none, seqNext := (s.chip.ptp.seqNext + 1) % 65536 })) ∧
  (∀ (s : State) (t : Nat) (b : Bool) (src : Nat) (f : Foreign),
    s.runs →
    s.chip.ptp.master = some (b, src) →
    s.chip.ptp.foreign.find? (fun g => g.portB == b && g.source == src) = some f →
    f.heard.headD 0 + s.chip.annTimeout f ≤ max s.chip.now t →
    Yields (.announceReceiptTimeout t) s (fun c => ∀ g ∈ c.ptp.foreign, ¬(g.portB = b ∧ g.source = src))) ∧
  (∀ (s : State) (t : Nat) (b : Bool) (src : Nat),
    s.runs →
    s.chip.ptp.master = some (b, src) →
    s.chip.ptp.validAt + secU 2 ≤ max s.chip.now t →
    Yields (.measurementTimeout t) s (fun c => c.ptp.master = none ∧ c.ptpState = (if s.chip.timeSource = 0 then 0 else 1) ∧ c.ptp.offsets = [] ∧
      ∀ g ∈ c.ptp.foreign, ¬(g.portB = b ∧ g.source = src))) ∧
  (∀ (s : State) (t : Nat) (slot : Fin 16) (body : List Byte),
    s.serving slot 0x0109 3 →
    u8 body 0 = 1 →
    timeBodyOk body = true →
    s.chip.stepRefused (u32 body 4) = none →
    Yields (.stepAuth t slot body) s (fun c => c.replied s.chip slot 0x0109 done [] ∧ c.ptp = { s.chip.ptp with pend := some .step })) ∧
  (∀ (s : State) (t : Nat) (slot : Fin 16) (body : List Byte),
    s.serving slot 0x0109 3 →
    u8 body 0 = 2 →
    timeBodyOk body = true →
    bit (u8 body 1) 0 = false →
    s.chip.setRefused false (u32 body 4) = none →
    Yields (.setTime t slot body) s (fun c => c.replied s.chip slot 0x0109 done [] ∧ c.deviceQ = qOf (u64 body 8) (u32 body 4) ∧ c.ptp.wasSet = true ∧
      c.isSet Reg.PTP_STATUS_TIME_VALID 0 = true)) ∧
  (∀ (s : State) (t : Nat),
    s.runs →
    Yields (.ptpClrCnt t) s (fun c => (∀ f ∈ ptpCounters, ∀ b, c.fld f b = 0) ∧ c.sameRegs s.chip ptpCounters ∧ c = { s.upon t with regs := c.regs }))

/-- In a module that runs: LINE_WRITE of a bound source that is no ST 2110-22 flow, for an active line inside a frame in progress, puts the line into the
buffer being written and its row among those that have arrived; READOUT_LINE of a pair whose decision has latched a buffer makes that line the newest
of its slot; FRAME_STORE_TRAINING_DONE without a failing channel sets READY, with one sets TRAIN_FAIL and the map of the failing channels; SCRUB_PASS
while SCRUB_EN is 1 counts the pass and the corrected errors; FIRST_TICK_OF_FULL_SERVICE of an enabled domain 1 ms or more after instant F begins full
service there; HOUSE_SAMPLE_TICK with free-running timing on counts a sample; FST_CLR_CNT clears the counters. -/
def Obligations.FrameStoreCommandsComplete : Prop :=
  (∀ (s : State) (t : Nat) (src : Fin 1024) (line row : Nat) (samples : List Nat) (anc : List (List Nat)) (f : Format) (b : Nat),
    s.runs →
    s.chip.bound src = true →
    s.chip.is22 src = false →
    s.chip.srcFormat src = some f →
    activeRow f line = some row →
    line ≠ (activeSpan f).1 →
    line ≠ (activeSpan f).2 →
    (s.chip.sync src).active = true →
    (s.chip.sync src).writing = some b →
    Yields (.lineWrite t src line samples anc false) s (fun c => row ∈ (c.sync src).arrived ∧ Tbl.get [] ((c.sync src).buf b).lines row = samples ∧
      (∀ k, k ≠ row → Tbl.get [] ((c.sync src).buf b).lines k = Tbl.get [] ((s.chip.sync src).buf b).lines k) ∧ (∀ k, k ≠ src.val → c.sync k = s.chip.sync k))) ∧
  (∀ (s : State) (t : Nat) (src : Fin 1120) (td : Fin 4) (line corrected : Nat) (errors : List TileError) (sideLate : Bool),
    s.runs →
    (s.chip.decision src td).latched.isSome = true →
    s.chip.readouts.any (fun k => k % 2 ^ 20 == src.val * 4 + td.val) = true →
    Yields (.readoutLine t src td line corrected errors sideLate) s (fun c => (c.slotAt (slotKey (src * 4 + td) true)).newest = line)) ∧
  (∀ (s : State) (t : Nat) (fail : Nat),
    s.runs →
    fail % 2 ^ 64 = 0 →
    Yields (.frameStoreTrainingDone t fail) s (fun c => c.isSet Reg.FST_STATUS_READY 0 = true ∧ c.fst = { s.chip.fst with ready := true } ∧
      c.sameRegs s.chip [Reg.FST_STATUS_READY] ∧ c = { s.upon t with regs := c.regs, fst := c.fst })) ∧
  (∀ (s : State) (t : Nat) (fail : Nat),
    s.runs →
    fail % 2 ^ 64 ≠ 0 →
    Yields (.frameStoreTrainingDone t fail) s (fun c => c.isSet Reg.FST_STATUS_TRAIN_FAIL 0 = true ∧ c.fld Reg.FST_TRAIN_MAP_LO_FAIL 0 = fail % 2 ^ 32 ∧
      c.fld Reg.FST_TRAIN_MAP_HI_FAIL 0 = fail / 2 ^ 32 % 2 ^ 32 ∧ c.logged Ev.fstTrainFail [fail, fail / 2 ^ 32] ∧ c = { s.upon t with regs := c.regs, log := c.log })) ∧
  (∀ (s : State) (t : Nat) (corrected : Nat) (errors : List TileError),
    s.runs →
    s.chip.isSet Reg.FST_CTRL_SCRUB_EN 0 = true →
    Yields (.scrubPass t corrected errors) s (fun c => c.fld Reg.FST_SCRUB_PASSES 0 = (s.chip.fld Reg.FST_SCRUB_PASSES 0 + 1) % 2 ^ Reg.FST_SCRUB_PASSES.width ∧
      c.fld Reg.FST_ECC_CE_COUNT 0 = min (s.chip.fld Reg.FST_ECC_CE_COUNT 0 + corrected) (2 ^ Reg.FST_ECC_CE_COUNT.width - 1) ∧
      c.fld Reg.FST_ECC_UE_COUNT 0 = min (s.chip.fld Reg.FST_ECC_UE_COUNT 0 + errors.length) (2 ^ Reg.FST_ECC_UE_COUNT.width - 1) ∧ c = { s.upon t with regs := c.regs })) ∧
  (∀ (s : State) (t : Nat) (td : Fin 4) (facts : List Remote) (drives : List DriveFact) (f : Nat),
    s.runs →
    s.chip.boot.fullAt = some f →
    f + msU 1 ≤ max s.chip.now t →
    s.chip.fullIn td = false →
    s.chip.tdOn td = true →
    Yields (.firstTickOfFullService t td facts drives) s (fun c => c.fullIn td = true)) ∧
  (∀ (s : State) (t : Nat) (sdi : List SdiAudio) (given : List (Fin 16384 × Nat)),
    s.runs →
    s.chip.tick.running = true →
    Yields (.houseSampleTick t sdi given) s (fun c => c.tick = { s.chip.tick with samples := s.chip.tick.samples + 1, sampleAt := max s.chip.now t })) ∧
  (∀ (s : State) (t : Nat),
    s.runs →
    Yields (.fstClrCnt t) s (fun c => c.fld Reg.FST_ECC_CE_COUNT 0 = 0 ∧ c.fld Reg.FST_ECC_UE_COUNT 0 = 0 ∧ c.fld Reg.FST_SCRUB_PASSES 0 = 0 ∧
      (∀ k, c.fld Reg.FST_WR_FRAMES_COUNT k = 0 ∧ c.fld Reg.FST_WR_INCOMPLETE_COUNT k = 0 ∧ c.fld Reg.FST_WR_SUBST_COUNT k = 0 ∧ c.fld Reg.FST_WR_COLLIDE_COUNT k = 0 ∧
        c.fld Reg.FST_ANC_DROP_COUNT k = 0 ∧ c.fld Reg.FST_SYNC_REPEAT_COUNT k = 0 ∧ c.fld Reg.FST_SYNC_DROP_COUNT k = 0 ∧ c.fld Reg.FST_SYNC_TILE_SUB_COUNT k = 0) ∧
      c = { s.upon t with regs := c.regs }))

/-- In a module that runs: OCCL_JOB of a domain whose job is open closes it; COMPOSE_FRAME of an enabled composer in full service shows the bytes fetched,
counts the frame, leaves no hole of the composer, and with late tiles sets LATE_SEEN and records CMP_FETCH_LATE; SURFACE_SWAP of a surface with a load
and an enabled owner makes its back buffer the front one and takes the load off its queue; CMP_CLR_CNT clears the counters. In full service, of a
session that may send them: a LAYOUT that passes every check is answered DONE; SURFACE_LOAD of a rectangle of an allocated surface is answered STARTED
and joins the surface's loads; SURFACE_READ of a rectangle is answered DONE with its pixels, tiles without error. PORT_CLOCK_STOP of an asynchronous
port with a clock marks the loss and counts it; PORT_CLOCK_WINDOW whose rate differs for the second time running makes the port resume anew;
PORT_RATE_MEASUREMENT of an enabled port shows its rate; AUDIO_INPUT_SAMPLE of an asynchronous input puts the frame into its FIFO; AUD_CLR_CNT clears
the counters. -/
def Obligations.ComposerAndSurfaceCommandsComplete : Prop :=
  (∀ (s : State) (t : Nat) (td : Fin 4),
    s.runs →
    (s.chip.dom td).occlOpen = true →
    Yields (.occlJob t td) s (fun c => (c.dom td).occlOpen = false ∧ c = { s.upon t with tick := c.tick, cmp := c.cmp })) ∧
  (∀ (s : State) (t : Nat) (cmp : Fin 32) (late : List LayerTile) (corrected : Nat) (errors : List LayerError) (stored : Nat),
    s.runs →
    s.chip.cmpOn cmp = true →
    s.chip.fullIn (s.chip.cmpTd cmp) = true →
    Yields (.composeFrame t cmp late corrected errors stored) s (fun c => c.fld Reg.CMP_C_FETCHED_BYTES cmp = stored % 2 ^ 32 ∧
      (∀ h ∈ c.cmp.holes, h.1 ≠ cmp.val) ∧ (late ≠ [] → c.isSet Reg.CMP_STATUS_LATE_SEEN 0 = true ∧
        c.logged Ev.cmpFetchLate [cmp, late.length, (s.chip.dom (s.chip.cmpTd cmp)).frame]))) ∧
  (∀ (s : State) (t : Nat),
    s.runs →
    Yields (.cmpClrCnt t) s (fun c => (∀ k, c.fld Reg.CMP_C_FRAMES_COUNT k = 0 ∧ c.fld Reg.CMP_C_LATE_TILES k = 0 ∧ c.fld Reg.CMP_L_REPEATED_COUNT k = 0 ∧
      c.fld Reg.CMP_L_FILLED_COUNT k = 0 ∧ c.fld Reg.CMP_L_DEMOTIONS_COUNT k = 0) ∧ c = { s.upon t with regs := c.regs })) ∧
  (∀ (s : State) (t : Nat) (surface : Fin 1024) (g : Surface) (l : SurfLoad) (r : List SurfLoad),
    s.runs →
    s.chip.surface surface = some g →
    g.loads = l :: r →
    s.chip.cmpOn g.owner = true →
    Yields (.surfaceSwap t surface) s (fun c => (c.surface surface).map Surface.front = some g.back ∧ (c.surface surface).map (fun x => x.loads.length) = some r.length ∧
      (∀ k, k ≠ surface.val → c.surface k = s.chip.surface k))) ∧
  (∀ (s : State) (t : Nat) (slot : Fin 16) (body : List Byte),
    s.serving slot 0x0105 1 →
    8 ≤ body.length →
    u8 body 1 ≤ 1 →
    s.chip.fullIn (s.chip.cmpTd (u8 body 0)) = true →
    (s.upon t).checkLayoutEarly body = none →
    ((s.upon t).admitLayout ((s.upon t).newLayout slot body false)).toOption.isSome = true →
    Yields (.layout t slot body) s (fun c => c.replied s.chip slot 0x0105 done [])) ∧
  (∀ (s : State) (t : Nat) (slot : Fin 16) (body : List Byte) (g : Surface),
    s.serving slot 0x0801 1 →
    u8 body 0 = 1 →
    bulkWriteOk body = true →
    body.length = 16 + 4 * (u16 body 12 * u16 body 14) →
    s.chip.surface (u32 body 4) = some g →
    surfaceRectOk g (u16 body 8) (u16 body 10) (u16 body 12) (u16 body 14) = true →
    s.chip.quarantined 2 = false →
    Yields (.surfaceLoad t slot body) s (fun c => c.replied s.chip slot 0x0801 started [] ∧
      (c.surface (u32 body 4)).map (fun x => x.loads.length) = some (g.loads.length + 1) ∧ (c.surface (u32 body 4)).map Surface.front = some g.front)) ∧
  (∀ (s : State) (t : Nat) (slot : Fin 16) (body : List Byte) (g : Surface),
    let x := u16 body 8
    let y := u16 body 10
    let w := u16 body 12
    let h := u16 body 14
    s.serving slot 0x0802 1 →
    u8 body 0 = 7 →
    bulkReadOk body = true →
    s.chip.surface (u32 body 4) = some g →
    surfaceRectOk g x y w h = true →
    u32 body 16 = w * h * 4 →
    s.chip.quarantined 3 = false →
    g.poison = [] →
    Yields (.surfaceRead t slot body) s (fun c => c.replied s.chip slot 0x0802 done ((readRect g.front x y w h).flatMap (beBytes 4)) ∧ c.cmp = s.chip.cmp)) ∧
  (∀ (s : State) (t : Nat) (port : Fin 12),
    s.runs →
    s.chip.portAsync port = true →
    (s.chip.audPort port).clock ≠ 0 →
    Yields (.portClockStop t port) s (fun c => (c.audPort port).clock = 0 ∧ (c.audPort port).muted = true ∧ c.fld Reg.AUD_PORT_RATE_RATE port = 0 ∧
      c.fld Reg.AUD_PORT_EVENTS_CLOCK_LOSSES port = min (s.chip.fld Reg.AUD_PORT_EVENTS_CLOCK_LOSSES port + 1) (2 ^ Reg.AUD_PORT_EVENTS_CLOCK_LOSSES.width - 1) ∧
      c.isSet Reg.AUD_STATUS_CLOCK_LOST_SEEN 0 = true ∧ c.logged Ev.audClockLost [port, (s.chip.audPort port).measured.getD 0] ∧
      c = { s.upon t with regs := c.regs, aud := c.aud, log := c.log })) ∧
  (∀ (s : State) (t : Nat) (port : Fin 12) (rate : Nat),
    s.runs →
    s.chip.portAsync port = true →
    (s.chip.audPort port).clock = 2 →
    ratesDiffer (s.chip.audPort port).rate rate = true →
    (s.chip.audPort port).odd = true →
    Yields (.portClockWindow t port rate) s (fun c => (c.audPort port).clock = 1 ∧ (c.audPort port).muted = true ∧ (c.audPort port).windows = [rate] ∧
      c.fld Reg.AUD_PORT_EVENTS_RATE_CHANGES port = min (s.chip.fld Reg.AUD_PORT_EVENTS_RATE_CHANGES port + 1) (2 ^ Reg.AUD_PORT_EVENTS_RATE_CHANGES.width - 1) ∧
      c.sameRegs s.chip [Reg.AUD_PORT_EVENTS_RATE_CHANGES] ∧ c = { s.upon t with regs := c.regs, aud := c.aud })) ∧
  (∀ (s : State) (t : Nat) (port : Fin 12) (rate : Nat),
    s.runs →
    s.chip.portOn port = true →
    s.chip.portAsync port = false ∨ (s.chip.audPort port).clock ≠ 0 →
    Yields (.portRateMeasurement t port rate) s (fun c => c.fld Reg.AUD_PORT_RATE_RATE port = rate % 2 ^ Reg.AUD_PORT_RATE_RATE.width ∧
      (c.audPort port).cls = rateClass rate ∧ (c.audPort port).measured = some rate)) ∧
  (∀ (s : State) (t : Nat) (port : Fin 12) (words : List Nat) (errors : Nat),
    s.runs →
    s.chip.portAsync port = true →
    (s.chip.audPort port).clock = 2 →
    Yields (.audioInputSample t port words errors) s (fun c => (c.audPort port).input = ((s.chip.audPort port).input.push words).1 ∧
      c.fld Reg.AUD_PORT_ERRORS_COUNT port = min (s.chip.fld Reg.AUD_PORT_ERRORS_COUNT port + errors) (2 ^ Reg.AUD_PORT_ERRORS_COUNT.width - 1))) ∧
  (∀ (s : State) (t : Nat),
    s.runs →
    Yields (.audClrCnt t) s (fun c => (∀ k, c.fld Reg.AUD_DST_CLIP_COUNT k = 0 ∧ c.fld Reg.AUD_DST_MISMATCH_COUNT k = 0 ∧ c.fld Reg.AUD_SRC_SLIP_COUNT k = 0 ∧
      c.fld Reg.AUD_PORT_EVENTS_CLOCK_LOSSES k = 0 ∧ c.fld Reg.AUD_PORT_ERRORS_COUNT k = 0) ∧ c = { s.upon t with regs := c.regs }))

/-- In a module that runs: LINK_STATE_CELL_SEND sends this device's link state on every port of the system; SPLICE_PORT_IN_SERVICE of an enabled, aligned
port, outside twin mode, with this device's version puts it in service with its neighbour and starts an election 2 ms later, and with another version
records SPL_PROTO_MISMATCH alone; SPLICE_PORT_OUT_OF_SERVICE takes it out; TICK_MASTER_ELECTION at its instant makes the electee master;
STEP_DOWN_TIMER judges the port's target again; SPLICE_SYNC_SEND of the channel's master takes the next sequence number; SPLICE_PTP_CELL on a port in
service counts the cell, and the outcome of a delay exchange gives DELAY_NS; CELL_RECEIVED counts a cell, a damaged one as an error too, and a flooded
tick cell gives its domain's tick; RESERVATION_EXCHANGE_DONE of a take that passes is answered DONE; RESERVATION_EXCHANGE_TIMEOUT ends the exchange
and its request has its response; IMPORT_LINE_RELEASE forgets what was gathered of the line, and a line outside the picture becomes the newest of its
slot; SPL_CLR_CNT clears the counters. -/
def Obligations.SpliceLinkCommandsComplete : Prop :=
  (∀ (s : State) (t : Nat),
    s.runs →
    Yields (.linkStateCellSend t) s (fun c => c = { s.upon t with sent := s.chip.systemPorts.map (fun p => .cell p 4 s.chip.linkWords) })) ∧
  (∀ (s : State) (t : Nat) (port : Fin 8) (neighbour : Fin 4096) (proto : Fin 256),
    s.runs →
    s.chip.spliceOn port = true →
    s.chip.bothAligned port = true →
    s.chip.inService port = false →
    s.chip.isSet Reg.SPL_STATUS_ID_CONFLICT 0 = false →
    proto.val = s.chip.fld Reg.SPL_STATUS_PROTO 0 →
    s.chip.twinOn = false →
    Yields (.splicePortInService t port neighbour proto) s (fun c => c.inService port = true ∧ c.neighbour port = neighbour.val ∧
      c.spl.electAt = some (max s.chip.now t + msU 2) ∧ Tbl.get 0 c.spl.heard port = max s.chip.now t)) ∧
  (∀ (s : State) (t : Nat) (port : Fin 8) (neighbour : Fin 4096) (proto : Fin 256),
    s.runs →
    s.chip.spliceOn port = true →
    s.chip.bothAligned port = true →
    s.chip.inService port = false →
    s.chip.isSet Reg.SPL_STATUS_ID_CONFLICT 0 = false →
    proto.val ≠ s.chip.fld Reg.SPL_STATUS_PROTO 0 →
    Yields (.splicePortInService t port neighbour proto) s (fun c =>
      c.logged Ev.splProtoMismatch [port + s.chip.fld Reg.SPL_STATUS_PROTO 0 * 256 + proto.val * 65536] ∧ c = { s.upon t with log := c.log })) ∧
  (∀ (s : State) (t : Nat) (port : Fin 8),
    s.runs →
    s.chip.inService port = true →
    s.chip.twinOn = false →
    Yields (.splicePortOutOfService t port true) s (fun c => c.inService port = false ∧ c.spl.electAt = some (max s.chip.now t + msU 2))) ∧
  (∀ (s : State) (t : Nat) (u : Nat),
    s.runs →
    s.chip.spl.electAt = some u →
    u ≤ max s.chip.now t →
    Yields (.tickMasterElection t) s (fun c => c.spl = { s.chip.spl with master := s.chip.electee, partAt := s.chip.spl.members, electAt := none })) ∧
  (∀ (s : State) (t : Nat) (port : Fin 8),
    s.runs →
    (s.chip.stepSt port).farMax.isSome = true →
    Yields (.stepDownTimer t port) s (fun c => c.fld Reg.SPL_P_STATE_TARGET port = c.targetStep port % 4 ∧ c.sameRegs s.chip [Reg.SPL_P_STATE_TARGET] ∧
      c = { s.upon t with regs := c.regs, lne := c.lne })) ∧
  (∀ (s : State) (t : Nat),
    s.runs →
    s.chip.channelMaster = true →
    Yields (.spliceSyncSend t) s (fun c => c.ptp = { s.chip.ptp with seqNext := (s.chip.ptp.seqNext + 1) % 65536 } ∧
      c.sent = s.chip.channelPorts.map (fun p => .cell p 3 [0, s.chip.ptp.seqNext, secOf (s.upon t).deviceQ, nsOf (s.upon t).deviceQ]) ∧
      c = { s.upon t with ptp := c.ptp, sent := c.sent })) ∧
  (∀ (s : State) (t : Nat) (port : Fin 8) (n residence : Nat),
    s.runs →
    s.chip.inService port = true →
    Yields (.splicePtpCell t port (.delay n) residence) s (fun c => c.fld Reg.SPL_P_DELAY_NS port = min n 4294967294 ∧
      c.fld Reg.SPL_P_CELLS_COUNT port = (s.chip.fld Reg.SPL_P_CELLS_COUNT port + 1) % 2 ^ 32 ∧ c.sameRegs s.chip [Reg.SPL_P_DELAY_NS, Reg.SPL_P_CELLS_COUNT] ∧
      c = { s.upon t with regs := c.regs })) ∧
  (∀ (s : State) (t : Nat) (port : Fin 8) (body : List Byte) (fecOk : Bool) (news : CellNews),
    s.runs →
    s.chip.spliceOn port = true →
    body.length = 256 →
    (fecOk && cellCrcOk body) = false →
    Yields (.cellReceived t port body fecOk news) s (fun c => c.fld Reg.SPL_P_CELLS_COUNT port = (s.chip.fld Reg.SPL_P_CELLS_COUNT port + 1) % 2 ^ 32 ∧
      c.fld Reg.SPL_P_CELL_ERR_COUNT port = min (s.chip.fld Reg.SPL_P_CELL_ERR_COUNT port + 1) (2 ^ Reg.SPL_P_CELL_ERR_COUNT.width - 1) ∧
      c.sameRegs s.chip [Reg.SPL_P_CELLS_COUNT, Reg.SPL_P_CELL_ERR_COUNT] ∧ c = { s.upon t with regs := c.regs })) ∧
  (∀ (s : State) (t : Nat) (port : Fin 8) (body : List Byte) (td : Fin 4) (sec ns : Nat),
    s.runs →
    s.chip.spliceOn port = true →
    s.chip.inService port = true →
    s.chip.twinOn = false →
    body.length = 256 →
    cellCrcOk body = true →
    u8 body 0 = 2 →
    bits (u16 body 2) 14 12 = 0 →
    bit (u16 body 2) 15 = true →
    Yields (.cellReceived t port body true (.ticks [(td, sec, ns)])) s (fun c => Tbl.get none c.spl.ticks td = some (qOf sec ns) ∧
      c.fld Reg.SPL_P_CELLS_COUNT port = (s.chip.fld Reg.SPL_P_CELLS_COUNT port + 1) % 2 ^ 32 ∧ c = { s.upon t with regs := c.regs, spl := c.spl, sent := c.sent })) ∧
  (∀ (s : State) (t : Nat) (slot : Fin 17) (facts : List Remote) (e : Exchange) (c1 : Chip),
    let c0 : Chip := { s.upon t with spl := { s.chip.spl with exchanges := s.chip.spl.exchanges.filter (fun x => x.slot != slot.val) } }
    s.runs →
    slot.val < 16 →
    s.chip.spl.exchanges.find? (fun x => x.slot == slot.val) = some e →
    (s.chip.session slot).id = e.session →
    (s.chip.session slot).state = .opened →
    e.asks.any s.chip.mustHold = false →
    c0.admitAll (s.chip.lan.takeId + 1) e.nb e.notify slot e.session (if e.salvo then e.asks.length else 0) false 0 facts e.asks = .ok c1 →
    Yields (.reservationExchangeDone t slot facts) s (fun c => c.lan.takeId = s.chip.lan.takeId + 1 ∧
      c.replied s.chip slot (if e.salvo then 0x0102 else 0x0101) done (beBytes 8 (s.chip.lan.takeId + 1)) ∧ ∀ x ∈ c.spl.exchanges, x.slot ≠ slot.val)) ∧
  (∀ (s : State) (t : Nat) (slot : Fin 17) (e : Exchange),
    s.runs →
    s.chip.spl.exchanges.find? (fun x => x.slot == slot.val) = some e →
    (s.chip.session slot).id = e.session →
    (s.chip.session slot).state = .opened →
    Yields (.reservationExchangeTimeout t slot) s (fun c => (∀ x ∈ c.spl.exchanges, x.slot ≠ slot.val) ∧ (s.chip.session slot).done < (c.session slot).done ∧
      (c.session slot).responses.any (fun r => r.seq == (s.chip.session slot).done + 1 && r.msgType == (if e.salvo then 0x0102 else 0x0101)) = true)) ∧
  (∀ (s : State) (t : Nat) (dev : Fin 4096) (src : Fin 1120) (td : Fin 4) (line : Nat) (x : Import),
    let k := pairKey (some dev.val) src td
    s.runs →
    s.chip.spl.imports.find? (fun y => y.pair == k) = some x →
    Yields (.importLineRelease t dev src td line) s (fun c => Tbl.get [] c.spl.gathered (k * 8192 + line) = [] ∧
      ((sourceRow src (x.format.getD ⟨3840, 2160, 0, 0, 10, 9⟩) line).isNone = true → (c.slotAt (slotKey k false)).newest = line) ∧
      c = { s.upon t with fst := c.fst, spl := c.spl })) ∧
  (∀ (s : State) (t : Nat),
    s.runs →
    Yields (.splClrCnt t) s (fun c => (∀ k, c.fld Reg.SPL_P_CELLS_COUNT k = 0 ∧ c.fld Reg.SPL_P_CELL_ERR_COUNT k = 0 ∧ c.fld Reg.SPL_TWIN_HANDOVERS k = 0) ∧
      c.sameRegs s.chip [Reg.SPL_P_CELLS_COUNT, Reg.SPL_P_CELL_ERR_COUNT, Reg.SPL_TWIN_HANDOVERS] ∧ c = { s.upon t with regs := c.regs }))

/-- In a module that runs: TWIN_ROLE_DECISION of a device that prefers to be active and sees no TWIN_ACT makes it active and asserts TWIN_ACT, and of one
that sees it makes it the standby; MIRROR_ACK_TIMEOUT with a response 50 microseconds old lets every withheld response go and leaves the standby
unsynchronised; TWIN_ACT_RELEASE on a synchronised standby plans its handover; TWIN_HANDOVER at a tick after its earliest instant counts it and
changes the role; SILENCE_DETECTED of a bound position marks it silent and records FWA_AUDIO_ALARM; FLOW_WATCH_INTERVAL_CLOSE of an open job counts
the interval and starts the next; DEEP_START of an analyser whose SRC has a packet flow runs it from record 0, and otherwise is refused by CFG_REJECT;
DEEP_STOP stops it; FWA_CLR_CNT clears the counters and GEN_CLR_CNT changes nothing. In full service, of a session that may send them: HANDOVER with a
synchronised standby is answered DONE and planned 5 ms ahead; REJOIN in a splice system is answered DONE. -/
def Obligations.TwinAndFlowWatchCommandsComplete : Prop :=
  (∀ (s : State) (t : Nat),
    s.runs →
    s.chip.twinOn = true →
    s.chip.fld Reg.SPL_TWIN_ROLE 0 = 0 →
    s.chip.fullIn 0 = true →
    bit (u8 (s.chip.record tyTwin 0) 0) 1 = true →
    s.chip.spl.barred = false →
    Yields (.twinRoleDecision t false) s (fun c => c.fld Reg.SPL_TWIN_ROLE 0 = 1 ∧ c.spl.act = true ∧ c.isSet Reg.SPL_TWIN_ACT_IN 0 = true ∧
      Out.pin 6 false (max s.chip.now t) ∈ c.sent)) ∧
  (∀ (s : State) (t : Nat),
    s.runs →
    s.chip.twinOn = true →
    s.chip.fld Reg.SPL_TWIN_ROLE 0 = 0 →
    s.chip.fullIn 0 = true →
    bit (u8 (s.chip.record tyTwin 0) 0) 1 = true →
    Yields (.twinRoleDecision t true) s (fun c => c.fld Reg.SPL_TWIN_ROLE 0 = 2 ∧ c.spl = s.chip.spl ∧ c.isSet Reg.SPL_TWIN_ACT_IN 0 = true)) ∧
  (∀ (s : State) (t : Nat),
    s.runs →
    s.chip.spl.mirror.any (fun x => decide (x.2.2 + usU 50 ≤ max s.chip.now t)) = true →
    Yields (.mirrorAckTimeout t) s (fun c => c.spl.mirror = [] ∧ c.isSet Reg.SPL_TWIN_SYNCED 0 = false ∧ c.isSet Reg.SPL_TWIN_STBY_IN 0 = false ∧
      c.spl.unsync = 1)) ∧
  (∀ (s : State) (t : Nat),
    s.runs →
    s.chip.standby = true →
    s.chip.spl.barred = false →
    s.chip.isSet Reg.SPL_TWIN_SYNCED 0 = true →
    Yields (.twinActRelease t) s (fun c => c.spl = { s.chip.spl with handover := some (max s.chip.now t + usU 100, 2) } ∧ c.isSet Reg.SPL_TWIN_ACT_IN 0 = false ∧
      c.sameRegs s.chip [Reg.SPL_TWIN_ACT_IN] ∧ c = { s.upon t with regs := c.regs, spl := c.spl })) ∧
  (∀ (s : State) (t : Nat) (u cause : Nat),
    s.runs →
    s.chip.spl.handover = some (u, cause) →
    s.chip.twinOn = true →
    s.chip.fld Reg.SPL_TWIN_ROLE 0 ≠ 0 →
    u ≤ (s.chip.dom 0).tickAt →
    Yields (.twinHandover t) s (fun c => c.fld Reg.SPL_TWIN_ROLE 0 = (if s.chip.standby && !s.chip.spl.barred then 1 else 2) ∧ c.spl.handover = none ∧
      c.fld Reg.SPL_TWIN_HANDOVERS 0 = min (s.chip.fld Reg.SPL_TWIN_HANDOVERS 0 + 1) (2 ^ Reg.SPL_TWIN_HANDOVERS.width - 1))) ∧
  (∀ (s : State) (t : Nat) (slot : Fin 16) (body : List Byte),
    s.serving slot 0x0108 3 →
    body = [] →
    s.chip.canHandOver = true →
    Yields (.handover t slot body) s (fun c => c.replied s.chip slot 0x0108 done [] ∧ c.spl.handover = some (max s.chip.now t + msU 5, 1))) ∧
  (∀ (s : State) (t : Nat) (slot : Fin 16) (body : List Byte),
    s.serving slot 0x0107 3 →
    body = [] →
    s.chip.inSystem = true →
    Yields (.rejoin t slot body) s (fun c => c.replied s.chip slot 0x0107 done [])) ∧
  (∀ (s : State) (t : Nat) (pos : Fin 16384),
    s.runs →
    s.chip.audBound false pos = true →
    s.chip.fwa.silent.contains pos.val = false →
    Tbl.get 0 s.chip.fwa.loudAt pos + s.chip.silenceTime ≤ max s.chip.now t →
    Yields (.silenceDetected t pos) s (fun c => pos.val ∈ c.fwa.silent ∧ c.fld Reg.FWA_CH_STATE_SILENT pos = 1 ∧
      c.logged Ev.fwaAudioAlarm [pos + 65536, dbBelow (Tbl.get 0 s.chip.fwa.peaks pos)] ∧ c.sameRegs s.chip [Reg.FWA_CH_STATE_SILENT] ∧
      c = { s.upon t with regs := c.regs, fwa := c.fwa, log := c.log })) ∧
  (∀ (s : State) (t : Nat) (facts : List WatchFact) (cs : List (Fin 16384 × Nat)),
    s.runs →
    (s.chip.dom 0).fwaOpen = true →
    s.chip.fwa.ticks ≠ 0 →
    Yields (.flowWatchIntervalClose t facts cs) s (fun c => c.fld Reg.FWA_INTERVALS_COUNT 0 = (s.chip.fld Reg.FWA_INTERVALS_COUNT 0 + 1) % 2 ^ 32 ∧ c.fwa.ticks = 0 ∧
      (c.dom 0).fwaOpen = false ∧ c = { s.upon t with regs := c.regs, tick := c.tick, fwa := c.fwa, log := c.log })) ∧
  (∀ (s : State) (t : Nat) (ana : Fin 8),
    s.runs →
    s.chip.packetSource (s.chip.fld Reg.FWA_D_CFG_SRC ana) = true →
    Yields (.deepStart t ana) s (fun c => c.fld Reg.FWA_D_STATE_RUNNING ana = 1 ∧ c.fld Reg.FWA_D_STATE_FULL ana = 0 ∧ c.fld Reg.FWA_D_NEXT_RECORD ana = 0 ∧
      c.sameRegs s.chip [Reg.FWA_D_STATE_RUNNING, Reg.FWA_D_STATE_FULL, Reg.FWA_D_NEXT_RECORD] ∧ c = { s.upon t with regs := c.regs, fwa := c.fwa })) ∧
  (∀ (s : State) (t : Nat) (ana : Fin 8),
    s.runs →
    s.chip.packetSource (s.chip.fld Reg.FWA_D_CFG_SRC ana) = false →
    Yields (.deepStart t ana) s (fun c => c.isSet Reg.FWA_STATUS_CFG_REJECT 0 = true ∧ c.sameRegs s.chip [Reg.FWA_STATUS_CFG_REJECT] ∧ c = { s.upon t with regs := c.regs })) ∧
  (∀ (s : State) (t : Nat) (ana : Fin 8),
    s.runs →
    Yields (.deepStop t ana) s (fun c => c.fld Reg.FWA_D_STATE_RUNNING ana = 0 ∧ c.sameRegs s.chip [Reg.FWA_D_STATE_RUNNING] ∧ c = { s.upon t with regs := c.regs })) ∧
  (∀ (s : State) (t : Nat),
    s.runs →
    Yields (.fwaClrCnt t) s (fun c => c.fld Reg.FWA_INTERVALS_COUNT 0 = 0 ∧ (∀ k, c.fld Reg.FWA_CH_CS_CRC_COUNT k = 0 ∧ c.fld Reg.FWA_D_LOST_COUNT k = 0) ∧
      c.sameRegs s.chip [Reg.FWA_CH_CS_CRC_COUNT, Reg.FWA_D_LOST_COUNT, Reg.FWA_INTERVALS_COUNT] ∧ c = { s.upon t with regs := c.regs })) ∧
  (∀ (s : State) (t : Nat),
    s.runs →
    exec (.genClrCnt t) s = .next { s with chip := s.upon t })

/-- In full service, of a session that may send it, each CAPTURE request whose body has its length and that passes every check of R482 is answered, DONE
unless said otherwise: ARM makes the set ARMED, or TRIGGERED when it enables no cause; TRIGGER of an armed set that enables the message triggers it
with cause 2; STOP of a set that records, outside the supply hold, makes it COMPLETE; DELETE frees the set; FORMAT is answered STARTED, forgets every
set and takes the store out of readiness; PLAY cues the player at its index; PAUSE, RESUME and STOP_PLAYER of a player in a state that R476 allows
wait for its tick; REPLAY is answered STARTED and begins; CAPTURE_STORE_READ of whole blocks within a present drive returns them. -/
def Obligations.CaptureRequestsComplete : Prop :=
  (∀ (s : State) (t : Nat) (slot : Fin 16) (body : List Byte),
    s.serving slot 0x0601 1 →
    u8 body 0 = 1 →
    28 ≤ body.length →
    body.length = armLength body →
    (s.upon t).checkArm body = none →
    Yields (.arm t slot body) s (fun c => c.replied s.chip slot 0x0601 done [] ∧
      (c.capSet (u8 (body.drop 4) 0)).state = (if u8 (body.drop 4) 1 % 8 = 0 then 2 else 1) ∧ (c.capSet (u8 (body.drop 4) 0)).body = body.drop 4)) ∧
  (∀ (s : State) (t : Nat) (slot : Fin 16) (body : List Byte),
    let i := u8 body 4
    s.serving slot 0x0601 1 →
    u8 body 0 = 2 →
    body.length = 8 →
    setBodyBad body = false →
    s.chip.cap.ready = true →
    (s.chip.capSet i).state = 1 →
    (s.chip.capSet i).causeOn 1 = true →
    Yields (.trigger t slot body) s (fun c => c.replied s.chip slot 0x0601 done [] ∧ (c.capSet i).state = 2 ∧ (c.capSet i).cause = 2 ∧
      (c.capSet i).trig = some (s.upon t).uptime ∧ ∀ k, k ≠ i → c.capSet k = s.chip.capSet k)) ∧
  (∀ (s : State) (t : Nat) (slot : Fin 16) (body : List Byte),
    let i := u8 body 4
    s.serving slot 0x0601 1 →
    u8 body 0 = 3 →
    body.length = 8 →
    setBodyBad body = false →
    s.chip.cap.ready = true →
    (s.chip.capSet i).live = true →
    s.chip.cap.hold = false →
    Yields (.stop t slot body) s (fun c => c.replied s.chip slot 0x0601 done [] ∧ (c.capSet i).state = 3 ∧ (c.capSet i).endAt = (s.upon t).uptime)) ∧
  (∀ (s : State) (t : Nat) (slot : Fin 16) (body : List Byte),
    let i := u8 body 4
    s.serving slot 0x0601 3 →
    u8 body 0 = 4 →
    body.length = 8 →
    setBodyBad body = false →
    s.chip.cap.ready = true →
    (s.chip.capSet i).state = 3 ∨ (s.chip.capSet i).state = 4 →
    s.chip.cap.replay = none →
    s.chip.setRead i = false →
    Yields (.delete t slot body) s (fun c => c.replied s.chip slot 0x0601 done [] ∧ c.capSet i = CapSet.reset ∧ Tbl.get [] c.cap.headers i = [])) ∧
  (∀ (s : State) (t : Nat) (slot : Fin 16) (body : List Byte),
    s.serving slot 0x0601 3 →
    u8 body 0 = 5 →
    body.length = 4 →
    zeroAt body 1 3 = true →
    s.chip.enabledDrives ≠ [] →
    s.chip.liveSets = [] →
    s.chip.cap.players.any (fun e => e.2.reads) = false →
    s.chip.cap.replay = none →
    s.chip.cap.format = none →
    Yields (.format t slot body) s (fun c => c.replied s.chip slot 0x0601 started [] ∧ c.cap.sets = [] ∧ c.cap.ready = false ∧
      c.isSet Reg.CAP_STATUS_STORE_READY 0 = false ∧ c.cap.format.isSome = true)) ∧
  (∀ (s : State) (t : Nat) (slot : Fin 16) (body : List Byte),
    let n := u8 body 4
    s.serving slot 0x0601 1 →
    u8 body 0 = 6 →
    body.length = 24 →
    s.chip.checkPlay body = none →
    Yields (.play t slot body) s (fun c => c.replied s.chip slot 0x0601 done [] ∧ (c.player n).state = 1 ∧ (c.player n).set = u8 body 5 ∧
      (c.player n).ch = u8 body 6 ∧ (c.player n).start = u32 body 8 ∧ ∀ k, k ≠ n → c.player k = s.chip.player k)) ∧
  (∀ (s : State) (t : Nat) (slot : Fin 16) (body : List Byte),
    let n := u8 body 4
    s.serving slot 0x0601 1 →
    u8 body 0 = 7 →
    u8 body 5 = 1 →
    body.length = 8 →
    zeroAt body 1 3 = true →
    zeroAt body 6 2 = true →
    n ≤ 31 →
    s.chip.cap.ready = true →
    (s.chip.player n).state = 2 →
    Yields (.pause t slot body) s (fun c => c.replied s.chip slot 0x0601 done [] ∧
      c.player n = { s.chip.player n with next := (s.chip.player n).next ++ [(2, max s.chip.now t + msU 1, none)] })) ∧
  (∀ (s : State) (t : Nat) (slot : Fin 16) (body : List Byte),
    let n := u8 body 4
    s.serving slot 0x0601 1 →
    u8 body 0 = 7 →
    u8 body 5 = 2 →
    body.length = 8 →
    zeroAt body 1 3 = true →
    zeroAt body 6 2 = true →
    n ≤ 31 →
    s.chip.cap.ready = true →
    (s.chip.player n).state = 3 →
    Yields (.resume t slot body) s (fun c => c.replied s.chip slot 0x0601 done [] ∧
      c.player n = { s.chip.player n with next := (s.chip.player n).next ++ [(3, max s.chip.now t + msU 1, none)] })) ∧
  (∀ (s : State) (t : Nat) (slot : Fin 16) (body : List Byte),
    let n := u8 body 4
    s.serving slot 0x0601 1 →
    u8 body 0 = 7 →
    u8 body 5 = 3 →
    body.length = 8 →
    zeroAt body 1 3 = true →
    zeroAt body 6 2 = true →
    n ≤ 31 →
    s.chip.cap.ready = true →
    1 ≤ (s.chip.player n).state →
    (s.chip.player n).state ≤ 4 →
    Yields (.stopPlayer t slot body) s (fun c => c.replied s.chip slot 0x0601 done [] ∧
      c.player n = { s.chip.player n with next := (s.chip.player n).next ++ [(4, max s.chip.now t + msU 1, none)] })) ∧
  (∀ (s : State) (t : Nat) (slot : Fin 16) (body : List Byte),
    let i := u8 body 4
    let x := s.chip.capSet i
    s.serving slot 0x0601 2 →
    u8 body 0 = 8 →
    body.length = 8 →
    setBodyBad body = false →
    s.chip.cap.ready = true →
    x.state = 3 ∨ x.state = 4 →
    s.chip.cap.replay = none →
    (x.channels.any s.chip.playerOn || (List.range 32).any (fun k => x.watched.contains (0x8000 + k) && s.chip.cmpOn k)) = false →
    x.granules ≤ s.chip.freeGranules →
    s.chip.bandwidthOk x.rates.sum = true →
    Yields (.replay t slot body) s (fun c => c.replied s.chip slot 0x0601 started [] ∧ c.cap.replay.map Replay.set = some i ∧ c.cap.replay.map Replay.index = some 0 ∧
      c.fld Reg.CAP_RP_STATE_STATE 0 = 1 ∧ c.fld Reg.CAP_RP_FRAMES_COUNT 0 = 0)) ∧
  (∀ (s : State) (t : Nat) (slot : Fin 16) (body data : List Byte),
    s.serving slot 0x0802 1 →
    u8 body 0 = 4 →
    bulkReadOk body = true →
    u32 body 4 ≤ 3 →
    u64 body 8 % 4096 = 0 →
    u32 body 16 % 4096 = 0 →
    (s.chip.drive (u32 body 4)).present = true →
    u64 body 8 + u32 body 16 ≤ 1048576 + 268435456 * (s.chip.drive (u32 body 4)).extents →
    Yields (.captureStoreRead t slot body data) s (fun c => c.cap = s.chip.cap ∧ c.replied s.chip slot 0x0802 done
      ((List.range (u32 body 16)).map (fun i => s.chip.storeByte (u32 body 4) (u64 body 8 + i) (data.getD i 0)))))

/-- In a module that runs: FORMAT_DONE ends the format; REPLAY_TICK at its instant goes on to the next kept frame of the replay, or ends it after the
last; CAP_TRIG_EDGE triggers an armed set that enables the pin and that edge, with cause 1; POST_TRIGGER_END outside the supply hold makes a set that
records COMPLETE once the time after its trigger is over; CAPTURE_COMMIT of a set that records, one second after the last, commits its header now;
GAP_RECORD_WRITE with room in staging writes the losses gathered; NVME_COMPLETION with an error is counted, and without one moves the records to the
set while its reservation holds them; DRIVE_FAILURE marks the drive failed, and of an enabled drive takes the store out of readiness; CAP_CLR_CNT
clears the counters. -/
def Obligations.RecordingCommandsComplete : Prop :=
  (∀ (s : State) (t : Nat) (j : FlashJob),
    s.runs →
    s.chip.cap.format = some j →
    Yields (.formatDone t) s (fun c => c.cap.format = none ∧ c.isSet Reg.CAP_STATUS_STORE_READY 0 = c.cap.ready)) ∧
  (∀ (s : State) (t : Nat) (facts : List ReplayFact) (r : Replay),
    s.runs →
    s.chip.cap.replay = some r →
    r.notBefore ≤ max s.chip.now t →
    r.index + 1 < (s.chip.capSet r.set).ticks.length →
    Yields (.replayTick t facts) s (fun c =>
      c.cap = { s.chip.cap with replay := some { r with index := r.index + 1, notBefore := max s.chip.now t + framePeriod (s.chip.capSet r.set).rate } })) ∧
  (∀ (s : State) (t : Nat) (facts : List ReplayFact) (r : Replay),
    s.runs →
    s.chip.cap.replay = some r →
    r.notBefore ≤ max s.chip.now t →
    (s.chip.capSet r.set).ticks.length ≤ r.index + 1 →
    Yields (.replayTick t facts) s (fun c => c.cap.replay = none ∧ c.fld Reg.CAP_RP_STATE_STATE 0 = (if r.cause = 0 then 2 else 3))) ∧
  (∀ (s : State) (t : Nat) (falling : Bool) (i : Nat),
    s.runs →
    (s.chip.capSet i).state = 1 →
    (s.chip.capSet i).causeOn 0 = true →
    bit (u8 (s.chip.capSet i).body 1) 3 = falling →
    Yields (.capTrigEdge t falling) s (fun c => (c.capSet i).state = 2 ∧ (c.capSet i).cause = 1 ∧ (c.capSet i).trig = some (s.upon t).uptime ∧
      c = { s.upon t with cap := c.cap })) ∧
  (∀ (s : State) (t : Nat) (set : Fin 256) (u : Nat),
    let x := s.chip.capSet set
    s.runs →
    x.live = true →
    s.chip.cap.hold = false →
    x.endAt = 0 →
    x.trig = some u →
    x.postMs ≠ 0 →
    u + x.postMs * 1000000 ≤ (s.upon t).uptime →
    Yields (.postTriggerEnd t set) s (fun c => (c.capSet set).state = 3 ∧ (c.capSet set).endAt = u + x.postMs * 1000000)) ∧
  (∀ (s : State) (t : Nat) (set : Fin 256),
    s.runs →
    (s.chip.capSet set).live = true →
    s.chip.cap.hold = false →
    (s.chip.capSet set).committedAt + 1000000000 ≤ (s.upon t).uptime →
    Yields (.captureCommit t set) s (fun c => (c.capSet set).committedAt = (s.upon t).uptime ∧ (c.capSet set).state = (s.chip.capSet set).state ∧
      (∀ k, k ≠ set.val → c.capSet k = s.chip.capSet k) ∧ Tbl.get [] c.cap.headers set = c.headerOf set ∧ c = { s.upon t with cap := c.cap })) ∧
  (∀ (s : State) (t : Nat) (set : Fin 256) (ch : Fin 32) (g : Nat × Nat × Nat × Nat),
    let k := (s.chip.capSet set).chan ch
    s.runs →
    (s.chip.capSet set).live = true →
    k.takes 32 = true →
    k.gap = some g →
    Yields (.gapRecordWrite t set ch none) s (fun c => ((c.capSet set).chan ch).gap = none ∧ (c.capSet set).gaps = true ∧
      ((c.capSet set).chan ch).staged = k.staged ++ [{ kind := 3, uptime := g.2.2.1, frame := g.2.1, bytes := gapBytes g.1 g.2.1 g.2.2.1 g.2.2.2 }] ∧
      ((c.capSet set).chan ch).lost = k.lost + g.2.1)) ∧
  (∀ (s : State) (t : Nat) (link : Fin 4) (status : Fin 65536) (set : Fin 256) (ch : Fin 32) (n : Nat),
    s.runs →
    status.val ≠ 0 →
    Yields (.nvmeCompletion t link status set ch n) s (fun c =>
      c.fld Reg.CAP_DRV_ERRORS_COUNT link = min (s.chip.fld Reg.CAP_DRV_ERRORS_COUNT link + 1) (2 ^ Reg.CAP_DRV_ERRORS_COUNT.width - 1) ∧
      c.sameRegs s.chip [Reg.CAP_DRV_ERRORS_COUNT] ∧ c = { s.upon t with regs := c.regs })) ∧
  (∀ (s : State) (t : Nat) (link : Fin 4) (set : Fin 256) (ch : Fin 32) (n : Nat),
    let x := (s.chip.capSet set).modChan ch (fun k => { k with fresh := k.fresh ++ k.staged.take n, staged := k.staged.drop n })
    s.runs →
    (s.chip.capSet set).live = true →
    s.chip.cap.hold = false →
    x.used ≤ x.reserved →
    Yields (.nvmeCompletion t link 0 set ch n) s (fun c => c.capSet set = x ∧ c.fld Reg.CAP_K_RECORDS_COUNT ch =
      (s.chip.fld Reg.CAP_K_RECORDS_COUNT ch + ((((s.chip.capSet set).chan ch).staged.take n).filter (fun r => r.kind != 3)).length) % 2 ^ Reg.CAP_K_RECORDS_COUNT.width)) ∧
  (∀ (s : State) (t : Nat) (link : Fin 4) (reason : Fin 16) (status : Fin 65536) (lost : List (Fin 32 × Nat)),
    s.runs →
    Yields (.driveFailure t link reason status lost) s (fun c => (c.drive link).failed = true ∧ c.isSet Reg.CAP_STATUS_DRIVE_FAIL_SEEN 0 = true ∧
      (link.val ∈ s.chip.enabledDrives → c.cap.ready = false ∧ c.isSet Reg.CAP_STATUS_STORE_READY 0 = false))) ∧
  (∀ (s : State) (t : Nat),
    s.runs →
    Yields (.capClrCnt t) s (fun c => (∀ k, c.fld Reg.CAP_DRV_ERRORS_COUNT k = 0 ∧ c.fld Reg.CAP_K_GAPS_COUNT k = 0 ∧ c.fld Reg.CAP_P_REPEATS_COUNT k = 0) ∧
      c.sameRegs s.chip [Reg.CAP_DRV_ERRORS_COUNT, Reg.CAP_K_GAPS_COUNT, Reg.CAP_P_REPEATS_COUNT] ∧ c = { s.upon t with regs := c.regs }))

/-- In a module that runs: OPEN with a key slot in use, a MAC that holds, a new nonce, a privilege within the ceiling and a free slot makes the lowest
free slot half-open with the fields of R525 and sends OPEN_ACK; SEALED to an identifier of no session is rejected with LAN_NO_SESSION and counted, and
one of a session whose tag holds and whose counter is new leaves the session open, counts it and moves its highest counter and its last instant;
HALF_OPEN_TIMEOUT after 2 s frees a half-open slot; REASSEMBLY_TIMEOUT after 1 s discards the incomplete request and counts it; ACK_TIMER with a
request unanswered sends a message on channel 4; NOTICE_RESEND sends the first unacknowledged notice again and doubles its interval up to 640 ms;
SESSION_IDLE_TIMEOUT after IDLE_S frees the slot and records LAN_SESSION_CLOSED with cause 2; CLOSE_ALL frees every slot; LAN_CLR_CNT clears the
counters and the LOST count of every slot. -/
def Obligations.SessionsComplete : Prop :=
  (∀ (s : State) (t : Nat) (port : Fin 2) (ipv6 : Bool) (addr udpPort : Nat) (b : List Byte) (session : Nat) (nonce : List Byte) (ceiling : Nat) (key : List Byte) (slot : Nat) (rest : List Nat),
    s.runs →
    s.chip.lanCarries port = true →
    openOk b = true →
    u8 b 16 < 16 →
    keyEntry s.mem (u8 b 16) = some (ceiling, key) →
    hmac key (b.take 56) = bytesAt b 56 32 →
    (∀ e ∈ s.chip.lan.nonces, e.1 ≠ u8 b 16 ∨ e.2.1 ≠ bytesAt b 24 32) →
    u8 b 17 ≤ ceiling →
    s.chip.freeSlots = slot :: rest →
    s.chip.drawOk session nonce = true →
    Yields (.openSession t port ipv6 addr udpPort b session nonce) s (fun c =>
      c.session slot = { Session.free with
        state := .halfOpen, id := session, keyId := u8 b 16, priv := u8 b 17, port := port, ipv6 := ipv6, addr := addr, udpPort := udpPort,
        maxDgram := min (u16 b 18) s.chip.dgramLimit, openedAt := max s.chip.now t, lastAt := max s.chip.now t,
        key := sessionKey key (bytesAt b 24 32) nonce session } ∧
      c.sent = [.openAck session (bytesAt b 24 32) nonce (min (u16 b 18) s.chip.dgramLimit) (u8 b 17)] ∧
      (u8 b 16, bytesAt b 24 32, max s.chip.now t) ∈ c.lan.nonces ∧ c = { s.upon t with lan := c.lan, sent := c.sent })) ∧
  (∀ (s : State) (t : Nat) (port : Fin 2) (ipv6 : Bool) (addr udpPort : Nat) (b : List Byte),
    s.runs →
    s.chip.lanCarries port = true →
    outerOk 3 b = true →
    (List.range 16).find? (fun i => (s.chip.session i).state != .free && (s.chip.session i).id == u32 b 4) = none →
    Yields (.sealed t port ipv6 addr udpPort b) s (fun c =>
      c.sent = [.reject (u32 b 4) 0x1107] ∧ c.isSet Reg.LAN_STATUS_AUTH_FAIL_SEEN 0 = true ∧
      c.fld Reg.LAN_AUTH_FAIL_COUNT 0 = min (s.chip.fld Reg.LAN_AUTH_FAIL_COUNT 0 + 1) 4294967295 ∧
      c.logged Ev.lanAuthFail [port + 48 + 512, u32 b 4, addr] ∧
      c.sameRegs s.chip [Reg.LAN_STATUS_AUTH_FAIL_SEEN, Reg.LAN_AUTH_FAIL_COUNT] ∧ c = { s.upon t with regs := c.regs, log := c.log, sent := c.sent })) ∧
  (∀ (s : State) (t : Nat) (port : Fin 2) (ipv6 : Bool) (addr udpPort : Nat) (b : List Byte) (slot : Nat) (p : List Byte),
    s.runs →
    s.chip.lanCarries port = true →
    outerOk 3 b = true →
    (List.range 16).find? (fun i => (s.chip.session i).state != .free && (s.chip.session i).id == u32 b 4) = some slot →
    b.length ≤ (s.chip.session slot).maxDgram →
    gcmOpen (s.chip.session slot).key (hostNonce b) (b.take 16) (b.drop 16) = some p →
    (s.chip.session slot).rxTop ≤ u64 b 8 + 1024 →
    u64 b 8 ∉ (s.chip.session slot).rxSeen →
    Yields (.sealed t port ipv6 addr udpPort b) s (fun c =>
      (c.session slot).state = .opened ∧ (c.session slot).lastAt = max s.chip.now t ∧ (c.session slot).rxTop = max (s.chip.session slot).rxTop (u64 b 8) ∧
      (c.session slot).port = port ∧ (c.session slot).addr = addr ∧ (c.session slot).udpPort = udpPort ∧
      c.fld Reg.LAN_RX_SEALED_COUNT 0 = (s.chip.fld Reg.LAN_RX_SEALED_COUNT 0 + 1) % 2 ^ Reg.LAN_RX_SEALED_COUNT.width)) ∧
  (∀ (s : State) (t : Nat) (slot : Fin 16),
    s.runs →
    (s.chip.session slot).state = .halfOpen →
    (s.chip.session slot).openedAt + secU 2 ≤ max s.chip.now t →
    Yields (.halfOpenTimeout t slot) s (fun c => (c.session slot).state = .free ∧ (∀ i, i ≠ slot.val → c.session i = s.chip.session i) ∧
      c = { s.upon t with lan := c.lan })) ∧
  (∀ (s : State) (t : Nat) (slot : Fin 16) (seq : Nat) (p : Partial),
    s.runs →
    p ∈ (s.chip.session slot).partials →
    p.seq = seq →
    p.since + secU 1 ≤ max s.chip.now t →
    Yields (.reassemblyTimeout t slot seq) s (fun c => (c.session slot).partials = (s.chip.session slot).partials.filter (fun x => x.seq != seq) ∧
      c.fld Reg.LAN_REASM_DROP_COUNT 0 = min (s.chip.fld Reg.LAN_REASM_DROP_COUNT 0 + 1) 4294967295 ∧
      c.sameRegs s.chip [Reg.LAN_REASM_DROP_COUNT] ∧ c = { s.upon t with regs := c.regs, lan := c.lan })) ∧
  (∀ (s : State) (t : Nat) (slot : Fin 16),
    s.runs →
    (s.chip.session slot).state = .opened →
    (s.chip.session slot).complete ≠ [] →
    Yields (.ackTimer t slot) s (fun c => c.sent = [.message slot 4 0 0 0 []] ∧ (c.session slot).txCtr = (s.chip.session slot).txCtr + 1 ∧
      c = { s.upon t with lan := c.lan, sent := c.sent })) ∧
  (∀ (s : State) (t : Nat) (slot : Fin 16) (n : Notice) (rest : List Notice),
    s.runs →
    (s.chip.session slot).state = .opened →
    (s.chip.session slot).notices = n :: rest →
    n.sentAt + msU n.interval ≤ max s.chip.now t →
    Yields (.noticeResend t slot) s (fun c => c.sent = [.message slot 3 n.code 0 n.seq n.body] ∧
      (c.session slot).notices = { n with sentAt := max s.chip.now t, interval := min 640 (2 * n.interval) } :: rest ∧
      c = { s.upon t with lan := c.lan, sent := c.sent })) ∧
  (∀ (s : State) (t : Nat) (slot : Fin 16),
    s.runs →
    (s.chip.session slot).state = .opened →
    (s.chip.session slot).lastAt + secU s.chip.idleS ≤ max s.chip.now t →
    YieldsMem (.sessionIdleTimeout t slot) s (fun c _ => (c.session slot).state = .free ∧
      c.logged Ev.lanSessionClosed [slot + 131072, (s.chip.session slot).id])) ∧
  (∀ (s : State) (t : Nat),
    s.runs →
    YieldsMem (.closeAll t) s (fun c _ => ∀ i, i < 16 → (c.session i).state = .free)) ∧
  (∀ (s : State) (t : Nat),
    s.runs →
    Yields (.lanClrCnt t) s (fun c => c.fld Reg.LAN_RX_SEALED_COUNT 0 = 0 ∧ c.fld Reg.LAN_AUTH_FAIL_COUNT 0 = 0 ∧ c.fld Reg.LAN_REPLAY_COUNT 0 = 0 ∧
      c.fld Reg.LAN_RX_BAD_COUNT 0 = 0 ∧ c.fld Reg.LAN_DUP_REQ_COUNT 0 = 0 ∧ c.fld Reg.LAN_WINDOW_DROP_COUNT 0 = 0 ∧ c.fld Reg.LAN_REASM_DROP_COUNT 0 = 0 ∧
      (∀ i, i < 16 → (c.session i).lost = 0 ∧ (c.session i).notices = (s.chip.session i).notices) ∧ c = { s.upon t with regs := c.regs, lan := c.lan }))

/-- For every session with MAX_DGRAM of at least 1,200 and every message of it (channel, type, status, number, body): each datagram in which the session
sends the message is at most MAX_DGRAM bytes long and begins with the outer header that names the session and the next datagram counter; under the
session key and the device's nonce of that counter its tag holds and its plaintext is the 40-byte inner header followed by a part of the body; and the
parts, in the order of the datagrams, are the body. -/
def Obligations.MessagesTravelSealed : Prop :=
  (∀ (x : Session) (channel msgType status seq : Nat) (body : List Byte),
    1200 ≤ x.maxDgram →
    (∀ i, i < (x.wire channel msgType status seq body).length →
      ((x.wire channel msgType status seq body).getD i []).length ≤ x.maxDgram ∧
      ((x.wire channel msgType status seq body).getD i []).take 16 = outerHeader 3 x.id (x.txCtr + 1 + i) ∧
      gcmOpen x.key (deviceNonce (x.txCtr + 1 + i)) (((x.wire channel msgType status seq body).getD i []).take 16)
          (((x.wire channel msgType status seq body).getD i []).drop 16)
        = some (x.innerHeader channel msgType status seq body.length (i * (x.maxDgram - 72)) ++ (body.drop (i * (x.maxDgram - 72))).take (x.maxDgram - 72))) ∧
    (List.range (x.wire channel msgType status seq body).length).flatMap (fun i => (body.drop (i * (x.maxDgram - 72))).take (x.maxDgram - 72)) = body)

/-- When the service cores take up the request: PING is answered DONE; CLOSE is answered and its slot is free; SUBSCRIBE replaces the classes and MIN_SEV
of the session; QUERY of kind 1 for destinations within range returns 16 bytes of each, of kind 2 the identity of the device, of kind 3 its settings,
of kind 4 the sixteen sessions; REG_READ of one mapped register returns its word, with what counters of the silicon have gained by then (the model's
operand, log entry 58); REG_WRITE to FST.SCRUB of a period other than 0 stores it and is answered DONE, and REGISTER_WRITE does the same; BULK_WRITE
to the frame store within range writes its bytes and no other byte, and BULK_READ of the frame store, of an analyser ring and of the flash outside the
keys region return their bytes. -/
def Obligations.SessionRequestsComplete : Prop :=
  (∀ (s : State) (t : Nat) (slot : Fin 16),
    s.serving slot 1 1 →
    Yields (.ping t slot []) s (fun c => c.replied s.chip slot 1 done [] ∧ c.regs = s.chip.regs)) ∧
  (∀ (s : State) (t : Nat) (slot : Fin 16),
    s.serving slot 2 1 →
    YieldsMem (.close t slot []) s (fun c _ => c.replied s.chip slot 2 done [] ∧ (c.session slot).state = .free ∧
      c.logged Ev.lanSessionClosed [slot + 65536, (s.chip.session slot).id])) ∧
  (∀ (s : State) (t : Nat) (slot : Fin 16) (body : List Byte),
    s.serving slot 3 1 →
    body.length = 8 →
    zeroAt body 5 3 = true →
    Yields (.subscribe t slot body) s (fun c => c.replied s.chip slot 3 done [] ∧ (c.session slot).mask = u32 body 0 ∧ (c.session slot).minSev = u8 body 4 ∧
      c.regs = s.chip.regs)) ∧
  (∀ (s : State) (t : Nat) (slot : Fin 16) (body : List Byte),
    s.serving slot 0x0201 1 →
    u8 body 0 = 1 →
    queryOk body = true →
    u16 body 2 ≤ 1567 →
    u16 body 2 + u16 body 4 ≤ 1568 →
    Yields (.queryRoutes t slot body) s (fun c =>
      c.replied s.chip slot 0x0201 done ((List.range (u16 body 4)).flatMap (fun i => (s.upon t).queryDst (u16 body 2 + i))) ∧ c.regs = s.chip.regs)) ∧
  (∀ (s : State) (t : Nat) (slot : Fin 16),
    s.serving slot 0x0201 1 →
    Yields (.queryIdentity t slot [2, 0, 0, 0, 0, 0, 0, 0]) s (fun c => c.replied s.chip slot 0x0201 done
        (beBytes 4 (s.chip.fld Reg.BOOT_DEV_ID_ID 0) ++ beBytes 4 (s.chip.fld Reg.BOOT_REV_ID_REV 0) ++ beBytes 6 Config.otpBaseMac ++ beBytes 2 0
          ++ beBytes 2 s.chip.deviceId ++ beBytes 1 2 ++ beBytes 1 0) ∧ c.regs = s.chip.regs)) ∧
  (∀ (s : State) (t : Nat) (slot : Fin 16),
    s.serving slot 0x0201 1 →
    Yields (.querySettings t slot [3, 0, 0, 0, 0, 0, 0, 0]) s (fun c => c.replied s.chip slot 0x0201 done
        ((s.chip.boot.label ++ List.replicate 32 0).take 32 ++ beBytes 4 (s.chip.fld Reg.BOOT_SET_GEN_GEN 0) ++ beBytes 4 (s.chip.fld Reg.BOOT_FW_GEN_GEN 0)
          ++ beBytes 1 (s.chip.fld Reg.BOOT_STATUS_SET_BANK 0) ++ beBytes 1 (s.chip.fld Reg.BOOT_STATUS_FW_BANK 0) ++ beBytes 1 (flag s.chip.boot.unsaved)
          ++ beBytes 1 0 ++ s.chip.setDigest s.mem ++ s.chip.fwDigest s.mem) ∧ c.regs = s.chip.regs)) ∧
  (∀ (s : State) (t : Nat) (slot : Fin 16),
    s.serving slot 0x0201 1 →
    Yields (.querySessions t slot [4, 0, 0, 0, 0, 0, 0, 0]) s (fun c => c.replied s.chip slot 0x0201 done
        ((List.range 16).flatMap (fun i => if (s.chip.session i).state = .free then List.replicate 8 0
          else beBytes 4 (s.chip.session i).id ++ beBytes 1 (s.chip.session i).keyId ++ beBytes 1 (s.chip.session i).priv ++ beBytes 1 (s.chip.session i).port
            ++ beBytes 1 0)) ∧ c.regs = s.chip.regs)) ∧
  (∀ (s : State) (t : Nat) (slot : Fin 16) (a : Nat) (facts : List BusFact),
    s.serving slot 0x0301 1 →
    a % 4 = 0 →
    0x40000000 ≤ a →
    a < 0x400E0000 →
    bit (s.chip.fld Reg.FAB_QUAR_MASTER 0) 7 = false →
    facts.all (fun f => !f.late) = true →
    Yields (.regRead t slot (beBytes 4 a ++ beBytes 2 1 ++ beBytes 2 0) facts) s (fun c =>
      c.replied s.chip slot 0x0301 done (beBytes 4 ((((s.upon t).countWrap Reg.FAB_M_BEATS_COUNT 7 1).gainAll
        (facts.headD ⟨false, false, false, none, []⟩).gains).regWord 7 slot a)))) ∧
  (∀ (s : State) (t : Nat) (slot : Fin 16) (v : BitVec 32) (facts : List BusFact),
    s.serving slot 0x0302 2 →
    v.toNat % 256 ≠ 0 →
    bit (s.chip.fld Reg.FAB_QUAR_MASTER 0) 7 = false →
    facts.all (fun f => !f.late) = true →
    YieldsMem (.regWrite t slot (beBytes 2 1 ++ beBytes 2 0 ++ beBytes 4 0x4002002C ++ beBytes 4 v.toNat) facts) s (fun c m =>
      c.replied s.chip slot 0x0302 done [] ∧ m = s.mem ∧ c.fld Reg.FST_SCRUB_PERIOD_S 0 = v.toNat % 256 ∧
      c.sameRegs s.chip [Reg.FST_SCRUB_PERIOD_S, Reg.FAB_M_BEATS_COUNT])) ∧
  (∀ (s : State) (t : Nat) (master : Fin 9) (slot : Fin 16) (v : BitVec 32),
    s.runs →
    v.toNat % 256 ≠ 0 →
    Yields (.registerWrite t master slot 0x4002002C v) s (fun c => c.fld Reg.FST_SCRUB_PERIOD_S 0 = v.toNat % 256 ∧
      c.sameRegs s.chip [Reg.FST_SCRUB_PERIOD_S] ∧ c = { s.upon t with regs := c.regs, noSel := c.noSel })) ∧
  (∀ (s : State) (t : Nat) (slot : Fin 16) (body : List Byte),
    s.serving slot 0x0801 3 →
    u8 body 0 = 2 →
    bulkWriteOk body = true →
    u64 body 8 % 64 = 0 →
    u64 body 8 + (body.length - 16) ≤ storeSize →
    s.chip.bulkOut = false →
    YieldsMem (.frameStoreWrite t slot body) s (fun c m => c.replied s.chip slot 0x0801 done [] ∧ m = memWrite s.mem (storeBase + u64 body 8) (body.drop 16) ∧
      c.regs = s.chip.regs ∧ ∀ a, (a < storeBase + u64 body 8 ∨ storeBase + u64 body 8 + (body.length - 16) ≤ a) → Tbl.get 0 m a = Tbl.get 0 s.mem a)) ∧
  (∀ (s : State) (t : Nat) (slot : Fin 16) (body : List Byte),
    s.serving slot 0x0802 3 →
    u8 body 0 = 2 →
    bulkReadOk body = true →
    u64 body 8 % 64 = 0 →
    u64 body 8 + u32 body 16 ≤ storeSize →
    s.chip.bulkOut = false →
    Yields (.frameStoreRead t slot body []) s (fun c => c.replied s.chip slot 0x0802 done (memRead s.mem (storeBase + u64 body 8) (u32 body 16)) ∧
      c.regs = s.chip.regs)) ∧
  (∀ (s : State) (t : Nat) (slot : Fin 16) (body : List Byte),
    s.serving slot 0x0802 1 →
    u8 body 0 = 5 →
    bulkReadOk body = true →
    u32 body 4 ≤ 7 →
    u64 body 8 % 16 = 0 →
    u64 body 8 + u32 body 16 ≤ 134217728 →
    s.chip.bulkOut = false →
    Yields (.deepAnalyserRingRead t slot body) s (fun c =>
      c.replied s.chip slot 0x0802 done (memRead s.mem (storeBase + Config.ringBase (u32 body 4) % storeSize + u64 body 8) (u32 body 16)) ∧ c.regs = s.chip.regs)) ∧
  (∀ (s : State) (t : Nat) (slot : Fin 16) (body : List Byte),
    s.serving slot 0x0802 3 →
    u8 body 0 = 6 →
    bulkReadOk body = true →
    u64 body 8 + u32 body 16 ≤ 0x0C000000 →
    Yields (.flashRead t slot body) s (fun c => c.replied s.chip slot 0x0802 done (memRead s.mem (flashBase + u64 body 8) (u32 body 16)) ∧ c.regs = s.chip.regs))

/-- When the service cores take up a CONFIGURE of a section other than CMP_SURFACE whose record passes every check, its record is put in force, the
settings differ from the bank and the request is answered DONE; a record of FST_GLOBAL sets FST.SCRUB.PERIOD_S and FST.CTRL.SCRUB_EN to its values.
SAVE, when nothing stands against it, is answered STARTED and keeps the body of the sections in force. SAVE_DONE, while the flash is programmed, ends
the SAVE: LAST_RESULT is 0 when the bank verifies and the journal is committed and UPD_FLASH otherwise, and the bank used is the bank written in the
first case only. -/
def Obligations.SettingsRequestsComplete : Prop :=
  (∀ (s : State) (t : Nat) (slot : Fin 16) (body : List Byte) (facts : List Remote),
    let ty := u16 body 0
    let td := u8 body 2
    let r := body.drop 8
    s.serving slot 0x0401 2 →
    configBodyOk body = true →
    td ≤ 3 →
    (td = 0 ∨ ty = tyTick) →
    ty ≠ tySurface →
    ty ∈ allTypes →
    (s.upon t).configureCode slot ty td ((s.upon t).configIndex ty td r) r facts = none →
    Yields (.configure t slot body facts) s (fun c => c.boot.unsaved = true ∧
      (c.session slot).responses.any (fun x => x.msgType == 0x0401 && x.status == done && x.body == []) = true)) ∧
  (∀ (s : State) (t : Nat) (slot : Fin 16) (r : List Byte) (facts : List Remote),
    s.serving slot 0x0401 2 →
    r.length = 4 →
    1 ≤ u8 r 0 →
    u8 r 1 ≤ 1 →
    zeroAt r 2 2 = true →
    Yields (.configure t slot (beBytes 2 tyFstGlobal ++ beBytes 2 0 ++ beBytes 4 4 ++ r) facts) s (fun c => c.record tyFstGlobal 0 = r ∧
      c.fld Reg.FST_SCRUB_PERIOD_S 0 = u8 r 0 ∧ c.fld Reg.FST_CTRL_SCRUB_EN 0 = u8 r 1 ∧ c.boot.unsaved = true ∧
      c.sameRegs s.chip [Reg.FST_SCRUB_PERIOD_S, Reg.FST_CTRL_SCRUB_EN])) ∧
  (∀ (s : State) (t : Nat) (slot : Fin 16),
    s.serving slot 0x0402 2 →
    s.chip.upd.set.state ≠ .armed →
    s.chip.upd.act = none →
    s.chip.upd.save = none →
    s.chip.upd.enrol = none →
    s.chip.loading 1 = false →
    s.chip.loading 2 = false →
    Yields (.save t slot []) s (fun c => c.replied s.chip slot 0x0402 started [] ∧
      c.upd = { s.chip.upd with save := some { s.chip.flashJob slot with key := s.chip.buildBody } } ∧ c.regs = s.chip.regs)) ∧
  (∀ (s : State) (t : Nat) (fails : Bool) (journalFails : Fin 3) (j : FlashJob),
    let bank := s.chip.spareBank s.mem 2
    let m1 := makeRoom (writeSettings s.mem bank j.key ((s.chip.fld Reg.BOOT_SET_GEN_GEN 0 + 1) % 4294967296))
    let bad := fails = true ∨ bankCode m1 2 bank false ≠ 0 ∨ journalFails ≠ 0
    s.runs →
    s.chip.upd.save = some j →
    (s.upon t).flashStopped = false →
    YieldsMem (.saveDone t fails journalFails) s (fun c _ => c.upd.save = none ∧
      (bad → c.fld Reg.UPD_LAST_RESULT_CODE 0 = 0x1406 ∧ c.fld Reg.BOOT_STATUS_SET_BANK 0 = s.chip.fld Reg.BOOT_STATUS_SET_BANK 0) ∧
      (¬ bad → c.fld Reg.UPD_LAST_RESULT_CODE 0 = 0 ∧ c.fld Reg.BOOT_STATUS_SET_BANK 0 = bank % 4 ∧
        c.logged Ev.updateSaved [bank, (s.chip.fld Reg.BOOT_SET_GEN_GEN 0 + 1) % 4294967296])))

/-- When the service cores take up the request and nothing stands against it: UPDATE OP 1 is answered STARTED and the load of its kind erases the spare
bank; OP 2 of a load whose every block is written is answered STARTED and the load is verified; OP 3 is answered STARTED and an activation of its
kinds is pending; OP 4 of a load discards it, of KIND 0 the pending activation; OP 5 is answered STARTED and the enrolment is in progress. ERASE_DONE
without a failure lets the load take blocks and erases the bank; BULK_WRITE of an image block writes the block when its CRC is the one of the
manifest, and nothing when it is not; ARM_VERIFY_DONE arms the load when its bank verifies and discards it otherwise; ENROL_DONE writes the key table
and records UPD_KEY_ENROLLED; ACTIVATION_START holds the service cores and records UPD_ACTIVATING; ACTIVATION_END of an activation that reverts ends
it with UPD_REVERTED and its cause, and of settings that pass their trial commits the bank; UPD_CLR_CNT clears the counter. -/
def Obligations.UpdateCommandsComplete : Prop :=
  (∀ (s : State) (t : Nat) (slot : Fin 16) (body : List Byte),
    let kind := u8 body 1
    s.serving slot 0x0701 3 →
    body.length = 20 →
    u8 body 0 = 1 →
    zeroAt body 2 2 = true →
    updPlain body = true →
    1 ≤ kind →
    kind ≤ 2 →
    2 ≤ u32 body 4 →
    u32 body 4 ≤ (if kind = 1 then 768 else 256) →
    s.chip.loading 1 = false →
    s.chip.loading 2 = false →
    s.chip.actNames kind = false →
    s.chip.upd.save = none →
    Yields (.updateBegin t slot body) s (fun c => c.replied s.chip slot 0x0701 started [] ∧
      c.load kind = { Load.idle with state := .erasing, arg := u32 body 4, bank := s.chip.spareBank s.mem kind, slot := slot, session := (s.chip.session slot).id, reqSeq := (s.chip.session slot).done + 1 } ∧
      c.load (3 - kind) = s.chip.load (3 - kind) ∧ c.regs = s.chip.regs)) ∧
  (∀ (s : State) (t : Nat) (kind : Fin 3),
    s.runs →
    kind.val ≠ 0 →
    (s.chip.load kind).state = .erasing →
    (s.upon t).flashStopped = false →
    YieldsMem (.eraseDone t kind false) s (fun c m => c.load kind = { s.chip.load kind with state := .loading } ∧
      m = eraseRange s.mem (bankBase kind (s.chip.load kind).bank) (65536 * (s.chip.load kind).arg))) ∧
  (∀ (s : State) (t : Nat) (slot : Fin 16) (id : Nat) (data : List Byte) (fails : Bool) (kind : Nat),
    let l := s.chip.load kind
    let man := manifest s.mem kind l.bank
    s.serving slot 0x0801 3 →
    data.length = 65536 →
    s.chip.holding = false →
    s.chip.loadingKind = some kind →
    1 ≤ id →
    id < 65536 →
    0 ∈ l.written →
    id ∉ l.written →
    YieldsMem (.imageBlock t slot ([3, 0, 0, 0] ++ beBytes 4 id ++ List.replicate 8 0 ++ data) fails) s (fun c m =>
      (id ≤ u32 man 20 ∧ crcBytes data = entryCrc man id ∧ fails = false → c.replied s.chip slot 0x0801 done [] ∧
        c.load kind = { l with written := l.written ++ [id] } ∧ m = memWrite s.mem (bankBase kind l.bank + 65536 * id) data) ∧
      (id ≤ u32 man 20 ∧ crcBytes data ≠ entryCrc man id → c.replied s.chip slot 0x0801 (statusOf 0x1402 wholeIndex) [] ∧ c.load kind = l ∧ m = s.mem ∧
        c.fld Reg.UPD_CRC_FAIL_COUNT 0 = min (s.chip.fld Reg.UPD_CRC_FAIL_COUNT 0 + 1) (2 ^ Reg.UPD_CRC_FAIL_COUNT.width - 1)))) ∧
  (∀ (s : State) (t : Nat) (slot : Fin 16) (body : List Byte),
    let kind := u8 body 1
    s.serving slot 0x0701 3 →
    body.length = 20 →
    u8 body 0 = 2 →
    zeroAt body 2 2 = true →
    updPlain body = true →
    u32 body 4 = 0 →
    1 ≤ kind →
    kind ≤ 2 →
    (s.chip.load kind).state = .loading →
    (s.chip.load kind).verifying = false →
    (s.chip.load kind).written.length = (s.chip.load kind).arg →
    s.chip.upd.save = none →
    Yields (.updateArm t slot body) s (fun c => c.replied s.chip slot 0x0701 started [] ∧
      c.load kind = { s.chip.load kind with verifying := true, slot := slot, session := (s.chip.session slot).id, reqSeq := (s.chip.session slot).done + 1 } ∧
      c.regs = s.chip.regs)) ∧
  (∀ (s : State) (t : Nat) (kind : Fin 3) (fails : Bool),
    let l := s.chip.load kind
    let code := bankCode s.mem kind l.bank fails
    s.runs →
    kind.val ≠ 0 →
    l.state = .loading →
    l.verifying = true →
    (s.upon t).flashStopped = false →
    YieldsMem (.armVerifyDone t kind fails) s (fun c m =>
      (code = 0 → c.load kind = { l with state := .armed, verifying := false } ∧ c.fld Reg.UPD_LAST_RESULT_CODE 0 = 0 ∧
        c.logged Ev.updateArmed [kind.val + 256 * l.bank, u32 (manifest s.mem kind l.bank) 28]) ∧
      (code ≠ 0 → c.load kind = Load.idle ∧ c.fld Reg.UPD_LAST_RESULT_CODE 0 = 0x1404 ∧ m = s.mem))) ∧
  (∀ (s : State) (t : Nat) (slot : Fin 16) (body : List Byte),
    let kinds := u32 body 4
    s.serving slot 0x0701 3 →
    body.length = 20 →
    u8 body 0 = 3 →
    u8 body 1 = 0 →
    zeroAt body 2 2 = true →
    updPlain body = true →
    1 ≤ kinds →
    kinds ≤ 3 →
    (bit kinds 0 = true → s.chip.upd.fw.state = .armed) →
    (bit kinds 1 = true → s.chip.upd.set.state = .armed) →
    s.chip.upd.act = none →
    s.chip.upd.save = none →
    Yields (.updateActivate t slot body) s (fun c => c.replied s.chip slot 0x0701 started [] ∧
      c.upd = { s.chip.upd with act := some ⟨1, kinds, none, 0, none, slot, (s.chip.session slot).id, (s.chip.session slot).done + 1⟩ } ∧ c.regs = s.chip.regs)) ∧
  (∀ (s : State) (t : Nat) (slot : Fin 16) (body : List Byte),
    let kind := u8 body 1
    s.serving slot 0x0701 3 →
    body.length = 20 →
    u8 body 0 = 4 →
    zeroAt body 2 2 = true →
    updPlain body = true →
    u32 body 4 = 0 →
    kind ≤ 2 →
    (kind = 0 → s.chip.upd.act.any (fun a => a.state == 1) = true) →
    (kind ≠ 0 → (s.chip.load kind).state ≠ .idle ∧ s.chip.actNames kind = false) →
    Yields (.updateAbort t slot body) s (fun c => c.replied s.chip slot 0x0701 done [] ∧
      (kind = 0 → c.upd.act = none ∧ c.logged Ev.updateCancelled []) ∧ (kind ≠ 0 → c.load kind = Load.idle) ∧ c.regs = s.chip.regs)) ∧
  (∀ (s : State) (t : Nat) (slot : Fin 16) (k ceiling : Nat) (key : List Byte),
    s.serving slot 0x0701 3 →
    k ≤ 15 →
    1 ≤ ceiling →
    ceiling ≤ 3 →
    key.length = 32 →
    s.chip.upd.save = none →
    s.chip.upd.enrol = none →
    Yields (.enrolKey t slot ([5, 0, 0, 0] ++ beBytes 4 (k + 256 * ceiling) ++ List.replicate 12 0 ++ key)) s (fun c => c.replied s.chip slot 0x0701 started [] ∧
      c.upd = { s.chip.upd with enrol := some { s.chip.flashJob slot with entry := k, inUse := true, ceiling := ceiling, key := key } } ∧ c.regs = s.chip.regs)) ∧
  (∀ (s : State) (t : Nat) (j : FlashJob),
    s.runs →
    s.chip.upd.enrol = some j →
    (s.upon t).flashStopped = false →
    YieldsMem (.enrolDone t 0) s (fun c m => c.upd = { s.chip.upd with enrol := none } ∧
      m = writeKeyTable s.mem (keyTableWith s.mem j.entry j.inUse (if j.inUse then j.ceiling else 0) j.key) 0 ∧
      c.logged Ev.updateKeyEnrolled [j.entry + 256 * j.ceiling + 4096 * flag (!j.inUse)])) ∧
  (∀ (s : State) (t : Nat) (journalFails : Fin 3) (a : Activation),
    s.runs →
    s.chip.phase ≠ 4 →
    s.chip.upd.act = some a →
    a.state = 1 →
    (s.upon t).actDue a = true →
    YieldsMem (.activationStart t journalFails) s (fun c _ => c.upd.act = some { a with state := 2, startedAt := max s.chip.now t } ∧
      (∀ k, 1 ≤ k → k ≤ 4 → k ∈ c.fab.held) ∧ c.logged Ev.updateActivating [a.kinds + 256 * flag a.time.isSome])) ∧
  (∀ (s : State) (t : Nat) (x : Trial) (a : Activation) (w : Nat × Nat × Nat),
    s.runs →
    s.chip.upd.act = some a →
    2 ≤ a.state →
    a.why = some w →
    (s.upon t).flashStopped = false →
    Yields (.activationEnd t x) s (fun c => c.upd.act = none ∧ c.fab.held = [] ∧ c.fld Reg.UPD_LAST_RESULT_CODE 0 = 0x1409 ∧
      c.fld Reg.UPD_LAST_RESULT_CAUSE 0 = w.1 % 2 ^ Reg.UPD_LAST_RESULT_CAUSE.width ∧ c.isSet Reg.UPD_STATUS_REVERT_SEEN 0 = true ∧
      c.logged Ev.updateReverted [w.1 * 16777216 + w.2.1, w.2.2])) ∧
  (∀ (s : State) (t : Nat) (x : Trial) (a : Activation) (c1 : Chip),
    s.runs →
    s.chip.upd.act = some a →
    a.state = 2 →
    a.kinds = 2 →
    a.why = none →
    x.late = false →
    x.journalFails = 0 →
    (s.upon t).flashStopped = false →
    (s.upon t).trial a.slot ((readBody (bankBody s.mem s.chip.upd.set.bank)).getD ([], [])).2 none = .ok c1 →
    YieldsMem (.activationEnd t x) s (fun c _ => c.upd.act = none ∧ c.fab.held = [] ∧ c.fld Reg.UPD_LAST_RESULT_CODE 0 = 0 ∧
      c.isSet Reg.UPD_STATUS_COMMIT_SEEN 0 = true ∧ c.boot.unsaved = false ∧ c.fld Reg.BOOT_STATUS_SET_BANK 0 = s.chip.upd.set.bank % 4)) ∧
  (∀ (s : State) (t : Nat),
    s.runs →
    Yields (.updClrCnt t) s (fun c => c.fld Reg.UPD_CRC_FAIL_COUNT 0 = 0 ∧ c.sameRegs s.chip [Reg.UPD_CRC_FAIL_COUNT] ∧ c = { s.upon t with regs := c.regs }))

/-- In a module that runs: JOB_DEADLINE of an open TAKE job (below the limit of a stall), composition job or check job closes it and counts the overrun of
its domain, and of these and an open synchroniser job sets the domain's bit of TICK.STATUS.OVERRUN and records TICK_OVERRUN with the job and the
frame; SRAM_UNCORRECTABLE_ERROR in a received packet, a ring packet or the accumulator of a source counts it in its partition and records FLT_SRAM_UE,
and in a processor starts a warm restart; a service core's exception or watchdog and FORCE_RESTART with its key start a warm restart with their cause,
and FORCE_RESTART with another key sets CFG_REJECT and nothing else; RESTART_DONE ends it and shows its time; LAMPLIGHTER_WATCHDOG holds the module in
reset; FLT_CLR_CNT clears the counters. -/
def Obligations.FaultCommandsComplete : Prop :=
  (∀ (s : State) (t : Nat) (td : Fin 4) (late f : Nat),
    s.runs →
    (s.chip.dom td).jobFrame = some f →
    (s.chip.dom td).commit ≠ some f →
    (s.chip.dom td).takeOvr + 1 < s.chip.takeOvrLimit →
    Yields (.jobDeadline t td 1 late) s (fun c => (c.dom td).jobFrame = none ∧ (c.dom td).takeOvr = (s.chip.dom td).takeOvr + 1 ∧
      (∀ q ∈ c.xpt.queue, c.dstTd q.dst = td.val → q.staged = false) ∧
      c.fld (Reg.TICK_TD_OVR_TAKE td) 0 = min (s.chip.fld (Reg.TICK_TD_OVR_TAKE td) 0 + 1) (2 ^ (Reg.TICK_TD_OVR_TAKE td).width - 1) ∧
      bit (c.fld Reg.TICK_STATUS_OVERRUN 0) td = true ∧ c.logged Ev.tickOverrun [16777216 + td, f % 4294967296, min late 0xFFFFFFFF])) ∧
  (∀ (s : State) (t : Nat) (td : Fin 4) (late : Nat),
    s.runs →
    (s.chip.dom td).syncOpen = true →
    Yields (.jobDeadline t td 2 late) s (fun c => bit (c.fld Reg.TICK_STATUS_OVERRUN 0) td = true ∧
      c.logged Ev.tickOverrun [33554432 + td, (s.chip.dom td).frame % 4294967296, min late 0xFFFFFFFF])) ∧
  (∀ (s : State) (t : Nat) (td : Fin 4) (late : Nat),
    s.runs →
    (s.chip.dom td).cmpOpen = true →
    Yields (.jobDeadline t td 3 late) s (fun c => (c.dom td).cmpOpen = false ∧ bit (c.fld Reg.TICK_STATUS_OVERRUN 0) td = true ∧
      c.fld (Reg.TICK_TD_OVR_CMP td) 0 = min (s.chip.fld (Reg.TICK_TD_OVR_CMP td) 0 + 1) (2 ^ (Reg.TICK_TD_OVR_CMP td).width - 1) ∧
      c.logged Ev.tickOverrun [50331648 + td, (s.chip.dom td).frame % 4294967296, min late 0xFFFFFFFF])) ∧
  (∀ (s : State) (t : Nat) (td : Fin 4) (late : Nat),
    s.runs →
    (s.chip.dom td).fwaOpen = true →
    Yields (.jobDeadline t td 5 late) s (fun c => (c.dom td).fwaOpen = false ∧ bit (c.fld Reg.TICK_STATUS_OVERRUN 0) td = true ∧
      c.fld (Reg.TICK_TD_OVR_FWA td) 0 = min (s.chip.fld (Reg.TICK_TD_OVR_FWA td) 0 + 1) (2 ^ (Reg.TICK_TD_OVR_FWA td).width - 1) ∧
      c.logged Ev.tickOverrun [83886080 + td, (s.chip.dom td).frame % 4294967296, min late 0xFFFFFFFF])) ∧
  (∀ (s : State) (t : Nat) (hit : SramHit) (offset part row : Nat),
    s.runs →
    hitPlace hit = some (part, row) →
    part = 2 ∨ row = 6 →
    Yields (.sramUncorrectableError t hit offset) s (fun c => c.isSet Reg.FLT_STATUS_UE_SEEN 0 = true ∧
      c.fld Reg.FLT_SRAM_UE_COUNT part = min (s.chip.fld Reg.FLT_SRAM_UE_COUNT part + 1) (2 ^ Reg.FLT_SRAM_UE_COUNT.width - 1) ∧
      c.fld Reg.FLT_LAST_CAUSE_CLASS 0 = 1 ∧ c.logged Ev.fltSramUe [part + row * 256, offset] ∧
      (∀ f i, hit = .ringPacket f i → ∀ p ∈ (c.rx f).ring, p.idx ≠ i) ∧ (∀ x, hit = .watch x → x ∈ c.fwa.rebound))) ∧
  (∀ (s : State) (t : Nat) (p offset : Nat),
    let recent := s.chip.flt.restarts.filter (fun u => decide (max s.chip.now t < u + secU 600))
    s.runs →
    s.chip.halted = false →
    s.chip.upd.act = none →
    recent.length < s.chip.restartLimit →
    YieldsMem (.sramUncorrectableError t (.core p) offset) s (fun c _ => c.isSet Reg.XPT_STATUS_RESTART 0 = true ∧
      c.logged Ev.fltWarmRestart [1 + p * 256, recent.length + 1])) ∧
  (∀ (s : State) (t : Nat) (core : Fin 4),
    let recent := s.chip.flt.restarts.filter (fun u => decide (max s.chip.now t < u + secU 600))
    s.runs →
    s.chip.boot.released = true →
    s.chip.halted = false →
    s.chip.upd.act = none →
    recent.length < s.chip.restartLimit →
    YieldsMem (.serviceCoreException t core) s (fun c _ => c.isSet Reg.XPT_STATUS_RESTART 0 = true ∧ c.isSet Reg.FLT_STATUS_RESTART 0 = true ∧
      c.isSet Reg.FLT_STATUS_RESTART_SEEN 0 = true ∧ c.flt.restarts = recent ++ [max s.chip.now t] ∧ (∀ k, 1 ≤ k → k ≤ 4 → k ∈ c.fab.held) ∧
      c.logged Ev.fltWarmRestart [3 + (core + 1) * 256, recent.length + 1])) ∧
  (∀ (s : State) (t : Nat) (core : Fin 4),
    let recent := s.chip.flt.restarts.filter (fun u => decide (max s.chip.now t < u + secU 600))
    s.runs →
    s.chip.boot.released = true →
    s.chip.fab.held = [] →
    s.chip.halted = false →
    s.chip.upd.act = none →
    recent.length < s.chip.restartLimit →
    YieldsMem (.serviceCoreWatchdog t core) s (fun c _ => c.isSet Reg.XPT_STATUS_RESTART 0 = true ∧
      c.fld (wdField core) 0 = min (s.chip.fld (wdField core) 0 + 1) (2 ^ (wdField core).width - 1) ∧
      c.logged Ev.fltWarmRestart [4 + (core + 1) * 256, recent.length + 1])) ∧
  (∀ (s : State) (t : Nat),
    let recent := s.chip.flt.restarts.filter (fun u => decide (max s.chip.now t < u + secU 600))
    s.runs →
    s.chip.halted = false →
    s.chip.upd.act = none →
    recent.length < s.chip.restartLimit →
    YieldsMem (.forceRestart t 0x7E57) s (fun c _ => c.isSet Reg.XPT_STATUS_RESTART 0 = true ∧ c.logged Ev.fltWarmRestart [6, recent.length + 1])) ∧
  (∀ (s : State) (t : Nat) (key : Fin 65536),
    s.runs →
    key.val ≠ 0x7E57 →
    exec (.forceRestart t key) s = .next { s with chip := (s.upon t).mark Reg.FLT_STATUS_CFG_REJECT }) ∧
  (∀ (s : State) (t : Nat),
    s.runs →
    s.chip.restarting = true →
    Yields (.restartDone t) s (fun c => c.isSet Reg.XPT_STATUS_RESTART 0 = false ∧ c.isSet Reg.FLT_STATUS_RESTART 0 = false ∧
      c.fld Reg.FLT_T_RESTART_US 0 = (max s.chip.now t - s.chip.flt.startedAt) / 27000 % 2 ^ Reg.FLT_T_RESTART_US.width ∧ c.fab.held = [] ∧
      c.flt.abandoned = [] ∧ c.logged Ev.fltRestartDone [(max s.chip.now t - s.chip.flt.startedAt) / 27000])) ∧
  (∀ (s : State) (t : Nat),
    s.runs →
    YieldsMem (.lamplighterWatchdog t) s (fun c _ => c.run = .inReset)) ∧
  (∀ (s : State) (t : Nat),
    s.runs →
    Yields (.fltClrCnt t) s (fun c => c.fld Reg.FLT_RT_REPAIR_COUNT 0 = 0 ∧ c.fld Reg.FLT_RT_LOST_COUNT 0 = 0 ∧ c.fld Reg.FLT_FAB_RESETS_COUNT 0 = 0 ∧
      (∀ p, p < 5 → c.fld Reg.FLT_SRAM_CE_COUNT p = 0 ∧ c.fld Reg.FLT_SRAM_UE_COUNT p = 0) ∧ (∀ k, k < 4 → c.fld (wdField k) 0 = 0) ∧
      c = { s.upon t with regs := c.regs }))

/-- In a module that runs: EVENT_RECORD gives the oldest record handed over the next number and places it in the ring, when no freeze is in force and it
does not fold; ARCHIVE_BATCH, when a batch is due and it is written in the sector in use, writes its bytes at the place in use and takes its records
out of the commit buffer; FREEZE_TIMEOUT after FREEZE_S ends the freeze; LOG_FREEZE of the window sets or renews its freeze and LOG_THAW ends it, and
each sets CFG_REJECT where another owner, or none, holds it; WIN_LOAD fills the window from the cursor and moves it; LOG_CLR_CNT clears the counters.
When the service cores take up the request, LOG_READ at a cursor returns 256 bytes of records and the next cursor, and LOG_CLEAR empties the ring and
the side buffer, ends the freeze and records LOG_CLEARED. -/
def Obligations.RecorderCommandsComplete : Prop :=
  (∀ (s : State) (t : Nat) (r : Rec) (rest : List Rec),
    s.runs →
    s.chip.log.handed = r :: rest →
    r.ctl = none →
    s.chip.isSet Reg.PWR_STATUS_HOLD 0 = false →
    s.chip.log.freeze = none →
    newestLike s.chip.log.ring r = none →
    s.chip.ringSev ≤ r.sev →
    unitsOf s.chip.log.ring + r.units ≤ ringUnits →
    Yields (.eventRecord t) s (fun c => c.log.seqNext = seqAfter s.chip.log.seqNext ∧ ({ r with seq := s.chip.log.seqNext } : Rec) ∈ c.log.ring ∧
      c.log.freeze = none ∧ c.log.handed.take rest.length = rest)) ∧
  (∀ (s : State) (t : Nat) (r : Rec) (due : List Rec),
    let taken := fitUnits (roomAt s.chip.log.offset) (r :: due)
    s.runs →
    s.chip.isSet Reg.PWR_STATUS_HOLD 0 = false →
    (s.upon t).batchDue = some (r :: due) →
    s.chip.log.closed = false →
    s.chip.log.offset + 16 + 32 * r.units ≤ 65536 →
    YieldsMem (.archiveBatch t .written) s (fun c m => c.log.commit = s.chip.log.commit.filter (fun x => !(taken.any (fun y => y.seq == x.seq))) ∧
      m = memWrite s.mem (sectorAddr s.chip.log.sector + s.chip.log.offset) (batchBytes r.seq taken) ∧ c.log.refSeq = r.seq ∧
      c.sameRegs s.chip [Reg.LOG_ARCH_SEQ_SEQ] ∧ c = { s.upon t with regs := c.regs, log := c.log })) ∧
  (∀ (s : State) (t : Nat) (f : Freeze),
    s.runs →
    s.chip.log.freeze = some f →
    f.since + secU s.chip.freezeS ≤ max s.chip.now t →
    Yields (.freezeTimeout t) s (fun c => c.log.freeze = none ∧ c.log.side = [] ∧ c = { s.upon t with regs := c.regs, log := c.log })) ∧
  (∀ (s : State) (t : Nat),
    s.runs →
    (s.chip.frozenByOther .window = false → exec (.logFreeze t) s = .next { s with chip := { s.upon t with
        log := { s.chip.log with freeze := some { owner := .window, since := max s.chip.now t } } } }) ∧
      (s.chip.frozenByOther .window = true → exec (.logFreeze t) s = .next { s with chip := (s.upon t).mark Reg.LOG_STATUS_CFG_REJECT })) ∧
  (∀ (s : State) (t : Nat) (f : Freeze),
    s.runs →
    s.chip.log.freeze = some f →
    f.owner = .window →
    Yields (.logThaw t) s (fun c => c.log.freeze = none ∧ c.log.side = [] ∧ c = { s.upon t with regs := c.regs, log := c.log })) ∧
  (∀ (s : State) (t : Nat),
    s.runs →
    (∀ f ∈ s.chip.log.freeze, f.owner ≠ .window) →
    exec (.logThaw t) s = .next { s with chip := (s.upon t).mark Reg.LOG_STATUS_CFG_REJECT }) ∧
  (∀ (s : State) (t : Nat),
    let r := s.chip.windowRead (s.chip.fld Reg.LOG_WIN_CURSOR_SEQ 0)
    s.runs →
    Yields (.winLoad t) s (fun c => (∀ w, w < 64 → c.fld (Reg.LOG_WIN_DATA_WORD w) 0 = u32 r.1 (4 * w)) ∧
      c.fld Reg.LOG_WIN_NEXT_SEQ 0 = r.2 % 4294967296 ∧ c.fld Reg.LOG_WIN_CURSOR_SEQ 0 = r.2 % 4294967296 ∧ c = { s.upon t with regs := c.regs })) ∧
  (∀ (s : State) (t : Nat),
    s.runs →
    Yields (.logClrCnt t) s (fun c => (∀ f ∈ logCounters, c.fld f 0 = 0) ∧ c.sameRegs s.chip logCounters ∧ c = { s.upon t with regs := c.regs })) ∧
  (∀ (s : State) (t : Nat) (slot : Fin 16) (cursor : BitVec 32),
    let r := s.chip.windowRead cursor.toNat
    s.serving slot 0x0501 1 →
    cursor.toNat ≠ 0xFFFFFFFF →
    Yields (.logRead t slot (beBytes 4 cursor.toNat ++ beBytes 4 0)) s (fun c => c.replied s.chip slot 0x0501 done (beBytes 4 r.2 ++ beBytes 4 0 ++ r.1) ∧
      Tbl.get 0 c.log.cursors slot = r.2 ∧ c.log.ring = s.chip.log.ring ∧ c.log.freeze = s.chip.log.freeze ∧ c.regs = s.chip.regs)) ∧
  (∀ (s : State) (t : Nat) (slot : Fin 16),
    s.serving slot 0x0502 3 →
    Yields (.logClear t slot []) s (fun c => c.replied s.chip slot 0x0502 done [] ∧ c.log.ring = [] ∧ c.log.side = [] ∧ c.log.freeze = none ∧
      c.log.commit = s.chip.log.commit ∧
      c.logged Ev.logCleared [(s.chip.session slot).id, (s.chip.session slot).keyId, s.chip.log.ring.length + s.chip.log.side.length]))

/-- In a module that runs: FABRIC_TRANSACTION of a master that is not held, with no more than 15 outstanding, that the map and the protection let through
is outstanding; one that they do not let through, of M5 to M8, gets an error response of its kind, is counted and recorded; FABRIC_ARBITER_DECISION
completes the burst in progress at a memory and answers it, and with none in progress grants a target to the only request; FABRIC_CREDIT_REFILL
refills every credit counter; FABRIC_HOG_CUT of M7, M8 or a service core cuts the burst, counts it and puts the master in quarantine; FABRIC_TIMEOUT
of a late transaction of M5 to M8 ends it with kind 4; REMAP takes effect at once when no transaction to T0 is outstanding; FAB_QUAR_CLEAR ends the
quarantine of the masters named; FAB_CLR_CNT clears the counters. -/
def Obligations.FabricCommandsComplete : Prop :=
  (∀ (s : State) (t : Nat) (master : Fin 9) (slot : Fin 16) (addr : BitVec 32) (write : Bool) (words : List (BitVec 32)) (lock barrier : Bool) (tg : Nat),
    s.runs →
    master.val ∉ s.chip.fab.held →
    words ≠ [] →
    addr.toNat % 4 = 0 →
    (s.chip.fab.txs.filter (fun x => x.master == master.val)).length < 16 →
    s.chip.fabAccess master addr.toNat (4 * words.length) write = .ok tg →
    tg ≠ 0 ∨ s.chip.fab.remapDue = false →
    Yields (.fabricTransaction t master slot addr write words lock barrier) s (fun c =>
      c.fab.txs.any (fun x => { x with granted := false } ==
        (⟨master, tg, addr.toNat, write, words.map BitVec.toNat, lock, barrier, (s.upon t).fabCycle, max s.chip.now t, slot, false⟩ : FabTx)) = true ∧
      c.fab.txs.length = s.chip.fab.txs.length + 1 ∧ c.sent = [] ∧ c = { s.upon t with regs := c.regs, fab := c.fab })) ∧
  (∀ (s : State) (t : Nat) (master : Fin 9) (slot : Fin 16) (addr : BitVec 32) (write : Bool) (words : List (BitVec 32)) (lock barrier : Bool) (tg k : Nat),
    s.runs →
    5 ≤ master.val →
    master.val ∉ s.chip.fab.held →
    words ≠ [] →
    addr.toNat % 4 = 0 →
    (s.chip.fab.txs.filter (fun x => x.master == master.val)).length < 16 →
    s.chip.fabAccess master addr.toNat (4 * words.length) write = .error (tg, k) →
    Yields (.fabricTransaction t master slot addr write words lock barrier) s (fun c =>
      c.sent = [.bus master tg k []] ∧ c.fab = s.chip.fab ∧ c.isSet Reg.FAB_STATUS_ERR_SEEN 0 = true ∧
      c.fld Reg.FAB_ERR_ADDR_ADDR 0 = addr.toNat ∧ c.fld Reg.FAB_ERR_INFO_MASTER 0 = master ∧ c.fld Reg.FAB_ERR_INFO_WRITE 0 = flag write ∧
      c.logged Ev.fabError [master * 268435456 + tg * 33554432 + k * 4194304 + flag write * 2097152, addr.toNat])) ∧
  (∀ (s : State) (t : Nat) (target : Fin 7) (x : FabTx),
    s.runs →
    target.val = 1 →
    s.chip.inProgress target = some x →
    x.target = target →
    x.write = true →
    YieldsMem (.fabricArbiterDecision t target []) s (fun c m => Out.bus x.master 1 0 [] ∈ c.sent ∧
      m = (x.words.zipIdx).foldl (fun a e => memWrite a (sramBase + (x.addr + 4 * e.2 - 0x10000000)) (beBytes 4 e.1)) s.mem ∧
      c.log = s.chip.log)) ∧
  (∀ (s : State) (t : Nat) (target : Fin 7) (x : FabTx),
    s.runs →
    s.chip.fab.txs = [x] →
    x.target = target →
    x.granted = false →
    (∀ p, p < 7 → (s.chip.port p).lock = none) →
    Yields (.fabricArbiterDecision t target []) s (fun c => c.fab.txs = [{ x with granted := true }] ∧ (c.port target).parked = none ∧
      Tbl.get 0 (c.port target).spent x.master = Tbl.get 0 (s.chip.port target).spent x.master + x.words.length ∧
      c = { s.upon t with regs := c.regs, fab := c.fab })) ∧
  (∀ (s : State) (t : Nat),
    s.runs →
    Yields (.fabricCreditRefill t) s (fun c => (∀ p, (c.port p).spent = [] ∧ (c.port p).grants = (s.chip.port p).grants ∧ (c.port p).parked = (s.chip.port p).parked) ∧
      c.fab.txs = s.chip.fab.txs ∧ c = { s.upon t with fab := c.fab })) ∧
  (∀ (s : State) (t : Nat) (target : Fin 7) (delivered : Nat) (x : FabTx),
    s.runs →
    target.val = 1 →
    s.chip.inProgress target = some x →
    s.chip.fab.txs.any (fun y => y.target == target.val && y.master != x.master) = true →
    x.target = target →
    x.master ∈ [1, 2, 3, 4, 7, 8] →
    YieldsMem (.fabricHogCut t target delivered []) s (fun c _ => bit (c.fld Reg.FAB_QUAR_MASTER 0) x.master = true ∧ c.isSet Reg.FAB_STATUS_HOG_SEEN 0 = true ∧
      c.fld Reg.FAB_M_EVENTS_HOG_CUTS x.master = min (s.chip.fld Reg.FAB_M_EVENTS_HOG_CUTS x.master + 1) (2 ^ Reg.FAB_M_EVENTS_HOG_CUTS.width - 1) ∧
      c.logged Ev.fabHogCut [x.master * 268435456 + target * 33554432 + flag x.write * 2097152, x.addr])) ∧
  (∀ (s : State) (t : Nat) (master : Fin 9) (target : Fin 7) (tookEffect : Bool) (x : FabTx),
    s.runs →
    5 ≤ master.val →
    2 ≤ target.val →
    s.chip.fab.txs.find? (fun x => x.master == master.val && x.target == target.val) = some x →
    x.granted = false →
    x.write = false →
    x.at_ + (if target.val = 3 ∨ target.val = 4 then usU (s.chip.fld Reg.FAB_TIMEOUT_REG_US 0) else msU (s.chip.fld Reg.FAB_TIMEOUT_MEM_MS 0)) ≤ max s.chip.now t →
    Yields (.fabricTimeout t master target tookEffect) s (fun c => c.sent = [.bus master target 4 []] ∧ c.fab.txs = s.chip.fab.txs.erase x ∧
      c.isSet Reg.FAB_STATUS_TIMEOUT_SEEN 0 = true ∧ c.logged Ev.fabTimeout [master * 268435456 + target * 33554432 + 16777216, x.addr])) ∧
  (∀ (s : State) (t : Nat) (on : Bool),
    s.runs →
    s.chip.isSet Reg.FAB_CTRL_REMAP 0 ≠ on →
    (∀ x ∈ s.chip.fab.txs, x.target ≠ 0) →
    Yields (.remap t on) s (fun c => c.fab.remap = on ∧ c.fab.remapDue = false ∧ c.isSet Reg.FAB_CTRL_REMAP 0 = on ∧
      c.sameRegs s.chip [Reg.FAB_CTRL_REMAP] ∧ c = { s.upon t with regs := c.regs, fab := c.fab })) ∧
  (∀ (s : State) (t : Nat) (mask : Fin 512),
    let q := s.chip.fld Reg.FAB_QUAR_MASTER 0
    s.runs →
    Yields (.fabQuarClear t mask) s (fun c => c.fld Reg.FAB_QUAR_MASTER 0 = (q - (q &&& mask.val)) % 512 ∧ c.fab.txs = s.chip.fab.txs ∧
      (∀ i p, i < 9 → bit q i = true → bit mask i = true → Tbl.get 1 (c.port p).backoff i = 1) ∧
      c.sameRegs s.chip [Reg.FAB_QUAR_MASTER] ∧ c = { s.upon t with regs := c.regs, fab := c.fab })) ∧
  (∀ (s : State) (t : Nat),
    s.runs →
    Yields (.fabClrCnt t) s (fun c => c.fld Reg.FAB_ERR_INFO_COUNT 0 = 0 ∧ (∀ m, m < 9 → c.fld Reg.FAB_M_BEATS_COUNT m = 0 ∧
      c.fld Reg.FAB_M_WAIT_MAX_CYCLES m = 0 ∧ c.fld Reg.FAB_M_EVENTS_HOG_CUTS m = 0 ∧ c.fld Reg.FAB_M_EVENTS_LOCK_TRUNC m = 0 ∧ c.fld Reg.FAB_M_EVENTS_ERRORS m = 0) ∧
      c = { s.upon t with regs := c.regs }))

/-- For every command and every state, a step of the state with the command at the front of its queue is that command carried out on the state with the
queue's rest: requests and events are processed one after another, in the order in which they wait. -/
def Obligations.StepRunsTheFrontCommand : Prop :=
  ∀ (i : Instr) (s : State) (rest : List Instr), step { s with pending := i :: rest } = exec i { s with pending := rest }

/-- A state with no command waiting is its own next state. This is the model's choice, named in log entry 1: the spec's timers and ticks are commands of
the table. -/
def Obligations.IdleStepChangesNothing : Prop :=
  ∀ s : State, s.pending = [] → step s = .next s

/-- The decoder answers none for every number of bits and every word, and placing a word at the front of the queue leaves the state as it is: the commands
of this block carry no encoding. -/
def Obligations.NoWordSpellsACommand : Prop :=
  (∀ n w : Nat, decodeTableWord n w = none) ∧ ∀ (s : State) (n w : Nat), s.withFetchWord n w = s

/-- Every command, on every state, leaves a next state whose queue is as it was and whose clock stands at the command's instant or, when that has passed
already, where it stood. -/
def Obligations.EveryCommandIsCarriedOut : Prop :=
  ∀ (i : Instr) (s : State), ∃ (c : Chip) (m : Tbl Byte), exec i s = .next { s with chip := c, mem := m } ∧ s.chip.now ≤ c.now

/-- In a module that does not run, every command other than those that always act (supplies, reset, temperature, the I2C management target, boundary scan)
leaves the memories and the module as they were, but for the clock and for what the command before it sent. -/
def Obligations.StoppedModuleStaysAsItIs : Prop :=
  ∀ (i : Instr) (s : State), s.chip.run ≠ .running → i.alwaysActs = false →
    ∃ t, exec i s = .next { s with chip := { s.chip with now := max s.chip.now t, sent := [] } }

/-- A command that is not one of those that reach the memories (the fabric, the flash functions, bulk writes, sessions that close, starts and restarts)
leaves every byte of the flash, the boot memories and the frame store windows as it was. -/
def Obligations.OnlyMemoryCommandsWriteMemory : Prop :=
  ∀ (i : Instr) (s u : State), i.reachesMemory = false → exec i s = .next u → u.mem = s.mem

/-- For every state whose memories are in canonical form (addresses strictly rising, no entry equal to what an unlisted address reads as), every next
state's memories are in canonical form, whatever command the step takes and wherever it writes: blocks of images, settings banks, journals, key
tables, archive batches, fabric bursts, bulk writes, erasures. -/
def Obligations.MemoryStaysCanonical : Prop :=
  ∀ s u : State, s.memOk → step s = .next u → u.memOk

/-- At reset nothing is listed, so the form that every step keeps holds at the start. -/
def Obligations.MemoryIsCanonicalAtReset : Prop :=
  State.reset.memOk

/-- In the state at reset every field of every register holds its reset value, in every bank; among them DEV_ID 0x544B1024 and REV_ID 0x00000B00, the
scrub period 60 s, the hog limit of the frame store 256 beats and of the fabric 256, the default modes AUTO of sources with 2 lost frames, and
counters at 0. No route stands, no take waits, no session is open, and the recorder is empty. -/
def Obligations.RegistersAtReset : Prop :=
  (∀ (f : Fld) (b : Nat), State.reset.chip.fld f b = f.reset) ∧
  State.reset.chip.fld Reg.BOOT_DEV_ID_ID 0 = 0x544B1024 ∧ State.reset.chip.fld Reg.BOOT_REV_ID_REV 0 = 0x00000B00 ∧
  State.reset.chip.fld Reg.FST_SCRUB_PERIOD_S 0 = 60 ∧ State.reset.chip.fld Reg.ARB_HOG_LIMIT_BEATS 0 = 256 ∧
  State.reset.chip.fld Reg.FAB_HOG_LIMIT_BEATS 0 = 256 ∧
  (∀ i, State.reset.chip.fld Reg.XPT_SRC_CFG_MODE i = 2 ∧ State.reset.chip.fld Reg.XPT_SRC_CFG_LOSS_FRAMES i = 2 ∧ State.reset.chip.fld Reg.XPT_LINE_MISS_COUNT i = 0) ∧
  (∀ d l, State.reset.chip.route d l = none) ∧ State.reset.chip.xpt.queue = [] ∧ (∀ i, (State.reset.chip.session i).state = .free) ∧
  State.reset.chip.log.ring = [] ∧ State.reset.pending = []

/-- In a module that runs, whatever is selected: a write of MODE 3 or LOSS_FRAMES 0 to XPT.SRC_CFG has no effect but CFG_REJECT of XPT.STATUS. A write of
a DST_SEL above 1567 or of a SRC_SEL above 1119 leaves everything as it was but the selection, and every per-destination (DST_ROUTE_V, DST_ROUTE_A,
DST_ROUTE_F, DST_STATE, DST_ALT, LINE_MISS) or per-source register (SRC_STATE, SRC_CFG, ANC_DROP) then reads as 0, to every master. -/
def Obligations.XptRejectedWrites : Prop :=
  (∀ (s : State) (t : Nat) (master : Fin 9) (slot : Fin 16) (v : BitVec 32),
    s.runs →
    (v.toNat % 4 = 3 ∨ v.toNat / 256 % 256 = 0) →
    exec (.registerWrite t master slot 0x40000048 v) s = .next { s with chip := (s.upon t).mark Reg.XPT_STATUS_CFG_REJECT }) ∧
  (∀ (s : State) (t : Nat) (master : Fin 9) (slot : Fin 16) (v : BitVec 32),
    s.runs →
    1567 < v.toNat →
    Yields (.registerWrite t master slot 0x40000020 v) s (fun c =>
      (∀ (m : Fin 9) (sl : Fin 16), ∀ a ∈ [0x40000024, 0x40000028, 0x4000002C, 0x40000030, 0x40000034, 0x40000038], c.regWord m sl a = 0) ∧
      c.sameRegs s.chip [Reg.XPT_DST_SEL_DST] ∧ c = { s.upon t with regs := c.regs, noSel := c.noSel })) ∧
  (∀ (s : State) (t : Nat) (master : Fin 9) (slot : Fin 16) (v : BitVec 32),
    s.runs →
    1119 < v.toNat →
    Yields (.registerWrite t master slot 0x40000040 v) s (fun c =>
      (∀ (m : Fin 9) (sl : Fin 16), ∀ a ∈ [0x40000044, 0x40000048, 0x4000004C], c.regWord m sl a = 0) ∧
      c.sameRegs s.chip [Reg.XPT_SRC_SEL_SRC] ∧ c = { s.upon t with regs := c.regs, noSel := c.noSel }))

/-- In a module that runs, each of these writes of the SPL block has no effect but CFG_REJECT of SPL.STATUS: PORT_SEL above 7, DST_SEL above 1567, REJOIN
on a device that lies in no splice system, HANDOVER on a device whose standby is unsynchronised. A REG_WRITE of SPL.CTRL with REJOIN or HANDOVER by a
session whose privilege is below MAINTAIN is answered with LAN_PRIV, and no register and nothing of the splice changes, beyond the responses that wait
for the twin. -/
def Obligations.SpliceRejectedWrites : Prop :=
  (∀ (s : State) (t : Nat) (master : Fin 9) (slot : Fin 16) (v : BitVec 32),
    s.runs →
    7 < v.toNat →
    exec (.registerWrite t master slot 0x60020030 v) s = .next { s with chip := (s.upon t).mark Reg.SPL_STATUS_CFG_REJECT }) ∧
  (∀ (s : State) (t : Nat) (master : Fin 9) (slot : Fin 16) (v : BitVec 32),
    s.runs →
    1567 < v.toNat →
    exec (.registerWrite t master slot 0x60020050 v) s = .next { s with chip := (s.upon t).mark Reg.SPL_STATUS_CFG_REJECT }) ∧
  (∀ (s : State) (t : Nat) (master : Fin 9) (slot : Fin 16) (v : BitVec 32),
    s.runs →
    (bit v.toNat 1 = true ∧ s.chip.spl.members.length ≤ 1 ∨ bit v.toNat 2 = true ∧ s.chip.fld Reg.SPL_TWIN_SYNCED 0 = 0) →
    exec (.registerWrite t master slot 0x60020000 v) s = .next { s with chip := (s.upon t).mark Reg.SPL_STATUS_CFG_REJECT }) ∧
  (∀ (s : State) (t : Nat) (slot : Fin 16) (v : BitVec 32) (facts : List BusFact),
    s.runs →
    s.chip.serves slot = true →
    (s.chip.session slot).priv < 3 →
    (bit v.toNat 1 = true ∨ bit v.toNat 2 = true) →
    Yields (.regWrite t slot (beBytes 2 1 ++ beBytes 2 0 ++ beBytes 4 0x60020000 ++ beBytes 4 v.toNat) facts) s (fun c =>
      c.replied (s.upon t) slot 0x0302 (statusOf 0x1102 wholeIndex) [] ∧
      c = { s.upon t with lan := c.lan, sent := c.sent, spl := { s.chip.spl with mirror := c.spl.mirror } }))

/-- In a module that runs, with the store ready and a swap pending: when the shadow of any of the 64 channels breaks a condition of R148 (more owned slots
than the limit, or an owner in the tail), TABLE_SWAP leaves the active tables of every channel as they are, ends the pending swap, sets SWAP_REFUSED
and records ARB_SWAP_REFUSED with severity WARNING; nothing else changes. -/
def Obligations.InvalidSlotTableNeverSwaps : Prop :=
  (∀ (s : State) (t : Nat),
    s.runs →
    s.chip.arb.swapPend = true →
    s.chip.fst.ready = true →
    (∃ ch ∈ List.range 64, ownedLimit < s.chip.arb.shadow.owned ch ∨ s.chip.arb.shadow.tailOwned ch = true) →
    Yields (.tableSwap t) s (fun c =>
      c.arb = { s.chip.arb with swapPend := false } ∧ c.fld Reg.ARB_STATUS_SWAP_REFUSED 0 = 1 ∧
      c.sameRegs s.chip [Reg.ARB_STATUS_SWAP_REFUSED] ∧
      (∃ r ∈ c.log.handed, r.block = Ev.arbSwapRefused.block ∧ r.code = Ev.arbSwapRefused.code ∧ r.sev = 3) ∧
      c = { s.upon t with arb := c.arb, regs := c.regs, log := c.log }))

/-- In a module that runs, a write of LOG.CTRL with WIN_LOAD and no other bit performs one read of the log from WIN_CURSOR: WIN_DATA holds its 64 words,
WIN_NEXT (and, by the model's reading of R589, the cursor) the position after it, and no other register and nothing else changes. -/
def Obligations.WindowLoadsTheLog : Prop :=
  (∀ (s : State) (t : Nat) (master : Fin 9) (slot : Fin 16) (v : BitVec 32),
    let r := (s.upon t).windowRead (s.chip.fld Reg.LOG_WIN_CURSOR_SEQ 0)
    s.runs →
    v.toNat % 32 = 8 →
    Yields (.registerWrite t master slot 0x60060000 v) s (fun c =>
      (∀ w, w < 64 → c.fld (Reg.LOG_WIN_DATA_WORD w) 0 = u32 r.1 (4 * w)) ∧ c.fld Reg.LOG_WIN_NEXT_SEQ 0 = r.2 % 2 ^ 32 ∧
      c.sameRegs s.chip ([Reg.LOG_WIN_NEXT_SEQ, Reg.LOG_WIN_CURSOR_SEQ] ++ (List.range 64).map Reg.LOG_WIN_DATA_WORD) ∧
      c = { s.upon t with regs := c.regs }))

/-- In units of 1/27 ns a slot time at 146.484375 MHz is 4608/25 units. From any instant at or after reset release, 4608 k units later the count that
ARB.SLOT_CNT shows is 25 k higher, modulo 2^32 (so that it wraps after 2^32 slots, 29.3 s); it is the same for any two modules that were released at
the same instant, whatever data moves; and a best-effort request that is raised carries it as its stamp. -/
def Obligations.SlotCountRunsFree : Prop :=
  (∀ (c : Chip) (k : Nat) (m : Fin 9) (sl : Fin 16),
    c.released ≤ c.now →
    ({ c with now := c.now + 4608 * k } : Chip).regWord m sl 0x40030014 = (c.regWord m sl 0x40030014 + 25 * k) % 2 ^ 32) ∧
  (∀ (c d : Chip),
    c.now = d.now →
    c.released = d.released →
    c.slotCount = d.slotCount) ∧
  (∀ (s : State) (t : Nat) (ch : Fin 64) (beats : Nat) (lock write : Bool),
    s.runs →
    s.chip.fst.ready = true →
    bit (s.chip.fld Reg.ARB_QUAR_CLIENT 0) 0 = false →
    (∀ x ∈ (s.chip.arbiter ch).waiting ++ (s.chip.arbiter ch).grant.toList, x.client ≠ 0) →
    Yields (.beRequest t ch 0 0 beats lock write) s (fun c =>
      ∃ q ∈ (c.arbiter ch).waiting, q.client = 0 ∧ q.beats = beats ∧ q.stamp = (s.upon t).regWord 0 0 0x40030014))

/-- In a module that runs with the store ready, at a slot that no real-time owner holds and with no catch-up credit, let `o` be the oldest waiting request
of the channel, not one that R165 bars as a locked burst in the tail. ARBITER_DECISION grants some waiting request `q`. Clients in backoff are not
granted, unless theirs is `o`. When the grant counter comes to 0, `q` is `o`; otherwise the client of `q` has at least the credit of `o`'s client.
Every other waiting request goes on waiting with its stamp. -/
def Obligations.OldestRequestArbitration : Prop :=
  (∀ (s : State) (t : Nat) (ch : Fin 64) (slot : Fin 18304) (ready : List (Fin 5)) (o : BeReq),
    s.runs →
    s.chip.fst.ready = true →
    s.chip.arb.active.owner ch slot = 0 →
    s.chip.arb.catchUp = [] →
    oldestOf (s.chip.arbiter ch).waiting = some o →
    (o.lock = false ∨ slot.val < 18288) →
    Yields (.arbiterDecision t ch slot ready) s (fun c =>
      ∃ q ∈ (s.chip.arbiter ch).waiting, (c.arbiter ch).grant = some q ∧
        (q.client ∈ (s.chip.arbiter ch).off → q = o) ∧
        ((s.chip.arbiter ch).grants % 16 = 15 → q = o) ∧
        (q ≠ o → s.chip.credit ch o.client ≤ s.chip.credit ch q.client) ∧
        (∀ x ∈ (s.chip.arbiter ch).waiting, x ≠ q → x ∈ (c.arbiter ch).waiting)))

/-- For every state of a module that runs, every session and every body: after SALVO the take queue is as it was, or every take that the body asks for
waits in it, all under one identifier. A refused salvo, one that awaits an exchange and one that is not served leave no take behind, whichever of its
takes fails which check. -/
def Obligations.SalvoIsAllOrNothing : Prop :=
  (∀ (s : State) (t : Nat) (slot : Fin 16) (body : List Byte),
    s.runs →
    Yields (.salvo t slot body) s (fun c =>
      c.xpt.queue = s.chip.xpt.queue ∨
      ∃ id, ∀ a ∈ salvoAsks body, ∃ q ∈ c.xpt.queue, q.id = id ∧ q.dst = a.dst ∧ q.src = a.src ∧ q.levels = a.levels))

/-- For every request of the lanyard, whatever its body: when the session of its slot is not open, awaits a reservation exchange, or an activation makes
requests wait, the request is carried out without any effect: neither registers nor memories nor sessions change, and nothing is sent. -/
def Obligations.RequestsWaitTheirTurn : Prop :=
  (∀ (i : Instr) (s : State) (slot : Fin 16),
    i.request?.isSome = true →
    s.runs →
    (∀ r, i.request? = some r → r.1 = slot) →
    s.chip.serves slot = false →
    ∃ t, exec i s = .next { s with chip := s.upon t })

/-- For every module, session, message type and effect: a request whose session is served, but whose privilege is below the one it needs, is answered with
LAN_PRIV before anything else is checked; one that fails a later common check (recovery, pilot service, length, restart) is answered with that check's
code. In either case the response is the next of its session, the effect of the request does not take place, and only the lanyard's and the splice's
pending responses and what is sent change. -/
def Obligations.RefusedRequestChangesNothing : Prop :=
  ∀ (c : Chip) (slot m need : Nat) (rec lenOk : Bool) (f : Chip → Chip), c.serves slot = true → (c.gateCode slot m need rec lenOk).isSome = true →
    ∃ code, (c.request slot m need rec lenOk f).replied c slot m (statusOf code wholeIndex) [] ∧
      ((c.session slot).priv < need → code = 0x1102) ∧
      ∃ d : Chip, c.request slot m need rec lenOk f = { c with lan := d.lan, sent := d.sent, spl := d.spl }

/-- For any two memories that agree outside the keys region (0x0C000000 to 0x0C0FFFFF of the flash), FLASH_READ, FRAME_STORE_READ, DEEP_ANALYSER_RING_READ
and REG_READ, whatever their bodies, leave the module and everything it sends the same: no session key can be read through them. -/
def Obligations.KeysAreNeverRead : Prop :=
  (∀ (s : State) (m : Tbl Byte) (t : Nat) (slot : Fin 16) (body : List Byte) (facts : List BusFact),
    (∀ a, a < 0x1C000000 ∨ 0x1C0FFFFF < a → Tbl.get memUnlisted s.mem a = Tbl.get memUnlisted m a) →
    (∃ c, exec (.flashRead t slot body) s = .next { s with chip := c } ∧ exec (.flashRead t slot body) { s with mem := m } = .next { s with chip := c, mem := m }) ∧
    (∃ c, exec (.frameStoreRead t slot body []) s = .next { s with chip := c } ∧ exec (.frameStoreRead t slot body []) { s with mem := m } = .next { s with chip := c, mem := m }) ∧
    (∃ c, exec (.deepAnalyserRingRead t slot body) s = .next { s with chip := c } ∧ exec (.deepAnalyserRingRead t slot body) { s with mem := m } = .next { s with chip := c, mem := m }) ∧
    (∃ c, exec (.regRead t slot body facts) s = .next { s with chip := c } ∧ exec (.regRead t slot body facts) { s with mem := m } = .next { s with chip := c, mem := m }))

/-- CLOSE of a session, its idle timeout and CLOSE_ALL, in a module that runs and from every state, leave the crosspoint (routes, queues, staged takes),
the composers, the capture store, the frame store and the audio matrix as they were: what a session has had accepted outlives it. -/
def Obligations.ClosingKeepsTakes : Prop :=
  (∀ (s : State) (t : Nat),
    s.runs →
    YieldsMem (.closeAll t) s (fun c _ =>
      c.xpt = s.chip.xpt ∧ c.cmp = s.chip.cmp ∧ c.cap = s.chip.cap ∧ c.fst = s.chip.fst ∧ c.aud = s.chip.aud)) ∧
  (∀ (s : State) (t : Nat) (slot : Fin 16),
    s.runs →
    YieldsMem (.sessionIdleTimeout t slot) s (fun c _ =>
      c.xpt = s.chip.xpt ∧ c.cmp = s.chip.cmp ∧ c.cap = s.chip.cap ∧ c.fst = s.chip.fst ∧ c.aud = s.chip.aud)) ∧
  (∀ (s : State) (t : Nat) (slot : Fin 16) (body : List Byte),
    s.runs →
    YieldsMem (.close t slot body) s (fun c _ =>
      c.xpt = s.chip.xpt ∧ c.cmp = s.chip.cmp ∧ c.cap = s.chip.cap ∧ c.fst = s.chip.fst ∧ c.aud = s.chip.aud))

/-- For every module, every master, every session slot and every address: a bit of the word read that no field of the register tables covers is 0, and so
is every bit of a reserved address. -/
def Obligations.ReservedBitsReadZero : Prop :=
  ∀ (c : Chip) (master slot a k : Nat), (∀ f ∈ Regs.atAddr a, k < f.lo ∨ f.lo + f.width ≤ k) → (c.regWord master slot a).testBit k = false

/-- Two words that agree in every field of a register have the same effect when they are written to it, on the module and on the memories: a write that
sets reserved bits is completed and the reserved bits have no effect. Select registers and FAB.QUAR, whose rules reject values by the whole word
written (log entry 60), are left out. -/
def Obligations.ReservedBitsWriteNothing : Prop :=
  ∀ (c : Chip) (m : Tbl Byte) (master slot a : Nat) (v w : BitVec 32), selects a = false → a ≠ Reg.FAB_QUAR_MASTER.addr →
    (∀ f ∈ Regs.atAddr a, f.of v.toNat = f.of w.toNat) → c.regWrite m master slot a v.toNat = c.regWrite m master slot a w.toNat

/-- In a module that runs, a write of BOOT.CTRL whose KEY is not 0xC0DE, or without COLD_RESET, changes neither the module nor the memories, whatever is
selected; with COLD_RESET and the key the module goes into reset. -/
def Obligations.ColdResetNeedsItsKey : Prop :=
  (∀ (s : State) (t : Nat) (master : Fin 9) (slot : Fin 16) (v : BitVec 32),
    s.runs →
    (v.toNat / 65536 ≠ 0xC0DE ∨ bit v.toNat 0 = false) →
    exec (.registerWrite t master slot 0x60030000 v) s = .next { s with chip := s.upon t }) ∧
  (∀ (s : State) (t : Nat) (master : Fin 9) (slot : Fin 16) (v : BitVec 32),
    s.runs →
    v.toNat / 65536 = 0xC0DE →
    bit v.toNat 0 = true →
    YieldsMem (.registerWrite t master slot 0x60030000 v) s (fun c _ => c.run = .inReset))
end

