-- ==== Sys2Proof/Laws/Tbl.lean ====
section
/-! SUPPORT. The laws of sparse tables: a read after a write, and that every write keeps the canonical form. -/

namespace Sys2Proof.Machine

variable {α : Type}

theorem Tbl.get_above_le (d : α) (t : Tbl α) (k j : Nat) (h : j ≤ k) : Tbl.get d (Tbl.above t k) j = d := by
  induction t with
  | nil => rfl
  | cons e r ih =>
    obtain ⟨a, b⟩ := e
    simp only [Tbl.above]
    split
    · simp only [Tbl.get]; split_ifs <;> first | rfl | omega
    · exact ih

theorem Tbl.get_above_gt (d : α) (t : Tbl α) (k j : Nat) (h : k < j) : Tbl.get d (Tbl.above t k) j = Tbl.get d t j := by
  induction t with
  | nil => rfl
  | cons e r ih =>
    obtain ⟨a, b⟩ := e
    simp only [Tbl.above]
    split
    · rfl
    · simp only [Tbl.get]; rw [ih]; split_ifs <;> first | rfl | omega

variable [DecidableEq α]

/-- Reading what has just been written gives the value written. -/
@[simp] theorem Tbl.get_put (d : α) (t : Tbl α) (k : Nat) (v : α) : Tbl.get d (Tbl.put d t k v) k = v := by
  induction t with
  | nil => simp only [Tbl.put]; split <;> simp_all [Tbl.get]
  | cons e r ih =>
    obtain ⟨k', w⟩ := e
    simp only [Tbl.put]
    split_ifs with h1 h2 h3 h4
    · subst h2; simp only [Tbl.get]; split_ifs <;> first | rfl | omega
    · simp [Tbl.get]
    · subst h4; exact Tbl.get_above_le _ _ _ _ (le_refl _)
    · simp [Tbl.get]
    · simp only [Tbl.get]; rw [if_neg h3, if_neg h1, ih]

/-- A read with an unlisted value of its own, of a key that the write does not name. -/
theorem Tbl.get_put_foreign (d e : α) (t : Tbl α) (k j : Nat) (v : α) (h : j ≠ k) :
    Tbl.get e (Tbl.put d t k v) j = Tbl.get e t j := by
  induction t with
  | nil =>
    simp only [Tbl.put]
    split
    · rfl
    · simp only [Tbl.get]; split_ifs <;> first | rfl | omega
  | cons x r ih =>
    obtain ⟨k', w⟩ := x
    simp only [Tbl.put]
    split_ifs with h1 h2 h3 h4
    · rfl
    · simp only [Tbl.get]; split_ifs <;> first | rfl | omega
    · subst h3
      rcases Nat.lt_or_ge j k with hj | hj
      · rw [Tbl.get_above_le e r k j (by omega)]; simp only [Tbl.get]; split_ifs <;> first | rfl | omega
      · rw [Tbl.get_above_gt e r k j (by omega)]; simp only [Tbl.get]; split_ifs <;> first | rfl | omega
    · simp only [Tbl.get]; split_ifs <;> first | rfl | omega
    · simp only [Tbl.get]; rw [ih]

/-- Writing one key leaves every other key as it was. -/
theorem Tbl.get_put_other (d : α) (t : Tbl α) (k j : Nat) (v : α) (h : j ≠ k) : Tbl.get d (Tbl.put d t k v) j = Tbl.get d t j :=
  Tbl.get_put_foreign d d t k j v h

/-- A read of any key after a write. -/
theorem Tbl.get_put_if (d : α) (t : Tbl α) (k j : Nat) (v : α) :
    Tbl.get d (Tbl.put d t k v) j = if j = k then v else Tbl.get d t j := by
  split
  · next h => subst h; exact Tbl.get_put d t j v
  · next h => exact Tbl.get_put_other d t k j v h

@[simp] theorem Tbl.get_upd (d : α) (t : Tbl α) (k : Nat) (f : α → α) : Tbl.get d (Tbl.upd d t k f) k = f (Tbl.get d t k) :=
  Tbl.get_put d t k _

theorem Tbl.get_upd_other (d : α) (t : Tbl α) (k j : Nat) (f : α → α) (h : j ≠ k) :
    Tbl.get d (Tbl.upd d t k f) j = Tbl.get d t j := Tbl.get_put_other d t k j _ h

omit [DecidableEq α] in
theorem Tbl.get_ne_listed (d : α) (t : Tbl α) (k : Nat) (h : ∀ e ∈ t, e.1 ≠ k) : Tbl.get d t k = d := by
  induction t with
  | nil => rfl
  | cons e r ih =>
    obtain ⟨a, b⟩ := e
    simp only [Tbl.get]
    rw [if_neg (fun hk => h (a, b) (by simp) hk.symm)]
    split
    · rfl
    · exact ih (fun e he => h e (by simp [he]))

theorem Tbl.okAbove_weaken (d : α) (lo : Nat) (t : Tbl α) (h : Tbl.okAbove d (some lo) t = true) (m : Option Nat)
    (hm : ∀ x, m = some x → x ≤ lo) : Tbl.okAbove d m t = true := by
  cases t with
  | nil => rfl
  | cons e r =>
    obtain ⟨k, v⟩ := e
    simp only [Tbl.okAbove, Bool.and_eq_true, decide_eq_true_eq] at h ⊢
    refine ⟨⟨?_, h.1.2⟩, h.2⟩
    cases m with
    | none => rfl
    | some x => have := hm x rfl; simp only [decide_eq_true_eq]; omega

theorem Tbl.ok_above (d : α) (t : Tbl α) (k : Nat) (lo : Option Nat) (h : Tbl.okAbove d lo t = true) :
    Tbl.okAbove d (some k) (Tbl.above t k) = true := by
  induction t generalizing lo with
  | nil => rfl
  | cons e r ih =>
    obtain ⟨k', v⟩ := e
    simp only [Tbl.okAbove, Bool.and_eq_true, decide_eq_true_eq] at h
    simp only [Tbl.above]
    split
    · simp only [Tbl.okAbove, Bool.and_eq_true, decide_eq_true_eq]; exact ⟨⟨by assumption, h.1.2⟩, h.2⟩
    · exact ih _ h.2

omit [DecidableEq α] in
theorem Tbl.low_lt (lo : Option Nat) (k : Nat) :
    (∀ x, lo = some x → x < k) → (match lo with | none => true | some m => decide (m < k)) = true := by
  intro h
  cases lo with
  | none => rfl
  | some x => simpa using h x rfl

theorem Tbl.okAbove_put (d : α) (t : Tbl α) (k : Nat) (v : α) (lo : Option Nat) (hlo : ∀ x, lo = some x → x < k)
    (h : Tbl.okAbove d lo t = true) : Tbl.okAbove d lo (Tbl.put d t k v) = true := by
  induction t generalizing lo with
  | nil =>
    simp only [Tbl.put]
    split
    · rfl
    · next hv =>
      simp only [Tbl.okAbove, Bool.and_true, Bool.and_eq_true, decide_eq_true_eq]
      refine ⟨?_, hv⟩
      cases lo with
      | none => rfl
      | some x => simpa using hlo x rfl
  | cons e r ih =>
    obtain ⟨k', w⟩ := e
    have h0 := h
    simp only [Tbl.okAbove, Bool.and_eq_true, decide_eq_true_eq] at h
    have hl := Tbl.low_lt lo k hlo
    simp only [Tbl.put]
    split_ifs with h1 h2 h3 h4
    · exact h0
    · simp only [Tbl.okAbove, Bool.and_eq_true, decide_eq_true_eq]
      exact ⟨⟨hl, h2⟩, ⟨h1, h.1.2⟩, h.2⟩
    · exact Tbl.okAbove_weaken d k _ (Tbl.ok_above d r k _ h.2) lo (fun x hx => le_of_lt (hlo x hx))
    · subst h3
      simp only [Tbl.okAbove, Bool.and_eq_true, decide_eq_true_eq]
      exact ⟨⟨hl, h4⟩, h.2⟩
    · simp only [Tbl.okAbove, Bool.and_eq_true, decide_eq_true_eq]
      exact ⟨h.1, ih (some k') (fun x hx => by cases hx; omega) h.2⟩

/-- A write keeps the canonical form. -/
theorem Tbl.ok_put (d : α) (t : Tbl α) (k : Nat) (v : α) (h : Tbl.ok d t = true) : Tbl.ok d (Tbl.put d t k v) = true :=
  Tbl.okAbove_put d t k v none (fun x hx => by cases hx) h

/-- A write of a run of bytes keeps the canonical form. -/
theorem Tbl.ok_putList (d : α) (t : Tbl α) (k : Nat) (l : List α) (h : Tbl.ok d t = true) :
    Tbl.ok d (Tbl.putList d t k l) = true := by
  induction l generalizing t k with
  | nil => exact h
  | cons v r ih => exact ih _ _ (Tbl.ok_put d t k v h)

/-- A key outside the run written keeps its value. -/
theorem Tbl.get_putList_other (d : α) (t : Tbl α) (k : Nat) (l : List α) (j : Nat) (h : j < k ∨ k + l.length ≤ j) :
    Tbl.get d (Tbl.putList d t k l) j = Tbl.get d t j := by
  induction l generalizing t k with
  | nil => rfl
  | cons v r ih =>
    simp only [Tbl.putList, List.length_cons] at h ⊢
    rw [ih _ _ (by omega), Tbl.get_put_other d t k j v (by omega)]

/-- A key of the run written holds its value of the run. -/
theorem Tbl.get_putList (d : α) (t : Tbl α) (k : Nat) (l : List α) (i : Nat) (h : i < l.length) :
    Tbl.get d (Tbl.putList d t k l) (k + i) = l[i] := by
  induction l generalizing t k i with
  | nil => simp at h
  | cons v r ih =>
    cases i with
    | zero => simp only [Tbl.putList, Nat.add_zero]; rw [Tbl.get_putList_other d _ _ _ _ (by omega)]; simp
    | succ i =>
      have := ih (Tbl.put d t k v) (k + 1) i (by simpa using h)
      simp only [Tbl.putList]
      rw [show k + (i + 1) = k + 1 + i by omega, this]; simp

theorem Tbl.okAbove_filter (d : α) (p : Nat × α → Bool) (t : Tbl α) (lo : Option Nat) (h : Tbl.okAbove d lo t = true) :
    Tbl.okAbove d lo (t.filter p) = true := by
  induction t generalizing lo with
  | nil => rfl
  | cons e r ih =>
    obtain ⟨k, v⟩ := e
    simp only [Tbl.okAbove, Bool.and_eq_true, decide_eq_true_eq] at h
    simp only [List.filter_cons]
    split
    · simp only [Tbl.okAbove, Bool.and_eq_true, decide_eq_true_eq]; exact ⟨h.1, ih _ h.2⟩
    · refine ih lo ?_
      cases lo with
      | none => exact Tbl.okAbove_weaken d k r h.2 none (fun x hx => by cases hx)
      | some x =>
        have hx : x < k := by simpa using h.1.1
        exact Tbl.okAbove_weaken d k r h.2 (some x) (fun y hy => by cases hy; omega)

/-- Removing entries keeps the canonical form. -/
theorem Tbl.ok_filter (d : α) (p : Nat × α → Bool) (t : Tbl α) (h : Tbl.ok d t = true) : Tbl.ok d (t.filter p) = true :=
  Tbl.okAbove_filter d p t none h

end Sys2Proof.Machine
end

