-- ==== Sys2Proof/Laws/State.lean ====
section
/-! SUPPORT. What each update of the module leaves alone, one lemma for each field, and what it gives the field it writes: no proof
unfolds an update of a state. -/

namespace Sys2Proof.Machine

/-! ## The register file -/

/-- A field just written holds the value, kept to its width. -/
@[simp] theorem Chip.fld_set (c : Chip) (f : Fld) (b v : Nat) : (c.set f b v).fld f b = v % 2 ^ f.width := Tbl.get_put _ _ _ _

/-- Writing one field leaves every field at another place as it was. -/
theorem Chip.fld_set_other (c : Chip) (f g : Fld) (b d v : Nat) (h : g.key d ≠ f.key b) : (c.set f b v).fld g d = c.fld g d :=
  Tbl.get_put_foreign _ _ _ _ _ _ h

theorem Chip.mark_eq (c : Chip) (f : Fld) : c.mark f = c.set f 0 1 := rfl

theorem Chip.count_eq (c : Chip) (f : Fld) (b n : Nat) : c.count f b n = c.set f b (min (c.fld f b + n) (2 ^ f.width - 1)) := rfl

theorem Chip.countWrap_eq (c : Chip) (f : Fld) (b n : Nat) : c.countWrap f b n = c.set f b (c.fld f b + n) := rfl

theorem Chip.peak_eq (c : Chip) (f : Fld) (b v : Nat) : c.peak f b v = c.set f b (max (c.fld f b) (min v (2 ^ f.width - 1))) := rfl

theorem Chip.markIf_eq (c : Chip) (b : Bool) (f : Fld) : c.markIf b f = c.set f 0 (if b then 1 else c.fld f 0) := rfl

/-- A counter cleared by its block reads its reset value in every bank. -/
theorem Chip.fld_clearAll (c : Chip) (fs : List Fld) (f : Fld) (b : Nat) (hf : f ∈ fs) (hb : b < 1048576) :
    (c.clearAll fs).fld f b = f.reset := by
  refine Tbl.get_ne_listed _ _ _ ?_
  intro e he hk
  simp only [Chip.clearAll, List.mem_filter, Bool.not_eq_true', List.any_eq_false, decide_eq_true_eq] at he
  refine he.2 f hf ?_
  rw [hk, Fld.key]; omega

/-! ## What each update leaves alone -/
@[simp] theorem Chip.begin_released (c : Chip) (t : Nat) : (c.begin t).released = c.released := rfl
@[simp] theorem Chip.begin_run (c : Chip) (t : Nat) : (c.begin t).run = c.run := rfl
@[simp] theorem Chip.begin_clock (c : Chip) (t : Nat) : (c.begin t).clock = c.clock := rfl
@[simp] theorem Chip.begin_latch (c : Chip) (t : Nat) : (c.begin t).latch = c.latch := rfl
@[simp] theorem Chip.begin_free (c : Chip) (t : Nat) : (c.begin t).free = c.free := rfl
@[simp] theorem Chip.begin_regs (c : Chip) (t : Nat) : (c.begin t).regs = c.regs := rfl
@[simp] theorem Chip.begin_cfg (c : Chip) (t : Nat) : (c.begin t).cfg = c.cfg := rfl
@[simp] theorem Chip.begin_lan (c : Chip) (t : Nat) : (c.begin t).lan = c.lan := rfl
@[simp] theorem Chip.begin_log (c : Chip) (t : Nat) : (c.begin t).log = c.log := rfl
@[simp] theorem Chip.begin_tick (c : Chip) (t : Nat) : (c.begin t).tick = c.tick := rfl
@[simp] theorem Chip.begin_xpt (c : Chip) (t : Nat) : (c.begin t).xpt = c.xpt := rfl
@[simp] theorem Chip.begin_fst (c : Chip) (t : Nat) : (c.begin t).fst = c.fst := rfl
@[simp] theorem Chip.begin_arb (c : Chip) (t : Nat) : (c.begin t).arb = c.arb := rfl
@[simp] theorem Chip.begin_cmp (c : Chip) (t : Nat) : (c.begin t).cmp = c.cmp := rfl
@[simp] theorem Chip.begin_boot (c : Chip) (t : Nat) : (c.begin t).boot = c.boot := rfl
@[simp] theorem Chip.begin_spl (c : Chip) (t : Nat) : (c.begin t).spl = c.spl := rfl
@[simp] theorem Chip.begin_upd (c : Chip) (t : Nat) : (c.begin t).upd = c.upd := rfl
@[simp] theorem Chip.begin_aud (c : Chip) (t : Nat) : (c.begin t).aud = c.aud := rfl
@[simp] theorem Chip.begin_net (c : Chip) (t : Nat) : (c.begin t).net = c.net := rfl
@[simp] theorem Chip.begin_fwa (c : Chip) (t : Nat) : (c.begin t).fwa = c.fwa := rfl
@[simp] theorem Chip.begin_cap (c : Chip) (t : Nat) : (c.begin t).cap = c.cap := rfl
@[simp] theorem Chip.begin_lne (c : Chip) (t : Nat) : (c.begin t).lne = c.lne := rfl
@[simp] theorem Chip.begin_ref (c : Chip) (t : Nat) : (c.begin t).ref = c.ref := rfl
@[simp] theorem Chip.begin_ptp (c : Chip) (t : Nat) : (c.begin t).ptp = c.ptp := rfl
@[simp] theorem Chip.begin_flt (c : Chip) (t : Nat) : (c.begin t).flt = c.flt := rfl
@[simp] theorem Chip.begin_fab (c : Chip) (t : Nat) : (c.begin t).fab = c.fab := rfl
@[simp] theorem Chip.begin_pwr (c : Chip) (t : Nat) : (c.begin t).pwr = c.pwr := rfl
@[simp] theorem Chip.begin_pin (c : Chip) (t : Nat) : (c.begin t).pin = c.pin := rfl
@[simp] theorem Chip.begin_noSel (c : Chip) (t : Nat) : (c.begin t).noSel = c.noSel := rfl
@[simp] theorem Chip.begin_fld (c : Chip) (t : Nat) (g : Fld) (d : Nat) : (c.begin t).fld g d = c.fld g d := rfl

@[simp] theorem Chip.set_now (c : Chip) (f : Fld) (b v : Nat) : (c.set f b v).now = c.now := rfl
@[simp] theorem Chip.set_released (c : Chip) (f : Fld) (b v : Nat) : (c.set f b v).released = c.released := rfl
@[simp] theorem Chip.set_run (c : Chip) (f : Fld) (b v : Nat) : (c.set f b v).run = c.run := rfl
@[simp] theorem Chip.set_clock (c : Chip) (f : Fld) (b v : Nat) : (c.set f b v).clock = c.clock := rfl
@[simp] theorem Chip.set_latch (c : Chip) (f : Fld) (b v : Nat) : (c.set f b v).latch = c.latch := rfl
@[simp] theorem Chip.set_free (c : Chip) (f : Fld) (b v : Nat) : (c.set f b v).free = c.free := rfl
@[simp] theorem Chip.set_sent (c : Chip) (f : Fld) (b v : Nat) : (c.set f b v).sent = c.sent := rfl
@[simp] theorem Chip.set_cfg (c : Chip) (f : Fld) (b v : Nat) : (c.set f b v).cfg = c.cfg := rfl
@[simp] theorem Chip.set_lan (c : Chip) (f : Fld) (b v : Nat) : (c.set f b v).lan = c.lan := rfl
@[simp] theorem Chip.set_log (c : Chip) (f : Fld) (b v : Nat) : (c.set f b v).log = c.log := rfl
@[simp] theorem Chip.set_tick (c : Chip) (f : Fld) (b v : Nat) : (c.set f b v).tick = c.tick := rfl
@[simp] theorem Chip.set_xpt (c : Chip) (f : Fld) (b v : Nat) : (c.set f b v).xpt = c.xpt := rfl
@[simp] theorem Chip.set_fst (c : Chip) (f : Fld) (b v : Nat) : (c.set f b v).fst = c.fst := rfl
@[simp] theorem Chip.set_arb (c : Chip) (f : Fld) (b v : Nat) : (c.set f b v).arb = c.arb := rfl
@[simp] theorem Chip.set_cmp (c : Chip) (f : Fld) (b v : Nat) : (c.set f b v).cmp = c.cmp := rfl
@[simp] theorem Chip.set_boot (c : Chip) (f : Fld) (b v : Nat) : (c.set f b v).boot = c.boot := rfl
@[simp] theorem Chip.set_spl (c : Chip) (f : Fld) (b v : Nat) : (c.set f b v).spl = c.spl := rfl
@[simp] theorem Chip.set_upd (c : Chip) (f : Fld) (b v : Nat) : (c.set f b v).upd = c.upd := rfl
@[simp] theorem Chip.set_aud (c : Chip) (f : Fld) (b v : Nat) : (c.set f b v).aud = c.aud := rfl
@[simp] theorem Chip.set_net (c : Chip) (f : Fld) (b v : Nat) : (c.set f b v).net = c.net := rfl
@[simp] theorem Chip.set_fwa (c : Chip) (f : Fld) (b v : Nat) : (c.set f b v).fwa = c.fwa := rfl
@[simp] theorem Chip.set_cap (c : Chip) (f : Fld) (b v : Nat) : (c.set f b v).cap = c.cap := rfl
@[simp] theorem Chip.set_lne (c : Chip) (f : Fld) (b v : Nat) : (c.set f b v).lne = c.lne := rfl
@[simp] theorem Chip.set_ref (c : Chip) (f : Fld) (b v : Nat) : (c.set f b v).ref = c.ref := rfl
@[simp] theorem Chip.set_ptp (c : Chip) (f : Fld) (b v : Nat) : (c.set f b v).ptp = c.ptp := rfl
@[simp] theorem Chip.set_flt (c : Chip) (f : Fld) (b v : Nat) : (c.set f b v).flt = c.flt := rfl
@[simp] theorem Chip.set_fab (c : Chip) (f : Fld) (b v : Nat) : (c.set f b v).fab = c.fab := rfl
@[simp] theorem Chip.set_pwr (c : Chip) (f : Fld) (b v : Nat) : (c.set f b v).pwr = c.pwr := rfl
@[simp] theorem Chip.set_pin (c : Chip) (f : Fld) (b v : Nat) : (c.set f b v).pin = c.pin := rfl
@[simp] theorem Chip.set_noSel (c : Chip) (f : Fld) (b v : Nat) : (c.set f b v).noSel = c.noSel := rfl

@[simp] theorem Chip.mark_now (c : Chip) (f : Fld) : (c.mark f).now = c.now := rfl
@[simp] theorem Chip.mark_released (c : Chip) (f : Fld) : (c.mark f).released = c.released := rfl
@[simp] theorem Chip.mark_run (c : Chip) (f : Fld) : (c.mark f).run = c.run := rfl
@[simp] theorem Chip.mark_clock (c : Chip) (f : Fld) : (c.mark f).clock = c.clock := rfl
@[simp] theorem Chip.mark_latch (c : Chip) (f : Fld) : (c.mark f).latch = c.latch := rfl
@[simp] theorem Chip.mark_free (c : Chip) (f : Fld) : (c.mark f).free = c.free := rfl
@[simp] theorem Chip.mark_sent (c : Chip) (f : Fld) : (c.mark f).sent = c.sent := rfl
@[simp] theorem Chip.mark_cfg (c : Chip) (f : Fld) : (c.mark f).cfg = c.cfg := rfl
@[simp] theorem Chip.mark_lan (c : Chip) (f : Fld) : (c.mark f).lan = c.lan := rfl
@[simp] theorem Chip.mark_log (c : Chip) (f : Fld) : (c.mark f).log = c.log := rfl
@[simp] theorem Chip.mark_tick (c : Chip) (f : Fld) : (c.mark f).tick = c.tick := rfl
@[simp] theorem Chip.mark_xpt (c : Chip) (f : Fld) : (c.mark f).xpt = c.xpt := rfl
@[simp] theorem Chip.mark_fst (c : Chip) (f : Fld) : (c.mark f).fst = c.fst := rfl
@[simp] theorem Chip.mark_arb (c : Chip) (f : Fld) : (c.mark f).arb = c.arb := rfl
@[simp] theorem Chip.mark_cmp (c : Chip) (f : Fld) : (c.mark f).cmp = c.cmp := rfl
@[simp] theorem Chip.mark_boot (c : Chip) (f : Fld) : (c.mark f).boot = c.boot := rfl
@[simp] theorem Chip.mark_spl (c : Chip) (f : Fld) : (c.mark f).spl = c.spl := rfl
@[simp] theorem Chip.mark_upd (c : Chip) (f : Fld) : (c.mark f).upd = c.upd := rfl
@[simp] theorem Chip.mark_aud (c : Chip) (f : Fld) : (c.mark f).aud = c.aud := rfl
@[simp] theorem Chip.mark_net (c : Chip) (f : Fld) : (c.mark f).net = c.net := rfl
@[simp] theorem Chip.mark_fwa (c : Chip) (f : Fld) : (c.mark f).fwa = c.fwa := rfl
@[simp] theorem Chip.mark_cap (c : Chip) (f : Fld) : (c.mark f).cap = c.cap := rfl
@[simp] theorem Chip.mark_lne (c : Chip) (f : Fld) : (c.mark f).lne = c.lne := rfl
@[simp] theorem Chip.mark_ref (c : Chip) (f : Fld) : (c.mark f).ref = c.ref := rfl
@[simp] theorem Chip.mark_ptp (c : Chip) (f : Fld) : (c.mark f).ptp = c.ptp := rfl
@[simp] theorem Chip.mark_flt (c : Chip) (f : Fld) : (c.mark f).flt = c.flt := rfl
@[simp] theorem Chip.mark_fab (c : Chip) (f : Fld) : (c.mark f).fab = c.fab := rfl
@[simp] theorem Chip.mark_pwr (c : Chip) (f : Fld) : (c.mark f).pwr = c.pwr := rfl
@[simp] theorem Chip.mark_pin (c : Chip) (f : Fld) : (c.mark f).pin = c.pin := rfl
@[simp] theorem Chip.mark_noSel (c : Chip) (f : Fld) : (c.mark f).noSel = c.noSel := rfl

@[simp] theorem Chip.markIf_now (c : Chip) (b : Bool) (f : Fld) : (c.markIf b f).now = c.now := rfl
@[simp] theorem Chip.markIf_released (c : Chip) (b : Bool) (f : Fld) : (c.markIf b f).released = c.released := rfl
@[simp] theorem Chip.markIf_run (c : Chip) (b : Bool) (f : Fld) : (c.markIf b f).run = c.run := rfl
@[simp] theorem Chip.markIf_clock (c : Chip) (b : Bool) (f : Fld) : (c.markIf b f).clock = c.clock := rfl
@[simp] theorem Chip.markIf_latch (c : Chip) (b : Bool) (f : Fld) : (c.markIf b f).latch = c.latch := rfl
@[simp] theorem Chip.markIf_free (c : Chip) (b : Bool) (f : Fld) : (c.markIf b f).free = c.free := rfl
@[simp] theorem Chip.markIf_sent (c : Chip) (b : Bool) (f : Fld) : (c.markIf b f).sent = c.sent := rfl
@[simp] theorem Chip.markIf_cfg (c : Chip) (b : Bool) (f : Fld) : (c.markIf b f).cfg = c.cfg := rfl
@[simp] theorem Chip.markIf_lan (c : Chip) (b : Bool) (f : Fld) : (c.markIf b f).lan = c.lan := rfl
@[simp] theorem Chip.markIf_log (c : Chip) (b : Bool) (f : Fld) : (c.markIf b f).log = c.log := rfl
@[simp] theorem Chip.markIf_tick (c : Chip) (b : Bool) (f : Fld) : (c.markIf b f).tick = c.tick := rfl
@[simp] theorem Chip.markIf_xpt (c : Chip) (b : Bool) (f : Fld) : (c.markIf b f).xpt = c.xpt := rfl
@[simp] theorem Chip.markIf_fst (c : Chip) (b : Bool) (f : Fld) : (c.markIf b f).fst = c.fst := rfl
@[simp] theorem Chip.markIf_arb (c : Chip) (b : Bool) (f : Fld) : (c.markIf b f).arb = c.arb := rfl
@[simp] theorem Chip.markIf_cmp (c : Chip) (b : Bool) (f : Fld) : (c.markIf b f).cmp = c.cmp := rfl
@[simp] theorem Chip.markIf_boot (c : Chip) (b : Bool) (f : Fld) : (c.markIf b f).boot = c.boot := rfl
@[simp] theorem Chip.markIf_spl (c : Chip) (b : Bool) (f : Fld) : (c.markIf b f).spl = c.spl := rfl
@[simp] theorem Chip.markIf_upd (c : Chip) (b : Bool) (f : Fld) : (c.markIf b f).upd = c.upd := rfl
@[simp] theorem Chip.markIf_aud (c : Chip) (b : Bool) (f : Fld) : (c.markIf b f).aud = c.aud := rfl
@[simp] theorem Chip.markIf_net (c : Chip) (b : Bool) (f : Fld) : (c.markIf b f).net = c.net := rfl
@[simp] theorem Chip.markIf_fwa (c : Chip) (b : Bool) (f : Fld) : (c.markIf b f).fwa = c.fwa := rfl
@[simp] theorem Chip.markIf_cap (c : Chip) (b : Bool) (f : Fld) : (c.markIf b f).cap = c.cap := rfl
@[simp] theorem Chip.markIf_lne (c : Chip) (b : Bool) (f : Fld) : (c.markIf b f).lne = c.lne := rfl
@[simp] theorem Chip.markIf_ref (c : Chip) (b : Bool) (f : Fld) : (c.markIf b f).ref = c.ref := rfl
@[simp] theorem Chip.markIf_ptp (c : Chip) (b : Bool) (f : Fld) : (c.markIf b f).ptp = c.ptp := rfl
@[simp] theorem Chip.markIf_flt (c : Chip) (b : Bool) (f : Fld) : (c.markIf b f).flt = c.flt := rfl
@[simp] theorem Chip.markIf_fab (c : Chip) (b : Bool) (f : Fld) : (c.markIf b f).fab = c.fab := rfl
@[simp] theorem Chip.markIf_pwr (c : Chip) (b : Bool) (f : Fld) : (c.markIf b f).pwr = c.pwr := rfl
@[simp] theorem Chip.markIf_pin (c : Chip) (b : Bool) (f : Fld) : (c.markIf b f).pin = c.pin := rfl
@[simp] theorem Chip.markIf_noSel (c : Chip) (b : Bool) (f : Fld) : (c.markIf b f).noSel = c.noSel := rfl

@[simp] theorem Chip.count_now (c : Chip) (f : Fld) (b n : Nat) : (c.count f b n).now = c.now := rfl
@[simp] theorem Chip.count_released (c : Chip) (f : Fld) (b n : Nat) : (c.count f b n).released = c.released := rfl
@[simp] theorem Chip.count_run (c : Chip) (f : Fld) (b n : Nat) : (c.count f b n).run = c.run := rfl
@[simp] theorem Chip.count_clock (c : Chip) (f : Fld) (b n : Nat) : (c.count f b n).clock = c.clock := rfl
@[simp] theorem Chip.count_latch (c : Chip) (f : Fld) (b n : Nat) : (c.count f b n).latch = c.latch := rfl
@[simp] theorem Chip.count_free (c : Chip) (f : Fld) (b n : Nat) : (c.count f b n).free = c.free := rfl
@[simp] theorem Chip.count_sent (c : Chip) (f : Fld) (b n : Nat) : (c.count f b n).sent = c.sent := rfl
@[simp] theorem Chip.count_cfg (c : Chip) (f : Fld) (b n : Nat) : (c.count f b n).cfg = c.cfg := rfl
@[simp] theorem Chip.count_lan (c : Chip) (f : Fld) (b n : Nat) : (c.count f b n).lan = c.lan := rfl
@[simp] theorem Chip.count_log (c : Chip) (f : Fld) (b n : Nat) : (c.count f b n).log = c.log := rfl
@[simp] theorem Chip.count_tick (c : Chip) (f : Fld) (b n : Nat) : (c.count f b n).tick = c.tick := rfl
@[simp] theorem Chip.count_xpt (c : Chip) (f : Fld) (b n : Nat) : (c.count f b n).xpt = c.xpt := rfl
@[simp] theorem Chip.count_fst (c : Chip) (f : Fld) (b n : Nat) : (c.count f b n).fst = c.fst := rfl
@[simp] theorem Chip.count_arb (c : Chip) (f : Fld) (b n : Nat) : (c.count f b n).arb = c.arb := rfl
@[simp] theorem Chip.count_cmp (c : Chip) (f : Fld) (b n : Nat) : (c.count f b n).cmp = c.cmp := rfl
@[simp] theorem Chip.count_boot (c : Chip) (f : Fld) (b n : Nat) : (c.count f b n).boot = c.boot := rfl
@[simp] theorem Chip.count_spl (c : Chip) (f : Fld) (b n : Nat) : (c.count f b n).spl = c.spl := rfl
@[simp] theorem Chip.count_upd (c : Chip) (f : Fld) (b n : Nat) : (c.count f b n).upd = c.upd := rfl
@[simp] theorem Chip.count_aud (c : Chip) (f : Fld) (b n : Nat) : (c.count f b n).aud = c.aud := rfl
@[simp] theorem Chip.count_net (c : Chip) (f : Fld) (b n : Nat) : (c.count f b n).net = c.net := rfl
@[simp] theorem Chip.count_fwa (c : Chip) (f : Fld) (b n : Nat) : (c.count f b n).fwa = c.fwa := rfl
@[simp] theorem Chip.count_cap (c : Chip) (f : Fld) (b n : Nat) : (c.count f b n).cap = c.cap := rfl
@[simp] theorem Chip.count_lne (c : Chip) (f : Fld) (b n : Nat) : (c.count f b n).lne = c.lne := rfl
@[simp] theorem Chip.count_ref (c : Chip) (f : Fld) (b n : Nat) : (c.count f b n).ref = c.ref := rfl
@[simp] theorem Chip.count_ptp (c : Chip) (f : Fld) (b n : Nat) : (c.count f b n).ptp = c.ptp := rfl
@[simp] theorem Chip.count_flt (c : Chip) (f : Fld) (b n : Nat) : (c.count f b n).flt = c.flt := rfl
@[simp] theorem Chip.count_fab (c : Chip) (f : Fld) (b n : Nat) : (c.count f b n).fab = c.fab := rfl
@[simp] theorem Chip.count_pwr (c : Chip) (f : Fld) (b n : Nat) : (c.count f b n).pwr = c.pwr := rfl
@[simp] theorem Chip.count_pin (c : Chip) (f : Fld) (b n : Nat) : (c.count f b n).pin = c.pin := rfl
@[simp] theorem Chip.count_noSel (c : Chip) (f : Fld) (b n : Nat) : (c.count f b n).noSel = c.noSel := rfl

@[simp] theorem Chip.countWrap_now (c : Chip) (f : Fld) (b n : Nat) : (c.countWrap f b n).now = c.now := rfl
@[simp] theorem Chip.countWrap_released (c : Chip) (f : Fld) (b n : Nat) : (c.countWrap f b n).released = c.released := rfl
@[simp] theorem Chip.countWrap_run (c : Chip) (f : Fld) (b n : Nat) : (c.countWrap f b n).run = c.run := rfl
@[simp] theorem Chip.countWrap_clock (c : Chip) (f : Fld) (b n : Nat) : (c.countWrap f b n).clock = c.clock := rfl
@[simp] theorem Chip.countWrap_latch (c : Chip) (f : Fld) (b n : Nat) : (c.countWrap f b n).latch = c.latch := rfl
@[simp] theorem Chip.countWrap_free (c : Chip) (f : Fld) (b n : Nat) : (c.countWrap f b n).free = c.free := rfl
@[simp] theorem Chip.countWrap_sent (c : Chip) (f : Fld) (b n : Nat) : (c.countWrap f b n).sent = c.sent := rfl
@[simp] theorem Chip.countWrap_cfg (c : Chip) (f : Fld) (b n : Nat) : (c.countWrap f b n).cfg = c.cfg := rfl
@[simp] theorem Chip.countWrap_lan (c : Chip) (f : Fld) (b n : Nat) : (c.countWrap f b n).lan = c.lan := rfl
@[simp] theorem Chip.countWrap_log (c : Chip) (f : Fld) (b n : Nat) : (c.countWrap f b n).log = c.log := rfl
@[simp] theorem Chip.countWrap_tick (c : Chip) (f : Fld) (b n : Nat) : (c.countWrap f b n).tick = c.tick := rfl
@[simp] theorem Chip.countWrap_xpt (c : Chip) (f : Fld) (b n : Nat) : (c.countWrap f b n).xpt = c.xpt := rfl
@[simp] theorem Chip.countWrap_fst (c : Chip) (f : Fld) (b n : Nat) : (c.countWrap f b n).fst = c.fst := rfl
@[simp] theorem Chip.countWrap_arb (c : Chip) (f : Fld) (b n : Nat) : (c.countWrap f b n).arb = c.arb := rfl
@[simp] theorem Chip.countWrap_cmp (c : Chip) (f : Fld) (b n : Nat) : (c.countWrap f b n).cmp = c.cmp := rfl
@[simp] theorem Chip.countWrap_boot (c : Chip) (f : Fld) (b n : Nat) : (c.countWrap f b n).boot = c.boot := rfl
@[simp] theorem Chip.countWrap_spl (c : Chip) (f : Fld) (b n : Nat) : (c.countWrap f b n).spl = c.spl := rfl
@[simp] theorem Chip.countWrap_upd (c : Chip) (f : Fld) (b n : Nat) : (c.countWrap f b n).upd = c.upd := rfl
@[simp] theorem Chip.countWrap_aud (c : Chip) (f : Fld) (b n : Nat) : (c.countWrap f b n).aud = c.aud := rfl
@[simp] theorem Chip.countWrap_net (c : Chip) (f : Fld) (b n : Nat) : (c.countWrap f b n).net = c.net := rfl
@[simp] theorem Chip.countWrap_fwa (c : Chip) (f : Fld) (b n : Nat) : (c.countWrap f b n).fwa = c.fwa := rfl
@[simp] theorem Chip.countWrap_cap (c : Chip) (f : Fld) (b n : Nat) : (c.countWrap f b n).cap = c.cap := rfl
@[simp] theorem Chip.countWrap_lne (c : Chip) (f : Fld) (b n : Nat) : (c.countWrap f b n).lne = c.lne := rfl
@[simp] theorem Chip.countWrap_ref (c : Chip) (f : Fld) (b n : Nat) : (c.countWrap f b n).ref = c.ref := rfl
@[simp] theorem Chip.countWrap_ptp (c : Chip) (f : Fld) (b n : Nat) : (c.countWrap f b n).ptp = c.ptp := rfl
@[simp] theorem Chip.countWrap_flt (c : Chip) (f : Fld) (b n : Nat) : (c.countWrap f b n).flt = c.flt := rfl
@[simp] theorem Chip.countWrap_fab (c : Chip) (f : Fld) (b n : Nat) : (c.countWrap f b n).fab = c.fab := rfl
@[simp] theorem Chip.countWrap_pwr (c : Chip) (f : Fld) (b n : Nat) : (c.countWrap f b n).pwr = c.pwr := rfl
@[simp] theorem Chip.countWrap_pin (c : Chip) (f : Fld) (b n : Nat) : (c.countWrap f b n).pin = c.pin := rfl
@[simp] theorem Chip.countWrap_noSel (c : Chip) (f : Fld) (b n : Nat) : (c.countWrap f b n).noSel = c.noSel := rfl

@[simp] theorem Chip.peak_now (c : Chip) (f : Fld) (b v : Nat) : (c.peak f b v).now = c.now := rfl
@[simp] theorem Chip.peak_released (c : Chip) (f : Fld) (b v : Nat) : (c.peak f b v).released = c.released := rfl
@[simp] theorem Chip.peak_run (c : Chip) (f : Fld) (b v : Nat) : (c.peak f b v).run = c.run := rfl
@[simp] theorem Chip.peak_clock (c : Chip) (f : Fld) (b v : Nat) : (c.peak f b v).clock = c.clock := rfl
@[simp] theorem Chip.peak_latch (c : Chip) (f : Fld) (b v : Nat) : (c.peak f b v).latch = c.latch := rfl
@[simp] theorem Chip.peak_free (c : Chip) (f : Fld) (b v : Nat) : (c.peak f b v).free = c.free := rfl
@[simp] theorem Chip.peak_sent (c : Chip) (f : Fld) (b v : Nat) : (c.peak f b v).sent = c.sent := rfl
@[simp] theorem Chip.peak_cfg (c : Chip) (f : Fld) (b v : Nat) : (c.peak f b v).cfg = c.cfg := rfl
@[simp] theorem Chip.peak_lan (c : Chip) (f : Fld) (b v : Nat) : (c.peak f b v).lan = c.lan := rfl
@[simp] theorem Chip.peak_log (c : Chip) (f : Fld) (b v : Nat) : (c.peak f b v).log = c.log := rfl
@[simp] theorem Chip.peak_tick (c : Chip) (f : Fld) (b v : Nat) : (c.peak f b v).tick = c.tick := rfl
@[simp] theorem Chip.peak_xpt (c : Chip) (f : Fld) (b v : Nat) : (c.peak f b v).xpt = c.xpt := rfl
@[simp] theorem Chip.peak_fst (c : Chip) (f : Fld) (b v : Nat) : (c.peak f b v).fst = c.fst := rfl
@[simp] theorem Chip.peak_arb (c : Chip) (f : Fld) (b v : Nat) : (c.peak f b v).arb = c.arb := rfl
@[simp] theorem Chip.peak_cmp (c : Chip) (f : Fld) (b v : Nat) : (c.peak f b v).cmp = c.cmp := rfl
@[simp] theorem Chip.peak_boot (c : Chip) (f : Fld) (b v : Nat) : (c.peak f b v).boot = c.boot := rfl
@[simp] theorem Chip.peak_spl (c : Chip) (f : Fld) (b v : Nat) : (c.peak f b v).spl = c.spl := rfl
@[simp] theorem Chip.peak_upd (c : Chip) (f : Fld) (b v : Nat) : (c.peak f b v).upd = c.upd := rfl
@[simp] theorem Chip.peak_aud (c : Chip) (f : Fld) (b v : Nat) : (c.peak f b v).aud = c.aud := rfl
@[simp] theorem Chip.peak_net (c : Chip) (f : Fld) (b v : Nat) : (c.peak f b v).net = c.net := rfl
@[simp] theorem Chip.peak_fwa (c : Chip) (f : Fld) (b v : Nat) : (c.peak f b v).fwa = c.fwa := rfl
@[simp] theorem Chip.peak_cap (c : Chip) (f : Fld) (b v : Nat) : (c.peak f b v).cap = c.cap := rfl
@[simp] theorem Chip.peak_lne (c : Chip) (f : Fld) (b v : Nat) : (c.peak f b v).lne = c.lne := rfl
@[simp] theorem Chip.peak_ref (c : Chip) (f : Fld) (b v : Nat) : (c.peak f b v).ref = c.ref := rfl
@[simp] theorem Chip.peak_ptp (c : Chip) (f : Fld) (b v : Nat) : (c.peak f b v).ptp = c.ptp := rfl
@[simp] theorem Chip.peak_flt (c : Chip) (f : Fld) (b v : Nat) : (c.peak f b v).flt = c.flt := rfl
@[simp] theorem Chip.peak_fab (c : Chip) (f : Fld) (b v : Nat) : (c.peak f b v).fab = c.fab := rfl
@[simp] theorem Chip.peak_pwr (c : Chip) (f : Fld) (b v : Nat) : (c.peak f b v).pwr = c.pwr := rfl
@[simp] theorem Chip.peak_pin (c : Chip) (f : Fld) (b v : Nat) : (c.peak f b v).pin = c.pin := rfl
@[simp] theorem Chip.peak_noSel (c : Chip) (f : Fld) (b v : Nat) : (c.peak f b v).noSel = c.noSel := rfl

@[simp] theorem Chip.clearBanks_now (c : Chip) (f : Fld) (n : Nat) : (c.clearBanks f n).now = c.now := rfl
@[simp] theorem Chip.clearBanks_released (c : Chip) (f : Fld) (n : Nat) : (c.clearBanks f n).released = c.released := rfl
@[simp] theorem Chip.clearBanks_run (c : Chip) (f : Fld) (n : Nat) : (c.clearBanks f n).run = c.run := rfl
@[simp] theorem Chip.clearBanks_clock (c : Chip) (f : Fld) (n : Nat) : (c.clearBanks f n).clock = c.clock := rfl
@[simp] theorem Chip.clearBanks_latch (c : Chip) (f : Fld) (n : Nat) : (c.clearBanks f n).latch = c.latch := rfl
@[simp] theorem Chip.clearBanks_free (c : Chip) (f : Fld) (n : Nat) : (c.clearBanks f n).free = c.free := rfl
@[simp] theorem Chip.clearBanks_sent (c : Chip) (f : Fld) (n : Nat) : (c.clearBanks f n).sent = c.sent := rfl
@[simp] theorem Chip.clearBanks_cfg (c : Chip) (f : Fld) (n : Nat) : (c.clearBanks f n).cfg = c.cfg := rfl
@[simp] theorem Chip.clearBanks_lan (c : Chip) (f : Fld) (n : Nat) : (c.clearBanks f n).lan = c.lan := rfl
@[simp] theorem Chip.clearBanks_log (c : Chip) (f : Fld) (n : Nat) : (c.clearBanks f n).log = c.log := rfl
@[simp] theorem Chip.clearBanks_tick (c : Chip) (f : Fld) (n : Nat) : (c.clearBanks f n).tick = c.tick := rfl
@[simp] theorem Chip.clearBanks_xpt (c : Chip) (f : Fld) (n : Nat) : (c.clearBanks f n).xpt = c.xpt := rfl
@[simp] theorem Chip.clearBanks_fst (c : Chip) (f : Fld) (n : Nat) : (c.clearBanks f n).fst = c.fst := rfl
@[simp] theorem Chip.clearBanks_arb (c : Chip) (f : Fld) (n : Nat) : (c.clearBanks f n).arb = c.arb := rfl
@[simp] theorem Chip.clearBanks_cmp (c : Chip) (f : Fld) (n : Nat) : (c.clearBanks f n).cmp = c.cmp := rfl
@[simp] theorem Chip.clearBanks_boot (c : Chip) (f : Fld) (n : Nat) : (c.clearBanks f n).boot = c.boot := rfl
@[simp] theorem Chip.clearBanks_spl (c : Chip) (f : Fld) (n : Nat) : (c.clearBanks f n).spl = c.spl := rfl
@[simp] theorem Chip.clearBanks_upd (c : Chip) (f : Fld) (n : Nat) : (c.clearBanks f n).upd = c.upd := rfl
@[simp] theorem Chip.clearBanks_aud (c : Chip) (f : Fld) (n : Nat) : (c.clearBanks f n).aud = c.aud := rfl
@[simp] theorem Chip.clearBanks_net (c : Chip) (f : Fld) (n : Nat) : (c.clearBanks f n).net = c.net := rfl
@[simp] theorem Chip.clearBanks_fwa (c : Chip) (f : Fld) (n : Nat) : (c.clearBanks f n).fwa = c.fwa := rfl
@[simp] theorem Chip.clearBanks_cap (c : Chip) (f : Fld) (n : Nat) : (c.clearBanks f n).cap = c.cap := rfl
@[simp] theorem Chip.clearBanks_lne (c : Chip) (f : Fld) (n : Nat) : (c.clearBanks f n).lne = c.lne := rfl
@[simp] theorem Chip.clearBanks_ref (c : Chip) (f : Fld) (n : Nat) : (c.clearBanks f n).ref = c.ref := rfl
@[simp] theorem Chip.clearBanks_ptp (c : Chip) (f : Fld) (n : Nat) : (c.clearBanks f n).ptp = c.ptp := rfl
@[simp] theorem Chip.clearBanks_flt (c : Chip) (f : Fld) (n : Nat) : (c.clearBanks f n).flt = c.flt := rfl
@[simp] theorem Chip.clearBanks_fab (c : Chip) (f : Fld) (n : Nat) : (c.clearBanks f n).fab = c.fab := rfl
@[simp] theorem Chip.clearBanks_pwr (c : Chip) (f : Fld) (n : Nat) : (c.clearBanks f n).pwr = c.pwr := rfl
@[simp] theorem Chip.clearBanks_pin (c : Chip) (f : Fld) (n : Nat) : (c.clearBanks f n).pin = c.pin := rfl
@[simp] theorem Chip.clearBanks_noSel (c : Chip) (f : Fld) (n : Nat) : (c.clearBanks f n).noSel = c.noSel := rfl

@[simp] theorem Chip.clearAll_now (c : Chip) (fs : List Fld) : (c.clearAll fs).now = c.now := rfl
@[simp] theorem Chip.clearAll_released (c : Chip) (fs : List Fld) : (c.clearAll fs).released = c.released := rfl
@[simp] theorem Chip.clearAll_run (c : Chip) (fs : List Fld) : (c.clearAll fs).run = c.run := rfl
@[simp] theorem Chip.clearAll_clock (c : Chip) (fs : List Fld) : (c.clearAll fs).clock = c.clock := rfl
@[simp] theorem Chip.clearAll_latch (c : Chip) (fs : List Fld) : (c.clearAll fs).latch = c.latch := rfl
@[simp] theorem Chip.clearAll_free (c : Chip) (fs : List Fld) : (c.clearAll fs).free = c.free := rfl
@[simp] theorem Chip.clearAll_sent (c : Chip) (fs : List Fld) : (c.clearAll fs).sent = c.sent := rfl
@[simp] theorem Chip.clearAll_cfg (c : Chip) (fs : List Fld) : (c.clearAll fs).cfg = c.cfg := rfl
@[simp] theorem Chip.clearAll_lan (c : Chip) (fs : List Fld) : (c.clearAll fs).lan = c.lan := rfl
@[simp] theorem Chip.clearAll_log (c : Chip) (fs : List Fld) : (c.clearAll fs).log = c.log := rfl
@[simp] theorem Chip.clearAll_tick (c : Chip) (fs : List Fld) : (c.clearAll fs).tick = c.tick := rfl
@[simp] theorem Chip.clearAll_xpt (c : Chip) (fs : List Fld) : (c.clearAll fs).xpt = c.xpt := rfl
@[simp] theorem Chip.clearAll_fst (c : Chip) (fs : List Fld) : (c.clearAll fs).fst = c.fst := rfl
@[simp] theorem Chip.clearAll_arb (c : Chip) (fs : List Fld) : (c.clearAll fs).arb = c.arb := rfl
@[simp] theorem Chip.clearAll_cmp (c : Chip) (fs : List Fld) : (c.clearAll fs).cmp = c.cmp := rfl
@[simp] theorem Chip.clearAll_boot (c : Chip) (fs : List Fld) : (c.clearAll fs).boot = c.boot := rfl
@[simp] theorem Chip.clearAll_spl (c : Chip) (fs : List Fld) : (c.clearAll fs).spl = c.spl := rfl
@[simp] theorem Chip.clearAll_upd (c : Chip) (fs : List Fld) : (c.clearAll fs).upd = c.upd := rfl
@[simp] theorem Chip.clearAll_aud (c : Chip) (fs : List Fld) : (c.clearAll fs).aud = c.aud := rfl
@[simp] theorem Chip.clearAll_net (c : Chip) (fs : List Fld) : (c.clearAll fs).net = c.net := rfl
@[simp] theorem Chip.clearAll_fwa (c : Chip) (fs : List Fld) : (c.clearAll fs).fwa = c.fwa := rfl
@[simp] theorem Chip.clearAll_cap (c : Chip) (fs : List Fld) : (c.clearAll fs).cap = c.cap := rfl
@[simp] theorem Chip.clearAll_lne (c : Chip) (fs : List Fld) : (c.clearAll fs).lne = c.lne := rfl
@[simp] theorem Chip.clearAll_ref (c : Chip) (fs : List Fld) : (c.clearAll fs).ref = c.ref := rfl
@[simp] theorem Chip.clearAll_ptp (c : Chip) (fs : List Fld) : (c.clearAll fs).ptp = c.ptp := rfl
@[simp] theorem Chip.clearAll_flt (c : Chip) (fs : List Fld) : (c.clearAll fs).flt = c.flt := rfl
@[simp] theorem Chip.clearAll_fab (c : Chip) (fs : List Fld) : (c.clearAll fs).fab = c.fab := rfl
@[simp] theorem Chip.clearAll_pwr (c : Chip) (fs : List Fld) : (c.clearAll fs).pwr = c.pwr := rfl
@[simp] theorem Chip.clearAll_pin (c : Chip) (fs : List Fld) : (c.clearAll fs).pin = c.pin := rfl
@[simp] theorem Chip.clearAll_noSel (c : Chip) (fs : List Fld) : (c.clearAll fs).noSel = c.noSel := rfl

@[simp] theorem Chip.faultIs_now (c : Chip) (e : Ev) (k : Nat) : (c.faultIs e k).now = c.now := rfl
@[simp] theorem Chip.faultIs_released (c : Chip) (e : Ev) (k : Nat) : (c.faultIs e k).released = c.released := rfl
@[simp] theorem Chip.faultIs_run (c : Chip) (e : Ev) (k : Nat) : (c.faultIs e k).run = c.run := rfl
@[simp] theorem Chip.faultIs_clock (c : Chip) (e : Ev) (k : Nat) : (c.faultIs e k).clock = c.clock := rfl
@[simp] theorem Chip.faultIs_latch (c : Chip) (e : Ev) (k : Nat) : (c.faultIs e k).latch = c.latch := rfl
@[simp] theorem Chip.faultIs_free (c : Chip) (e : Ev) (k : Nat) : (c.faultIs e k).free = c.free := rfl
@[simp] theorem Chip.faultIs_sent (c : Chip) (e : Ev) (k : Nat) : (c.faultIs e k).sent = c.sent := rfl
@[simp] theorem Chip.faultIs_cfg (c : Chip) (e : Ev) (k : Nat) : (c.faultIs e k).cfg = c.cfg := rfl
@[simp] theorem Chip.faultIs_lan (c : Chip) (e : Ev) (k : Nat) : (c.faultIs e k).lan = c.lan := rfl
@[simp] theorem Chip.faultIs_log (c : Chip) (e : Ev) (k : Nat) : (c.faultIs e k).log = c.log := rfl
@[simp] theorem Chip.faultIs_tick (c : Chip) (e : Ev) (k : Nat) : (c.faultIs e k).tick = c.tick := rfl
@[simp] theorem Chip.faultIs_xpt (c : Chip) (e : Ev) (k : Nat) : (c.faultIs e k).xpt = c.xpt := rfl
@[simp] theorem Chip.faultIs_fst (c : Chip) (e : Ev) (k : Nat) : (c.faultIs e k).fst = c.fst := rfl
@[simp] theorem Chip.faultIs_arb (c : Chip) (e : Ev) (k : Nat) : (c.faultIs e k).arb = c.arb := rfl
@[simp] theorem Chip.faultIs_cmp (c : Chip) (e : Ev) (k : Nat) : (c.faultIs e k).cmp = c.cmp := rfl
@[simp] theorem Chip.faultIs_boot (c : Chip) (e : Ev) (k : Nat) : (c.faultIs e k).boot = c.boot := rfl
@[simp] theorem Chip.faultIs_spl (c : Chip) (e : Ev) (k : Nat) : (c.faultIs e k).spl = c.spl := rfl
@[simp] theorem Chip.faultIs_upd (c : Chip) (e : Ev) (k : Nat) : (c.faultIs e k).upd = c.upd := rfl
@[simp] theorem Chip.faultIs_aud (c : Chip) (e : Ev) (k : Nat) : (c.faultIs e k).aud = c.aud := rfl
@[simp] theorem Chip.faultIs_net (c : Chip) (e : Ev) (k : Nat) : (c.faultIs e k).net = c.net := rfl
@[simp] theorem Chip.faultIs_fwa (c : Chip) (e : Ev) (k : Nat) : (c.faultIs e k).fwa = c.fwa := rfl
@[simp] theorem Chip.faultIs_cap (c : Chip) (e : Ev) (k : Nat) : (c.faultIs e k).cap = c.cap := rfl
@[simp] theorem Chip.faultIs_lne (c : Chip) (e : Ev) (k : Nat) : (c.faultIs e k).lne = c.lne := rfl
@[simp] theorem Chip.faultIs_ref (c : Chip) (e : Ev) (k : Nat) : (c.faultIs e k).ref = c.ref := rfl
@[simp] theorem Chip.faultIs_ptp (c : Chip) (e : Ev) (k : Nat) : (c.faultIs e k).ptp = c.ptp := rfl
@[simp] theorem Chip.faultIs_flt (c : Chip) (e : Ev) (k : Nat) : (c.faultIs e k).flt = c.flt := rfl
@[simp] theorem Chip.faultIs_fab (c : Chip) (e : Ev) (k : Nat) : (c.faultIs e k).fab = c.fab := rfl
@[simp] theorem Chip.faultIs_pwr (c : Chip) (e : Ev) (k : Nat) : (c.faultIs e k).pwr = c.pwr := rfl
@[simp] theorem Chip.faultIs_pin (c : Chip) (e : Ev) (k : Nat) : (c.faultIs e k).pin = c.pin := rfl
@[simp] theorem Chip.faultIs_noSel (c : Chip) (e : Ev) (k : Nat) : (c.faultIs e k).noSel = c.noSel := rfl

@[simp] theorem Chip.emit_now (c : Chip) (o : Out) : (c.emit o).now = c.now := rfl
@[simp] theorem Chip.emit_released (c : Chip) (o : Out) : (c.emit o).released = c.released := rfl
@[simp] theorem Chip.emit_run (c : Chip) (o : Out) : (c.emit o).run = c.run := rfl
@[simp] theorem Chip.emit_clock (c : Chip) (o : Out) : (c.emit o).clock = c.clock := rfl
@[simp] theorem Chip.emit_latch (c : Chip) (o : Out) : (c.emit o).latch = c.latch := rfl
@[simp] theorem Chip.emit_free (c : Chip) (o : Out) : (c.emit o).free = c.free := rfl
@[simp] theorem Chip.emit_regs (c : Chip) (o : Out) : (c.emit o).regs = c.regs := rfl
@[simp] theorem Chip.emit_cfg (c : Chip) (o : Out) : (c.emit o).cfg = c.cfg := rfl
@[simp] theorem Chip.emit_lan (c : Chip) (o : Out) : (c.emit o).lan = c.lan := rfl
@[simp] theorem Chip.emit_log (c : Chip) (o : Out) : (c.emit o).log = c.log := rfl
@[simp] theorem Chip.emit_tick (c : Chip) (o : Out) : (c.emit o).tick = c.tick := rfl
@[simp] theorem Chip.emit_xpt (c : Chip) (o : Out) : (c.emit o).xpt = c.xpt := rfl
@[simp] theorem Chip.emit_fst (c : Chip) (o : Out) : (c.emit o).fst = c.fst := rfl
@[simp] theorem Chip.emit_arb (c : Chip) (o : Out) : (c.emit o).arb = c.arb := rfl
@[simp] theorem Chip.emit_cmp (c : Chip) (o : Out) : (c.emit o).cmp = c.cmp := rfl
@[simp] theorem Chip.emit_boot (c : Chip) (o : Out) : (c.emit o).boot = c.boot := rfl
@[simp] theorem Chip.emit_spl (c : Chip) (o : Out) : (c.emit o).spl = c.spl := rfl
@[simp] theorem Chip.emit_upd (c : Chip) (o : Out) : (c.emit o).upd = c.upd := rfl
@[simp] theorem Chip.emit_aud (c : Chip) (o : Out) : (c.emit o).aud = c.aud := rfl
@[simp] theorem Chip.emit_net (c : Chip) (o : Out) : (c.emit o).net = c.net := rfl
@[simp] theorem Chip.emit_fwa (c : Chip) (o : Out) : (c.emit o).fwa = c.fwa := rfl
@[simp] theorem Chip.emit_cap (c : Chip) (o : Out) : (c.emit o).cap = c.cap := rfl
@[simp] theorem Chip.emit_lne (c : Chip) (o : Out) : (c.emit o).lne = c.lne := rfl
@[simp] theorem Chip.emit_ref (c : Chip) (o : Out) : (c.emit o).ref = c.ref := rfl
@[simp] theorem Chip.emit_ptp (c : Chip) (o : Out) : (c.emit o).ptp = c.ptp := rfl
@[simp] theorem Chip.emit_flt (c : Chip) (o : Out) : (c.emit o).flt = c.flt := rfl
@[simp] theorem Chip.emit_fab (c : Chip) (o : Out) : (c.emit o).fab = c.fab := rfl
@[simp] theorem Chip.emit_pwr (c : Chip) (o : Out) : (c.emit o).pwr = c.pwr := rfl
@[simp] theorem Chip.emit_pin (c : Chip) (o : Out) : (c.emit o).pin = c.pin := rfl
@[simp] theorem Chip.emit_noSel (c : Chip) (o : Out) : (c.emit o).noSel = c.noSel := rfl
@[simp] theorem Chip.emit_fld (c : Chip) (o : Out) (g : Fld) (d : Nat) : (c.emit o).fld g d = c.fld g d := rfl

@[simp] theorem Chip.nextFree_now (c : Chip) : (c.nextFree).now = c.now := rfl
@[simp] theorem Chip.nextFree_released (c : Chip) : (c.nextFree).released = c.released := rfl
@[simp] theorem Chip.nextFree_run (c : Chip) : (c.nextFree).run = c.run := rfl
@[simp] theorem Chip.nextFree_clock (c : Chip) : (c.nextFree).clock = c.clock := rfl
@[simp] theorem Chip.nextFree_latch (c : Chip) : (c.nextFree).latch = c.latch := rfl
@[simp] theorem Chip.nextFree_sent (c : Chip) : (c.nextFree).sent = c.sent := rfl
@[simp] theorem Chip.nextFree_regs (c : Chip) : (c.nextFree).regs = c.regs := rfl
@[simp] theorem Chip.nextFree_cfg (c : Chip) : (c.nextFree).cfg = c.cfg := rfl
@[simp] theorem Chip.nextFree_lan (c : Chip) : (c.nextFree).lan = c.lan := rfl
@[simp] theorem Chip.nextFree_log (c : Chip) : (c.nextFree).log = c.log := rfl
@[simp] theorem Chip.nextFree_tick (c : Chip) : (c.nextFree).tick = c.tick := rfl
@[simp] theorem Chip.nextFree_xpt (c : Chip) : (c.nextFree).xpt = c.xpt := rfl
@[simp] theorem Chip.nextFree_fst (c : Chip) : (c.nextFree).fst = c.fst := rfl
@[simp] theorem Chip.nextFree_arb (c : Chip) : (c.nextFree).arb = c.arb := rfl
@[simp] theorem Chip.nextFree_cmp (c : Chip) : (c.nextFree).cmp = c.cmp := rfl
@[simp] theorem Chip.nextFree_boot (c : Chip) : (c.nextFree).boot = c.boot := rfl
@[simp] theorem Chip.nextFree_spl (c : Chip) : (c.nextFree).spl = c.spl := rfl
@[simp] theorem Chip.nextFree_upd (c : Chip) : (c.nextFree).upd = c.upd := rfl
@[simp] theorem Chip.nextFree_aud (c : Chip) : (c.nextFree).aud = c.aud := rfl
@[simp] theorem Chip.nextFree_net (c : Chip) : (c.nextFree).net = c.net := rfl
@[simp] theorem Chip.nextFree_fwa (c : Chip) : (c.nextFree).fwa = c.fwa := rfl
@[simp] theorem Chip.nextFree_cap (c : Chip) : (c.nextFree).cap = c.cap := rfl
@[simp] theorem Chip.nextFree_lne (c : Chip) : (c.nextFree).lne = c.lne := rfl
@[simp] theorem Chip.nextFree_ref (c : Chip) : (c.nextFree).ref = c.ref := rfl
@[simp] theorem Chip.nextFree_ptp (c : Chip) : (c.nextFree).ptp = c.ptp := rfl
@[simp] theorem Chip.nextFree_flt (c : Chip) : (c.nextFree).flt = c.flt := rfl
@[simp] theorem Chip.nextFree_fab (c : Chip) : (c.nextFree).fab = c.fab := rfl
@[simp] theorem Chip.nextFree_pwr (c : Chip) : (c.nextFree).pwr = c.pwr := rfl
@[simp] theorem Chip.nextFree_pin (c : Chip) : (c.nextFree).pin = c.pin := rfl
@[simp] theorem Chip.nextFree_noSel (c : Chip) : (c.nextFree).noSel = c.noSel := rfl
@[simp] theorem Chip.nextFree_fld (c : Chip) (g : Fld) (d : Nat) : (c.nextFree).fld g d = c.fld g d := rfl

@[simp] theorem Chip.event_now (c : Chip) (e : Ev) (p : List Nat) : (c.event e p).now = c.now := rfl
@[simp] theorem Chip.event_released (c : Chip) (e : Ev) (p : List Nat) : (c.event e p).released = c.released := rfl
@[simp] theorem Chip.event_run (c : Chip) (e : Ev) (p : List Nat) : (c.event e p).run = c.run := rfl
@[simp] theorem Chip.event_clock (c : Chip) (e : Ev) (p : List Nat) : (c.event e p).clock = c.clock := rfl
@[simp] theorem Chip.event_latch (c : Chip) (e : Ev) (p : List Nat) : (c.event e p).latch = c.latch := rfl
@[simp] theorem Chip.event_free (c : Chip) (e : Ev) (p : List Nat) : (c.event e p).free = c.free := rfl
@[simp] theorem Chip.event_sent (c : Chip) (e : Ev) (p : List Nat) : (c.event e p).sent = c.sent := rfl
@[simp] theorem Chip.event_regs (c : Chip) (e : Ev) (p : List Nat) : (c.event e p).regs = c.regs := rfl
@[simp] theorem Chip.event_cfg (c : Chip) (e : Ev) (p : List Nat) : (c.event e p).cfg = c.cfg := rfl
@[simp] theorem Chip.event_lan (c : Chip) (e : Ev) (p : List Nat) : (c.event e p).lan = c.lan := rfl
@[simp] theorem Chip.event_tick (c : Chip) (e : Ev) (p : List Nat) : (c.event e p).tick = c.tick := rfl
@[simp] theorem Chip.event_xpt (c : Chip) (e : Ev) (p : List Nat) : (c.event e p).xpt = c.xpt := rfl
@[simp] theorem Chip.event_fst (c : Chip) (e : Ev) (p : List Nat) : (c.event e p).fst = c.fst := rfl
@[simp] theorem Chip.event_arb (c : Chip) (e : Ev) (p : List Nat) : (c.event e p).arb = c.arb := rfl
@[simp] theorem Chip.event_cmp (c : Chip) (e : Ev) (p : List Nat) : (c.event e p).cmp = c.cmp := rfl
@[simp] theorem Chip.event_boot (c : Chip) (e : Ev) (p : List Nat) : (c.event e p).boot = c.boot := rfl
@[simp] theorem Chip.event_spl (c : Chip) (e : Ev) (p : List Nat) : (c.event e p).spl = c.spl := rfl
@[simp] theorem Chip.event_upd (c : Chip) (e : Ev) (p : List Nat) : (c.event e p).upd = c.upd := rfl
@[simp] theorem Chip.event_aud (c : Chip) (e : Ev) (p : List Nat) : (c.event e p).aud = c.aud := rfl
@[simp] theorem Chip.event_net (c : Chip) (e : Ev) (p : List Nat) : (c.event e p).net = c.net := rfl
@[simp] theorem Chip.event_fwa (c : Chip) (e : Ev) (p : List Nat) : (c.event e p).fwa = c.fwa := rfl
@[simp] theorem Chip.event_cap (c : Chip) (e : Ev) (p : List Nat) : (c.event e p).cap = c.cap := rfl
@[simp] theorem Chip.event_lne (c : Chip) (e : Ev) (p : List Nat) : (c.event e p).lne = c.lne := rfl
@[simp] theorem Chip.event_ref (c : Chip) (e : Ev) (p : List Nat) : (c.event e p).ref = c.ref := rfl
@[simp] theorem Chip.event_ptp (c : Chip) (e : Ev) (p : List Nat) : (c.event e p).ptp = c.ptp := rfl
@[simp] theorem Chip.event_flt (c : Chip) (e : Ev) (p : List Nat) : (c.event e p).flt = c.flt := rfl
@[simp] theorem Chip.event_fab (c : Chip) (e : Ev) (p : List Nat) : (c.event e p).fab = c.fab := rfl
@[simp] theorem Chip.event_pwr (c : Chip) (e : Ev) (p : List Nat) : (c.event e p).pwr = c.pwr := rfl
@[simp] theorem Chip.event_pin (c : Chip) (e : Ev) (p : List Nat) : (c.event e p).pin = c.pin := rfl
@[simp] theorem Chip.event_noSel (c : Chip) (e : Ev) (p : List Nat) : (c.event e p).noSel = c.noSel := rfl
@[simp] theorem Chip.event_fld (c : Chip) (e : Ev) (p : List Nat) (g : Fld) (d : Nat) : (c.event e p).fld g d = c.fld g d := rfl

@[simp] theorem Chip.eventIf_now (c : Chip) (b : Bool) (e : Ev) (p : List Nat) : (c.eventIf b e p).now = c.now := rfl
@[simp] theorem Chip.eventIf_released (c : Chip) (b : Bool) (e : Ev) (p : List Nat) : (c.eventIf b e p).released = c.released := rfl
@[simp] theorem Chip.eventIf_run (c : Chip) (b : Bool) (e : Ev) (p : List Nat) : (c.eventIf b e p).run = c.run := rfl
@[simp] theorem Chip.eventIf_clock (c : Chip) (b : Bool) (e : Ev) (p : List Nat) : (c.eventIf b e p).clock = c.clock := rfl
@[simp] theorem Chip.eventIf_latch (c : Chip) (b : Bool) (e : Ev) (p : List Nat) : (c.eventIf b e p).latch = c.latch := rfl
@[simp] theorem Chip.eventIf_free (c : Chip) (b : Bool) (e : Ev) (p : List Nat) : (c.eventIf b e p).free = c.free := rfl
@[simp] theorem Chip.eventIf_sent (c : Chip) (b : Bool) (e : Ev) (p : List Nat) : (c.eventIf b e p).sent = c.sent := rfl
@[simp] theorem Chip.eventIf_regs (c : Chip) (b : Bool) (e : Ev) (p : List Nat) : (c.eventIf b e p).regs = c.regs := rfl
@[simp] theorem Chip.eventIf_cfg (c : Chip) (b : Bool) (e : Ev) (p : List Nat) : (c.eventIf b e p).cfg = c.cfg := rfl
@[simp] theorem Chip.eventIf_lan (c : Chip) (b : Bool) (e : Ev) (p : List Nat) : (c.eventIf b e p).lan = c.lan := rfl
@[simp] theorem Chip.eventIf_tick (c : Chip) (b : Bool) (e : Ev) (p : List Nat) : (c.eventIf b e p).tick = c.tick := rfl
@[simp] theorem Chip.eventIf_xpt (c : Chip) (b : Bool) (e : Ev) (p : List Nat) : (c.eventIf b e p).xpt = c.xpt := rfl
@[simp] theorem Chip.eventIf_fst (c : Chip) (b : Bool) (e : Ev) (p : List Nat) : (c.eventIf b e p).fst = c.fst := rfl
@[simp] theorem Chip.eventIf_arb (c : Chip) (b : Bool) (e : Ev) (p : List Nat) : (c.eventIf b e p).arb = c.arb := rfl
@[simp] theorem Chip.eventIf_cmp (c : Chip) (b : Bool) (e : Ev) (p : List Nat) : (c.eventIf b e p).cmp = c.cmp := rfl
@[simp] theorem Chip.eventIf_boot (c : Chip) (b : Bool) (e : Ev) (p : List Nat) : (c.eventIf b e p).boot = c.boot := rfl
@[simp] theorem Chip.eventIf_spl (c : Chip) (b : Bool) (e : Ev) (p : List Nat) : (c.eventIf b e p).spl = c.spl := rfl
@[simp] theorem Chip.eventIf_upd (c : Chip) (b : Bool) (e : Ev) (p : List Nat) : (c.eventIf b e p).upd = c.upd := rfl
@[simp] theorem Chip.eventIf_aud (c : Chip) (b : Bool) (e : Ev) (p : List Nat) : (c.eventIf b e p).aud = c.aud := rfl
@[simp] theorem Chip.eventIf_net (c : Chip) (b : Bool) (e : Ev) (p : List Nat) : (c.eventIf b e p).net = c.net := rfl
@[simp] theorem Chip.eventIf_fwa (c : Chip) (b : Bool) (e : Ev) (p : List Nat) : (c.eventIf b e p).fwa = c.fwa := rfl
@[simp] theorem Chip.eventIf_cap (c : Chip) (b : Bool) (e : Ev) (p : List Nat) : (c.eventIf b e p).cap = c.cap := rfl
@[simp] theorem Chip.eventIf_lne (c : Chip) (b : Bool) (e : Ev) (p : List Nat) : (c.eventIf b e p).lne = c.lne := rfl
@[simp] theorem Chip.eventIf_ref (c : Chip) (b : Bool) (e : Ev) (p : List Nat) : (c.eventIf b e p).ref = c.ref := rfl
@[simp] theorem Chip.eventIf_ptp (c : Chip) (b : Bool) (e : Ev) (p : List Nat) : (c.eventIf b e p).ptp = c.ptp := rfl
@[simp] theorem Chip.eventIf_flt (c : Chip) (b : Bool) (e : Ev) (p : List Nat) : (c.eventIf b e p).flt = c.flt := rfl
@[simp] theorem Chip.eventIf_fab (c : Chip) (b : Bool) (e : Ev) (p : List Nat) : (c.eventIf b e p).fab = c.fab := rfl
@[simp] theorem Chip.eventIf_pwr (c : Chip) (b : Bool) (e : Ev) (p : List Nat) : (c.eventIf b e p).pwr = c.pwr := rfl
@[simp] theorem Chip.eventIf_pin (c : Chip) (b : Bool) (e : Ev) (p : List Nat) : (c.eventIf b e p).pin = c.pin := rfl
@[simp] theorem Chip.eventIf_noSel (c : Chip) (b : Bool) (e : Ev) (p : List Nat) : (c.eventIf b e p).noSel = c.noSel := rfl
@[simp] theorem Chip.eventIf_fld (c : Chip) (b : Bool) (e : Ev) (p : List Nat) (g : Fld) (d : Nat) : (c.eventIf b e p).fld g d = c.fld g d := rfl

@[simp] theorem Chip.modSession_now (c : Chip) (i : Nat) (f : Session → Session) : (c.modSession i f).now = c.now := rfl
@[simp] theorem Chip.modSession_released (c : Chip) (i : Nat) (f : Session → Session) : (c.modSession i f).released = c.released := rfl
@[simp] theorem Chip.modSession_run (c : Chip) (i : Nat) (f : Session → Session) : (c.modSession i f).run = c.run := rfl
@[simp] theorem Chip.modSession_clock (c : Chip) (i : Nat) (f : Session → Session) : (c.modSession i f).clock = c.clock := rfl
@[simp] theorem Chip.modSession_latch (c : Chip) (i : Nat) (f : Session → Session) : (c.modSession i f).latch = c.latch := rfl
@[simp] theorem Chip.modSession_free (c : Chip) (i : Nat) (f : Session → Session) : (c.modSession i f).free = c.free := rfl
@[simp] theorem Chip.modSession_sent (c : Chip) (i : Nat) (f : Session → Session) : (c.modSession i f).sent = c.sent := rfl
@[simp] theorem Chip.modSession_regs (c : Chip) (i : Nat) (f : Session → Session) : (c.modSession i f).regs = c.regs := rfl
@[simp] theorem Chip.modSession_cfg (c : Chip) (i : Nat) (f : Session → Session) : (c.modSession i f).cfg = c.cfg := rfl
@[simp] theorem Chip.modSession_log (c : Chip) (i : Nat) (f : Session → Session) : (c.modSession i f).log = c.log := rfl
@[simp] theorem Chip.modSession_tick (c : Chip) (i : Nat) (f : Session → Session) : (c.modSession i f).tick = c.tick := rfl
@[simp] theorem Chip.modSession_xpt (c : Chip) (i : Nat) (f : Session → Session) : (c.modSession i f).xpt = c.xpt := rfl
@[simp] theorem Chip.modSession_fst (c : Chip) (i : Nat) (f : Session → Session) : (c.modSession i f).fst = c.fst := rfl
@[simp] theorem Chip.modSession_arb (c : Chip) (i : Nat) (f : Session → Session) : (c.modSession i f).arb = c.arb := rfl
@[simp] theorem Chip.modSession_cmp (c : Chip) (i : Nat) (f : Session → Session) : (c.modSession i f).cmp = c.cmp := rfl
@[simp] theorem Chip.modSession_boot (c : Chip) (i : Nat) (f : Session → Session) : (c.modSession i f).boot = c.boot := rfl
@[simp] theorem Chip.modSession_spl (c : Chip) (i : Nat) (f : Session → Session) : (c.modSession i f).spl = c.spl := rfl
@[simp] theorem Chip.modSession_upd (c : Chip) (i : Nat) (f : Session → Session) : (c.modSession i f).upd = c.upd := rfl
@[simp] theorem Chip.modSession_aud (c : Chip) (i : Nat) (f : Session → Session) : (c.modSession i f).aud = c.aud := rfl
@[simp] theorem Chip.modSession_net (c : Chip) (i : Nat) (f : Session → Session) : (c.modSession i f).net = c.net := rfl
@[simp] theorem Chip.modSession_fwa (c : Chip) (i : Nat) (f : Session → Session) : (c.modSession i f).fwa = c.fwa := rfl
@[simp] theorem Chip.modSession_cap (c : Chip) (i : Nat) (f : Session → Session) : (c.modSession i f).cap = c.cap := rfl
@[simp] theorem Chip.modSession_lne (c : Chip) (i : Nat) (f : Session → Session) : (c.modSession i f).lne = c.lne := rfl
@[simp] theorem Chip.modSession_ref (c : Chip) (i : Nat) (f : Session → Session) : (c.modSession i f).ref = c.ref := rfl
@[simp] theorem Chip.modSession_ptp (c : Chip) (i : Nat) (f : Session → Session) : (c.modSession i f).ptp = c.ptp := rfl
@[simp] theorem Chip.modSession_flt (c : Chip) (i : Nat) (f : Session → Session) : (c.modSession i f).flt = c.flt := rfl
@[simp] theorem Chip.modSession_fab (c : Chip) (i : Nat) (f : Session → Session) : (c.modSession i f).fab = c.fab := rfl
@[simp] theorem Chip.modSession_pwr (c : Chip) (i : Nat) (f : Session → Session) : (c.modSession i f).pwr = c.pwr := rfl
@[simp] theorem Chip.modSession_pin (c : Chip) (i : Nat) (f : Session → Session) : (c.modSession i f).pin = c.pin := rfl
@[simp] theorem Chip.modSession_noSel (c : Chip) (i : Nat) (f : Session → Session) : (c.modSession i f).noSel = c.noSel := rfl
@[simp] theorem Chip.modSession_fld (c : Chip) (i : Nat) (f : Session → Session) (g : Fld) (d : Nat) : (c.modSession i f).fld g d = c.fld g d := rfl

@[simp] theorem Chip.sendMsg_now (c : Chip) (i ch m st q : Nat) (b : List Byte) : (c.sendMsg i ch m st q b).now = c.now := rfl
@[simp] theorem Chip.sendMsg_released (c : Chip) (i ch m st q : Nat) (b : List Byte) : (c.sendMsg i ch m st q b).released = c.released := rfl
@[simp] theorem Chip.sendMsg_run (c : Chip) (i ch m st q : Nat) (b : List Byte) : (c.sendMsg i ch m st q b).run = c.run := rfl
@[simp] theorem Chip.sendMsg_clock (c : Chip) (i ch m st q : Nat) (b : List Byte) : (c.sendMsg i ch m st q b).clock = c.clock := rfl
@[simp] theorem Chip.sendMsg_latch (c : Chip) (i ch m st q : Nat) (b : List Byte) : (c.sendMsg i ch m st q b).latch = c.latch := rfl
@[simp] theorem Chip.sendMsg_free (c : Chip) (i ch m st q : Nat) (b : List Byte) : (c.sendMsg i ch m st q b).free = c.free := rfl
@[simp] theorem Chip.sendMsg_regs (c : Chip) (i ch m st q : Nat) (b : List Byte) : (c.sendMsg i ch m st q b).regs = c.regs := rfl
@[simp] theorem Chip.sendMsg_cfg (c : Chip) (i ch m st q : Nat) (b : List Byte) : (c.sendMsg i ch m st q b).cfg = c.cfg := rfl
@[simp] theorem Chip.sendMsg_log (c : Chip) (i ch m st q : Nat) (b : List Byte) : (c.sendMsg i ch m st q b).log = c.log := rfl
@[simp] theorem Chip.sendMsg_tick (c : Chip) (i ch m st q : Nat) (b : List Byte) : (c.sendMsg i ch m st q b).tick = c.tick := rfl
@[simp] theorem Chip.sendMsg_xpt (c : Chip) (i ch m st q : Nat) (b : List Byte) : (c.sendMsg i ch m st q b).xpt = c.xpt := rfl
@[simp] theorem Chip.sendMsg_fst (c : Chip) (i ch m st q : Nat) (b : List Byte) : (c.sendMsg i ch m st q b).fst = c.fst := rfl
@[simp] theorem Chip.sendMsg_arb (c : Chip) (i ch m st q : Nat) (b : List Byte) : (c.sendMsg i ch m st q b).arb = c.arb := rfl
@[simp] theorem Chip.sendMsg_cmp (c : Chip) (i ch m st q : Nat) (b : List Byte) : (c.sendMsg i ch m st q b).cmp = c.cmp := rfl
@[simp] theorem Chip.sendMsg_boot (c : Chip) (i ch m st q : Nat) (b : List Byte) : (c.sendMsg i ch m st q b).boot = c.boot := rfl
@[simp] theorem Chip.sendMsg_spl (c : Chip) (i ch m st q : Nat) (b : List Byte) : (c.sendMsg i ch m st q b).spl = c.spl := rfl
@[simp] theorem Chip.sendMsg_upd (c : Chip) (i ch m st q : Nat) (b : List Byte) : (c.sendMsg i ch m st q b).upd = c.upd := rfl
@[simp] theorem Chip.sendMsg_aud (c : Chip) (i ch m st q : Nat) (b : List Byte) : (c.sendMsg i ch m st q b).aud = c.aud := rfl
@[simp] theorem Chip.sendMsg_net (c : Chip) (i ch m st q : Nat) (b : List Byte) : (c.sendMsg i ch m st q b).net = c.net := rfl
@[simp] theorem Chip.sendMsg_fwa (c : Chip) (i ch m st q : Nat) (b : List Byte) : (c.sendMsg i ch m st q b).fwa = c.fwa := rfl
@[simp] theorem Chip.sendMsg_cap (c : Chip) (i ch m st q : Nat) (b : List Byte) : (c.sendMsg i ch m st q b).cap = c.cap := rfl
@[simp] theorem Chip.sendMsg_lne (c : Chip) (i ch m st q : Nat) (b : List Byte) : (c.sendMsg i ch m st q b).lne = c.lne := rfl
@[simp] theorem Chip.sendMsg_ref (c : Chip) (i ch m st q : Nat) (b : List Byte) : (c.sendMsg i ch m st q b).ref = c.ref := rfl
@[simp] theorem Chip.sendMsg_ptp (c : Chip) (i ch m st q : Nat) (b : List Byte) : (c.sendMsg i ch m st q b).ptp = c.ptp := rfl
@[simp] theorem Chip.sendMsg_flt (c : Chip) (i ch m st q : Nat) (b : List Byte) : (c.sendMsg i ch m st q b).flt = c.flt := rfl
@[simp] theorem Chip.sendMsg_fab (c : Chip) (i ch m st q : Nat) (b : List Byte) : (c.sendMsg i ch m st q b).fab = c.fab := rfl
@[simp] theorem Chip.sendMsg_pwr (c : Chip) (i ch m st q : Nat) (b : List Byte) : (c.sendMsg i ch m st q b).pwr = c.pwr := rfl
@[simp] theorem Chip.sendMsg_pin (c : Chip) (i ch m st q : Nat) (b : List Byte) : (c.sendMsg i ch m st q b).pin = c.pin := rfl
@[simp] theorem Chip.sendMsg_noSel (c : Chip) (i ch m st q : Nat) (b : List Byte) : (c.sendMsg i ch m st q b).noSel = c.noSel := rfl
@[simp] theorem Chip.sendMsg_fld (c : Chip) (i ch m st q : Nat) (b : List Byte) (g : Fld) (d : Nat) : (c.sendMsg i ch m st q b).fld g d = c.fld g d := rfl

@[simp] theorem Chip.respond_now (c : Chip) (i m st : Nat) (b : List Byte) : (c.respond i m st b).now = c.now := rfl
@[simp] theorem Chip.respond_released (c : Chip) (i m st : Nat) (b : List Byte) : (c.respond i m st b).released = c.released := rfl
@[simp] theorem Chip.respond_run (c : Chip) (i m st : Nat) (b : List Byte) : (c.respond i m st b).run = c.run := rfl
@[simp] theorem Chip.respond_clock (c : Chip) (i m st : Nat) (b : List Byte) : (c.respond i m st b).clock = c.clock := rfl
@[simp] theorem Chip.respond_latch (c : Chip) (i m st : Nat) (b : List Byte) : (c.respond i m st b).latch = c.latch := rfl
@[simp] theorem Chip.respond_free (c : Chip) (i m st : Nat) (b : List Byte) : (c.respond i m st b).free = c.free := rfl
@[simp] theorem Chip.respond_regs (c : Chip) (i m st : Nat) (b : List Byte) : (c.respond i m st b).regs = c.regs := rfl
@[simp] theorem Chip.respond_cfg (c : Chip) (i m st : Nat) (b : List Byte) : (c.respond i m st b).cfg = c.cfg := rfl
@[simp] theorem Chip.respond_log (c : Chip) (i m st : Nat) (b : List Byte) : (c.respond i m st b).log = c.log := rfl
@[simp] theorem Chip.respond_tick (c : Chip) (i m st : Nat) (b : List Byte) : (c.respond i m st b).tick = c.tick := rfl
@[simp] theorem Chip.respond_xpt (c : Chip) (i m st : Nat) (b : List Byte) : (c.respond i m st b).xpt = c.xpt := rfl
@[simp] theorem Chip.respond_fst (c : Chip) (i m st : Nat) (b : List Byte) : (c.respond i m st b).fst = c.fst := rfl
@[simp] theorem Chip.respond_arb (c : Chip) (i m st : Nat) (b : List Byte) : (c.respond i m st b).arb = c.arb := rfl
@[simp] theorem Chip.respond_cmp (c : Chip) (i m st : Nat) (b : List Byte) : (c.respond i m st b).cmp = c.cmp := rfl
@[simp] theorem Chip.respond_boot (c : Chip) (i m st : Nat) (b : List Byte) : (c.respond i m st b).boot = c.boot := rfl
@[simp] theorem Chip.respond_spl (c : Chip) (i m st : Nat) (b : List Byte) : (c.respond i m st b).spl = c.spl := rfl
@[simp] theorem Chip.respond_upd (c : Chip) (i m st : Nat) (b : List Byte) : (c.respond i m st b).upd = c.upd := rfl
@[simp] theorem Chip.respond_aud (c : Chip) (i m st : Nat) (b : List Byte) : (c.respond i m st b).aud = c.aud := rfl
@[simp] theorem Chip.respond_net (c : Chip) (i m st : Nat) (b : List Byte) : (c.respond i m st b).net = c.net := rfl
@[simp] theorem Chip.respond_fwa (c : Chip) (i m st : Nat) (b : List Byte) : (c.respond i m st b).fwa = c.fwa := rfl
@[simp] theorem Chip.respond_cap (c : Chip) (i m st : Nat) (b : List Byte) : (c.respond i m st b).cap = c.cap := rfl
@[simp] theorem Chip.respond_lne (c : Chip) (i m st : Nat) (b : List Byte) : (c.respond i m st b).lne = c.lne := rfl
@[simp] theorem Chip.respond_ref (c : Chip) (i m st : Nat) (b : List Byte) : (c.respond i m st b).ref = c.ref := rfl
@[simp] theorem Chip.respond_ptp (c : Chip) (i m st : Nat) (b : List Byte) : (c.respond i m st b).ptp = c.ptp := rfl
@[simp] theorem Chip.respond_flt (c : Chip) (i m st : Nat) (b : List Byte) : (c.respond i m st b).flt = c.flt := rfl
@[simp] theorem Chip.respond_fab (c : Chip) (i m st : Nat) (b : List Byte) : (c.respond i m st b).fab = c.fab := rfl
@[simp] theorem Chip.respond_pwr (c : Chip) (i m st : Nat) (b : List Byte) : (c.respond i m st b).pwr = c.pwr := rfl
@[simp] theorem Chip.respond_pin (c : Chip) (i m st : Nat) (b : List Byte) : (c.respond i m st b).pin = c.pin := rfl
@[simp] theorem Chip.respond_noSel (c : Chip) (i m st : Nat) (b : List Byte) : (c.respond i m st b).noSel = c.noSel := rfl
@[simp] theorem Chip.respond_fld (c : Chip) (i m st : Nat) (b : List Byte) (g : Fld) (d : Nat) : (c.respond i m st b).fld g d = c.fld g d := rfl

@[simp] theorem Chip.refuse_now (c : Chip) (i m code index : Nat) : (c.refuse i m code index).now = c.now := rfl
@[simp] theorem Chip.refuse_released (c : Chip) (i m code index : Nat) : (c.refuse i m code index).released = c.released := rfl
@[simp] theorem Chip.refuse_run (c : Chip) (i m code index : Nat) : (c.refuse i m code index).run = c.run := rfl
@[simp] theorem Chip.refuse_clock (c : Chip) (i m code index : Nat) : (c.refuse i m code index).clock = c.clock := rfl
@[simp] theorem Chip.refuse_latch (c : Chip) (i m code index : Nat) : (c.refuse i m code index).latch = c.latch := rfl
@[simp] theorem Chip.refuse_free (c : Chip) (i m code index : Nat) : (c.refuse i m code index).free = c.free := rfl
@[simp] theorem Chip.refuse_regs (c : Chip) (i m code index : Nat) : (c.refuse i m code index).regs = c.regs := rfl
@[simp] theorem Chip.refuse_cfg (c : Chip) (i m code index : Nat) : (c.refuse i m code index).cfg = c.cfg := rfl
@[simp] theorem Chip.refuse_log (c : Chip) (i m code index : Nat) : (c.refuse i m code index).log = c.log := rfl
@[simp] theorem Chip.refuse_tick (c : Chip) (i m code index : Nat) : (c.refuse i m code index).tick = c.tick := rfl
@[simp] theorem Chip.refuse_xpt (c : Chip) (i m code index : Nat) : (c.refuse i m code index).xpt = c.xpt := rfl
@[simp] theorem Chip.refuse_fst (c : Chip) (i m code index : Nat) : (c.refuse i m code index).fst = c.fst := rfl
@[simp] theorem Chip.refuse_arb (c : Chip) (i m code index : Nat) : (c.refuse i m code index).arb = c.arb := rfl
@[simp] theorem Chip.refuse_cmp (c : Chip) (i m code index : Nat) : (c.refuse i m code index).cmp = c.cmp := rfl
@[simp] theorem Chip.refuse_boot (c : Chip) (i m code index : Nat) : (c.refuse i m code index).boot = c.boot := rfl
@[simp] theorem Chip.refuse_spl (c : Chip) (i m code index : Nat) : (c.refuse i m code index).spl = c.spl := rfl
@[simp] theorem Chip.refuse_upd (c : Chip) (i m code index : Nat) : (c.refuse i m code index).upd = c.upd := rfl
@[simp] theorem Chip.refuse_aud (c : Chip) (i m code index : Nat) : (c.refuse i m code index).aud = c.aud := rfl
@[simp] theorem Chip.refuse_net (c : Chip) (i m code index : Nat) : (c.refuse i m code index).net = c.net := rfl
@[simp] theorem Chip.refuse_fwa (c : Chip) (i m code index : Nat) : (c.refuse i m code index).fwa = c.fwa := rfl
@[simp] theorem Chip.refuse_cap (c : Chip) (i m code index : Nat) : (c.refuse i m code index).cap = c.cap := rfl
@[simp] theorem Chip.refuse_lne (c : Chip) (i m code index : Nat) : (c.refuse i m code index).lne = c.lne := rfl
@[simp] theorem Chip.refuse_ref (c : Chip) (i m code index : Nat) : (c.refuse i m code index).ref = c.ref := rfl
@[simp] theorem Chip.refuse_ptp (c : Chip) (i m code index : Nat) : (c.refuse i m code index).ptp = c.ptp := rfl
@[simp] theorem Chip.refuse_flt (c : Chip) (i m code index : Nat) : (c.refuse i m code index).flt = c.flt := rfl
@[simp] theorem Chip.refuse_fab (c : Chip) (i m code index : Nat) : (c.refuse i m code index).fab = c.fab := rfl
@[simp] theorem Chip.refuse_pwr (c : Chip) (i m code index : Nat) : (c.refuse i m code index).pwr = c.pwr := rfl
@[simp] theorem Chip.refuse_pin (c : Chip) (i m code index : Nat) : (c.refuse i m code index).pin = c.pin := rfl
@[simp] theorem Chip.refuse_noSel (c : Chip) (i m code index : Nat) : (c.refuse i m code index).noSel = c.noSel := rfl
@[simp] theorem Chip.refuse_fld (c : Chip) (i m code index : Nat) (g : Fld) (d : Nat) : (c.refuse i m code index).fld g d = c.fld g d := rfl

@[simp] theorem Chip.done_now (c : Chip) (i m : Nat) (b : List Byte) : (c.done i m b).now = c.now := rfl
@[simp] theorem Chip.done_released (c : Chip) (i m : Nat) (b : List Byte) : (c.done i m b).released = c.released := rfl
@[simp] theorem Chip.done_run (c : Chip) (i m : Nat) (b : List Byte) : (c.done i m b).run = c.run := rfl
@[simp] theorem Chip.done_clock (c : Chip) (i m : Nat) (b : List Byte) : (c.done i m b).clock = c.clock := rfl
@[simp] theorem Chip.done_latch (c : Chip) (i m : Nat) (b : List Byte) : (c.done i m b).latch = c.latch := rfl
@[simp] theorem Chip.done_free (c : Chip) (i m : Nat) (b : List Byte) : (c.done i m b).free = c.free := rfl
@[simp] theorem Chip.done_regs (c : Chip) (i m : Nat) (b : List Byte) : (c.done i m b).regs = c.regs := rfl
@[simp] theorem Chip.done_cfg (c : Chip) (i m : Nat) (b : List Byte) : (c.done i m b).cfg = c.cfg := rfl
@[simp] theorem Chip.done_log (c : Chip) (i m : Nat) (b : List Byte) : (c.done i m b).log = c.log := rfl
@[simp] theorem Chip.done_tick (c : Chip) (i m : Nat) (b : List Byte) : (c.done i m b).tick = c.tick := rfl
@[simp] theorem Chip.done_xpt (c : Chip) (i m : Nat) (b : List Byte) : (c.done i m b).xpt = c.xpt := rfl
@[simp] theorem Chip.done_fst (c : Chip) (i m : Nat) (b : List Byte) : (c.done i m b).fst = c.fst := rfl
@[simp] theorem Chip.done_arb (c : Chip) (i m : Nat) (b : List Byte) : (c.done i m b).arb = c.arb := rfl
@[simp] theorem Chip.done_cmp (c : Chip) (i m : Nat) (b : List Byte) : (c.done i m b).cmp = c.cmp := rfl
@[simp] theorem Chip.done_boot (c : Chip) (i m : Nat) (b : List Byte) : (c.done i m b).boot = c.boot := rfl
@[simp] theorem Chip.done_spl (c : Chip) (i m : Nat) (b : List Byte) : (c.done i m b).spl = c.spl := rfl
@[simp] theorem Chip.done_upd (c : Chip) (i m : Nat) (b : List Byte) : (c.done i m b).upd = c.upd := rfl
@[simp] theorem Chip.done_aud (c : Chip) (i m : Nat) (b : List Byte) : (c.done i m b).aud = c.aud := rfl
@[simp] theorem Chip.done_net (c : Chip) (i m : Nat) (b : List Byte) : (c.done i m b).net = c.net := rfl
@[simp] theorem Chip.done_fwa (c : Chip) (i m : Nat) (b : List Byte) : (c.done i m b).fwa = c.fwa := rfl
@[simp] theorem Chip.done_cap (c : Chip) (i m : Nat) (b : List Byte) : (c.done i m b).cap = c.cap := rfl
@[simp] theorem Chip.done_lne (c : Chip) (i m : Nat) (b : List Byte) : (c.done i m b).lne = c.lne := rfl
@[simp] theorem Chip.done_ref (c : Chip) (i m : Nat) (b : List Byte) : (c.done i m b).ref = c.ref := rfl
@[simp] theorem Chip.done_ptp (c : Chip) (i m : Nat) (b : List Byte) : (c.done i m b).ptp = c.ptp := rfl
@[simp] theorem Chip.done_flt (c : Chip) (i m : Nat) (b : List Byte) : (c.done i m b).flt = c.flt := rfl
@[simp] theorem Chip.done_fab (c : Chip) (i m : Nat) (b : List Byte) : (c.done i m b).fab = c.fab := rfl
@[simp] theorem Chip.done_pwr (c : Chip) (i m : Nat) (b : List Byte) : (c.done i m b).pwr = c.pwr := rfl
@[simp] theorem Chip.done_pin (c : Chip) (i m : Nat) (b : List Byte) : (c.done i m b).pin = c.pin := rfl
@[simp] theorem Chip.done_noSel (c : Chip) (i m : Nat) (b : List Byte) : (c.done i m b).noSel = c.noSel := rfl
@[simp] theorem Chip.done_fld (c : Chip) (i m : Nat) (b : List Byte) (g : Fld) (d : Nat) : (c.done i m b).fld g d = c.fld g d := rfl

@[simp] theorem Chip.held_now (c : Chip) (i m : Nat) (b : List Byte) : (c.held i m b).now = c.now := rfl
@[simp] theorem Chip.held_released (c : Chip) (i m : Nat) (b : List Byte) : (c.held i m b).released = c.released := rfl
@[simp] theorem Chip.held_run (c : Chip) (i m : Nat) (b : List Byte) : (c.held i m b).run = c.run := rfl
@[simp] theorem Chip.held_clock (c : Chip) (i m : Nat) (b : List Byte) : (c.held i m b).clock = c.clock := rfl
@[simp] theorem Chip.held_latch (c : Chip) (i m : Nat) (b : List Byte) : (c.held i m b).latch = c.latch := rfl
@[simp] theorem Chip.held_free (c : Chip) (i m : Nat) (b : List Byte) : (c.held i m b).free = c.free := rfl
@[simp] theorem Chip.held_regs (c : Chip) (i m : Nat) (b : List Byte) : (c.held i m b).regs = c.regs := rfl
@[simp] theorem Chip.held_cfg (c : Chip) (i m : Nat) (b : List Byte) : (c.held i m b).cfg = c.cfg := rfl
@[simp] theorem Chip.held_log (c : Chip) (i m : Nat) (b : List Byte) : (c.held i m b).log = c.log := rfl
@[simp] theorem Chip.held_tick (c : Chip) (i m : Nat) (b : List Byte) : (c.held i m b).tick = c.tick := rfl
@[simp] theorem Chip.held_xpt (c : Chip) (i m : Nat) (b : List Byte) : (c.held i m b).xpt = c.xpt := rfl
@[simp] theorem Chip.held_fst (c : Chip) (i m : Nat) (b : List Byte) : (c.held i m b).fst = c.fst := rfl
@[simp] theorem Chip.held_arb (c : Chip) (i m : Nat) (b : List Byte) : (c.held i m b).arb = c.arb := rfl
@[simp] theorem Chip.held_cmp (c : Chip) (i m : Nat) (b : List Byte) : (c.held i m b).cmp = c.cmp := rfl
@[simp] theorem Chip.held_boot (c : Chip) (i m : Nat) (b : List Byte) : (c.held i m b).boot = c.boot := rfl
@[simp] theorem Chip.held_spl (c : Chip) (i m : Nat) (b : List Byte) : (c.held i m b).spl = c.spl := rfl
@[simp] theorem Chip.held_upd (c : Chip) (i m : Nat) (b : List Byte) : (c.held i m b).upd = c.upd := rfl
@[simp] theorem Chip.held_aud (c : Chip) (i m : Nat) (b : List Byte) : (c.held i m b).aud = c.aud := rfl
@[simp] theorem Chip.held_net (c : Chip) (i m : Nat) (b : List Byte) : (c.held i m b).net = c.net := rfl
@[simp] theorem Chip.held_fwa (c : Chip) (i m : Nat) (b : List Byte) : (c.held i m b).fwa = c.fwa := rfl
@[simp] theorem Chip.held_cap (c : Chip) (i m : Nat) (b : List Byte) : (c.held i m b).cap = c.cap := rfl
@[simp] theorem Chip.held_lne (c : Chip) (i m : Nat) (b : List Byte) : (c.held i m b).lne = c.lne := rfl
@[simp] theorem Chip.held_ref (c : Chip) (i m : Nat) (b : List Byte) : (c.held i m b).ref = c.ref := rfl
@[simp] theorem Chip.held_ptp (c : Chip) (i m : Nat) (b : List Byte) : (c.held i m b).ptp = c.ptp := rfl
@[simp] theorem Chip.held_flt (c : Chip) (i m : Nat) (b : List Byte) : (c.held i m b).flt = c.flt := rfl
@[simp] theorem Chip.held_fab (c : Chip) (i m : Nat) (b : List Byte) : (c.held i m b).fab = c.fab := rfl
@[simp] theorem Chip.held_pwr (c : Chip) (i m : Nat) (b : List Byte) : (c.held i m b).pwr = c.pwr := rfl
@[simp] theorem Chip.held_pin (c : Chip) (i m : Nat) (b : List Byte) : (c.held i m b).pin = c.pin := rfl
@[simp] theorem Chip.held_noSel (c : Chip) (i m : Nat) (b : List Byte) : (c.held i m b).noSel = c.noSel := rfl
@[simp] theorem Chip.held_fld (c : Chip) (i m : Nat) (b : List Byte) (g : Fld) (d : Nat) : (c.held i m b).fld g d = c.fld g d := rfl

@[simp] theorem Chip.started_now (c : Chip) (i m : Nat) (b : List Byte) : (c.started i m b).now = c.now := rfl
@[simp] theorem Chip.started_released (c : Chip) (i m : Nat) (b : List Byte) : (c.started i m b).released = c.released := rfl
@[simp] theorem Chip.started_run (c : Chip) (i m : Nat) (b : List Byte) : (c.started i m b).run = c.run := rfl
@[simp] theorem Chip.started_clock (c : Chip) (i m : Nat) (b : List Byte) : (c.started i m b).clock = c.clock := rfl
@[simp] theorem Chip.started_latch (c : Chip) (i m : Nat) (b : List Byte) : (c.started i m b).latch = c.latch := rfl
@[simp] theorem Chip.started_free (c : Chip) (i m : Nat) (b : List Byte) : (c.started i m b).free = c.free := rfl
@[simp] theorem Chip.started_regs (c : Chip) (i m : Nat) (b : List Byte) : (c.started i m b).regs = c.regs := rfl
@[simp] theorem Chip.started_cfg (c : Chip) (i m : Nat) (b : List Byte) : (c.started i m b).cfg = c.cfg := rfl
@[simp] theorem Chip.started_log (c : Chip) (i m : Nat) (b : List Byte) : (c.started i m b).log = c.log := rfl
@[simp] theorem Chip.started_tick (c : Chip) (i m : Nat) (b : List Byte) : (c.started i m b).tick = c.tick := rfl
@[simp] theorem Chip.started_xpt (c : Chip) (i m : Nat) (b : List Byte) : (c.started i m b).xpt = c.xpt := rfl
@[simp] theorem Chip.started_fst (c : Chip) (i m : Nat) (b : List Byte) : (c.started i m b).fst = c.fst := rfl
@[simp] theorem Chip.started_arb (c : Chip) (i m : Nat) (b : List Byte) : (c.started i m b).arb = c.arb := rfl
@[simp] theorem Chip.started_cmp (c : Chip) (i m : Nat) (b : List Byte) : (c.started i m b).cmp = c.cmp := rfl
@[simp] theorem Chip.started_boot (c : Chip) (i m : Nat) (b : List Byte) : (c.started i m b).boot = c.boot := rfl
@[simp] theorem Chip.started_spl (c : Chip) (i m : Nat) (b : List Byte) : (c.started i m b).spl = c.spl := rfl
@[simp] theorem Chip.started_upd (c : Chip) (i m : Nat) (b : List Byte) : (c.started i m b).upd = c.upd := rfl
@[simp] theorem Chip.started_aud (c : Chip) (i m : Nat) (b : List Byte) : (c.started i m b).aud = c.aud := rfl
@[simp] theorem Chip.started_net (c : Chip) (i m : Nat) (b : List Byte) : (c.started i m b).net = c.net := rfl
@[simp] theorem Chip.started_fwa (c : Chip) (i m : Nat) (b : List Byte) : (c.started i m b).fwa = c.fwa := rfl
@[simp] theorem Chip.started_cap (c : Chip) (i m : Nat) (b : List Byte) : (c.started i m b).cap = c.cap := rfl
@[simp] theorem Chip.started_lne (c : Chip) (i m : Nat) (b : List Byte) : (c.started i m b).lne = c.lne := rfl
@[simp] theorem Chip.started_ref (c : Chip) (i m : Nat) (b : List Byte) : (c.started i m b).ref = c.ref := rfl
@[simp] theorem Chip.started_ptp (c : Chip) (i m : Nat) (b : List Byte) : (c.started i m b).ptp = c.ptp := rfl
@[simp] theorem Chip.started_flt (c : Chip) (i m : Nat) (b : List Byte) : (c.started i m b).flt = c.flt := rfl
@[simp] theorem Chip.started_fab (c : Chip) (i m : Nat) (b : List Byte) : (c.started i m b).fab = c.fab := rfl
@[simp] theorem Chip.started_pwr (c : Chip) (i m : Nat) (b : List Byte) : (c.started i m b).pwr = c.pwr := rfl
@[simp] theorem Chip.started_pin (c : Chip) (i m : Nat) (b : List Byte) : (c.started i m b).pin = c.pin := rfl
@[simp] theorem Chip.started_noSel (c : Chip) (i m : Nat) (b : List Byte) : (c.started i m b).noSel = c.noSel := rfl
@[simp] theorem Chip.started_fld (c : Chip) (i m : Nat) (b : List Byte) (g : Fld) (d : Nat) : (c.started i m b).fld g d = c.fld g d := rfl

@[simp] theorem Chip.setRec_now (c : Chip) (ty i : Nat) (r : List Byte) : (c.setRec ty i r).now = c.now := rfl
@[simp] theorem Chip.setRec_released (c : Chip) (ty i : Nat) (r : List Byte) : (c.setRec ty i r).released = c.released := rfl
@[simp] theorem Chip.setRec_run (c : Chip) (ty i : Nat) (r : List Byte) : (c.setRec ty i r).run = c.run := rfl
@[simp] theorem Chip.setRec_clock (c : Chip) (ty i : Nat) (r : List Byte) : (c.setRec ty i r).clock = c.clock := rfl
@[simp] theorem Chip.setRec_latch (c : Chip) (ty i : Nat) (r : List Byte) : (c.setRec ty i r).latch = c.latch := rfl
@[simp] theorem Chip.setRec_free (c : Chip) (ty i : Nat) (r : List Byte) : (c.setRec ty i r).free = c.free := rfl
@[simp] theorem Chip.setRec_sent (c : Chip) (ty i : Nat) (r : List Byte) : (c.setRec ty i r).sent = c.sent := rfl
@[simp] theorem Chip.setRec_regs (c : Chip) (ty i : Nat) (r : List Byte) : (c.setRec ty i r).regs = c.regs := rfl
@[simp] theorem Chip.setRec_lan (c : Chip) (ty i : Nat) (r : List Byte) : (c.setRec ty i r).lan = c.lan := rfl
@[simp] theorem Chip.setRec_log (c : Chip) (ty i : Nat) (r : List Byte) : (c.setRec ty i r).log = c.log := rfl
@[simp] theorem Chip.setRec_tick (c : Chip) (ty i : Nat) (r : List Byte) : (c.setRec ty i r).tick = c.tick := rfl
@[simp] theorem Chip.setRec_xpt (c : Chip) (ty i : Nat) (r : List Byte) : (c.setRec ty i r).xpt = c.xpt := rfl
@[simp] theorem Chip.setRec_fst (c : Chip) (ty i : Nat) (r : List Byte) : (c.setRec ty i r).fst = c.fst := rfl
@[simp] theorem Chip.setRec_arb (c : Chip) (ty i : Nat) (r : List Byte) : (c.setRec ty i r).arb = c.arb := rfl
@[simp] theorem Chip.setRec_cmp (c : Chip) (ty i : Nat) (r : List Byte) : (c.setRec ty i r).cmp = c.cmp := rfl
@[simp] theorem Chip.setRec_boot (c : Chip) (ty i : Nat) (r : List Byte) : (c.setRec ty i r).boot = c.boot := rfl
@[simp] theorem Chip.setRec_spl (c : Chip) (ty i : Nat) (r : List Byte) : (c.setRec ty i r).spl = c.spl := rfl
@[simp] theorem Chip.setRec_upd (c : Chip) (ty i : Nat) (r : List Byte) : (c.setRec ty i r).upd = c.upd := rfl
@[simp] theorem Chip.setRec_aud (c : Chip) (ty i : Nat) (r : List Byte) : (c.setRec ty i r).aud = c.aud := rfl
@[simp] theorem Chip.setRec_net (c : Chip) (ty i : Nat) (r : List Byte) : (c.setRec ty i r).net = c.net := rfl
@[simp] theorem Chip.setRec_fwa (c : Chip) (ty i : Nat) (r : List Byte) : (c.setRec ty i r).fwa = c.fwa := rfl
@[simp] theorem Chip.setRec_cap (c : Chip) (ty i : Nat) (r : List Byte) : (c.setRec ty i r).cap = c.cap := rfl
@[simp] theorem Chip.setRec_lne (c : Chip) (ty i : Nat) (r : List Byte) : (c.setRec ty i r).lne = c.lne := rfl
@[simp] theorem Chip.setRec_ref (c : Chip) (ty i : Nat) (r : List Byte) : (c.setRec ty i r).ref = c.ref := rfl
@[simp] theorem Chip.setRec_ptp (c : Chip) (ty i : Nat) (r : List Byte) : (c.setRec ty i r).ptp = c.ptp := rfl
@[simp] theorem Chip.setRec_flt (c : Chip) (ty i : Nat) (r : List Byte) : (c.setRec ty i r).flt = c.flt := rfl
@[simp] theorem Chip.setRec_fab (c : Chip) (ty i : Nat) (r : List Byte) : (c.setRec ty i r).fab = c.fab := rfl
@[simp] theorem Chip.setRec_pwr (c : Chip) (ty i : Nat) (r : List Byte) : (c.setRec ty i r).pwr = c.pwr := rfl
@[simp] theorem Chip.setRec_pin (c : Chip) (ty i : Nat) (r : List Byte) : (c.setRec ty i r).pin = c.pin := rfl
@[simp] theorem Chip.setRec_noSel (c : Chip) (ty i : Nat) (r : List Byte) : (c.setRec ty i r).noSel = c.noSel := rfl
@[simp] theorem Chip.setRec_fld (c : Chip) (ty i : Nat) (r : List Byte) (g : Fld) (d : Nat) : (c.setRec ty i r).fld g d = c.fld g d := rfl

@[simp] theorem Chip.clearSection_now (c : Chip) (ty : Nat) : (c.clearSection ty).now = c.now := rfl
@[simp] theorem Chip.clearSection_released (c : Chip) (ty : Nat) : (c.clearSection ty).released = c.released := rfl
@[simp] theorem Chip.clearSection_run (c : Chip) (ty : Nat) : (c.clearSection ty).run = c.run := rfl
@[simp] theorem Chip.clearSection_clock (c : Chip) (ty : Nat) : (c.clearSection ty).clock = c.clock := rfl
@[simp] theorem Chip.clearSection_latch (c : Chip) (ty : Nat) : (c.clearSection ty).latch = c.latch := rfl
@[simp] theorem Chip.clearSection_free (c : Chip) (ty : Nat) : (c.clearSection ty).free = c.free := rfl
@[simp] theorem Chip.clearSection_sent (c : Chip) (ty : Nat) : (c.clearSection ty).sent = c.sent := rfl
@[simp] theorem Chip.clearSection_regs (c : Chip) (ty : Nat) : (c.clearSection ty).regs = c.regs := rfl
@[simp] theorem Chip.clearSection_lan (c : Chip) (ty : Nat) : (c.clearSection ty).lan = c.lan := rfl
@[simp] theorem Chip.clearSection_log (c : Chip) (ty : Nat) : (c.clearSection ty).log = c.log := rfl
@[simp] theorem Chip.clearSection_tick (c : Chip) (ty : Nat) : (c.clearSection ty).tick = c.tick := rfl
@[simp] theorem Chip.clearSection_xpt (c : Chip) (ty : Nat) : (c.clearSection ty).xpt = c.xpt := rfl
@[simp] theorem Chip.clearSection_fst (c : Chip) (ty : Nat) : (c.clearSection ty).fst = c.fst := rfl
@[simp] theorem Chip.clearSection_arb (c : Chip) (ty : Nat) : (c.clearSection ty).arb = c.arb := rfl
@[simp] theorem Chip.clearSection_cmp (c : Chip) (ty : Nat) : (c.clearSection ty).cmp = c.cmp := rfl
@[simp] theorem Chip.clearSection_boot (c : Chip) (ty : Nat) : (c.clearSection ty).boot = c.boot := rfl
@[simp] theorem Chip.clearSection_spl (c : Chip) (ty : Nat) : (c.clearSection ty).spl = c.spl := rfl
@[simp] theorem Chip.clearSection_upd (c : Chip) (ty : Nat) : (c.clearSection ty).upd = c.upd := rfl
@[simp] theorem Chip.clearSection_aud (c : Chip) (ty : Nat) : (c.clearSection ty).aud = c.aud := rfl
@[simp] theorem Chip.clearSection_net (c : Chip) (ty : Nat) : (c.clearSection ty).net = c.net := rfl
@[simp] theorem Chip.clearSection_fwa (c : Chip) (ty : Nat) : (c.clearSection ty).fwa = c.fwa := rfl
@[simp] theorem Chip.clearSection_cap (c : Chip) (ty : Nat) : (c.clearSection ty).cap = c.cap := rfl
@[simp] theorem Chip.clearSection_lne (c : Chip) (ty : Nat) : (c.clearSection ty).lne = c.lne := rfl
@[simp] theorem Chip.clearSection_ref (c : Chip) (ty : Nat) : (c.clearSection ty).ref = c.ref := rfl
@[simp] theorem Chip.clearSection_ptp (c : Chip) (ty : Nat) : (c.clearSection ty).ptp = c.ptp := rfl
@[simp] theorem Chip.clearSection_flt (c : Chip) (ty : Nat) : (c.clearSection ty).flt = c.flt := rfl
@[simp] theorem Chip.clearSection_fab (c : Chip) (ty : Nat) : (c.clearSection ty).fab = c.fab := rfl
@[simp] theorem Chip.clearSection_pwr (c : Chip) (ty : Nat) : (c.clearSection ty).pwr = c.pwr := rfl
@[simp] theorem Chip.clearSection_pin (c : Chip) (ty : Nat) : (c.clearSection ty).pin = c.pin := rfl
@[simp] theorem Chip.clearSection_noSel (c : Chip) (ty : Nat) : (c.clearSection ty).noSel = c.noSel := rfl
@[simp] theorem Chip.clearSection_fld (c : Chip) (ty : Nat) (g : Fld) (d : Nat) : (c.clearSection ty).fld g d = c.fld g d := rfl

@[simp] theorem Chip.modArbiter_now (c : Chip) (k : Nat) (f : Arbiter → Arbiter) : (c.modArbiter k f).now = c.now := rfl
@[simp] theorem Chip.modArbiter_released (c : Chip) (k : Nat) (f : Arbiter → Arbiter) : (c.modArbiter k f).released = c.released := rfl
@[simp] theorem Chip.modArbiter_run (c : Chip) (k : Nat) (f : Arbiter → Arbiter) : (c.modArbiter k f).run = c.run := rfl
@[simp] theorem Chip.modArbiter_clock (c : Chip) (k : Nat) (f : Arbiter → Arbiter) : (c.modArbiter k f).clock = c.clock := rfl
@[simp] theorem Chip.modArbiter_latch (c : Chip) (k : Nat) (f : Arbiter → Arbiter) : (c.modArbiter k f).latch = c.latch := rfl
@[simp] theorem Chip.modArbiter_free (c : Chip) (k : Nat) (f : Arbiter → Arbiter) : (c.modArbiter k f).free = c.free := rfl
@[simp] theorem Chip.modArbiter_sent (c : Chip) (k : Nat) (f : Arbiter → Arbiter) : (c.modArbiter k f).sent = c.sent := rfl
@[simp] theorem Chip.modArbiter_regs (c : Chip) (k : Nat) (f : Arbiter → Arbiter) : (c.modArbiter k f).regs = c.regs := rfl
@[simp] theorem Chip.modArbiter_cfg (c : Chip) (k : Nat) (f : Arbiter → Arbiter) : (c.modArbiter k f).cfg = c.cfg := rfl
@[simp] theorem Chip.modArbiter_lan (c : Chip) (k : Nat) (f : Arbiter → Arbiter) : (c.modArbiter k f).lan = c.lan := rfl
@[simp] theorem Chip.modArbiter_log (c : Chip) (k : Nat) (f : Arbiter → Arbiter) : (c.modArbiter k f).log = c.log := rfl
@[simp] theorem Chip.modArbiter_tick (c : Chip) (k : Nat) (f : Arbiter → Arbiter) : (c.modArbiter k f).tick = c.tick := rfl
@[simp] theorem Chip.modArbiter_xpt (c : Chip) (k : Nat) (f : Arbiter → Arbiter) : (c.modArbiter k f).xpt = c.xpt := rfl
@[simp] theorem Chip.modArbiter_fst (c : Chip) (k : Nat) (f : Arbiter → Arbiter) : (c.modArbiter k f).fst = c.fst := rfl
@[simp] theorem Chip.modArbiter_cmp (c : Chip) (k : Nat) (f : Arbiter → Arbiter) : (c.modArbiter k f).cmp = c.cmp := rfl
@[simp] theorem Chip.modArbiter_boot (c : Chip) (k : Nat) (f : Arbiter → Arbiter) : (c.modArbiter k f).boot = c.boot := rfl
@[simp] theorem Chip.modArbiter_spl (c : Chip) (k : Nat) (f : Arbiter → Arbiter) : (c.modArbiter k f).spl = c.spl := rfl
@[simp] theorem Chip.modArbiter_upd (c : Chip) (k : Nat) (f : Arbiter → Arbiter) : (c.modArbiter k f).upd = c.upd := rfl
@[simp] theorem Chip.modArbiter_aud (c : Chip) (k : Nat) (f : Arbiter → Arbiter) : (c.modArbiter k f).aud = c.aud := rfl
@[simp] theorem Chip.modArbiter_net (c : Chip) (k : Nat) (f : Arbiter → Arbiter) : (c.modArbiter k f).net = c.net := rfl
@[simp] theorem Chip.modArbiter_fwa (c : Chip) (k : Nat) (f : Arbiter → Arbiter) : (c.modArbiter k f).fwa = c.fwa := rfl
@[simp] theorem Chip.modArbiter_cap (c : Chip) (k : Nat) (f : Arbiter → Arbiter) : (c.modArbiter k f).cap = c.cap := rfl
@[simp] theorem Chip.modArbiter_lne (c : Chip) (k : Nat) (f : Arbiter → Arbiter) : (c.modArbiter k f).lne = c.lne := rfl
@[simp] theorem Chip.modArbiter_ref (c : Chip) (k : Nat) (f : Arbiter → Arbiter) : (c.modArbiter k f).ref = c.ref := rfl
@[simp] theorem Chip.modArbiter_ptp (c : Chip) (k : Nat) (f : Arbiter → Arbiter) : (c.modArbiter k f).ptp = c.ptp := rfl
@[simp] theorem Chip.modArbiter_flt (c : Chip) (k : Nat) (f : Arbiter → Arbiter) : (c.modArbiter k f).flt = c.flt := rfl
@[simp] theorem Chip.modArbiter_fab (c : Chip) (k : Nat) (f : Arbiter → Arbiter) : (c.modArbiter k f).fab = c.fab := rfl
@[simp] theorem Chip.modArbiter_pwr (c : Chip) (k : Nat) (f : Arbiter → Arbiter) : (c.modArbiter k f).pwr = c.pwr := rfl
@[simp] theorem Chip.modArbiter_pin (c : Chip) (k : Nat) (f : Arbiter → Arbiter) : (c.modArbiter k f).pin = c.pin := rfl
@[simp] theorem Chip.modArbiter_noSel (c : Chip) (k : Nat) (f : Arbiter → Arbiter) : (c.modArbiter k f).noSel = c.noSel := rfl
@[simp] theorem Chip.modArbiter_fld (c : Chip) (k : Nat) (f : Arbiter → Arbiter) (g : Fld) (d : Nat) : (c.modArbiter k f).fld g d = c.fld g d := rfl

@[simp] theorem Chip.modPort_now (c : Chip) (k : Nat) (f : AudPort → AudPort) : (c.modPort k f).now = c.now := rfl
@[simp] theorem Chip.modPort_released (c : Chip) (k : Nat) (f : AudPort → AudPort) : (c.modPort k f).released = c.released := rfl
@[simp] theorem Chip.modPort_run (c : Chip) (k : Nat) (f : AudPort → AudPort) : (c.modPort k f).run = c.run := rfl
@[simp] theorem Chip.modPort_clock (c : Chip) (k : Nat) (f : AudPort → AudPort) : (c.modPort k f).clock = c.clock := rfl
@[simp] theorem Chip.modPort_latch (c : Chip) (k : Nat) (f : AudPort → AudPort) : (c.modPort k f).latch = c.latch := rfl
@[simp] theorem Chip.modPort_free (c : Chip) (k : Nat) (f : AudPort → AudPort) : (c.modPort k f).free = c.free := rfl
@[simp] theorem Chip.modPort_sent (c : Chip) (k : Nat) (f : AudPort → AudPort) : (c.modPort k f).sent = c.sent := rfl
@[simp] theorem Chip.modPort_regs (c : Chip) (k : Nat) (f : AudPort → AudPort) : (c.modPort k f).regs = c.regs := rfl
@[simp] theorem Chip.modPort_cfg (c : Chip) (k : Nat) (f : AudPort → AudPort) : (c.modPort k f).cfg = c.cfg := rfl
@[simp] theorem Chip.modPort_lan (c : Chip) (k : Nat) (f : AudPort → AudPort) : (c.modPort k f).lan = c.lan := rfl
@[simp] theorem Chip.modPort_log (c : Chip) (k : Nat) (f : AudPort → AudPort) : (c.modPort k f).log = c.log := rfl
@[simp] theorem Chip.modPort_tick (c : Chip) (k : Nat) (f : AudPort → AudPort) : (c.modPort k f).tick = c.tick := rfl
@[simp] theorem Chip.modPort_xpt (c : Chip) (k : Nat) (f : AudPort → AudPort) : (c.modPort k f).xpt = c.xpt := rfl
@[simp] theorem Chip.modPort_fst (c : Chip) (k : Nat) (f : AudPort → AudPort) : (c.modPort k f).fst = c.fst := rfl
@[simp] theorem Chip.modPort_arb (c : Chip) (k : Nat) (f : AudPort → AudPort) : (c.modPort k f).arb = c.arb := rfl
@[simp] theorem Chip.modPort_cmp (c : Chip) (k : Nat) (f : AudPort → AudPort) : (c.modPort k f).cmp = c.cmp := rfl
@[simp] theorem Chip.modPort_boot (c : Chip) (k : Nat) (f : AudPort → AudPort) : (c.modPort k f).boot = c.boot := rfl
@[simp] theorem Chip.modPort_spl (c : Chip) (k : Nat) (f : AudPort → AudPort) : (c.modPort k f).spl = c.spl := rfl
@[simp] theorem Chip.modPort_upd (c : Chip) (k : Nat) (f : AudPort → AudPort) : (c.modPort k f).upd = c.upd := rfl
@[simp] theorem Chip.modPort_net (c : Chip) (k : Nat) (f : AudPort → AudPort) : (c.modPort k f).net = c.net := rfl
@[simp] theorem Chip.modPort_fwa (c : Chip) (k : Nat) (f : AudPort → AudPort) : (c.modPort k f).fwa = c.fwa := rfl
@[simp] theorem Chip.modPort_cap (c : Chip) (k : Nat) (f : AudPort → AudPort) : (c.modPort k f).cap = c.cap := rfl
@[simp] theorem Chip.modPort_lne (c : Chip) (k : Nat) (f : AudPort → AudPort) : (c.modPort k f).lne = c.lne := rfl
@[simp] theorem Chip.modPort_ref (c : Chip) (k : Nat) (f : AudPort → AudPort) : (c.modPort k f).ref = c.ref := rfl
@[simp] theorem Chip.modPort_ptp (c : Chip) (k : Nat) (f : AudPort → AudPort) : (c.modPort k f).ptp = c.ptp := rfl
@[simp] theorem Chip.modPort_flt (c : Chip) (k : Nat) (f : AudPort → AudPort) : (c.modPort k f).flt = c.flt := rfl
@[simp] theorem Chip.modPort_fab (c : Chip) (k : Nat) (f : AudPort → AudPort) : (c.modPort k f).fab = c.fab := rfl
@[simp] theorem Chip.modPort_pwr (c : Chip) (k : Nat) (f : AudPort → AudPort) : (c.modPort k f).pwr = c.pwr := rfl
@[simp] theorem Chip.modPort_pin (c : Chip) (k : Nat) (f : AudPort → AudPort) : (c.modPort k f).pin = c.pin := rfl
@[simp] theorem Chip.modPort_noSel (c : Chip) (k : Nat) (f : AudPort → AudPort) : (c.modPort k f).noSel = c.noSel := rfl
@[simp] theorem Chip.modPort_fld (c : Chip) (k : Nat) (f : AudPort → AudPort) (g : Fld) (d : Nat) : (c.modPort k f).fld g d = c.fld g d := rfl

@[simp] theorem Chip.modAud_now (c : Chip) (k : Nat) (f : AudDst → AudDst) : (c.modAud k f).now = c.now := rfl
@[simp] theorem Chip.modAud_released (c : Chip) (k : Nat) (f : AudDst → AudDst) : (c.modAud k f).released = c.released := rfl
@[simp] theorem Chip.modAud_run (c : Chip) (k : Nat) (f : AudDst → AudDst) : (c.modAud k f).run = c.run := rfl
@[simp] theorem Chip.modAud_clock (c : Chip) (k : Nat) (f : AudDst → AudDst) : (c.modAud k f).clock = c.clock := rfl
@[simp] theorem Chip.modAud_latch (c : Chip) (k : Nat) (f : AudDst → AudDst) : (c.modAud k f).latch = c.latch := rfl
@[simp] theorem Chip.modAud_free (c : Chip) (k : Nat) (f : AudDst → AudDst) : (c.modAud k f).free = c.free := rfl
@[simp] theorem Chip.modAud_sent (c : Chip) (k : Nat) (f : AudDst → AudDst) : (c.modAud k f).sent = c.sent := rfl
@[simp] theorem Chip.modAud_regs (c : Chip) (k : Nat) (f : AudDst → AudDst) : (c.modAud k f).regs = c.regs := rfl
@[simp] theorem Chip.modAud_cfg (c : Chip) (k : Nat) (f : AudDst → AudDst) : (c.modAud k f).cfg = c.cfg := rfl
@[simp] theorem Chip.modAud_lan (c : Chip) (k : Nat) (f : AudDst → AudDst) : (c.modAud k f).lan = c.lan := rfl
@[simp] theorem Chip.modAud_log (c : Chip) (k : Nat) (f : AudDst → AudDst) : (c.modAud k f).log = c.log := rfl
@[simp] theorem Chip.modAud_tick (c : Chip) (k : Nat) (f : AudDst → AudDst) : (c.modAud k f).tick = c.tick := rfl
@[simp] theorem Chip.modAud_xpt (c : Chip) (k : Nat) (f : AudDst → AudDst) : (c.modAud k f).xpt = c.xpt := rfl
@[simp] theorem Chip.modAud_fst (c : Chip) (k : Nat) (f : AudDst → AudDst) : (c.modAud k f).fst = c.fst := rfl
@[simp] theorem Chip.modAud_arb (c : Chip) (k : Nat) (f : AudDst → AudDst) : (c.modAud k f).arb = c.arb := rfl
@[simp] theorem Chip.modAud_cmp (c : Chip) (k : Nat) (f : AudDst → AudDst) : (c.modAud k f).cmp = c.cmp := rfl
@[simp] theorem Chip.modAud_boot (c : Chip) (k : Nat) (f : AudDst → AudDst) : (c.modAud k f).boot = c.boot := rfl
@[simp] theorem Chip.modAud_spl (c : Chip) (k : Nat) (f : AudDst → AudDst) : (c.modAud k f).spl = c.spl := rfl
@[simp] theorem Chip.modAud_upd (c : Chip) (k : Nat) (f : AudDst → AudDst) : (c.modAud k f).upd = c.upd := rfl
@[simp] theorem Chip.modAud_net (c : Chip) (k : Nat) (f : AudDst → AudDst) : (c.modAud k f).net = c.net := rfl
@[simp] theorem Chip.modAud_fwa (c : Chip) (k : Nat) (f : AudDst → AudDst) : (c.modAud k f).fwa = c.fwa := rfl
@[simp] theorem Chip.modAud_cap (c : Chip) (k : Nat) (f : AudDst → AudDst) : (c.modAud k f).cap = c.cap := rfl
@[simp] theorem Chip.modAud_lne (c : Chip) (k : Nat) (f : AudDst → AudDst) : (c.modAud k f).lne = c.lne := rfl
@[simp] theorem Chip.modAud_ref (c : Chip) (k : Nat) (f : AudDst → AudDst) : (c.modAud k f).ref = c.ref := rfl
@[simp] theorem Chip.modAud_ptp (c : Chip) (k : Nat) (f : AudDst → AudDst) : (c.modAud k f).ptp = c.ptp := rfl
@[simp] theorem Chip.modAud_flt (c : Chip) (k : Nat) (f : AudDst → AudDst) : (c.modAud k f).flt = c.flt := rfl
@[simp] theorem Chip.modAud_fab (c : Chip) (k : Nat) (f : AudDst → AudDst) : (c.modAud k f).fab = c.fab := rfl
@[simp] theorem Chip.modAud_pwr (c : Chip) (k : Nat) (f : AudDst → AudDst) : (c.modAud k f).pwr = c.pwr := rfl
@[simp] theorem Chip.modAud_pin (c : Chip) (k : Nat) (f : AudDst → AudDst) : (c.modAud k f).pin = c.pin := rfl
@[simp] theorem Chip.modAud_noSel (c : Chip) (k : Nat) (f : AudDst → AudDst) : (c.modAud k f).noSel = c.noSel := rfl
@[simp] theorem Chip.modAud_fld (c : Chip) (k : Nat) (f : AudDst → AudDst) (g : Fld) (d : Nat) : (c.modAud k f).fld g d = c.fld g d := rfl

@[simp] theorem Chip.modPlayer_now (c : Chip) (k : Nat) (f : Player → Player) : (c.modPlayer k f).now = c.now := rfl
@[simp] theorem Chip.modPlayer_released (c : Chip) (k : Nat) (f : Player → Player) : (c.modPlayer k f).released = c.released := rfl
@[simp] theorem Chip.modPlayer_run (c : Chip) (k : Nat) (f : Player → Player) : (c.modPlayer k f).run = c.run := rfl
@[simp] theorem Chip.modPlayer_clock (c : Chip) (k : Nat) (f : Player → Player) : (c.modPlayer k f).clock = c.clock := rfl
@[simp] theorem Chip.modPlayer_latch (c : Chip) (k : Nat) (f : Player → Player) : (c.modPlayer k f).latch = c.latch := rfl
@[simp] theorem Chip.modPlayer_free (c : Chip) (k : Nat) (f : Player → Player) : (c.modPlayer k f).free = c.free := rfl
@[simp] theorem Chip.modPlayer_sent (c : Chip) (k : Nat) (f : Player → Player) : (c.modPlayer k f).sent = c.sent := rfl
@[simp] theorem Chip.modPlayer_regs (c : Chip) (k : Nat) (f : Player → Player) : (c.modPlayer k f).regs = c.regs := rfl
@[simp] theorem Chip.modPlayer_cfg (c : Chip) (k : Nat) (f : Player → Player) : (c.modPlayer k f).cfg = c.cfg := rfl
@[simp] theorem Chip.modPlayer_lan (c : Chip) (k : Nat) (f : Player → Player) : (c.modPlayer k f).lan = c.lan := rfl
@[simp] theorem Chip.modPlayer_log (c : Chip) (k : Nat) (f : Player → Player) : (c.modPlayer k f).log = c.log := rfl
@[simp] theorem Chip.modPlayer_tick (c : Chip) (k : Nat) (f : Player → Player) : (c.modPlayer k f).tick = c.tick := rfl
@[simp] theorem Chip.modPlayer_xpt (c : Chip) (k : Nat) (f : Player → Player) : (c.modPlayer k f).xpt = c.xpt := rfl
@[simp] theorem Chip.modPlayer_fst (c : Chip) (k : Nat) (f : Player → Player) : (c.modPlayer k f).fst = c.fst := rfl
@[simp] theorem Chip.modPlayer_arb (c : Chip) (k : Nat) (f : Player → Player) : (c.modPlayer k f).arb = c.arb := rfl
@[simp] theorem Chip.modPlayer_cmp (c : Chip) (k : Nat) (f : Player → Player) : (c.modPlayer k f).cmp = c.cmp := rfl
@[simp] theorem Chip.modPlayer_boot (c : Chip) (k : Nat) (f : Player → Player) : (c.modPlayer k f).boot = c.boot := rfl
@[simp] theorem Chip.modPlayer_spl (c : Chip) (k : Nat) (f : Player → Player) : (c.modPlayer k f).spl = c.spl := rfl
@[simp] theorem Chip.modPlayer_upd (c : Chip) (k : Nat) (f : Player → Player) : (c.modPlayer k f).upd = c.upd := rfl
@[simp] theorem Chip.modPlayer_aud (c : Chip) (k : Nat) (f : Player → Player) : (c.modPlayer k f).aud = c.aud := rfl
@[simp] theorem Chip.modPlayer_net (c : Chip) (k : Nat) (f : Player → Player) : (c.modPlayer k f).net = c.net := rfl
@[simp] theorem Chip.modPlayer_fwa (c : Chip) (k : Nat) (f : Player → Player) : (c.modPlayer k f).fwa = c.fwa := rfl
@[simp] theorem Chip.modPlayer_lne (c : Chip) (k : Nat) (f : Player → Player) : (c.modPlayer k f).lne = c.lne := rfl
@[simp] theorem Chip.modPlayer_ref (c : Chip) (k : Nat) (f : Player → Player) : (c.modPlayer k f).ref = c.ref := rfl
@[simp] theorem Chip.modPlayer_ptp (c : Chip) (k : Nat) (f : Player → Player) : (c.modPlayer k f).ptp = c.ptp := rfl
@[simp] theorem Chip.modPlayer_flt (c : Chip) (k : Nat) (f : Player → Player) : (c.modPlayer k f).flt = c.flt := rfl
@[simp] theorem Chip.modPlayer_fab (c : Chip) (k : Nat) (f : Player → Player) : (c.modPlayer k f).fab = c.fab := rfl
@[simp] theorem Chip.modPlayer_pwr (c : Chip) (k : Nat) (f : Player → Player) : (c.modPlayer k f).pwr = c.pwr := rfl
@[simp] theorem Chip.modPlayer_pin (c : Chip) (k : Nat) (f : Player → Player) : (c.modPlayer k f).pin = c.pin := rfl
@[simp] theorem Chip.modPlayer_noSel (c : Chip) (k : Nat) (f : Player → Player) : (c.modPlayer k f).noSel = c.noSel := rfl
@[simp] theorem Chip.modPlayer_fld (c : Chip) (k : Nat) (f : Player → Player) (g : Fld) (d : Nat) : (c.modPlayer k f).fld g d = c.fld g d := rfl

@[simp] theorem Chip.modDrive_now (c : Chip) (k : Nat) (f : Drive → Drive) : (c.modDrive k f).now = c.now := rfl
@[simp] theorem Chip.modDrive_released (c : Chip) (k : Nat) (f : Drive → Drive) : (c.modDrive k f).released = c.released := rfl
@[simp] theorem Chip.modDrive_run (c : Chip) (k : Nat) (f : Drive → Drive) : (c.modDrive k f).run = c.run := rfl
@[simp] theorem Chip.modDrive_clock (c : Chip) (k : Nat) (f : Drive → Drive) : (c.modDrive k f).clock = c.clock := rfl
@[simp] theorem Chip.modDrive_latch (c : Chip) (k : Nat) (f : Drive → Drive) : (c.modDrive k f).latch = c.latch := rfl
@[simp] theorem Chip.modDrive_free (c : Chip) (k : Nat) (f : Drive → Drive) : (c.modDrive k f).free = c.free := rfl
@[simp] theorem Chip.modDrive_sent (c : Chip) (k : Nat) (f : Drive → Drive) : (c.modDrive k f).sent = c.sent := rfl
@[simp] theorem Chip.modDrive_regs (c : Chip) (k : Nat) (f : Drive → Drive) : (c.modDrive k f).regs = c.regs := rfl
@[simp] theorem Chip.modDrive_cfg (c : Chip) (k : Nat) (f : Drive → Drive) : (c.modDrive k f).cfg = c.cfg := rfl
@[simp] theorem Chip.modDrive_lan (c : Chip) (k : Nat) (f : Drive → Drive) : (c.modDrive k f).lan = c.lan := rfl
@[simp] theorem Chip.modDrive_log (c : Chip) (k : Nat) (f : Drive → Drive) : (c.modDrive k f).log = c.log := rfl
@[simp] theorem Chip.modDrive_tick (c : Chip) (k : Nat) (f : Drive → Drive) : (c.modDrive k f).tick = c.tick := rfl
@[simp] theorem Chip.modDrive_xpt (c : Chip) (k : Nat) (f : Drive → Drive) : (c.modDrive k f).xpt = c.xpt := rfl
@[simp] theorem Chip.modDrive_fst (c : Chip) (k : Nat) (f : Drive → Drive) : (c.modDrive k f).fst = c.fst := rfl
@[simp] theorem Chip.modDrive_arb (c : Chip) (k : Nat) (f : Drive → Drive) : (c.modDrive k f).arb = c.arb := rfl
@[simp] theorem Chip.modDrive_cmp (c : Chip) (k : Nat) (f : Drive → Drive) : (c.modDrive k f).cmp = c.cmp := rfl
@[simp] theorem Chip.modDrive_boot (c : Chip) (k : Nat) (f : Drive → Drive) : (c.modDrive k f).boot = c.boot := rfl
@[simp] theorem Chip.modDrive_spl (c : Chip) (k : Nat) (f : Drive → Drive) : (c.modDrive k f).spl = c.spl := rfl
@[simp] theorem Chip.modDrive_upd (c : Chip) (k : Nat) (f : Drive → Drive) : (c.modDrive k f).upd = c.upd := rfl
@[simp] theorem Chip.modDrive_aud (c : Chip) (k : Nat) (f : Drive → Drive) : (c.modDrive k f).aud = c.aud := rfl
@[simp] theorem Chip.modDrive_net (c : Chip) (k : Nat) (f : Drive → Drive) : (c.modDrive k f).net = c.net := rfl
@[simp] theorem Chip.modDrive_fwa (c : Chip) (k : Nat) (f : Drive → Drive) : (c.modDrive k f).fwa = c.fwa := rfl
@[simp] theorem Chip.modDrive_lne (c : Chip) (k : Nat) (f : Drive → Drive) : (c.modDrive k f).lne = c.lne := rfl
@[simp] theorem Chip.modDrive_ref (c : Chip) (k : Nat) (f : Drive → Drive) : (c.modDrive k f).ref = c.ref := rfl
@[simp] theorem Chip.modDrive_ptp (c : Chip) (k : Nat) (f : Drive → Drive) : (c.modDrive k f).ptp = c.ptp := rfl
@[simp] theorem Chip.modDrive_flt (c : Chip) (k : Nat) (f : Drive → Drive) : (c.modDrive k f).flt = c.flt := rfl
@[simp] theorem Chip.modDrive_fab (c : Chip) (k : Nat) (f : Drive → Drive) : (c.modDrive k f).fab = c.fab := rfl
@[simp] theorem Chip.modDrive_pwr (c : Chip) (k : Nat) (f : Drive → Drive) : (c.modDrive k f).pwr = c.pwr := rfl
@[simp] theorem Chip.modDrive_pin (c : Chip) (k : Nat) (f : Drive → Drive) : (c.modDrive k f).pin = c.pin := rfl
@[simp] theorem Chip.modDrive_noSel (c : Chip) (k : Nat) (f : Drive → Drive) : (c.modDrive k f).noSel = c.noSel := rfl
@[simp] theorem Chip.modDrive_fld (c : Chip) (k : Nat) (f : Drive → Drive) (g : Fld) (d : Nat) : (c.modDrive k f).fld g d = c.fld g d := rfl

@[simp] theorem Chip.modSet_now (c : Chip) (k : Nat) (f : CapSet → CapSet) : (c.modSet k f).now = c.now := rfl
@[simp] theorem Chip.modSet_released (c : Chip) (k : Nat) (f : CapSet → CapSet) : (c.modSet k f).released = c.released := rfl
@[simp] theorem Chip.modSet_run (c : Chip) (k : Nat) (f : CapSet → CapSet) : (c.modSet k f).run = c.run := rfl
@[simp] theorem Chip.modSet_clock (c : Chip) (k : Nat) (f : CapSet → CapSet) : (c.modSet k f).clock = c.clock := rfl
@[simp] theorem Chip.modSet_latch (c : Chip) (k : Nat) (f : CapSet → CapSet) : (c.modSet k f).latch = c.latch := rfl
@[simp] theorem Chip.modSet_free (c : Chip) (k : Nat) (f : CapSet → CapSet) : (c.modSet k f).free = c.free := rfl
@[simp] theorem Chip.modSet_sent (c : Chip) (k : Nat) (f : CapSet → CapSet) : (c.modSet k f).sent = c.sent := rfl
@[simp] theorem Chip.modSet_regs (c : Chip) (k : Nat) (f : CapSet → CapSet) : (c.modSet k f).regs = c.regs := rfl
@[simp] theorem Chip.modSet_cfg (c : Chip) (k : Nat) (f : CapSet → CapSet) : (c.modSet k f).cfg = c.cfg := rfl
@[simp] theorem Chip.modSet_lan (c : Chip) (k : Nat) (f : CapSet → CapSet) : (c.modSet k f).lan = c.lan := rfl
@[simp] theorem Chip.modSet_log (c : Chip) (k : Nat) (f : CapSet → CapSet) : (c.modSet k f).log = c.log := rfl
@[simp] theorem Chip.modSet_tick (c : Chip) (k : Nat) (f : CapSet → CapSet) : (c.modSet k f).tick = c.tick := rfl
@[simp] theorem Chip.modSet_xpt (c : Chip) (k : Nat) (f : CapSet → CapSet) : (c.modSet k f).xpt = c.xpt := rfl
@[simp] theorem Chip.modSet_fst (c : Chip) (k : Nat) (f : CapSet → CapSet) : (c.modSet k f).fst = c.fst := rfl
@[simp] theorem Chip.modSet_arb (c : Chip) (k : Nat) (f : CapSet → CapSet) : (c.modSet k f).arb = c.arb := rfl
@[simp] theorem Chip.modSet_cmp (c : Chip) (k : Nat) (f : CapSet → CapSet) : (c.modSet k f).cmp = c.cmp := rfl
@[simp] theorem Chip.modSet_boot (c : Chip) (k : Nat) (f : CapSet → CapSet) : (c.modSet k f).boot = c.boot := rfl
@[simp] theorem Chip.modSet_spl (c : Chip) (k : Nat) (f : CapSet → CapSet) : (c.modSet k f).spl = c.spl := rfl
@[simp] theorem Chip.modSet_upd (c : Chip) (k : Nat) (f : CapSet → CapSet) : (c.modSet k f).upd = c.upd := rfl
@[simp] theorem Chip.modSet_aud (c : Chip) (k : Nat) (f : CapSet → CapSet) : (c.modSet k f).aud = c.aud := rfl
@[simp] theorem Chip.modSet_net (c : Chip) (k : Nat) (f : CapSet → CapSet) : (c.modSet k f).net = c.net := rfl
@[simp] theorem Chip.modSet_fwa (c : Chip) (k : Nat) (f : CapSet → CapSet) : (c.modSet k f).fwa = c.fwa := rfl
@[simp] theorem Chip.modSet_lne (c : Chip) (k : Nat) (f : CapSet → CapSet) : (c.modSet k f).lne = c.lne := rfl
@[simp] theorem Chip.modSet_ref (c : Chip) (k : Nat) (f : CapSet → CapSet) : (c.modSet k f).ref = c.ref := rfl
@[simp] theorem Chip.modSet_ptp (c : Chip) (k : Nat) (f : CapSet → CapSet) : (c.modSet k f).ptp = c.ptp := rfl
@[simp] theorem Chip.modSet_flt (c : Chip) (k : Nat) (f : CapSet → CapSet) : (c.modSet k f).flt = c.flt := rfl
@[simp] theorem Chip.modSet_fab (c : Chip) (k : Nat) (f : CapSet → CapSet) : (c.modSet k f).fab = c.fab := rfl
@[simp] theorem Chip.modSet_pwr (c : Chip) (k : Nat) (f : CapSet → CapSet) : (c.modSet k f).pwr = c.pwr := rfl
@[simp] theorem Chip.modSet_pin (c : Chip) (k : Nat) (f : CapSet → CapSet) : (c.modSet k f).pin = c.pin := rfl
@[simp] theorem Chip.modSet_noSel (c : Chip) (k : Nat) (f : CapSet → CapSet) : (c.modSet k f).noSel = c.noSel := rfl
@[simp] theorem Chip.modSet_fld (c : Chip) (k : Nat) (f : CapSet → CapSet) (g : Fld) (d : Nat) : (c.modSet k f).fld g d = c.fld g d := rfl

@[simp] theorem Chip.modFabPort_now (c : Chip) (k : Nat) (f : FabPort → FabPort) : (c.modFabPort k f).now = c.now := rfl
@[simp] theorem Chip.modFabPort_released (c : Chip) (k : Nat) (f : FabPort → FabPort) : (c.modFabPort k f).released = c.released := rfl
@[simp] theorem Chip.modFabPort_run (c : Chip) (k : Nat) (f : FabPort → FabPort) : (c.modFabPort k f).run = c.run := rfl
@[simp] theorem Chip.modFabPort_clock (c : Chip) (k : Nat) (f : FabPort → FabPort) : (c.modFabPort k f).clock = c.clock := rfl
@[simp] theorem Chip.modFabPort_latch (c : Chip) (k : Nat) (f : FabPort → FabPort) : (c.modFabPort k f).latch = c.latch := rfl
@[simp] theorem Chip.modFabPort_free (c : Chip) (k : Nat) (f : FabPort → FabPort) : (c.modFabPort k f).free = c.free := rfl
@[simp] theorem Chip.modFabPort_sent (c : Chip) (k : Nat) (f : FabPort → FabPort) : (c.modFabPort k f).sent = c.sent := rfl
@[simp] theorem Chip.modFabPort_regs (c : Chip) (k : Nat) (f : FabPort → FabPort) : (c.modFabPort k f).regs = c.regs := rfl
@[simp] theorem Chip.modFabPort_cfg (c : Chip) (k : Nat) (f : FabPort → FabPort) : (c.modFabPort k f).cfg = c.cfg := rfl
@[simp] theorem Chip.modFabPort_lan (c : Chip) (k : Nat) (f : FabPort → FabPort) : (c.modFabPort k f).lan = c.lan := rfl
@[simp] theorem Chip.modFabPort_log (c : Chip) (k : Nat) (f : FabPort → FabPort) : (c.modFabPort k f).log = c.log := rfl
@[simp] theorem Chip.modFabPort_tick (c : Chip) (k : Nat) (f : FabPort → FabPort) : (c.modFabPort k f).tick = c.tick := rfl
@[simp] theorem Chip.modFabPort_xpt (c : Chip) (k : Nat) (f : FabPort → FabPort) : (c.modFabPort k f).xpt = c.xpt := rfl
@[simp] theorem Chip.modFabPort_fst (c : Chip) (k : Nat) (f : FabPort → FabPort) : (c.modFabPort k f).fst = c.fst := rfl
@[simp] theorem Chip.modFabPort_arb (c : Chip) (k : Nat) (f : FabPort → FabPort) : (c.modFabPort k f).arb = c.arb := rfl
@[simp] theorem Chip.modFabPort_cmp (c : Chip) (k : Nat) (f : FabPort → FabPort) : (c.modFabPort k f).cmp = c.cmp := rfl
@[simp] theorem Chip.modFabPort_boot (c : Chip) (k : Nat) (f : FabPort → FabPort) : (c.modFabPort k f).boot = c.boot := rfl
@[simp] theorem Chip.modFabPort_spl (c : Chip) (k : Nat) (f : FabPort → FabPort) : (c.modFabPort k f).spl = c.spl := rfl
@[simp] theorem Chip.modFabPort_upd (c : Chip) (k : Nat) (f : FabPort → FabPort) : (c.modFabPort k f).upd = c.upd := rfl
@[simp] theorem Chip.modFabPort_aud (c : Chip) (k : Nat) (f : FabPort → FabPort) : (c.modFabPort k f).aud = c.aud := rfl
@[simp] theorem Chip.modFabPort_net (c : Chip) (k : Nat) (f : FabPort → FabPort) : (c.modFabPort k f).net = c.net := rfl
@[simp] theorem Chip.modFabPort_fwa (c : Chip) (k : Nat) (f : FabPort → FabPort) : (c.modFabPort k f).fwa = c.fwa := rfl
@[simp] theorem Chip.modFabPort_cap (c : Chip) (k : Nat) (f : FabPort → FabPort) : (c.modFabPort k f).cap = c.cap := rfl
@[simp] theorem Chip.modFabPort_lne (c : Chip) (k : Nat) (f : FabPort → FabPort) : (c.modFabPort k f).lne = c.lne := rfl
@[simp] theorem Chip.modFabPort_ref (c : Chip) (k : Nat) (f : FabPort → FabPort) : (c.modFabPort k f).ref = c.ref := rfl
@[simp] theorem Chip.modFabPort_ptp (c : Chip) (k : Nat) (f : FabPort → FabPort) : (c.modFabPort k f).ptp = c.ptp := rfl
@[simp] theorem Chip.modFabPort_flt (c : Chip) (k : Nat) (f : FabPort → FabPort) : (c.modFabPort k f).flt = c.flt := rfl
@[simp] theorem Chip.modFabPort_pwr (c : Chip) (k : Nat) (f : FabPort → FabPort) : (c.modFabPort k f).pwr = c.pwr := rfl
@[simp] theorem Chip.modFabPort_pin (c : Chip) (k : Nat) (f : FabPort → FabPort) : (c.modFabPort k f).pin = c.pin := rfl
@[simp] theorem Chip.modFabPort_noSel (c : Chip) (k : Nat) (f : FabPort → FabPort) : (c.modFabPort k f).noSel = c.noSel := rfl
@[simp] theorem Chip.modFabPort_fld (c : Chip) (k : Nat) (f : FabPort → FabPort) (g : Fld) (d : Nat) : (c.modFabPort k f).fld g d = c.fld g d := rfl

@[simp] theorem Chip.modSync_now (c : Chip) (k : Nat) (f : Sync → Sync) : (c.modSync k f).now = c.now := rfl
@[simp] theorem Chip.modSync_released (c : Chip) (k : Nat) (f : Sync → Sync) : (c.modSync k f).released = c.released := rfl
@[simp] theorem Chip.modSync_run (c : Chip) (k : Nat) (f : Sync → Sync) : (c.modSync k f).run = c.run := rfl
@[simp] theorem Chip.modSync_clock (c : Chip) (k : Nat) (f : Sync → Sync) : (c.modSync k f).clock = c.clock := rfl
@[simp] theorem Chip.modSync_latch (c : Chip) (k : Nat) (f : Sync → Sync) : (c.modSync k f).latch = c.latch := rfl
@[simp] theorem Chip.modSync_free (c : Chip) (k : Nat) (f : Sync → Sync) : (c.modSync k f).free = c.free := rfl
@[simp] theorem Chip.modSync_sent (c : Chip) (k : Nat) (f : Sync → Sync) : (c.modSync k f).sent = c.sent := rfl
@[simp] theorem Chip.modSync_regs (c : Chip) (k : Nat) (f : Sync → Sync) : (c.modSync k f).regs = c.regs := rfl
@[simp] theorem Chip.modSync_cfg (c : Chip) (k : Nat) (f : Sync → Sync) : (c.modSync k f).cfg = c.cfg := rfl
@[simp] theorem Chip.modSync_lan (c : Chip) (k : Nat) (f : Sync → Sync) : (c.modSync k f).lan = c.lan := rfl
@[simp] theorem Chip.modSync_log (c : Chip) (k : Nat) (f : Sync → Sync) : (c.modSync k f).log = c.log := rfl
@[simp] theorem Chip.modSync_tick (c : Chip) (k : Nat) (f : Sync → Sync) : (c.modSync k f).tick = c.tick := rfl
@[simp] theorem Chip.modSync_xpt (c : Chip) (k : Nat) (f : Sync → Sync) : (c.modSync k f).xpt = c.xpt := rfl
@[simp] theorem Chip.modSync_arb (c : Chip) (k : Nat) (f : Sync → Sync) : (c.modSync k f).arb = c.arb := rfl
@[simp] theorem Chip.modSync_cmp (c : Chip) (k : Nat) (f : Sync → Sync) : (c.modSync k f).cmp = c.cmp := rfl
@[simp] theorem Chip.modSync_boot (c : Chip) (k : Nat) (f : Sync → Sync) : (c.modSync k f).boot = c.boot := rfl
@[simp] theorem Chip.modSync_spl (c : Chip) (k : Nat) (f : Sync → Sync) : (c.modSync k f).spl = c.spl := rfl
@[simp] theorem Chip.modSync_upd (c : Chip) (k : Nat) (f : Sync → Sync) : (c.modSync k f).upd = c.upd := rfl
@[simp] theorem Chip.modSync_aud (c : Chip) (k : Nat) (f : Sync → Sync) : (c.modSync k f).aud = c.aud := rfl
@[simp] theorem Chip.modSync_net (c : Chip) (k : Nat) (f : Sync → Sync) : (c.modSync k f).net = c.net := rfl
@[simp] theorem Chip.modSync_fwa (c : Chip) (k : Nat) (f : Sync → Sync) : (c.modSync k f).fwa = c.fwa := rfl
@[simp] theorem Chip.modSync_cap (c : Chip) (k : Nat) (f : Sync → Sync) : (c.modSync k f).cap = c.cap := rfl
@[simp] theorem Chip.modSync_lne (c : Chip) (k : Nat) (f : Sync → Sync) : (c.modSync k f).lne = c.lne := rfl
@[simp] theorem Chip.modSync_ref (c : Chip) (k : Nat) (f : Sync → Sync) : (c.modSync k f).ref = c.ref := rfl
@[simp] theorem Chip.modSync_ptp (c : Chip) (k : Nat) (f : Sync → Sync) : (c.modSync k f).ptp = c.ptp := rfl
@[simp] theorem Chip.modSync_flt (c : Chip) (k : Nat) (f : Sync → Sync) : (c.modSync k f).flt = c.flt := rfl
@[simp] theorem Chip.modSync_fab (c : Chip) (k : Nat) (f : Sync → Sync) : (c.modSync k f).fab = c.fab := rfl
@[simp] theorem Chip.modSync_pwr (c : Chip) (k : Nat) (f : Sync → Sync) : (c.modSync k f).pwr = c.pwr := rfl
@[simp] theorem Chip.modSync_pin (c : Chip) (k : Nat) (f : Sync → Sync) : (c.modSync k f).pin = c.pin := rfl
@[simp] theorem Chip.modSync_noSel (c : Chip) (k : Nat) (f : Sync → Sync) : (c.modSync k f).noSel = c.noSel := rfl
@[simp] theorem Chip.modSync_fld (c : Chip) (k : Nat) (f : Sync → Sync) (g : Fld) (d : Nat) : (c.modSync k f).fld g d = c.fld g d := rfl

@[simp] theorem Chip.modGen_now (c : Chip) (k : Nat) (f : Gen → Gen) : (c.modGen k f).now = c.now := rfl
@[simp] theorem Chip.modGen_released (c : Chip) (k : Nat) (f : Gen → Gen) : (c.modGen k f).released = c.released := rfl
@[simp] theorem Chip.modGen_run (c : Chip) (k : Nat) (f : Gen → Gen) : (c.modGen k f).run = c.run := rfl
@[simp] theorem Chip.modGen_clock (c : Chip) (k : Nat) (f : Gen → Gen) : (c.modGen k f).clock = c.clock := rfl
@[simp] theorem Chip.modGen_latch (c : Chip) (k : Nat) (f : Gen → Gen) : (c.modGen k f).latch = c.latch := rfl
@[simp] theorem Chip.modGen_free (c : Chip) (k : Nat) (f : Gen → Gen) : (c.modGen k f).free = c.free := rfl
@[simp] theorem Chip.modGen_sent (c : Chip) (k : Nat) (f : Gen → Gen) : (c.modGen k f).sent = c.sent := rfl
@[simp] theorem Chip.modGen_regs (c : Chip) (k : Nat) (f : Gen → Gen) : (c.modGen k f).regs = c.regs := rfl
@[simp] theorem Chip.modGen_cfg (c : Chip) (k : Nat) (f : Gen → Gen) : (c.modGen k f).cfg = c.cfg := rfl
@[simp] theorem Chip.modGen_lan (c : Chip) (k : Nat) (f : Gen → Gen) : (c.modGen k f).lan = c.lan := rfl
@[simp] theorem Chip.modGen_log (c : Chip) (k : Nat) (f : Gen → Gen) : (c.modGen k f).log = c.log := rfl
@[simp] theorem Chip.modGen_tick (c : Chip) (k : Nat) (f : Gen → Gen) : (c.modGen k f).tick = c.tick := rfl
@[simp] theorem Chip.modGen_xpt (c : Chip) (k : Nat) (f : Gen → Gen) : (c.modGen k f).xpt = c.xpt := rfl
@[simp] theorem Chip.modGen_fst (c : Chip) (k : Nat) (f : Gen → Gen) : (c.modGen k f).fst = c.fst := rfl
@[simp] theorem Chip.modGen_arb (c : Chip) (k : Nat) (f : Gen → Gen) : (c.modGen k f).arb = c.arb := rfl
@[simp] theorem Chip.modGen_cmp (c : Chip) (k : Nat) (f : Gen → Gen) : (c.modGen k f).cmp = c.cmp := rfl
@[simp] theorem Chip.modGen_boot (c : Chip) (k : Nat) (f : Gen → Gen) : (c.modGen k f).boot = c.boot := rfl
@[simp] theorem Chip.modGen_spl (c : Chip) (k : Nat) (f : Gen → Gen) : (c.modGen k f).spl = c.spl := rfl
@[simp] theorem Chip.modGen_upd (c : Chip) (k : Nat) (f : Gen → Gen) : (c.modGen k f).upd = c.upd := rfl
@[simp] theorem Chip.modGen_aud (c : Chip) (k : Nat) (f : Gen → Gen) : (c.modGen k f).aud = c.aud := rfl
@[simp] theorem Chip.modGen_net (c : Chip) (k : Nat) (f : Gen → Gen) : (c.modGen k f).net = c.net := rfl
@[simp] theorem Chip.modGen_cap (c : Chip) (k : Nat) (f : Gen → Gen) : (c.modGen k f).cap = c.cap := rfl
@[simp] theorem Chip.modGen_lne (c : Chip) (k : Nat) (f : Gen → Gen) : (c.modGen k f).lne = c.lne := rfl
@[simp] theorem Chip.modGen_ref (c : Chip) (k : Nat) (f : Gen → Gen) : (c.modGen k f).ref = c.ref := rfl
@[simp] theorem Chip.modGen_ptp (c : Chip) (k : Nat) (f : Gen → Gen) : (c.modGen k f).ptp = c.ptp := rfl
@[simp] theorem Chip.modGen_flt (c : Chip) (k : Nat) (f : Gen → Gen) : (c.modGen k f).flt = c.flt := rfl
@[simp] theorem Chip.modGen_fab (c : Chip) (k : Nat) (f : Gen → Gen) : (c.modGen k f).fab = c.fab := rfl
@[simp] theorem Chip.modGen_pwr (c : Chip) (k : Nat) (f : Gen → Gen) : (c.modGen k f).pwr = c.pwr := rfl
@[simp] theorem Chip.modGen_pin (c : Chip) (k : Nat) (f : Gen → Gen) : (c.modGen k f).pin = c.pin := rfl
@[simp] theorem Chip.modGen_noSel (c : Chip) (k : Nat) (f : Gen → Gen) : (c.modGen k f).noSel = c.noSel := rfl
@[simp] theorem Chip.modGen_fld (c : Chip) (k : Nat) (f : Gen → Gen) (g : Fld) (d : Nat) : (c.modGen k f).fld g d = c.fld g d := rfl

@[simp] theorem Chip.modWatch_now (c : Chip) (k : Nat) (f : Watch → Watch) : (c.modWatch k f).now = c.now := rfl
@[simp] theorem Chip.modWatch_released (c : Chip) (k : Nat) (f : Watch → Watch) : (c.modWatch k f).released = c.released := rfl
@[simp] theorem Chip.modWatch_run (c : Chip) (k : Nat) (f : Watch → Watch) : (c.modWatch k f).run = c.run := rfl
@[simp] theorem Chip.modWatch_clock (c : Chip) (k : Nat) (f : Watch → Watch) : (c.modWatch k f).clock = c.clock := rfl
@[simp] theorem Chip.modWatch_latch (c : Chip) (k : Nat) (f : Watch → Watch) : (c.modWatch k f).latch = c.latch := rfl
@[simp] theorem Chip.modWatch_free (c : Chip) (k : Nat) (f : Watch → Watch) : (c.modWatch k f).free = c.free := rfl
@[simp] theorem Chip.modWatch_sent (c : Chip) (k : Nat) (f : Watch → Watch) : (c.modWatch k f).sent = c.sent := rfl
@[simp] theorem Chip.modWatch_regs (c : Chip) (k : Nat) (f : Watch → Watch) : (c.modWatch k f).regs = c.regs := rfl
@[simp] theorem Chip.modWatch_cfg (c : Chip) (k : Nat) (f : Watch → Watch) : (c.modWatch k f).cfg = c.cfg := rfl
@[simp] theorem Chip.modWatch_lan (c : Chip) (k : Nat) (f : Watch → Watch) : (c.modWatch k f).lan = c.lan := rfl
@[simp] theorem Chip.modWatch_log (c : Chip) (k : Nat) (f : Watch → Watch) : (c.modWatch k f).log = c.log := rfl
@[simp] theorem Chip.modWatch_tick (c : Chip) (k : Nat) (f : Watch → Watch) : (c.modWatch k f).tick = c.tick := rfl
@[simp] theorem Chip.modWatch_xpt (c : Chip) (k : Nat) (f : Watch → Watch) : (c.modWatch k f).xpt = c.xpt := rfl
@[simp] theorem Chip.modWatch_fst (c : Chip) (k : Nat) (f : Watch → Watch) : (c.modWatch k f).fst = c.fst := rfl
@[simp] theorem Chip.modWatch_arb (c : Chip) (k : Nat) (f : Watch → Watch) : (c.modWatch k f).arb = c.arb := rfl
@[simp] theorem Chip.modWatch_cmp (c : Chip) (k : Nat) (f : Watch → Watch) : (c.modWatch k f).cmp = c.cmp := rfl
@[simp] theorem Chip.modWatch_boot (c : Chip) (k : Nat) (f : Watch → Watch) : (c.modWatch k f).boot = c.boot := rfl
@[simp] theorem Chip.modWatch_spl (c : Chip) (k : Nat) (f : Watch → Watch) : (c.modWatch k f).spl = c.spl := rfl
@[simp] theorem Chip.modWatch_upd (c : Chip) (k : Nat) (f : Watch → Watch) : (c.modWatch k f).upd = c.upd := rfl
@[simp] theorem Chip.modWatch_aud (c : Chip) (k : Nat) (f : Watch → Watch) : (c.modWatch k f).aud = c.aud := rfl
@[simp] theorem Chip.modWatch_net (c : Chip) (k : Nat) (f : Watch → Watch) : (c.modWatch k f).net = c.net := rfl
@[simp] theorem Chip.modWatch_cap (c : Chip) (k : Nat) (f : Watch → Watch) : (c.modWatch k f).cap = c.cap := rfl
@[simp] theorem Chip.modWatch_lne (c : Chip) (k : Nat) (f : Watch → Watch) : (c.modWatch k f).lne = c.lne := rfl
@[simp] theorem Chip.modWatch_ref (c : Chip) (k : Nat) (f : Watch → Watch) : (c.modWatch k f).ref = c.ref := rfl
@[simp] theorem Chip.modWatch_ptp (c : Chip) (k : Nat) (f : Watch → Watch) : (c.modWatch k f).ptp = c.ptp := rfl
@[simp] theorem Chip.modWatch_flt (c : Chip) (k : Nat) (f : Watch → Watch) : (c.modWatch k f).flt = c.flt := rfl
@[simp] theorem Chip.modWatch_fab (c : Chip) (k : Nat) (f : Watch → Watch) : (c.modWatch k f).fab = c.fab := rfl
@[simp] theorem Chip.modWatch_pwr (c : Chip) (k : Nat) (f : Watch → Watch) : (c.modWatch k f).pwr = c.pwr := rfl
@[simp] theorem Chip.modWatch_pin (c : Chip) (k : Nat) (f : Watch → Watch) : (c.modWatch k f).pin = c.pin := rfl
@[simp] theorem Chip.modWatch_noSel (c : Chip) (k : Nat) (f : Watch → Watch) : (c.modWatch k f).noSel = c.noSel := rfl
@[simp] theorem Chip.modWatch_fld (c : Chip) (k : Nat) (f : Watch → Watch) (g : Fld) (d : Nat) : (c.modWatch k f).fld g d = c.fld g d := rfl

@[simp] theorem Chip.modLane_now (c : Chip) (k : Nat) (f : LaneSt → LaneSt) : (c.modLane k f).now = c.now := rfl
@[simp] theorem Chip.modLane_released (c : Chip) (k : Nat) (f : LaneSt → LaneSt) : (c.modLane k f).released = c.released := rfl
@[simp] theorem Chip.modLane_run (c : Chip) (k : Nat) (f : LaneSt → LaneSt) : (c.modLane k f).run = c.run := rfl
@[simp] theorem Chip.modLane_clock (c : Chip) (k : Nat) (f : LaneSt → LaneSt) : (c.modLane k f).clock = c.clock := rfl
@[simp] theorem Chip.modLane_latch (c : Chip) (k : Nat) (f : LaneSt → LaneSt) : (c.modLane k f).latch = c.latch := rfl
@[simp] theorem Chip.modLane_free (c : Chip) (k : Nat) (f : LaneSt → LaneSt) : (c.modLane k f).free = c.free := rfl
@[simp] theorem Chip.modLane_sent (c : Chip) (k : Nat) (f : LaneSt → LaneSt) : (c.modLane k f).sent = c.sent := rfl
@[simp] theorem Chip.modLane_regs (c : Chip) (k : Nat) (f : LaneSt → LaneSt) : (c.modLane k f).regs = c.regs := rfl
@[simp] theorem Chip.modLane_cfg (c : Chip) (k : Nat) (f : LaneSt → LaneSt) : (c.modLane k f).cfg = c.cfg := rfl
@[simp] theorem Chip.modLane_lan (c : Chip) (k : Nat) (f : LaneSt → LaneSt) : (c.modLane k f).lan = c.lan := rfl
@[simp] theorem Chip.modLane_log (c : Chip) (k : Nat) (f : LaneSt → LaneSt) : (c.modLane k f).log = c.log := rfl
@[simp] theorem Chip.modLane_tick (c : Chip) (k : Nat) (f : LaneSt → LaneSt) : (c.modLane k f).tick = c.tick := rfl
@[simp] theorem Chip.modLane_xpt (c : Chip) (k : Nat) (f : LaneSt → LaneSt) : (c.modLane k f).xpt = c.xpt := rfl
@[simp] theorem Chip.modLane_fst (c : Chip) (k : Nat) (f : LaneSt → LaneSt) : (c.modLane k f).fst = c.fst := rfl
@[simp] theorem Chip.modLane_arb (c : Chip) (k : Nat) (f : LaneSt → LaneSt) : (c.modLane k f).arb = c.arb := rfl
@[simp] theorem Chip.modLane_cmp (c : Chip) (k : Nat) (f : LaneSt → LaneSt) : (c.modLane k f).cmp = c.cmp := rfl
@[simp] theorem Chip.modLane_boot (c : Chip) (k : Nat) (f : LaneSt → LaneSt) : (c.modLane k f).boot = c.boot := rfl
@[simp] theorem Chip.modLane_spl (c : Chip) (k : Nat) (f : LaneSt → LaneSt) : (c.modLane k f).spl = c.spl := rfl
@[simp] theorem Chip.modLane_upd (c : Chip) (k : Nat) (f : LaneSt → LaneSt) : (c.modLane k f).upd = c.upd := rfl
@[simp] theorem Chip.modLane_aud (c : Chip) (k : Nat) (f : LaneSt → LaneSt) : (c.modLane k f).aud = c.aud := rfl
@[simp] theorem Chip.modLane_net (c : Chip) (k : Nat) (f : LaneSt → LaneSt) : (c.modLane k f).net = c.net := rfl
@[simp] theorem Chip.modLane_fwa (c : Chip) (k : Nat) (f : LaneSt → LaneSt) : (c.modLane k f).fwa = c.fwa := rfl
@[simp] theorem Chip.modLane_cap (c : Chip) (k : Nat) (f : LaneSt → LaneSt) : (c.modLane k f).cap = c.cap := rfl
@[simp] theorem Chip.modLane_ref (c : Chip) (k : Nat) (f : LaneSt → LaneSt) : (c.modLane k f).ref = c.ref := rfl
@[simp] theorem Chip.modLane_ptp (c : Chip) (k : Nat) (f : LaneSt → LaneSt) : (c.modLane k f).ptp = c.ptp := rfl
@[simp] theorem Chip.modLane_flt (c : Chip) (k : Nat) (f : LaneSt → LaneSt) : (c.modLane k f).flt = c.flt := rfl
@[simp] theorem Chip.modLane_fab (c : Chip) (k : Nat) (f : LaneSt → LaneSt) : (c.modLane k f).fab = c.fab := rfl
@[simp] theorem Chip.modLane_pwr (c : Chip) (k : Nat) (f : LaneSt → LaneSt) : (c.modLane k f).pwr = c.pwr := rfl
@[simp] theorem Chip.modLane_pin (c : Chip) (k : Nat) (f : LaneSt → LaneSt) : (c.modLane k f).pin = c.pin := rfl
@[simp] theorem Chip.modLane_noSel (c : Chip) (k : Nat) (f : LaneSt → LaneSt) : (c.modLane k f).noSel = c.noSel := rfl
@[simp] theorem Chip.modLane_fld (c : Chip) (k : Nat) (f : LaneSt → LaneSt) (g : Fld) (d : Nat) : (c.modLane k f).fld g d = c.fld g d := rfl

@[simp] theorem Chip.modStep_now (c : Chip) (k : Nat) (f : StepSt → StepSt) : (c.modStep k f).now = c.now := rfl
@[simp] theorem Chip.modStep_released (c : Chip) (k : Nat) (f : StepSt → StepSt) : (c.modStep k f).released = c.released := rfl
@[simp] theorem Chip.modStep_run (c : Chip) (k : Nat) (f : StepSt → StepSt) : (c.modStep k f).run = c.run := rfl
@[simp] theorem Chip.modStep_clock (c : Chip) (k : Nat) (f : StepSt → StepSt) : (c.modStep k f).clock = c.clock := rfl
@[simp] theorem Chip.modStep_latch (c : Chip) (k : Nat) (f : StepSt → StepSt) : (c.modStep k f).latch = c.latch := rfl
@[simp] theorem Chip.modStep_free (c : Chip) (k : Nat) (f : StepSt → StepSt) : (c.modStep k f).free = c.free := rfl
@[simp] theorem Chip.modStep_sent (c : Chip) (k : Nat) (f : StepSt → StepSt) : (c.modStep k f).sent = c.sent := rfl
@[simp] theorem Chip.modStep_regs (c : Chip) (k : Nat) (f : StepSt → StepSt) : (c.modStep k f).regs = c.regs := rfl
@[simp] theorem Chip.modStep_cfg (c : Chip) (k : Nat) (f : StepSt → StepSt) : (c.modStep k f).cfg = c.cfg := rfl
@[simp] theorem Chip.modStep_lan (c : Chip) (k : Nat) (f : StepSt → StepSt) : (c.modStep k f).lan = c.lan := rfl
@[simp] theorem Chip.modStep_log (c : Chip) (k : Nat) (f : StepSt → StepSt) : (c.modStep k f).log = c.log := rfl
@[simp] theorem Chip.modStep_tick (c : Chip) (k : Nat) (f : StepSt → StepSt) : (c.modStep k f).tick = c.tick := rfl
@[simp] theorem Chip.modStep_xpt (c : Chip) (k : Nat) (f : StepSt → StepSt) : (c.modStep k f).xpt = c.xpt := rfl
@[simp] theorem Chip.modStep_fst (c : Chip) (k : Nat) (f : StepSt → StepSt) : (c.modStep k f).fst = c.fst := rfl
@[simp] theorem Chip.modStep_arb (c : Chip) (k : Nat) (f : StepSt → StepSt) : (c.modStep k f).arb = c.arb := rfl
@[simp] theorem Chip.modStep_cmp (c : Chip) (k : Nat) (f : StepSt → StepSt) : (c.modStep k f).cmp = c.cmp := rfl
@[simp] theorem Chip.modStep_boot (c : Chip) (k : Nat) (f : StepSt → StepSt) : (c.modStep k f).boot = c.boot := rfl
@[simp] theorem Chip.modStep_spl (c : Chip) (k : Nat) (f : StepSt → StepSt) : (c.modStep k f).spl = c.spl := rfl
@[simp] theorem Chip.modStep_upd (c : Chip) (k : Nat) (f : StepSt → StepSt) : (c.modStep k f).upd = c.upd := rfl
@[simp] theorem Chip.modStep_aud (c : Chip) (k : Nat) (f : StepSt → StepSt) : (c.modStep k f).aud = c.aud := rfl
@[simp] theorem Chip.modStep_net (c : Chip) (k : Nat) (f : StepSt → StepSt) : (c.modStep k f).net = c.net := rfl
@[simp] theorem Chip.modStep_fwa (c : Chip) (k : Nat) (f : StepSt → StepSt) : (c.modStep k f).fwa = c.fwa := rfl
@[simp] theorem Chip.modStep_cap (c : Chip) (k : Nat) (f : StepSt → StepSt) : (c.modStep k f).cap = c.cap := rfl
@[simp] theorem Chip.modStep_ref (c : Chip) (k : Nat) (f : StepSt → StepSt) : (c.modStep k f).ref = c.ref := rfl
@[simp] theorem Chip.modStep_ptp (c : Chip) (k : Nat) (f : StepSt → StepSt) : (c.modStep k f).ptp = c.ptp := rfl
@[simp] theorem Chip.modStep_flt (c : Chip) (k : Nat) (f : StepSt → StepSt) : (c.modStep k f).flt = c.flt := rfl
@[simp] theorem Chip.modStep_fab (c : Chip) (k : Nat) (f : StepSt → StepSt) : (c.modStep k f).fab = c.fab := rfl
@[simp] theorem Chip.modStep_pwr (c : Chip) (k : Nat) (f : StepSt → StepSt) : (c.modStep k f).pwr = c.pwr := rfl
@[simp] theorem Chip.modStep_pin (c : Chip) (k : Nat) (f : StepSt → StepSt) : (c.modStep k f).pin = c.pin := rfl
@[simp] theorem Chip.modStep_noSel (c : Chip) (k : Nat) (f : StepSt → StepSt) : (c.modStep k f).noSel = c.noSel := rfl
@[simp] theorem Chip.modStep_fld (c : Chip) (k : Nat) (f : StepSt → StepSt) (g : Fld) (d : Nat) : (c.modStep k f).fld g d = c.fld g d := rfl

@[simp] theorem Chip.modMac_now (c : Chip) (k : Nat) (f : Mac → Mac) : (c.modMac k f).now = c.now := rfl
@[simp] theorem Chip.modMac_released (c : Chip) (k : Nat) (f : Mac → Mac) : (c.modMac k f).released = c.released := rfl
@[simp] theorem Chip.modMac_run (c : Chip) (k : Nat) (f : Mac → Mac) : (c.modMac k f).run = c.run := rfl
@[simp] theorem Chip.modMac_clock (c : Chip) (k : Nat) (f : Mac → Mac) : (c.modMac k f).clock = c.clock := rfl
@[simp] theorem Chip.modMac_latch (c : Chip) (k : Nat) (f : Mac → Mac) : (c.modMac k f).latch = c.latch := rfl
@[simp] theorem Chip.modMac_free (c : Chip) (k : Nat) (f : Mac → Mac) : (c.modMac k f).free = c.free := rfl
@[simp] theorem Chip.modMac_sent (c : Chip) (k : Nat) (f : Mac → Mac) : (c.modMac k f).sent = c.sent := rfl
@[simp] theorem Chip.modMac_regs (c : Chip) (k : Nat) (f : Mac → Mac) : (c.modMac k f).regs = c.regs := rfl
@[simp] theorem Chip.modMac_cfg (c : Chip) (k : Nat) (f : Mac → Mac) : (c.modMac k f).cfg = c.cfg := rfl
@[simp] theorem Chip.modMac_lan (c : Chip) (k : Nat) (f : Mac → Mac) : (c.modMac k f).lan = c.lan := rfl
@[simp] theorem Chip.modMac_log (c : Chip) (k : Nat) (f : Mac → Mac) : (c.modMac k f).log = c.log := rfl
@[simp] theorem Chip.modMac_tick (c : Chip) (k : Nat) (f : Mac → Mac) : (c.modMac k f).tick = c.tick := rfl
@[simp] theorem Chip.modMac_xpt (c : Chip) (k : Nat) (f : Mac → Mac) : (c.modMac k f).xpt = c.xpt := rfl
@[simp] theorem Chip.modMac_fst (c : Chip) (k : Nat) (f : Mac → Mac) : (c.modMac k f).fst = c.fst := rfl
@[simp] theorem Chip.modMac_arb (c : Chip) (k : Nat) (f : Mac → Mac) : (c.modMac k f).arb = c.arb := rfl
@[simp] theorem Chip.modMac_cmp (c : Chip) (k : Nat) (f : Mac → Mac) : (c.modMac k f).cmp = c.cmp := rfl
@[simp] theorem Chip.modMac_boot (c : Chip) (k : Nat) (f : Mac → Mac) : (c.modMac k f).boot = c.boot := rfl
@[simp] theorem Chip.modMac_spl (c : Chip) (k : Nat) (f : Mac → Mac) : (c.modMac k f).spl = c.spl := rfl
@[simp] theorem Chip.modMac_upd (c : Chip) (k : Nat) (f : Mac → Mac) : (c.modMac k f).upd = c.upd := rfl
@[simp] theorem Chip.modMac_aud (c : Chip) (k : Nat) (f : Mac → Mac) : (c.modMac k f).aud = c.aud := rfl
@[simp] theorem Chip.modMac_fwa (c : Chip) (k : Nat) (f : Mac → Mac) : (c.modMac k f).fwa = c.fwa := rfl
@[simp] theorem Chip.modMac_cap (c : Chip) (k : Nat) (f : Mac → Mac) : (c.modMac k f).cap = c.cap := rfl
@[simp] theorem Chip.modMac_lne (c : Chip) (k : Nat) (f : Mac → Mac) : (c.modMac k f).lne = c.lne := rfl
@[simp] theorem Chip.modMac_ref (c : Chip) (k : Nat) (f : Mac → Mac) : (c.modMac k f).ref = c.ref := rfl
@[simp] theorem Chip.modMac_ptp (c : Chip) (k : Nat) (f : Mac → Mac) : (c.modMac k f).ptp = c.ptp := rfl
@[simp] theorem Chip.modMac_flt (c : Chip) (k : Nat) (f : Mac → Mac) : (c.modMac k f).flt = c.flt := rfl
@[simp] theorem Chip.modMac_fab (c : Chip) (k : Nat) (f : Mac → Mac) : (c.modMac k f).fab = c.fab := rfl
@[simp] theorem Chip.modMac_pwr (c : Chip) (k : Nat) (f : Mac → Mac) : (c.modMac k f).pwr = c.pwr := rfl
@[simp] theorem Chip.modMac_pin (c : Chip) (k : Nat) (f : Mac → Mac) : (c.modMac k f).pin = c.pin := rfl
@[simp] theorem Chip.modMac_noSel (c : Chip) (k : Nat) (f : Mac → Mac) : (c.modMac k f).noSel = c.noSel := rfl
@[simp] theorem Chip.modMac_fld (c : Chip) (k : Nat) (f : Mac → Mac) (g : Fld) (d : Nat) : (c.modMac k f).fld g d = c.fld g d := rfl

@[simp] theorem Chip.modRx_now (c : Chip) (k : Nat) (f : RxFlow → RxFlow) : (c.modRx k f).now = c.now := rfl
@[simp] theorem Chip.modRx_released (c : Chip) (k : Nat) (f : RxFlow → RxFlow) : (c.modRx k f).released = c.released := rfl
@[simp] theorem Chip.modRx_run (c : Chip) (k : Nat) (f : RxFlow → RxFlow) : (c.modRx k f).run = c.run := rfl
@[simp] theorem Chip.modRx_clock (c : Chip) (k : Nat) (f : RxFlow → RxFlow) : (c.modRx k f).clock = c.clock := rfl
@[simp] theorem Chip.modRx_latch (c : Chip) (k : Nat) (f : RxFlow → RxFlow) : (c.modRx k f).latch = c.latch := rfl
@[simp] theorem Chip.modRx_free (c : Chip) (k : Nat) (f : RxFlow → RxFlow) : (c.modRx k f).free = c.free := rfl
@[simp] theorem Chip.modRx_sent (c : Chip) (k : Nat) (f : RxFlow → RxFlow) : (c.modRx k f).sent = c.sent := rfl
@[simp] theorem Chip.modRx_regs (c : Chip) (k : Nat) (f : RxFlow → RxFlow) : (c.modRx k f).regs = c.regs := rfl
@[simp] theorem Chip.modRx_cfg (c : Chip) (k : Nat) (f : RxFlow → RxFlow) : (c.modRx k f).cfg = c.cfg := rfl
@[simp] theorem Chip.modRx_lan (c : Chip) (k : Nat) (f : RxFlow → RxFlow) : (c.modRx k f).lan = c.lan := rfl
@[simp] theorem Chip.modRx_log (c : Chip) (k : Nat) (f : RxFlow → RxFlow) : (c.modRx k f).log = c.log := rfl
@[simp] theorem Chip.modRx_tick (c : Chip) (k : Nat) (f : RxFlow → RxFlow) : (c.modRx k f).tick = c.tick := rfl
@[simp] theorem Chip.modRx_xpt (c : Chip) (k : Nat) (f : RxFlow → RxFlow) : (c.modRx k f).xpt = c.xpt := rfl
@[simp] theorem Chip.modRx_fst (c : Chip) (k : Nat) (f : RxFlow → RxFlow) : (c.modRx k f).fst = c.fst := rfl
@[simp] theorem Chip.modRx_arb (c : Chip) (k : Nat) (f : RxFlow → RxFlow) : (c.modRx k f).arb = c.arb := rfl
@[simp] theorem Chip.modRx_cmp (c : Chip) (k : Nat) (f : RxFlow → RxFlow) : (c.modRx k f).cmp = c.cmp := rfl
@[simp] theorem Chip.modRx_boot (c : Chip) (k : Nat) (f : RxFlow → RxFlow) : (c.modRx k f).boot = c.boot := rfl
@[simp] theorem Chip.modRx_spl (c : Chip) (k : Nat) (f : RxFlow → RxFlow) : (c.modRx k f).spl = c.spl := rfl
@[simp] theorem Chip.modRx_upd (c : Chip) (k : Nat) (f : RxFlow → RxFlow) : (c.modRx k f).upd = c.upd := rfl
@[simp] theorem Chip.modRx_aud (c : Chip) (k : Nat) (f : RxFlow → RxFlow) : (c.modRx k f).aud = c.aud := rfl
@[simp] theorem Chip.modRx_fwa (c : Chip) (k : Nat) (f : RxFlow → RxFlow) : (c.modRx k f).fwa = c.fwa := rfl
@[simp] theorem Chip.modRx_cap (c : Chip) (k : Nat) (f : RxFlow → RxFlow) : (c.modRx k f).cap = c.cap := rfl
@[simp] theorem Chip.modRx_lne (c : Chip) (k : Nat) (f : RxFlow → RxFlow) : (c.modRx k f).lne = c.lne := rfl
@[simp] theorem Chip.modRx_ref (c : Chip) (k : Nat) (f : RxFlow → RxFlow) : (c.modRx k f).ref = c.ref := rfl
@[simp] theorem Chip.modRx_ptp (c : Chip) (k : Nat) (f : RxFlow → RxFlow) : (c.modRx k f).ptp = c.ptp := rfl
@[simp] theorem Chip.modRx_flt (c : Chip) (k : Nat) (f : RxFlow → RxFlow) : (c.modRx k f).flt = c.flt := rfl
@[simp] theorem Chip.modRx_fab (c : Chip) (k : Nat) (f : RxFlow → RxFlow) : (c.modRx k f).fab = c.fab := rfl
@[simp] theorem Chip.modRx_pwr (c : Chip) (k : Nat) (f : RxFlow → RxFlow) : (c.modRx k f).pwr = c.pwr := rfl
@[simp] theorem Chip.modRx_pin (c : Chip) (k : Nat) (f : RxFlow → RxFlow) : (c.modRx k f).pin = c.pin := rfl
@[simp] theorem Chip.modRx_noSel (c : Chip) (k : Nat) (f : RxFlow → RxFlow) : (c.modRx k f).noSel = c.noSel := rfl
@[simp] theorem Chip.modRx_fld (c : Chip) (k : Nat) (f : RxFlow → RxFlow) (g : Fld) (d : Nat) : (c.modRx k f).fld g d = c.fld g d := rfl

@[simp] theorem Chip.modTx_now (c : Chip) (k : Nat) (f : TxFlow → TxFlow) : (c.modTx k f).now = c.now := rfl
@[simp] theorem Chip.modTx_released (c : Chip) (k : Nat) (f : TxFlow → TxFlow) : (c.modTx k f).released = c.released := rfl
@[simp] theorem Chip.modTx_run (c : Chip) (k : Nat) (f : TxFlow → TxFlow) : (c.modTx k f).run = c.run := rfl
@[simp] theorem Chip.modTx_clock (c : Chip) (k : Nat) (f : TxFlow → TxFlow) : (c.modTx k f).clock = c.clock := rfl
@[simp] theorem Chip.modTx_latch (c : Chip) (k : Nat) (f : TxFlow → TxFlow) : (c.modTx k f).latch = c.latch := rfl
@[simp] theorem Chip.modTx_free (c : Chip) (k : Nat) (f : TxFlow → TxFlow) : (c.modTx k f).free = c.free := rfl
@[simp] theorem Chip.modTx_sent (c : Chip) (k : Nat) (f : TxFlow → TxFlow) : (c.modTx k f).sent = c.sent := rfl
@[simp] theorem Chip.modTx_regs (c : Chip) (k : Nat) (f : TxFlow → TxFlow) : (c.modTx k f).regs = c.regs := rfl
@[simp] theorem Chip.modTx_cfg (c : Chip) (k : Nat) (f : TxFlow → TxFlow) : (c.modTx k f).cfg = c.cfg := rfl
@[simp] theorem Chip.modTx_lan (c : Chip) (k : Nat) (f : TxFlow → TxFlow) : (c.modTx k f).lan = c.lan := rfl
@[simp] theorem Chip.modTx_log (c : Chip) (k : Nat) (f : TxFlow → TxFlow) : (c.modTx k f).log = c.log := rfl
@[simp] theorem Chip.modTx_tick (c : Chip) (k : Nat) (f : TxFlow → TxFlow) : (c.modTx k f).tick = c.tick := rfl
@[simp] theorem Chip.modTx_xpt (c : Chip) (k : Nat) (f : TxFlow → TxFlow) : (c.modTx k f).xpt = c.xpt := rfl
@[simp] theorem Chip.modTx_fst (c : Chip) (k : Nat) (f : TxFlow → TxFlow) : (c.modTx k f).fst = c.fst := rfl
@[simp] theorem Chip.modTx_arb (c : Chip) (k : Nat) (f : TxFlow → TxFlow) : (c.modTx k f).arb = c.arb := rfl
@[simp] theorem Chip.modTx_cmp (c : Chip) (k : Nat) (f : TxFlow → TxFlow) : (c.modTx k f).cmp = c.cmp := rfl
@[simp] theorem Chip.modTx_boot (c : Chip) (k : Nat) (f : TxFlow → TxFlow) : (c.modTx k f).boot = c.boot := rfl
@[simp] theorem Chip.modTx_spl (c : Chip) (k : Nat) (f : TxFlow → TxFlow) : (c.modTx k f).spl = c.spl := rfl
@[simp] theorem Chip.modTx_upd (c : Chip) (k : Nat) (f : TxFlow → TxFlow) : (c.modTx k f).upd = c.upd := rfl
@[simp] theorem Chip.modTx_aud (c : Chip) (k : Nat) (f : TxFlow → TxFlow) : (c.modTx k f).aud = c.aud := rfl
@[simp] theorem Chip.modTx_fwa (c : Chip) (k : Nat) (f : TxFlow → TxFlow) : (c.modTx k f).fwa = c.fwa := rfl
@[simp] theorem Chip.modTx_cap (c : Chip) (k : Nat) (f : TxFlow → TxFlow) : (c.modTx k f).cap = c.cap := rfl
@[simp] theorem Chip.modTx_lne (c : Chip) (k : Nat) (f : TxFlow → TxFlow) : (c.modTx k f).lne = c.lne := rfl
@[simp] theorem Chip.modTx_ref (c : Chip) (k : Nat) (f : TxFlow → TxFlow) : (c.modTx k f).ref = c.ref := rfl
@[simp] theorem Chip.modTx_ptp (c : Chip) (k : Nat) (f : TxFlow → TxFlow) : (c.modTx k f).ptp = c.ptp := rfl
@[simp] theorem Chip.modTx_flt (c : Chip) (k : Nat) (f : TxFlow → TxFlow) : (c.modTx k f).flt = c.flt := rfl
@[simp] theorem Chip.modTx_fab (c : Chip) (k : Nat) (f : TxFlow → TxFlow) : (c.modTx k f).fab = c.fab := rfl
@[simp] theorem Chip.modTx_pwr (c : Chip) (k : Nat) (f : TxFlow → TxFlow) : (c.modTx k f).pwr = c.pwr := rfl
@[simp] theorem Chip.modTx_pin (c : Chip) (k : Nat) (f : TxFlow → TxFlow) : (c.modTx k f).pin = c.pin := rfl
@[simp] theorem Chip.modTx_noSel (c : Chip) (k : Nat) (f : TxFlow → TxFlow) : (c.modTx k f).noSel = c.noSel := rfl
@[simp] theorem Chip.modTx_fld (c : Chip) (k : Nat) (f : TxFlow → TxFlow) (g : Fld) (d : Nat) : (c.modTx k f).fld g d = c.fld g d := rfl

@[simp] theorem Chip.modPtp_now (c : Chip) (f : PtpSt → PtpSt) : (c.modPtp f).now = c.now := rfl
@[simp] theorem Chip.modPtp_released (c : Chip) (f : PtpSt → PtpSt) : (c.modPtp f).released = c.released := rfl
@[simp] theorem Chip.modPtp_run (c : Chip) (f : PtpSt → PtpSt) : (c.modPtp f).run = c.run := rfl
@[simp] theorem Chip.modPtp_clock (c : Chip) (f : PtpSt → PtpSt) : (c.modPtp f).clock = c.clock := rfl
@[simp] theorem Chip.modPtp_latch (c : Chip) (f : PtpSt → PtpSt) : (c.modPtp f).latch = c.latch := rfl
@[simp] theorem Chip.modPtp_free (c : Chip) (f : PtpSt → PtpSt) : (c.modPtp f).free = c.free := rfl
@[simp] theorem Chip.modPtp_sent (c : Chip) (f : PtpSt → PtpSt) : (c.modPtp f).sent = c.sent := rfl
@[simp] theorem Chip.modPtp_regs (c : Chip) (f : PtpSt → PtpSt) : (c.modPtp f).regs = c.regs := rfl
@[simp] theorem Chip.modPtp_cfg (c : Chip) (f : PtpSt → PtpSt) : (c.modPtp f).cfg = c.cfg := rfl
@[simp] theorem Chip.modPtp_lan (c : Chip) (f : PtpSt → PtpSt) : (c.modPtp f).lan = c.lan := rfl
@[simp] theorem Chip.modPtp_log (c : Chip) (f : PtpSt → PtpSt) : (c.modPtp f).log = c.log := rfl
@[simp] theorem Chip.modPtp_tick (c : Chip) (f : PtpSt → PtpSt) : (c.modPtp f).tick = c.tick := rfl
@[simp] theorem Chip.modPtp_xpt (c : Chip) (f : PtpSt → PtpSt) : (c.modPtp f).xpt = c.xpt := rfl
@[simp] theorem Chip.modPtp_fst (c : Chip) (f : PtpSt → PtpSt) : (c.modPtp f).fst = c.fst := rfl
@[simp] theorem Chip.modPtp_arb (c : Chip) (f : PtpSt → PtpSt) : (c.modPtp f).arb = c.arb := rfl
@[simp] theorem Chip.modPtp_cmp (c : Chip) (f : PtpSt → PtpSt) : (c.modPtp f).cmp = c.cmp := rfl
@[simp] theorem Chip.modPtp_boot (c : Chip) (f : PtpSt → PtpSt) : (c.modPtp f).boot = c.boot := rfl
@[simp] theorem Chip.modPtp_spl (c : Chip) (f : PtpSt → PtpSt) : (c.modPtp f).spl = c.spl := rfl
@[simp] theorem Chip.modPtp_upd (c : Chip) (f : PtpSt → PtpSt) : (c.modPtp f).upd = c.upd := rfl
@[simp] theorem Chip.modPtp_aud (c : Chip) (f : PtpSt → PtpSt) : (c.modPtp f).aud = c.aud := rfl
@[simp] theorem Chip.modPtp_net (c : Chip) (f : PtpSt → PtpSt) : (c.modPtp f).net = c.net := rfl
@[simp] theorem Chip.modPtp_fwa (c : Chip) (f : PtpSt → PtpSt) : (c.modPtp f).fwa = c.fwa := rfl
@[simp] theorem Chip.modPtp_cap (c : Chip) (f : PtpSt → PtpSt) : (c.modPtp f).cap = c.cap := rfl
@[simp] theorem Chip.modPtp_lne (c : Chip) (f : PtpSt → PtpSt) : (c.modPtp f).lne = c.lne := rfl
@[simp] theorem Chip.modPtp_ref (c : Chip) (f : PtpSt → PtpSt) : (c.modPtp f).ref = c.ref := rfl
@[simp] theorem Chip.modPtp_flt (c : Chip) (f : PtpSt → PtpSt) : (c.modPtp f).flt = c.flt := rfl
@[simp] theorem Chip.modPtp_fab (c : Chip) (f : PtpSt → PtpSt) : (c.modPtp f).fab = c.fab := rfl
@[simp] theorem Chip.modPtp_pwr (c : Chip) (f : PtpSt → PtpSt) : (c.modPtp f).pwr = c.pwr := rfl
@[simp] theorem Chip.modPtp_pin (c : Chip) (f : PtpSt → PtpSt) : (c.modPtp f).pin = c.pin := rfl
@[simp] theorem Chip.modPtp_noSel (c : Chip) (f : PtpSt → PtpSt) : (c.modPtp f).noSel = c.noSel := rfl
@[simp] theorem Chip.modPtp_fld (c : Chip) (f : PtpSt → PtpSt) (g : Fld) (d : Nat) : (c.modPtp f).fld g d = c.fld g d := rfl

@[simp] theorem Chip.modRef_now (c : Chip) (k : Nat) (f : RefEntry → RefEntry) : (c.modRef k f).now = c.now := rfl
@[simp] theorem Chip.modRef_released (c : Chip) (k : Nat) (f : RefEntry → RefEntry) : (c.modRef k f).released = c.released := rfl
@[simp] theorem Chip.modRef_run (c : Chip) (k : Nat) (f : RefEntry → RefEntry) : (c.modRef k f).run = c.run := rfl
@[simp] theorem Chip.modRef_clock (c : Chip) (k : Nat) (f : RefEntry → RefEntry) : (c.modRef k f).clock = c.clock := rfl
@[simp] theorem Chip.modRef_latch (c : Chip) (k : Nat) (f : RefEntry → RefEntry) : (c.modRef k f).latch = c.latch := rfl
@[simp] theorem Chip.modRef_free (c : Chip) (k : Nat) (f : RefEntry → RefEntry) : (c.modRef k f).free = c.free := rfl
@[simp] theorem Chip.modRef_sent (c : Chip) (k : Nat) (f : RefEntry → RefEntry) : (c.modRef k f).sent = c.sent := rfl
@[simp] theorem Chip.modRef_regs (c : Chip) (k : Nat) (f : RefEntry → RefEntry) : (c.modRef k f).regs = c.regs := rfl
@[simp] theorem Chip.modRef_cfg (c : Chip) (k : Nat) (f : RefEntry → RefEntry) : (c.modRef k f).cfg = c.cfg := rfl
@[simp] theorem Chip.modRef_lan (c : Chip) (k : Nat) (f : RefEntry → RefEntry) : (c.modRef k f).lan = c.lan := rfl
@[simp] theorem Chip.modRef_log (c : Chip) (k : Nat) (f : RefEntry → RefEntry) : (c.modRef k f).log = c.log := rfl
@[simp] theorem Chip.modRef_tick (c : Chip) (k : Nat) (f : RefEntry → RefEntry) : (c.modRef k f).tick = c.tick := rfl
@[simp] theorem Chip.modRef_xpt (c : Chip) (k : Nat) (f : RefEntry → RefEntry) : (c.modRef k f).xpt = c.xpt := rfl
@[simp] theorem Chip.modRef_fst (c : Chip) (k : Nat) (f : RefEntry → RefEntry) : (c.modRef k f).fst = c.fst := rfl
@[simp] theorem Chip.modRef_arb (c : Chip) (k : Nat) (f : RefEntry → RefEntry) : (c.modRef k f).arb = c.arb := rfl
@[simp] theorem Chip.modRef_cmp (c : Chip) (k : Nat) (f : RefEntry → RefEntry) : (c.modRef k f).cmp = c.cmp := rfl
@[simp] theorem Chip.modRef_boot (c : Chip) (k : Nat) (f : RefEntry → RefEntry) : (c.modRef k f).boot = c.boot := rfl
@[simp] theorem Chip.modRef_spl (c : Chip) (k : Nat) (f : RefEntry → RefEntry) : (c.modRef k f).spl = c.spl := rfl
@[simp] theorem Chip.modRef_upd (c : Chip) (k : Nat) (f : RefEntry → RefEntry) : (c.modRef k f).upd = c.upd := rfl
@[simp] theorem Chip.modRef_aud (c : Chip) (k : Nat) (f : RefEntry → RefEntry) : (c.modRef k f).aud = c.aud := rfl
@[simp] theorem Chip.modRef_net (c : Chip) (k : Nat) (f : RefEntry → RefEntry) : (c.modRef k f).net = c.net := rfl
@[simp] theorem Chip.modRef_fwa (c : Chip) (k : Nat) (f : RefEntry → RefEntry) : (c.modRef k f).fwa = c.fwa := rfl
@[simp] theorem Chip.modRef_cap (c : Chip) (k : Nat) (f : RefEntry → RefEntry) : (c.modRef k f).cap = c.cap := rfl
@[simp] theorem Chip.modRef_lne (c : Chip) (k : Nat) (f : RefEntry → RefEntry) : (c.modRef k f).lne = c.lne := rfl
@[simp] theorem Chip.modRef_ptp (c : Chip) (k : Nat) (f : RefEntry → RefEntry) : (c.modRef k f).ptp = c.ptp := rfl
@[simp] theorem Chip.modRef_flt (c : Chip) (k : Nat) (f : RefEntry → RefEntry) : (c.modRef k f).flt = c.flt := rfl
@[simp] theorem Chip.modRef_fab (c : Chip) (k : Nat) (f : RefEntry → RefEntry) : (c.modRef k f).fab = c.fab := rfl
@[simp] theorem Chip.modRef_pwr (c : Chip) (k : Nat) (f : RefEntry → RefEntry) : (c.modRef k f).pwr = c.pwr := rfl
@[simp] theorem Chip.modRef_pin (c : Chip) (k : Nat) (f : RefEntry → RefEntry) : (c.modRef k f).pin = c.pin := rfl
@[simp] theorem Chip.modRef_noSel (c : Chip) (k : Nat) (f : RefEntry → RefEntry) : (c.modRef k f).noSel = c.noSel := rfl
@[simp] theorem Chip.modRef_fld (c : Chip) (k : Nat) (f : RefEntry → RefEntry) (g : Fld) (d : Nat) : (c.modRef k f).fld g d = c.fld g d := rfl

@[simp] theorem Chip.modDom_now (c : Chip) (k : Nat) (f : Domain → Domain) : (c.modDom k f).now = c.now := rfl
@[simp] theorem Chip.modDom_released (c : Chip) (k : Nat) (f : Domain → Domain) : (c.modDom k f).released = c.released := rfl
@[simp] theorem Chip.modDom_run (c : Chip) (k : Nat) (f : Domain → Domain) : (c.modDom k f).run = c.run := rfl
@[simp] theorem Chip.modDom_clock (c : Chip) (k : Nat) (f : Domain → Domain) : (c.modDom k f).clock = c.clock := rfl
@[simp] theorem Chip.modDom_latch (c : Chip) (k : Nat) (f : Domain → Domain) : (c.modDom k f).latch = c.latch := rfl
@[simp] theorem Chip.modDom_free (c : Chip) (k : Nat) (f : Domain → Domain) : (c.modDom k f).free = c.free := rfl
@[simp] theorem Chip.modDom_sent (c : Chip) (k : Nat) (f : Domain → Domain) : (c.modDom k f).sent = c.sent := rfl
@[simp] theorem Chip.modDom_regs (c : Chip) (k : Nat) (f : Domain → Domain) : (c.modDom k f).regs = c.regs := rfl
@[simp] theorem Chip.modDom_cfg (c : Chip) (k : Nat) (f : Domain → Domain) : (c.modDom k f).cfg = c.cfg := rfl
@[simp] theorem Chip.modDom_lan (c : Chip) (k : Nat) (f : Domain → Domain) : (c.modDom k f).lan = c.lan := rfl
@[simp] theorem Chip.modDom_log (c : Chip) (k : Nat) (f : Domain → Domain) : (c.modDom k f).log = c.log := rfl
@[simp] theorem Chip.modDom_xpt (c : Chip) (k : Nat) (f : Domain → Domain) : (c.modDom k f).xpt = c.xpt := rfl
@[simp] theorem Chip.modDom_fst (c : Chip) (k : Nat) (f : Domain → Domain) : (c.modDom k f).fst = c.fst := rfl
@[simp] theorem Chip.modDom_arb (c : Chip) (k : Nat) (f : Domain → Domain) : (c.modDom k f).arb = c.arb := rfl
@[simp] theorem Chip.modDom_cmp (c : Chip) (k : Nat) (f : Domain → Domain) : (c.modDom k f).cmp = c.cmp := rfl
@[simp] theorem Chip.modDom_boot (c : Chip) (k : Nat) (f : Domain → Domain) : (c.modDom k f).boot = c.boot := rfl
@[simp] theorem Chip.modDom_spl (c : Chip) (k : Nat) (f : Domain → Domain) : (c.modDom k f).spl = c.spl := rfl
@[simp] theorem Chip.modDom_upd (c : Chip) (k : Nat) (f : Domain → Domain) : (c.modDom k f).upd = c.upd := rfl
@[simp] theorem Chip.modDom_aud (c : Chip) (k : Nat) (f : Domain → Domain) : (c.modDom k f).aud = c.aud := rfl
@[simp] theorem Chip.modDom_net (c : Chip) (k : Nat) (f : Domain → Domain) : (c.modDom k f).net = c.net := rfl
@[simp] theorem Chip.modDom_fwa (c : Chip) (k : Nat) (f : Domain → Domain) : (c.modDom k f).fwa = c.fwa := rfl
@[simp] theorem Chip.modDom_cap (c : Chip) (k : Nat) (f : Domain → Domain) : (c.modDom k f).cap = c.cap := rfl
@[simp] theorem Chip.modDom_lne (c : Chip) (k : Nat) (f : Domain → Domain) : (c.modDom k f).lne = c.lne := rfl
@[simp] theorem Chip.modDom_ref (c : Chip) (k : Nat) (f : Domain → Domain) : (c.modDom k f).ref = c.ref := rfl
@[simp] theorem Chip.modDom_ptp (c : Chip) (k : Nat) (f : Domain → Domain) : (c.modDom k f).ptp = c.ptp := rfl
@[simp] theorem Chip.modDom_flt (c : Chip) (k : Nat) (f : Domain → Domain) : (c.modDom k f).flt = c.flt := rfl
@[simp] theorem Chip.modDom_fab (c : Chip) (k : Nat) (f : Domain → Domain) : (c.modDom k f).fab = c.fab := rfl
@[simp] theorem Chip.modDom_pwr (c : Chip) (k : Nat) (f : Domain → Domain) : (c.modDom k f).pwr = c.pwr := rfl
@[simp] theorem Chip.modDom_pin (c : Chip) (k : Nat) (f : Domain → Domain) : (c.modDom k f).pin = c.pin := rfl
@[simp] theorem Chip.modDom_noSel (c : Chip) (k : Nat) (f : Domain → Domain) : (c.modDom k f).noSel = c.noSel := rfl
@[simp] theorem Chip.modDom_fld (c : Chip) (k : Nat) (f : Domain → Domain) (g : Fld) (d : Nat) : (c.modDom k f).fld g d = c.fld g d := rfl

@[simp] theorem Chip.modDst_now (c : Chip) (k : Nat) (f : Dst → Dst) : (c.modDst k f).now = c.now := rfl
@[simp] theorem Chip.modDst_released (c : Chip) (k : Nat) (f : Dst → Dst) : (c.modDst k f).released = c.released := rfl
@[simp] theorem Chip.modDst_run (c : Chip) (k : Nat) (f : Dst → Dst) : (c.modDst k f).run = c.run := rfl
@[simp] theorem Chip.modDst_clock (c : Chip) (k : Nat) (f : Dst → Dst) : (c.modDst k f).clock = c.clock := rfl
@[simp] theorem Chip.modDst_latch (c : Chip) (k : Nat) (f : Dst → Dst) : (c.modDst k f).latch = c.latch := rfl
@[simp] theorem Chip.modDst_free (c : Chip) (k : Nat) (f : Dst → Dst) : (c.modDst k f).free = c.free := rfl
@[simp] theorem Chip.modDst_sent (c : Chip) (k : Nat) (f : Dst → Dst) : (c.modDst k f).sent = c.sent := rfl
@[simp] theorem Chip.modDst_regs (c : Chip) (k : Nat) (f : Dst → Dst) : (c.modDst k f).regs = c.regs := rfl
@[simp] theorem Chip.modDst_cfg (c : Chip) (k : Nat) (f : Dst → Dst) : (c.modDst k f).cfg = c.cfg := rfl
@[simp] theorem Chip.modDst_lan (c : Chip) (k : Nat) (f : Dst → Dst) : (c.modDst k f).lan = c.lan := rfl
@[simp] theorem Chip.modDst_log (c : Chip) (k : Nat) (f : Dst → Dst) : (c.modDst k f).log = c.log := rfl
@[simp] theorem Chip.modDst_tick (c : Chip) (k : Nat) (f : Dst → Dst) : (c.modDst k f).tick = c.tick := rfl
@[simp] theorem Chip.modDst_fst (c : Chip) (k : Nat) (f : Dst → Dst) : (c.modDst k f).fst = c.fst := rfl
@[simp] theorem Chip.modDst_arb (c : Chip) (k : Nat) (f : Dst → Dst) : (c.modDst k f).arb = c.arb := rfl
@[simp] theorem Chip.modDst_cmp (c : Chip) (k : Nat) (f : Dst → Dst) : (c.modDst k f).cmp = c.cmp := rfl
@[simp] theorem Chip.modDst_boot (c : Chip) (k : Nat) (f : Dst → Dst) : (c.modDst k f).boot = c.boot := rfl
@[simp] theorem Chip.modDst_spl (c : Chip) (k : Nat) (f : Dst → Dst) : (c.modDst k f).spl = c.spl := rfl
@[simp] theorem Chip.modDst_upd (c : Chip) (k : Nat) (f : Dst → Dst) : (c.modDst k f).upd = c.upd := rfl
@[simp] theorem Chip.modDst_aud (c : Chip) (k : Nat) (f : Dst → Dst) : (c.modDst k f).aud = c.aud := rfl
@[simp] theorem Chip.modDst_net (c : Chip) (k : Nat) (f : Dst → Dst) : (c.modDst k f).net = c.net := rfl
@[simp] theorem Chip.modDst_fwa (c : Chip) (k : Nat) (f : Dst → Dst) : (c.modDst k f).fwa = c.fwa := rfl
@[simp] theorem Chip.modDst_cap (c : Chip) (k : Nat) (f : Dst → Dst) : (c.modDst k f).cap = c.cap := rfl
@[simp] theorem Chip.modDst_lne (c : Chip) (k : Nat) (f : Dst → Dst) : (c.modDst k f).lne = c.lne := rfl
@[simp] theorem Chip.modDst_ref (c : Chip) (k : Nat) (f : Dst → Dst) : (c.modDst k f).ref = c.ref := rfl
@[simp] theorem Chip.modDst_ptp (c : Chip) (k : Nat) (f : Dst → Dst) : (c.modDst k f).ptp = c.ptp := rfl
@[simp] theorem Chip.modDst_flt (c : Chip) (k : Nat) (f : Dst → Dst) : (c.modDst k f).flt = c.flt := rfl
@[simp] theorem Chip.modDst_fab (c : Chip) (k : Nat) (f : Dst → Dst) : (c.modDst k f).fab = c.fab := rfl
@[simp] theorem Chip.modDst_pwr (c : Chip) (k : Nat) (f : Dst → Dst) : (c.modDst k f).pwr = c.pwr := rfl
@[simp] theorem Chip.modDst_pin (c : Chip) (k : Nat) (f : Dst → Dst) : (c.modDst k f).pin = c.pin := rfl
@[simp] theorem Chip.modDst_noSel (c : Chip) (k : Nat) (f : Dst → Dst) : (c.modDst k f).noSel = c.noSel := rfl
@[simp] theorem Chip.modDst_fld (c : Chip) (k : Nat) (f : Dst → Dst) (g : Fld) (d : Nat) : (c.modDst k f).fld g d = c.fld g d := rfl

@[simp] theorem Chip.modSrc_now (c : Chip) (k : Nat) (f : Source → Source) : (c.modSrc k f).now = c.now := rfl
@[simp] theorem Chip.modSrc_released (c : Chip) (k : Nat) (f : Source → Source) : (c.modSrc k f).released = c.released := rfl
@[simp] theorem Chip.modSrc_run (c : Chip) (k : Nat) (f : Source → Source) : (c.modSrc k f).run = c.run := rfl
@[simp] theorem Chip.modSrc_clock (c : Chip) (k : Nat) (f : Source → Source) : (c.modSrc k f).clock = c.clock := rfl
@[simp] theorem Chip.modSrc_latch (c : Chip) (k : Nat) (f : Source → Source) : (c.modSrc k f).latch = c.latch := rfl
@[simp] theorem Chip.modSrc_free (c : Chip) (k : Nat) (f : Source → Source) : (c.modSrc k f).free = c.free := rfl
@[simp] theorem Chip.modSrc_sent (c : Chip) (k : Nat) (f : Source → Source) : (c.modSrc k f).sent = c.sent := rfl
@[simp] theorem Chip.modSrc_regs (c : Chip) (k : Nat) (f : Source → Source) : (c.modSrc k f).regs = c.regs := rfl
@[simp] theorem Chip.modSrc_cfg (c : Chip) (k : Nat) (f : Source → Source) : (c.modSrc k f).cfg = c.cfg := rfl
@[simp] theorem Chip.modSrc_lan (c : Chip) (k : Nat) (f : Source → Source) : (c.modSrc k f).lan = c.lan := rfl
@[simp] theorem Chip.modSrc_log (c : Chip) (k : Nat) (f : Source → Source) : (c.modSrc k f).log = c.log := rfl
@[simp] theorem Chip.modSrc_tick (c : Chip) (k : Nat) (f : Source → Source) : (c.modSrc k f).tick = c.tick := rfl
@[simp] theorem Chip.modSrc_fst (c : Chip) (k : Nat) (f : Source → Source) : (c.modSrc k f).fst = c.fst := rfl
@[simp] theorem Chip.modSrc_arb (c : Chip) (k : Nat) (f : Source → Source) : (c.modSrc k f).arb = c.arb := rfl
@[simp] theorem Chip.modSrc_cmp (c : Chip) (k : Nat) (f : Source → Source) : (c.modSrc k f).cmp = c.cmp := rfl
@[simp] theorem Chip.modSrc_boot (c : Chip) (k : Nat) (f : Source → Source) : (c.modSrc k f).boot = c.boot := rfl
@[simp] theorem Chip.modSrc_spl (c : Chip) (k : Nat) (f : Source → Source) : (c.modSrc k f).spl = c.spl := rfl
@[simp] theorem Chip.modSrc_upd (c : Chip) (k : Nat) (f : Source → Source) : (c.modSrc k f).upd = c.upd := rfl
@[simp] theorem Chip.modSrc_aud (c : Chip) (k : Nat) (f : Source → Source) : (c.modSrc k f).aud = c.aud := rfl
@[simp] theorem Chip.modSrc_net (c : Chip) (k : Nat) (f : Source → Source) : (c.modSrc k f).net = c.net := rfl
@[simp] theorem Chip.modSrc_fwa (c : Chip) (k : Nat) (f : Source → Source) : (c.modSrc k f).fwa = c.fwa := rfl
@[simp] theorem Chip.modSrc_cap (c : Chip) (k : Nat) (f : Source → Source) : (c.modSrc k f).cap = c.cap := rfl
@[simp] theorem Chip.modSrc_lne (c : Chip) (k : Nat) (f : Source → Source) : (c.modSrc k f).lne = c.lne := rfl
@[simp] theorem Chip.modSrc_ref (c : Chip) (k : Nat) (f : Source → Source) : (c.modSrc k f).ref = c.ref := rfl
@[simp] theorem Chip.modSrc_ptp (c : Chip) (k : Nat) (f : Source → Source) : (c.modSrc k f).ptp = c.ptp := rfl
@[simp] theorem Chip.modSrc_flt (c : Chip) (k : Nat) (f : Source → Source) : (c.modSrc k f).flt = c.flt := rfl
@[simp] theorem Chip.modSrc_fab (c : Chip) (k : Nat) (f : Source → Source) : (c.modSrc k f).fab = c.fab := rfl
@[simp] theorem Chip.modSrc_pwr (c : Chip) (k : Nat) (f : Source → Source) : (c.modSrc k f).pwr = c.pwr := rfl
@[simp] theorem Chip.modSrc_pin (c : Chip) (k : Nat) (f : Source → Source) : (c.modSrc k f).pin = c.pin := rfl
@[simp] theorem Chip.modSrc_noSel (c : Chip) (k : Nat) (f : Source → Source) : (c.modSrc k f).noSel = c.noSel := rfl
@[simp] theorem Chip.modSrc_fld (c : Chip) (k : Nat) (f : Source → Source) (g : Fld) (d : Nat) : (c.modSrc k f).fld g d = c.fld g d := rfl

@[simp] theorem Chip.modLayer_now (c : Chip) (k l : Nat) (f : Layer → Layer) : (c.modLayer k l f).now = c.now := rfl
@[simp] theorem Chip.modLayer_released (c : Chip) (k l : Nat) (f : Layer → Layer) : (c.modLayer k l f).released = c.released := rfl
@[simp] theorem Chip.modLayer_run (c : Chip) (k l : Nat) (f : Layer → Layer) : (c.modLayer k l f).run = c.run := rfl
@[simp] theorem Chip.modLayer_clock (c : Chip) (k l : Nat) (f : Layer → Layer) : (c.modLayer k l f).clock = c.clock := rfl
@[simp] theorem Chip.modLayer_latch (c : Chip) (k l : Nat) (f : Layer → Layer) : (c.modLayer k l f).latch = c.latch := rfl
@[simp] theorem Chip.modLayer_free (c : Chip) (k l : Nat) (f : Layer → Layer) : (c.modLayer k l f).free = c.free := rfl
@[simp] theorem Chip.modLayer_sent (c : Chip) (k l : Nat) (f : Layer → Layer) : (c.modLayer k l f).sent = c.sent := rfl
@[simp] theorem Chip.modLayer_regs (c : Chip) (k l : Nat) (f : Layer → Layer) : (c.modLayer k l f).regs = c.regs := rfl
@[simp] theorem Chip.modLayer_cfg (c : Chip) (k l : Nat) (f : Layer → Layer) : (c.modLayer k l f).cfg = c.cfg := rfl
@[simp] theorem Chip.modLayer_lan (c : Chip) (k l : Nat) (f : Layer → Layer) : (c.modLayer k l f).lan = c.lan := rfl
@[simp] theorem Chip.modLayer_log (c : Chip) (k l : Nat) (f : Layer → Layer) : (c.modLayer k l f).log = c.log := rfl
@[simp] theorem Chip.modLayer_tick (c : Chip) (k l : Nat) (f : Layer → Layer) : (c.modLayer k l f).tick = c.tick := rfl
@[simp] theorem Chip.modLayer_xpt (c : Chip) (k l : Nat) (f : Layer → Layer) : (c.modLayer k l f).xpt = c.xpt := rfl
@[simp] theorem Chip.modLayer_fst (c : Chip) (k l : Nat) (f : Layer → Layer) : (c.modLayer k l f).fst = c.fst := rfl
@[simp] theorem Chip.modLayer_arb (c : Chip) (k l : Nat) (f : Layer → Layer) : (c.modLayer k l f).arb = c.arb := rfl
@[simp] theorem Chip.modLayer_boot (c : Chip) (k l : Nat) (f : Layer → Layer) : (c.modLayer k l f).boot = c.boot := rfl
@[simp] theorem Chip.modLayer_spl (c : Chip) (k l : Nat) (f : Layer → Layer) : (c.modLayer k l f).spl = c.spl := rfl
@[simp] theorem Chip.modLayer_upd (c : Chip) (k l : Nat) (f : Layer → Layer) : (c.modLayer k l f).upd = c.upd := rfl
@[simp] theorem Chip.modLayer_aud (c : Chip) (k l : Nat) (f : Layer → Layer) : (c.modLayer k l f).aud = c.aud := rfl
@[simp] theorem Chip.modLayer_net (c : Chip) (k l : Nat) (f : Layer → Layer) : (c.modLayer k l f).net = c.net := rfl
@[simp] theorem Chip.modLayer_fwa (c : Chip) (k l : Nat) (f : Layer → Layer) : (c.modLayer k l f).fwa = c.fwa := rfl
@[simp] theorem Chip.modLayer_cap (c : Chip) (k l : Nat) (f : Layer → Layer) : (c.modLayer k l f).cap = c.cap := rfl
@[simp] theorem Chip.modLayer_lne (c : Chip) (k l : Nat) (f : Layer → Layer) : (c.modLayer k l f).lne = c.lne := rfl
@[simp] theorem Chip.modLayer_ref (c : Chip) (k l : Nat) (f : Layer → Layer) : (c.modLayer k l f).ref = c.ref := rfl
@[simp] theorem Chip.modLayer_ptp (c : Chip) (k l : Nat) (f : Layer → Layer) : (c.modLayer k l f).ptp = c.ptp := rfl
@[simp] theorem Chip.modLayer_flt (c : Chip) (k l : Nat) (f : Layer → Layer) : (c.modLayer k l f).flt = c.flt := rfl
@[simp] theorem Chip.modLayer_fab (c : Chip) (k l : Nat) (f : Layer → Layer) : (c.modLayer k l f).fab = c.fab := rfl
@[simp] theorem Chip.modLayer_pwr (c : Chip) (k l : Nat) (f : Layer → Layer) : (c.modLayer k l f).pwr = c.pwr := rfl
@[simp] theorem Chip.modLayer_pin (c : Chip) (k l : Nat) (f : Layer → Layer) : (c.modLayer k l f).pin = c.pin := rfl
@[simp] theorem Chip.modLayer_noSel (c : Chip) (k l : Nat) (f : Layer → Layer) : (c.modLayer k l f).noSel = c.noSel := rfl
@[simp] theorem Chip.modLayer_fld (c : Chip) (k l : Nat) (f : Layer → Layer) (g : Fld) (d : Nat) : (c.modLayer k l f).fld g d = c.fld g d := rfl

@[simp] theorem Chip.modLoad_now (c : Chip) (k : Nat) (f : Load → Load) : (c.modLoad k f).now = c.now := rfl
@[simp] theorem Chip.modLoad_released (c : Chip) (k : Nat) (f : Load → Load) : (c.modLoad k f).released = c.released := rfl
@[simp] theorem Chip.modLoad_run (c : Chip) (k : Nat) (f : Load → Load) : (c.modLoad k f).run = c.run := rfl
@[simp] theorem Chip.modLoad_clock (c : Chip) (k : Nat) (f : Load → Load) : (c.modLoad k f).clock = c.clock := rfl
@[simp] theorem Chip.modLoad_latch (c : Chip) (k : Nat) (f : Load → Load) : (c.modLoad k f).latch = c.latch := rfl
@[simp] theorem Chip.modLoad_free (c : Chip) (k : Nat) (f : Load → Load) : (c.modLoad k f).free = c.free := rfl
@[simp] theorem Chip.modLoad_sent (c : Chip) (k : Nat) (f : Load → Load) : (c.modLoad k f).sent = c.sent := rfl
@[simp] theorem Chip.modLoad_regs (c : Chip) (k : Nat) (f : Load → Load) : (c.modLoad k f).regs = c.regs := rfl
@[simp] theorem Chip.modLoad_cfg (c : Chip) (k : Nat) (f : Load → Load) : (c.modLoad k f).cfg = c.cfg := rfl
@[simp] theorem Chip.modLoad_lan (c : Chip) (k : Nat) (f : Load → Load) : (c.modLoad k f).lan = c.lan := rfl
@[simp] theorem Chip.modLoad_log (c : Chip) (k : Nat) (f : Load → Load) : (c.modLoad k f).log = c.log := rfl
@[simp] theorem Chip.modLoad_tick (c : Chip) (k : Nat) (f : Load → Load) : (c.modLoad k f).tick = c.tick := rfl
@[simp] theorem Chip.modLoad_xpt (c : Chip) (k : Nat) (f : Load → Load) : (c.modLoad k f).xpt = c.xpt := rfl
@[simp] theorem Chip.modLoad_fst (c : Chip) (k : Nat) (f : Load → Load) : (c.modLoad k f).fst = c.fst := rfl
@[simp] theorem Chip.modLoad_arb (c : Chip) (k : Nat) (f : Load → Load) : (c.modLoad k f).arb = c.arb := rfl
@[simp] theorem Chip.modLoad_cmp (c : Chip) (k : Nat) (f : Load → Load) : (c.modLoad k f).cmp = c.cmp := rfl
@[simp] theorem Chip.modLoad_boot (c : Chip) (k : Nat) (f : Load → Load) : (c.modLoad k f).boot = c.boot := rfl
@[simp] theorem Chip.modLoad_spl (c : Chip) (k : Nat) (f : Load → Load) : (c.modLoad k f).spl = c.spl := rfl
@[simp] theorem Chip.modLoad_aud (c : Chip) (k : Nat) (f : Load → Load) : (c.modLoad k f).aud = c.aud := rfl
@[simp] theorem Chip.modLoad_net (c : Chip) (k : Nat) (f : Load → Load) : (c.modLoad k f).net = c.net := rfl
@[simp] theorem Chip.modLoad_fwa (c : Chip) (k : Nat) (f : Load → Load) : (c.modLoad k f).fwa = c.fwa := rfl
@[simp] theorem Chip.modLoad_cap (c : Chip) (k : Nat) (f : Load → Load) : (c.modLoad k f).cap = c.cap := rfl
@[simp] theorem Chip.modLoad_lne (c : Chip) (k : Nat) (f : Load → Load) : (c.modLoad k f).lne = c.lne := rfl
@[simp] theorem Chip.modLoad_ref (c : Chip) (k : Nat) (f : Load → Load) : (c.modLoad k f).ref = c.ref := rfl
@[simp] theorem Chip.modLoad_ptp (c : Chip) (k : Nat) (f : Load → Load) : (c.modLoad k f).ptp = c.ptp := rfl
@[simp] theorem Chip.modLoad_flt (c : Chip) (k : Nat) (f : Load → Load) : (c.modLoad k f).flt = c.flt := rfl
@[simp] theorem Chip.modLoad_fab (c : Chip) (k : Nat) (f : Load → Load) : (c.modLoad k f).fab = c.fab := rfl
@[simp] theorem Chip.modLoad_pwr (c : Chip) (k : Nat) (f : Load → Load) : (c.modLoad k f).pwr = c.pwr := rfl
@[simp] theorem Chip.modLoad_pin (c : Chip) (k : Nat) (f : Load → Load) : (c.modLoad k f).pin = c.pin := rfl
@[simp] theorem Chip.modLoad_noSel (c : Chip) (k : Nat) (f : Load → Load) : (c.modLoad k f).noSel = c.noSel := rfl
@[simp] theorem Chip.modLoad_fld (c : Chip) (k : Nat) (f : Load → Load) (g : Fld) (d : Nat) : (c.modLoad k f).fld g d = c.fld g d := rfl

end Sys2Proof.Machine
end

