-- ==== Sys2Proof/Laws/Ops.lean ====
section
/-! SUPPORT. What the shared operations do: running a command, processing a request, answering one, reading and writing the byte-addressed memories. Proofs cite these and do
not unfold the operations. -/

namespace Sys2Proof.Machine

/-! ## Running a command -/

/-- A module that runs: the command's effect, at the command's instant. -/
theorem act_runs (t : Nat) (s : State) (f : Chip → Chip) (h : s.chip.run = .running) :
    act t s f = .next { s with chip := { f (s.chip.begin t) with now := max s.chip.now t } } := by
  simp [act, h]

/-- A module that does not run: only the clock goes on. -/
theorem act_stopped (t : Nat) (s : State) (f : Chip → Chip) (h : s.chip.run ≠ .running) : act t s f = .next { s with chip := s.chip.begin t } := by
  simp [act, h, Chip.begin]

/-- A command on the module alone leaves the queue and the memories. -/
theorem act_frame (t : Nat) (s u : State) (f : Chip → Chip) (h : act t s f = .next u) :
    u.pending = s.pending ∧ u.mem = s.mem ∧ u.chip.now = max s.chip.now t := by
  cases h; exact ⟨rfl, rfl, rfl⟩

theorem actAlways_frame (t : Nat) (s u : State) (f : Chip → Chip) (h : actAlways t s f = .next u) :
    u.pending = s.pending ∧ u.mem = s.mem ∧ u.chip.now = max s.chip.now t := by
  cases h; exact ⟨rfl, rfl, rfl⟩

theorem actMem_runs (t : Nat) (s : State) (f : Chip → Tbl Byte → Chip × Tbl Byte) (h : s.chip.run = .running) :
    actMem t s f = .next { s with
      mem := (f (s.chip.begin t) s.mem).2, chip := { (f (s.chip.begin t) s.mem).1 with now := max s.chip.now t } } := by
  simp [actMem, h]

theorem actMem_stopped (t : Nat) (s : State) (f : Chip → Tbl Byte → Chip × Tbl Byte) (h : s.chip.run ≠ .running) :
    actMem t s f = .next { s with chip := s.chip.begin t } := by
  simp [actMem, h, Chip.begin]

/-- A command that reaches the memories leaves the queue; its memories are those of its effect, or as they were. -/
theorem actMem_frame (t : Nat) (s u : State) (f : Chip → Tbl Byte → Chip × Tbl Byte) (h : actMem t s f = .next u) :
    u.pending = s.pending ∧ u.chip.now = max s.chip.now t ∧ (u.mem = s.mem ∨ u.mem = (f (s.chip.begin t) s.mem).2) := by
  cases h
  refine ⟨rfl, rfl, ?_⟩
  by_cases hr : s.chip.run = .running
  · right; simp [hr]
  · left; simp [hr]

theorem actMemAlways_frame (t : Nat) (s u : State) (f : Chip → Tbl Byte → Chip × Tbl Byte) (h : actMemAlways t s f = .next u) :
    u.pending = s.pending ∧ u.chip.now = max s.chip.now t ∧ u.mem = (f (s.chip.begin t) s.mem).2 := by
  cases h; exact ⟨rfl, rfl, rfl⟩

/-- If every effect on the memories keeps their canonical form, so does the command. -/
theorem actMem_keeps_wf (t : Nat) (s u : State) (f : Chip → Tbl Byte → Chip × Tbl Byte) (hf : ∀ c m, Memory.wf m = true → Memory.wf (f c m).2 = true)
    (hs : Memory.wf s.mem = true) (h : actMem t s f = .next u) : Memory.wf u.mem = true := by
  rcases (actMem_frame t s u f h).2.2 with e | e <;> rw [e]
  · exact hs
  · exact hf _ _ hs

theorem actMemAlways_keeps_wf (t : Nat) (s u : State) (f : Chip → Tbl Byte → Chip × Tbl Byte) (hf : ∀ c m, Memory.wf m = true → Memory.wf (f c m).2 = true)
    (hs : Memory.wf s.mem = true) (h : actMemAlways t s f = .next u) : Memory.wf u.mem = true := by
  rw [(actMemAlways_frame t s u f h).2.2]; exact hf _ _ hs

/-! ## Memory -/

/-- Writing one byte keeps the canonical form. -/
theorem Memory.wf_put (m : Tbl Byte) (a : Nat) (v : Byte) (h : Memory.wf m = true) : Memory.wf (Tbl.put memUnlisted m a v) = true :=
  Tbl.ok_put _ _ _ _ h

/-- Writing bytes keeps the canonical form. -/
theorem Memory.wf_memWrite (m : Tbl Byte) (a : Nat) (l : List Byte) (h : Memory.wf m = true) : Memory.wf (memWrite m a l) = true :=
  Tbl.ok_putList _ _ _ _ h

/-- Removing listed bytes, so that they read as unlisted, keeps the canonical form. -/
theorem Memory.wf_filter (m : Tbl Byte) (p : Nat × Byte → Bool) (h : Memory.wf m = true) : Memory.wf (m.filter p) = true := Tbl.ok_filter _ _ _ h

/-- A byte outside those written reads as before. -/
theorem get_memWrite_other (m : Tbl Byte) (a : Nat) (l : List Byte) (j : Nat) (h : j < a ∨ a + l.length ≤ j) :
    Tbl.get memUnlisted (memWrite m a l) j = Tbl.get memUnlisted m j := Tbl.get_putList_other _ _ _ _ _ h

/-- A byte written reads as it was written. -/
theorem get_memWrite (m : Tbl Byte) (a : Nat) (l : List Byte) (i : Nat) (h : i < l.length) : Tbl.get memUnlisted (memWrite m a l) (a + i) = l[i] :=
  Tbl.get_putList _ _ _ _ _ h

/-! ## Requests -/

/-- A request of a session that is not served waits. -/
theorem Chip.request_waits (c : Chip) (slot m need : Nat) (rec lenOk : Bool) (f : Chip → Chip) (h : c.serves slot = false) :
    c.request slot m need rec lenOk f = c := by
  simp [Chip.request, h]

/-- A request that passes the common checks and is not one that a standby refuses: its effect, then what the twin and the session's order make of its response. -/
theorem Chip.request_served (c : Chip) (slot m need : Nat) (rec lenOk : Bool) (f : Chip → Chip) (h : c.serves slot = true)
    (hg : c.gateCode slot m need rec lenOk = none) (hs : (mirroredRequest m && c.standby) = false) :
    c.request slot m need rec lenOk f = Chip.answerUnknown slot 256 ((f c).mirrorOut c slot m) := by
  simp [Chip.request, h, hg, hs]

/-- A request that fails a common check. -/
theorem Chip.request_refused (c : Chip) (slot m need code : Nat) (rec lenOk : Bool) (f : Chip → Chip) (h : c.serves slot = true)
    (hg : c.gateCode slot m need rec lenOk = some code) :
    c.request slot m need rec lenOk f = Chip.answerUnknown slot 256 ((c.refuse slot m code wholeIndex).mirrorOut c slot m) := by
  simp [Chip.request, h, hg]

/-- The common checks pass in full service: the privilege suffices, the body has its length, no restart is in progress. -/
theorem Chip.gateCode_none (c : Chip) (slot m need : Nat) (rec : Bool) (hp : need ≤ (c.session slot).priv) (h2 : c.phase = 2) (hs : c.stalled = false) :
    c.gateCode slot m need rec true = none := by
  have : ¬ (c.session slot).priv < need := by omega
  simp [Chip.gateCode, firstCode, this, h2, hs]

theorem Chip.window_waits (c : Chip) (m : Tbl Byte) (slot mt : Nat) (l : List WinEntry) (lenOk : Bool) (facts : List BusFact) (h : c.serves slot = false) :
    c.window m slot mt l lenOk facts = (c, m) := by
  simp [Chip.window, h, Chip.request_waits]

/-! ## Responses -/

/-- Changing one session leaves the others. -/
theorem Chip.session_modSession_other (c : Chip) (i j : Nat) (f : Session → Session) (h : j ≠ i) : (c.modSession i f).session j = c.session j :=
  Tbl.get_upd_other _ _ _ _ _ h

@[simp] theorem Chip.session_modSession (c : Chip) (i : Nat) (f : Session → Session) : (c.modSession i f).session i = f (c.session i) :=
  Tbl.get_upd _ _ _ _

/-- What withholding a response changes: the sessions' counters, what is sent, and the list of withheld responses. -/
theorem Chip.withhold_frame (a : Chip) (slot m q since : Nat) :
    ∃ d : Chip, a.withhold slot m q since = { a with lan := d.lan, sent := d.sent, spl := { a.spl with mirror := d.spl.mirror } } :=
  ⟨a.withhold slot m q since, rfl⟩

theorem Chip.mirrorOut_frame (a b : Chip) (slot m : Nat) :
    ∃ d : Chip, a.mirrorOut b slot m = { a with lan := d.lan, sent := d.sent, spl := { a.spl with mirror := d.spl.mirror } } := by
  unfold Chip.mirrorOut
  dsimp only
  split
  · exact ⟨(a.withhold slot m ((b.session slot).done + 1) a.now).emit (.cell 7 5 ([slot, (b.session slot).done + 1, m] ++
      (match (b.session slot).complete.find? (fun (r : Nat × Nat × List Byte) => r.1 == (b.session slot).done + 1) with | some r => r.2.2 | none => []).map BitVec.toNat)), rfl⟩
  · split
    · exact ⟨a.withhold slot m ((b.session slot).done + 1) 0, rfl⟩
    · exact ⟨a, rfl⟩

/-- Answering requests of unknown type changes only sessions, what is sent, and the list of withheld responses. -/
theorem Chip.answerUnknown_frame (slot n : Nat) (c : Chip) :
    ∃ d : Chip, Chip.answerUnknown slot n c = { c with lan := d.lan, sent := d.sent, spl := { c.spl with mirror := d.spl.mirror } } := by
  induction n generalizing c with
  | zero => exact ⟨c, rfl⟩
  | succ n ih =>
    unfold Chip.answerUnknown
    split
    · split
      · exact ⟨c, rfl⟩
      · rename_i r _ _
        obtain ⟨d, hd⟩ := ih ((c.refuse slot r.2.1 0x1101 wholeIndex).mirrorOut c slot r.2.1)
        obtain ⟨e, he⟩ := Chip.mirrorOut_frame (c.refuse slot r.2.1 0x1101 wholeIndex) c slot r.2.1
        exact ⟨d, by rw [hd, he]; rfl⟩
    · exact ⟨c, rfl⟩

end Sys2Proof.Machine
end

