-- ==== Sys2Proof/Tests/Slice0.lean ====
section
/-! SUPPORT. The model's own tests: that no word spells a command, that each check of well-formedness refuses a term, that the hypotheses of every statement can be met, and
steps whose results the spec gives. -/

namespace Sys2Proof.Tests

open Sys2Proof.Machine

set_option linter.unusedVariables false
set_option Elab.async false

/-! ## Small states -/

/-- A state with its module changed. -/
def chg (s : State) (f : Chip → Chip) : State := { s with chip := f s.chip }

/-- An open session with privilege `MAINTAIN`. -/
def host : Session := { Session.free with state := .opened, id := 7, keyId := 2, priv := 3, maxDgram := 1400 }

/-- The module in full service, one session open, free-running timing on, the frame store ready. -/
def up : State :=
  chg State.reset (fun c => { c.set Reg.BOOT_STATUS_PHASE 0 2 with
    boot := { BootSt.reset with booted := true, timing := true, released := true, checked := true, swapped := true, pilotAt := some 0, fullAt := some 0 },
    tick := { TickSt.reset with running := true, domains := [(0, { Domain.reset with fullTick := true })] },
    fst := { FstSt.reset with ready := true },
    lan := { LanSt.reset with slots := [(0, host)] } })

/-- A request waits at the arbiter of channel 3. -/
def waitState : State := chg up (fun c => c.modArbiter 3 (fun a => { a with waiting := [⟨4, 0, 2, 32, false, true⟩] }))

/-- A grant of 300 beats on channel 3, and another request of its client. -/
def hogState : State :=
  chg up (fun c => c.modArbiter 3 (fun a => { a with grant := some ⟨4, 0, 2, 300, false, true⟩, waiting := [⟨4, 0, 3, 32, false, true⟩] }))

/-- Clients 4 and 5 in quarantine, client 5 in backoff. -/
def quarState : State :=
  chg up (fun c => (c.set Reg.ARB_QUAR_CLIENT 0 48).modArbiter 3 (fun a => { a with backoff := [(5, 8)], off := [5], waiting := [⟨4, 0, 3, 32, false, true⟩] }))

/-- The module in full service, with bytes in the working SRAM, the flash and the frame store. -/
def flashed : State := { up with mem := [(5, 1), (0x10000007, 2), (0x2000000003, 3)] }

/-- The bytes of a body. -/
def bytes (l : List Nat) : List Byte := l.map (BitVec.ofNat 8)

/-- The module with generator 0 on, in full service. -/
def genUp : State := chg up (fun c => c.setRec tyGens 0 (bytes [1, 0, 0, 0, 1, 0]))

/-- A take with identifier 3 waits in the queue. -/
def queuedUp : State := chg up (fun c => { c with xpt := { c.xpt with queue :=
  [{ id := 3, dst := 5, src := 1024, dev := none, levels := 1, accepted := 0, notBefore := none, notify := false, slot := 0, session := 7, held := false,
     salvo := 0, staged := false, deferred := false, path := .frame, always := false }] } })

/-- A salvo of two takes. -/
def twoTakes : List Byte := bytes ([0, 2, 0, 0, 0, 0, 0, 0, 0, 0, 0, 0, 0, 0, 0, 0] ++ [0, 5, 0, 9, 255, 255, 1, 0] ++ [0, 6, 0, 9, 255, 255, 1, 0])

/-- The links of port 0, breakout 0, and of HPA are up. -/
def linkedUp : State := chg up (fun c => (c.modMac 0 (fun m => { m with up := true })).modMac 128 (fun m => { m with up := true }))

/-- A receive flow with two paths. -/
def dualUp : State := chg up (fun c => c.setRec tyRx 9 (bytes [0, 9, 0, 3]))

/-- A transmit flow of kind 2. -/
def audTxUp : State := chg up (fun c => c.setRec tyTx 3 (bytes [0, 3, 2, 1, 0, 9]))

/-- A transmit flow of kind 1 whose destination is routed to a source with a kind 1 receive flow. -/
def passUp : State :=
  chg up (fun c => ((((c.setRec tyTx 3 (bytes [0, 3, 1, 1, 0, 9])).setRec tyRx 6 (bytes [0, 6, 1, 1, 0, 20])).setRoute 9 0 (some { src := 20, dev := none, path := .packet })).modTx 3
    (fun x => { x with src := some 6, readIdx := 4 })).modRx 6 (fun x => { x with ring := [⟨4, 0, 100, 5, false, bytes [9]⟩] }))

/-- The body of an injection of one byte. -/
def injBody : List Byte :=
  bytes ([0, 0, 0, 42, 0, 1, 0, 0] ++ [0, 0, 0, 0, 0, 0, 0, 1] ++ [0, 0, 0, 0] ++ [0, 0, 0, 0] ++ [0, 0, 0, 1] ++ List.replicate 126 0 ++ [7])

/-- A send of one frame. -/
def sendOne : SendReq :=
  { tag := 70, template := List.replicate 42 0, segLen := 0, payload := List.replicate 20 0, segment := false, seqPos := 0, seqSize := 0, offPos := 0, offSize := 0,
    launch := none, queue := 3, tsTag := none, oneStep := none }

/-- The lanes of HPA have been trained. -/
def trainedUp : State := chg up (fun c => [128, 129, 130, 131].foldl (fun a l => (a.set Reg.LNE_L_STATE_TRAIN l 2).set Reg.LNE_L_STATE_PSTATE l 0) c)

/-- SDI lane 2 has a binding that receives and searches, to source 5. -/
def sdiUp : State := chg up (fun c => (c.setRec tySdi 2 (bytes [2, 0, 5, 0, 0, 5, 255, 255, 0, 0, 0, 0])).modLane 154 (fun x => { x with on := true, family := 4, first := 3, last := 3 }))

/-- Port 0 is enabled, in mode 3, its lanes are ACTIVE, and lane 3 of it is selected. -/
def portUp : State := chg up (fun c => ([0, 1, 2, 3, 4, 5, 6, 7].foldl (fun a l => a.set Reg.LNE_L_STATE_PSTATE l 0)
  (c.setRec tyMacPorts 0 (bytes [0, 2, 5, 238, 4, 0, 1, 0, 0, 20, 0, 0, 0, 0, 0, 0]))).set Reg.LNE_LANE_SEL_LANE 0 3)

/-- Splice port 1 is enabled; its lanes 138 and 139 are ACTIVE and have trained. -/
def splUp : State :=
  chg up (fun c => ([138, 139].foldl (fun a l => (a.set Reg.LNE_L_STATE_TRAIN l 2).set Reg.LNE_L_STATE_PSTATE l 0) (c.setRec tySplice 1 (bytes [1, 3, 1, 0]))))

/-- Splice port 1 works at step 0, and its next step is wanted. -/
def stepUp : State :=
  chg splUp (fun c => (((c.set Reg.LNE_L_STATE_ALIGNED 138 1).set Reg.LNE_L_STATE_ALIGNED 139 1).modStep 1 (fun x => { x with farMax := some 3, wanting := true })))

/-- Lane 200 is selected, in raw mode. -/
def diagUp : State := chg up (fun c => ((c.set Reg.LNE_LANE_SEL_LANE 0 200).set Reg.LNE_L_CTRL_DIAG 200 1).set Reg.LNE_L_STATE_PSTATE 200 0)

/-- Entry 2 is a 10 MHz input of rank 1; pilot service runs. -/
def refUp : State := chg up (fun c => c.setRec tyEntries 2 (bytes [2, 3, 1, 1, 0, 0, 5, 2, 0, 100, 0, 200]))

/-- Entry 2 is qualified and selected, and the DPLL is locked to it with a history. -/
def refLockedUp : State := chg refUp (fun c =>
  { (((c.set Reg.REFS_E_STATE_STATE 2 3).set Reg.REFS_DPLL_STATE 0 2).set Reg.REFS_DPLL_SELECTED 0 2).set Reg.REFS_STATUS_LO_OK 0 1 with
    ref := { (c.modRef 2 (fun x => { x with present := true })).ref with history := [(0, 30), (0, 50)] } })

/-- The network is the time source, by ports 0 and 1, domain 127. -/
def ptpUp : State := chg up (fun c => c.setRec tyPtp 0 (bytes [1, 0, 1, 127, 0, 0, 3, 2, 0, 15, 66, 64, 3, 232, 0, 100]))

/-- Its master is selected and acquired. -/
def slaveUp : State := chg ptpUp (fun c => (c.set Reg.PTP_STATUS_STATE 0 2).modPtp (fun p => { p with
  master := some (false, 99), foreign := [⟨false, 99, [], 5, 6, 1, 37, 0, [7, 3]⟩] }))

/-- Port 0 (I2S) is enabled as a slave at 48 kHz, and runs. -/
def portAud : State := chg up (fun c => (c.setRec tyAudPorts 0 (bytes [0, 0, 16, 0])).modPort 0 (fun x => { x with clock := 2, rate := 480000, measured := some 480000, cls := 3, muted := false }))

/-- Source 5 comes from SDI lane 2, in 1080p50, and a frame of it is being written to buffer 1. -/
def ingestUp : State := chg up (fun c => ((c.setRec tySdi 2 (bytes [2, 0, 5, 0, 0, 5, 255, 255, 0, 0, 0, 0])).modSrc 5 (fun x => { x with format := some ⟨1920, 1080, 0, 0, 10, 8⟩ })).modSync 5
  (fun y => { y with active := true, writing := some 1, nextFrame := 9 }))

/-- Destination 5 reads source 1024 through the frame path, and its buffer 0 is latched. -/
def readUp : State := chg genUp (fun c => (c.setRoute 5 0 (some { src := 1024, dev := none, path := .frame })).modSync 1024 (fun y =>
  { y with bufs := [(0, { Buffer.reset with frame := some 4 })], newest := some 0, decisions := [(0, { Decision.reset with latched := some 0, live := true })] }))

/-- Composer 0 is enabled in domain 0, and owns surface 3 of 64 by 16 pixels. -/
def cmpUp : State := chg up (fun c => (c.setRec tyComposers 0 (bytes [0, 0, 0, 64, 0, 16, 0, 0, 1, 0, 0, 0, 0, 0, 0, 0])).setSurface 3
  (some { owner := 0, width := 64, height := 16, format := 0, front := [(2, 9)], back := [(1, 7)], opaqueTiles := [], poison := [], loads := [] }))

/-- A load of all of surface 3. -/
def loadBody : List Byte := bytes ([1, 0, 0, 0, 0, 0, 0, 3, 0, 0, 0, 0, 0, 64, 0, 16] ++ List.replicate 4096 5)

/-- A layout of composer 0 that shows surface 3 in layer 0. -/
def layoutBody : List Byte :=
  bytes ([0, 0, 0, 1, 0, 0, 0, 7] ++ [2, 0, 7, 255, 0, 3, 1, 0] ++ [0, 0, 0, 0, 0, 64, 0, 16] ++ [0, 0, 0, 0, 128, 0, 128, 0, 3, 255] ++ List.replicate 38 0)

/-- Splice port 1 is enabled, aligned and in service, with neighbour 9; this device has ID 5 and the part's tick master is itself. -/
def sysUp : State := chg splUp (fun c => { ((((c.setRec tySpl 0 (bytes [0, 5, 3, 1, 1, 244, 0, 0])).set Reg.LNE_L_STATE_ALIGNED 138 1).set Reg.LNE_L_STATE_ALIGNED 139 1).set
  Reg.SPL_P_STATE_IN_SERVICE 1 1).set Reg.SPL_P_STATE_NEIGHBOUR 1 9 with
    spl := { c.spl with members := [5, 9], master := some 5, topo := [⟨9, 4, true, 0, [⟨2, 5, 0, 10⟩]⟩] } })

/-- Twin mode is enabled and this device prefers to be the active one. -/
def twinUp : State := chg up (fun c => c.setRec tyTwin 0 (bytes (3 :: List.replicate 15 0)))

/-- This device is the synchronised standby. -/
def standbyUp : State := chg twinUp (fun c => (c.set Reg.SPL_TWIN_ROLE 0 2).set Reg.SPL_TWIN_SYNCED 0 1)

/-- An exchange of slot 0 for one take. -/
def exchUp : State := chg up (fun c => { c with spl := { c.spl with exchanges :=
  [{ slot := 0, session := 7, asks := [⟨5, 9, 65535, 1⟩], nb := none, notify := false, salvo := false, since := 0 }] } })

/-- Destination 5 takes source 20 of device 9, and a line of it has been gathered in part. -/
def importUp : State := chg up (fun c => { c with spl := { c.spl with
  imports := [⟨pairKey (some 9) 20 0, 1, 100, 0, 9, 500, [], some ⟨1920, 1080, 0, 0, 10, 8⟩⟩],
  gathered := [(pairKey (some 9) 20 0 * 8192 + 7, [⟨0, 0, bytes [1, 2]⟩])] } })

/-- A tick cell to every device, with its check value. -/
def tickCell : List Byte := bytes ([2, 0, 128, 0] ++ List.replicate 8 0 ++ [0x9f, 0x2a, 0x26, 0x2e] ++ List.replicate 240 0)

/-- An interval of flow watch of 50 ticks is to be closed; source 5 comes from flow 9. -/
def watchUp : State := chg up (fun c => (({ c with fwa := { c.fwa with ticks := 50 } } : Chip).modDom 0 (fun m => { m with fwaOpen := true })).setRec tyRx 9 (bytes [0, 9, 0, 1, 0, 5]))

/-- The definition of set 4: channel 0 of domain 0, triggered by the pin or a message. -/
def setDef : List Byte := bytes ([4, 3, 0, 0, 0, 0, 0, 1, 0, 0, 0, 0, 0, 0, 0, 100, 0, 0, 0, 200, 0, 0, 0, 0])

/-- The capture store is ready on one drive; channel 0 and player 1 are enabled. -/
def capUp : State := chg up (fun c => (((({ c with cap := { c.cap with ready := true, store := 5 } } : Chip).setRec tyDrives 0 (bytes [0, 1, 0x1B, 0x58])).setRec tyCapCh 0
  (bytes [0, 0, 0, 1, 0, 0, 0, 0])).setRec tyPlayers 1 (bytes [1, 0, 1, 0])).modDrive 0 (fun _ => { present := true, failed := false, label := some 5, extents := 100, width := 4, gen := 5 }))

/-- Set 4 is armed. -/
def armedUp : State := chg capUp (fun c => c.modSet 4 (fun _ => { CapSet.reset with state := 1, body := setDef, reserved := 9 }))

/-- Set 4 is complete, with one kept frame of channel 0; player 1 plays it. -/
def keptUp : State := chg capUp (fun c => (c.modSet 4 (fun _ => { CapSet.reset with state := 3, rate := 7, body := setDef, reserved := 9, chans := [(0, { CapChan.reset with rate := 1000, kept := [{ kind := 1, uptime := 0, frame := 1, bytes := bytes (List.replicate 64 0) }] })] })).modPlayer 1 (fun p => { p with set := 4 }))

/-- Player 1 plays. -/
def playUp (state : Nat) : State := chg keptUp (fun c => c.modPlayer 1 (fun p => { p with state := state }))

/-- A replay of set 4 runs; its recording has two ticks. -/
def replayUp : State := chg keptUp (fun c => ({ c with cap := { c.cap with replay := some { set := 4, cause := 1, index := 0, notBefore := 0, slot := 0, session := 7 } } } : Chip).modSet 4
  (fun x => { x with endAt := 9, ctl := [1, 2].map (fun n => { sev := 0, block := 15, code := 5, seq := 0, uptime := n, sec := 0, ns := 0, repeats := 0, spanMs := 0, payload := [0, n], latest := n, committed := false, ctl := some 4 }) }))

/-- The bytes of the first copy of a key table whose session key 2 has privilege up to `MAINTAIN`, by place: its CRC is that of R597. -/
def keyPairs : List (Nat × Nat) :=
  [(0, 84), (1, 75), (2, 75), (3, 89), (7, 1), (80, 1), (144, 2), (145, 1), (146, 3)] ++ (List.range 32).map (fun i => (176 + i, 7)) ++
    (List.range 21).map (fun i => (208 + 64 * i, i + 3)) ++ [(1552, 153), (1553, 17), (1554, 6), (1555, 21)]

/-- Flash with that key table. -/
def keyedMem : Tbl Byte := keyPairs.map (fun e => (keySector 2 + e.1, BitVec.ofNat 8 e.2))

/-- A module whose flash has a session key. -/
def keyedUp : State := { up with mem := keyedMem }

/-- The first 56 bytes of an `OPEN`. -/
def openHead : List Byte :=
  bytes ([0x4C, 0x4E, 1, 1] ++ List.replicate 12 0 ++ [2, 3] ++ [5, 120] ++ List.replicate 4 0 ++ List.replicate 32 9)

/-- An `OPEN` with its MAC, HMAC-SHA-256 under the key of 32 bytes of 7. -/
def openBody : List Byte := openHead ++ bytes
  [155, 19, 25, 1, 163, 193, 51, 244, 124, 191, 215, 152, 243, 212, 78, 235, 227, 124, 5, 222, 163, 152, 48, 252, 253, 66, 22, 62, 142, 83,
   101, 130]

/-- The session of slot 0 has a key. -/
def sealUp : State := chg up (fun c => c.modSession 0 (fun x => { x with key := bytes (List.replicate 32 3) }))

/-- The outer header of the datagram 1 of session 7. -/
def sealHead : List Byte := bytes ([0x4C, 0x4E, 1, 3] ++ [0, 0, 0, 7] ++ [0, 0, 0, 0, 0, 0, 0, 1])

/-- A datagram of session 7 on channel 4, sealed under the key of 32 bytes of 3. -/
def sealBody : List Byte := sealHead ++ bytes
  [130, 172, 195, 58, 135, 223, 8, 165, 4, 0, 175, 170, 116, 239, 19, 214, 156, 249, 84, 45, 9, 127, 196, 218, 123, 18, 236, 100, 67, 97, 181,
   65, 49, 6, 127, 78, 178, 172, 56, 20, 44, 52, 15, 85, 235, 221, 136, 148, 57, 33, 100, 95, 140, 218, 198, 99]

/-- Session 7 has an incomplete request, a complete one, an unacknowledged notice and lost notices. -/
def busyUp : State :=
  chg up (fun c => c.modSession 0 (fun x => { x with partials := [⟨2, 1, 9, [], 0⟩], complete := [(1, 1, [])], notices := [⟨1, 0x8001, bytes [5], 0, 20⟩], lost := 3 }))

/-- Slot 0 is half-open. -/
def halfUp : State := chg up (fun c => c.modSession 0 (fun x => { x with state := .halfOpen }))

/-- The firmware load is loading block 1; block 0 is written. -/
def loadUp : State := chg up (fun c => c.modLoad 1 (fun _ => { Load.idle with state := .loading, arg := 1, bank := 2, written := [0], slot := 0, session := 7, reqSeq := 1 }))

/-- The firmware load erases its bank. -/
def eraseUp : State := chg loadUp (fun c => c.modLoad 1 (fun x => { x with state := .erasing, written := [] }))

/-- The firmware load is verified. -/
def verifyUp : State := chg loadUp (fun c => c.modLoad 1 (fun x => { x with verifying := true }))

/-- The settings load is armed. -/
def armedSet : State := chg up (fun c => c.modLoad 2 (fun _ => { Load.idle with state := .armed, arg := 1, bank := 2 }))

/-- An activation of the settings is in a state. -/
def actUp (state : Nat) : State := chg armedSet (fun c => { c with upd := { c.upd with act := some ⟨state, 2, none, 0, none, 0, 7, 1⟩ } })

/-- A `SAVE` and an enrolment are in progress. -/
def flashUp : State :=
  chg up (fun c => { c with upd := { c.upd with save := some ⟨0, 7, 1, 0, false, 0, bytes [1]⟩, enrol := some ⟨0, 7, 1, 3, true, 2, bytes (List.replicate 32 5)⟩ } })

/-- The service cores run; one freeze of the window, one record in the ring, two records handed over and one waiting for the archive. -/
def rec1 : Rec := { sev := 4, block := 18, code := 2, seq := 0, uptime := 0, sec := 0, ns := 0, repeats := 0, spanMs := 0, payload := [1], latest := 0, committed := false, ctl := none }

/-- Two records handed over, one that waits for the archive. -/
def logUp : State := chg up (fun c => { c with log := { c.log with handed := [rec1, rec1], commit := [{ rec1 with seq := 5 }], ring := [{ rec1 with code := 3 }] } })

/-- A freeze of the window. -/
def frozenUp : State := chg up (fun c => { c with log := { c.log with freeze := some { owner := .window, since := 0 }, side := [rec1] } })

/-- A warm restart is in progress. -/
def restartUp : State := chg up (fun c => { (c.set Reg.FLT_STATUS_RESTART 0 1).set Reg.XPT_STATUS_RESTART 0 1 with flt := { c.flt with abandoned := [(0, 7, 1)] } })

/-- The jobs of domain 1 are open. -/
def jobsUp : State :=
  chg up (fun c => c.modDom 1 (fun x => { x with frame := 9, jobFrame := some 9, syncOpen := true, cmpOpen := true, occlOpen := true, fwaOpen := true }))

/-- A transaction of M8 at T1. -/
def tx8 : FabTx := ⟨8, 1, 0x10000000, true, [5, 6], false, false, 0, 0, 0, false⟩

/-- The transaction of M8 has its target, and one of M1 waits. -/
def fabUp : State :=
  chg up (fun c => { c with fab := { c.fab with txs := [{ tx8 with granted := true }, { tx8 with master := 1, write := false }], ports := [(1, { FabPort.reset with parked := none })] } })

/-- A transaction of M5 at T3 waits. -/
def fabLate : State := chg up (fun c => { c with fab := { c.fab with txs := [⟨5, 3, 0x40000000, false, [0], false, false, 0, 0, 0, false⟩] } })

/-- Two requests wait on channel 3; the client of the oldest one is in backoff and the next grant counter is 0. -/
def backoffState : State := chg up (fun c => c.modArbiter 3 (fun a =>
  { a with grants := 15, off := [4], waiting := [⟨0, 0, 9, 32, false, true⟩, ⟨4, 0, 2, 32, false, true⟩] }))

/-- A swap is pending and the shadow of channel 7 gives an owner to a slot of the tail. -/
def badShadow : State := chg up (fun c => { c with arb := { c.arb with swapPend := true, shadow := { c.arb.shadow with writes := [(7 * 32768 + 18290, 3)] } } })

/-- A module whose splice system has two members. -/
def partUp : State := chg up (fun c => { c with spl := { c.spl with members := [1, 2] } })

/-- A record in the ring, the register window's cursor on it. -/
def windowUp : State := chg up (fun c => ({ c with log := { c.log with ring := [{ rec1 with seq := 4 }] } } : Chip).set Reg.LOG_WIN_CURSOR_SEQ 0 2)

/-- A session that may observe only. -/
def observerUp : State := chg up (fun c => c.modSession 0 (fun x => { x with priv := 1 }))

/-- A session that may configure but not maintain. -/
def configUp : State := chg up (fun c => c.modSession 0 (fun x => { x with priv := 2 }))

/-- The key table of `keyedMem` lies in the keys region. -/
theorem keysOnly : ∀ a, a < 0x1C000000 ∨ 0x1C0FFFFF < a → Tbl.get memUnlisted keyedUp.mem a = Tbl.get memUnlisted [] a := by
  have h : ∀ e ∈ keyedMem, 0x1C000000 ≤ e.1 ∧ e.1 ≤ 0x1C0FFFFF := by decide +kernel
  intro a ha
  exact Tbl.get_ne_listed _ _ _ (fun e he => by have := h e he; omega)


/-! ## The hypotheses of every statement are met by a state and operands -/

theorem witness_SlotTableCommandsComplete :
    (∃ (s : State) (t : Nat),
    s.runs) ∧
    (∃ (s : State) (t : Nat),
    s.runs ∧ s.chip.arb.swapPend = true ∧ s.chip.fst.ready = true ∧ s.chip.arb.shadow.invalid = []) ∧
    (∃ (s : State) (t : Nat) (v : Bool),
    s.runs) ∧
    (∃ (s : State) (t : Nat),
    s.runs) ∧
    (∃ (s : State) (t : Nat),
    s.runs ∧ s.chip.tick.running = true ∧ 6 * (s.chip.tick.slotFrames + 1) ≤ s.chip.tick.samples ∧ s.chip.arb.maskLive = 0) ∧
    (∃ (s : State) (t : Nat),
    s.runs) ∧
    (∃ (s : State) (t : Nat) (ch : Fin 64) (client : Fin 6),
    s.runs) :=
  ⟨⟨up, 5, by decide +kernel⟩,
   ⟨chg up (fun c => { c with arb := { c.arb with swapPend := true } }), 7, by decide +kernel⟩,
   ⟨up, 7, true, by decide +kernel⟩,
   ⟨chg up (fun c => (c.set (Reg.ARB_RT_ABANDON_COUNT 2) 0 9).set (Reg.ARB_BE_BEATS_COUNT 1) 0 4), 7, by decide +kernel⟩,
   ⟨chg up (fun c => { c with tick := { c.tick with samples := 6 }, arb := { c.arb with catchUp := [(3, 1)] } }), 9, by decide +kernel⟩,
   ⟨chg up (fun c => { c with arb := { c.arb with arbiters := [(3, { Arbiter.reset with spent := [(1, 4)] })] } }), 7, by decide +kernel⟩,
   ⟨chg up (fun c => c.modArbiter 3 (fun a => { a with off := [2, 1] })), 7, 3, 2, by decide +kernel⟩⟩

theorem witness_BestEffortCommandsComplete :
    (∃ (s : State) (t : Nat) (ch : Fin 64) (client : Fin 6) (leaf : Fin 32) (beats : Nat) (lock write : Bool),
    let key := if hasLeaves client then localKey ch client else ch.val
    s.runs ∧ s.chip.fst.ready = true ∧ bit (s.chip.fld Reg.ARB_QUAR_CLIENT 0) client = false ∧ leaf.val < leavesOf client ∧ ((∀ x ∈ (s.chip.arbiter key).waiting ++ (s.chip.arbiter key).grant.toList, x.client ≠ client.val ∨ x.leaf ≠ leaf.val))) ∧
    (∃ (s : State) (t : Nat) (ch : Fin 64) (slot : Fin 18304) (ready : List (Fin 5)) (a : Arbiter) (q : BeReq),
    s.runs ∧ s.chip.fst.ready = true ∧ s.chip.arb.active.owner ch slot = 0 ∧ s.chip.arb.catchUp = [] ∧ (s.chip.arbiter ch).decideNext BeReq.client (fun r => s.chip.credit ch r.client) (fun r => r.lock && decide (18288 ≤ slot.val)) = (a, some q)) ∧
    (∃ (s : State) (t : Nat) (ch : Fin 64) (q : BeReq),
    s.runs ∧ (s.chip.arbiter ch).grant = some q ∧ q.client < 6 ∧ s.chip.fld Reg.ARB_HOG_LIMIT_BEATS 0 < q.beats) ∧
    (∃ (s : State) (t : Nat) (mask : Fin 64),
    s.runs) :=
  ⟨⟨up, 7, 3, 0, 0, 32, false, true, by decide +kernel⟩,
   ⟨waitState, 7, 3, 5, [], { Arbiter.reset with grants := 1 }, ⟨4, 0, 2, 32, false, true⟩, by decide +kernel⟩,
   ⟨hogState, 7, 3, ⟨4, 0, 2, 300, false, true⟩, by decide +kernel⟩,
   ⟨quarState, 7, 48, by decide +kernel⟩⟩

theorem witness_ResetCausesEnterReset :
    (∃ (s : State) (t : Nat),
    s.memOk) ∧
    (∃ (s : State) (t : Nat),
    s.memOk) ∧
    (∃ (s : State) (t : Nat) (key : Fin 65536),
    s.runs ∧ s.memOk ∧ key.val = 0xC0DE) ∧
    (∃ (s : State) (t : Nat) (key : Fin 65536),
    s.runs ∧ key.val ≠ 0xC0DE) ∧
    (∃ (s : State) (t : Nat) (rail : Fin 11) (mv : Nat),
    s.memOk) ∧
    (∃ (s : State) (t : Nat) (sensor : Fin 12) (reading : Int),
    s.memOk) ∧
    (∃ (s : State) (t : Nat),
    s.chip.pwr.tripped = true) :=
  ⟨⟨chg flashed (fun c => { c with run := .inReset }), 7, by decide +kernel⟩,
   ⟨flashed, 7, by decide +kernel⟩,
   ⟨flashed, 7, 0xC0DE, by decide +kernel⟩,
   ⟨flashed, 7, 5, by decide +kernel⟩,
   ⟨flashed, 7, 3, 600, by decide +kernel⟩,
   ⟨flashed, 7, 3, 2000, by decide +kernel⟩,
   ⟨chg State.reset (fun c => { c with run := .inReset, pwr := { c.pwr with tripped := true } }), 7, by decide +kernel⟩⟩

theorem witness_StartUpCommandsComplete :
    (∃ (s : State) (t : Nat) (recoveryLow : Bool) (fails : List (Fin 2)),
    s.chip.run = .inReset ∧ s.chip.pin.resetLow = false ∧ s.chip.pwr.railLow = false ∧ s.chip.pwr.tripped = false) ∧
    (∃ (s : State) (t : Nat) (fails : List (Fin 2)),
    s.runs ∧ s.chip.boot.lo = false ∧ s.chip.boot.booted = false) ∧
    (∃ (s : State) (t : Nat),
    s.runs ∧ s.chip.boot.booted = true ∧ s.chip.boot.lo = true ∧ s.chip.tick.running = false) ∧
    (∃ (s : State) (t : Nat) (fails : List (Fin 2)),
    s.runs ∧ s.chip.boot.timing = true ∧ s.chip.boot.pilotAt = none) ∧
    (∃ (s : State) (t : Nat) (fails : List (Fin 2)),
    s.runs ∧ s.chip.phase = 1 ∧ s.chip.boot.released = false) ∧
    (∃ (s : State) (t : Nat),
    s.runs ∧ s.chip.phase = 1 ∧ s.chip.unmet = 0) ∧
    (∃ (s : State) (t : Nat),
    s.runs ∧ s.chip.boot.fullAt = none ∧ s.chip.phase ≠ 4 ∧ s.chip.released + secU 4 ≤ max s.chip.now t ∧ s.chip.isSet Reg.BOOT_STATUS_LATE 0 = false) ∧
    (∃ (s : State) (t : Nat),
    s.runs ∧ s.chip.phase = 1 ∧ ((s.chip.isSet Reg.FST_STATUS_TRAIN_FAIL 0 = true ∨ s.chip.released + secU 10 ≤ max s.chip.now t))) :=
  ⟨⟨chg flashed (fun c => { c with run := .inReset }), 7, false, [], by decide +kernel⟩,
   ⟨chg State.reset (fun c => { c.set Reg.BOOT_STATUS_LO_WAIT 0 1 with boot := { c.boot with lo := false } }), 7, [], by decide +kernel⟩,
   ⟨chg up (fun c => { c with tick := TickSt.reset }), 7, by decide +kernel⟩,
   ⟨chg up (fun c => { c.set Reg.BOOT_STATUS_PHASE 0 0 with boot := { c.boot with pilotAt := none } }), 7, [], by decide +kernel⟩,
   ⟨chg up (fun c => { c.set Reg.BOOT_STATUS_PHASE 0 1 with boot := { c.boot with released := false } }), 7, [], by decide +kernel⟩,
   ⟨chg up (fun c => { c.set Reg.BOOT_STATUS_PHASE 0 1 with boot := { c.boot with fullAt := none } }), 7, by decide +kernel⟩,
   ⟨chg up (fun c => { c.set Reg.BOOT_STATUS_PHASE 0 1 with boot := { c.boot with fullAt := none } }), 108000000000, by decide +kernel⟩,
   ⟨chg up (fun c => (c.set Reg.BOOT_STATUS_PHASE 0 1).set Reg.FST_STATUS_TRAIN_FAIL 0 1), 7, by decide +kernel⟩⟩

theorem witness_PowerAndPinCommandsComplete :
    (∃ (s : State) (t : Nat) (mv : List Nat),
    mv.length = 11) ∧
    (∃ (s : State) (t : Nat) (readings : List Int),
    readings.length = 12) ∧
    (∃ (s : State) (t : Nat) (conds : Fin 8),
    let seen := if s.chip.warnEn then conds.val else conds.val % 4
    s.runs ∧ s.chip.pwr.hold = none ∧ seen ≠ 0) ∧
    (∃ (s : State) (t : Nat) (h : SupplyHold),
    s.runs ∧ s.chip.pwr.hold = some h) ∧
    (∃ (s : State) (t : Nat),
    s.runs) :=
  ⟨⟨up, 7, [750, 850, 1200, 900, 1100, 400, 1800, 900, 900, 1800, 1800], by decide +kernel⟩,
   ⟨up, 7, [400, 500, 480, 0, 0, 0, 0, 0, 0, 0, 0, 0], by decide +kernel⟩,
   ⟨up, 7, 2, by decide +kernel⟩,
   ⟨chg up (fun c => { c.set Reg.PWR_STATUS_HOLD 0 1 with pwr := { c.pwr with hold := some ⟨0, 2, 0⟩ } }), 270000, ⟨0, 2, 0⟩, by decide +kernel⟩,
   ⟨chg up (fun c => (c.set Reg.PWR_HOLDS_COUNT 0 3).set Reg.PWR_RAIL_V_MIN_MV 4 5), 7, by decide +kernel⟩⟩

theorem witness_LocalOscillatorCommandsComplete :
    (∃ (s : State) (t : Nat),
    s.runs ∧ s.chip.boot.lo = true ∧ s.chip.boot.booted = true) ∧
    (∃ (s : State) (t : Nat),
    s.runs ∧ s.memOk ∧ s.chip.boot.lo = false ∧ s.chip.boot.booted = true) :=
  ⟨⟨up, 7, by decide +kernel⟩,
   ⟨chg flashed (fun c => { c with boot := { c.boot with lo := false } }), 7, by decide +kernel⟩⟩

theorem witness_TimingCommandsComplete :
    (∃ (s : State) (t : Nat) (td : Fin 4) (leads : List LeadFact) (origin : Option Int) (late : List (Fin 32)) (syncInTime cmpInTime : Bool),
    s.runs ∧ s.chip.tick.running = true) ∧
    (∃ (s : State) (t : Nat) (td : Fin 4) (mark : Fin 5) (cause : Nat) (ph : Int),
    s.runs ∧ (s.chip.dom td).due = some cause ∧ (s.chip.dom td).phase = some ph) ∧
    (∃ (s : State) (t : Nat) (td : Fin 4),
    s.runs ∧ s.chip.tick.running = true ∧ s.chip.tdOn td = true ∧ s.chip.suspended = false) ∧
    (∃ (s : State) (t : Nat) (dst : Fin 1568) (td : Fin 4),
    s.runs ∧ td.val = s.chip.dstTd dst ∧ (s.chip.dom td).jobFrame = some (s.chip.dom td).frame) ∧
    (∃ (s : State) (t : Nat) (src : Fin 1120) (r : Nat),
    s.runs ∧ s.chip.srcRate src = some r ∧ s.chip.bound src = true ∧ (s.chip.src src).lost = false ∧ (s.chip.src src).lastGood + s.chip.fld Reg.XPT_SRC_CFG_LOSS_FRAMES src * framePeriod r ≤ max s.chip.now t) ∧
    (∃ (s : State) (t : Nat),
    s.runs) ∧
    (∃ (s : State) (t : Nat),
    s.runs) :=
  ⟨⟨up, 7, 0, [], none, [], true, true, by decide +kernel⟩,
   ⟨chg up (fun c => c.modDom 1 (fun m => { m with due := some 2, phase := some (-5) })), 7, 1, 3, 2, -5, by decide +kernel⟩,
   ⟨up, 7, 0, by decide +kernel⟩,
   ⟨chg up (fun c => c.modDom 0 (fun m => { m with jobFrame := some 0 })), 7, 5, 0, by decide +kernel⟩,
   ⟨genUp, 27000000000, 1024, 7, by decide +kernel⟩,
   ⟨chg up (fun c => c.set (Reg.TICK_TD_OVR_CMP 2) 0 5), 7, by decide +kernel⟩,
   ⟨chg up (fun c => c.set Reg.XPT_QUEUE_PEAK 0 9), 7, by decide +kernel⟩⟩

theorem witness_CrosspointRequestsComplete :
    (∃ (s : State) (t : Nat) (slot : Fin 16) (body : List Byte),
    let q : TakeAsk := ⟨u16 body 0, u16 body 2, u16 body 4, u8 body 6⟩
    let nb := notBeforeOf (u8 body 7) (u64 body 8) (u32 body 16)
    s.serving slot 0x0101 1 ∧ takeBodyOk body = true ∧ s.chip.remoteInPart q = false ∧ s.chip.mustHold q = false ∧ (s.upon t).checkTake q nb none = none) ∧
    (∃ (s : State) (t : Nat) (slot : Fin 16) (body : List Byte) (c1 : Chip),
    let asks := salvoAsks body
    let nb := notBeforeOf (u8 body 2) (u64 body 8) (u32 body 4)
    s.serving slot 0x0102 1 ∧ salvoBodyOk body = true ∧ asks ≠ [] ∧ asks.length ≤ 4096 ∧ hasDup (asks.map TakeAsk.dst) = false ∧ asks.any s.chip.remoteInPart = false ∧ asks.any s.chip.mustHold = false ∧ (s.upon t).admitAll (s.chip.lan.takeId + 1) nb (bit (u8 body 2) 0) slot (s.chip.session slot).id asks.length false 0 [] asks = .ok c1) ∧
    (∃ (s : State) (t : Nat) (slot : Fin 16) (body : List Byte),
    let id := u64 body 0
    s.serving slot 0x0103 1 ∧ body.length = 8 ∧ (((s.chip.xpt.queue.filter (fun q => q.id == id)) ≠ [] ∨ (s.chip.xpt.audQueue.filter (fun q => q.id == id)) ≠ [])) ∧ ((∀ q ∈ s.chip.xpt.queue, q.id = id → q.staged = false ∧ q.salvo ≤ (s.chip.xpt.queue.filter (fun q => q.id == id)).length)) ∧ ((∀ q ∈ s.chip.xpt.audQueue, q.id = id → q.count ≤ q.records.length))) ∧
    (∃ (s : State) (t : Nat) (slot : Fin 16) (body : List Byte),
    s.serving slot 0x0104 1 ∧ audioBodyOk body = true ∧ s.chip.audMustHold (audioRecords body) = false ∧ (s.upon t).checkAud (audioRecords body) (notBeforeOf (u8 body 2) (u64 body 8) (u32 body 4)) = none) ∧
    (∃ (s : State) (t : Nat) (slot : Fin 16) (body : List Byte),
    s.serving slot 0x0106 2 ∧ body.length = 4 ∧ u8 body 0 < 16 ∧ zeroAt body 1 3 = true ∧ s.chip.realignBad (u8 body 0) = false) :=
  ⟨⟨up, 7, 0, bytes [0, 5, 0, 9, 255, 255, 1, 0, 0, 0, 0, 0, 0, 0, 0, 0, 0, 0, 0, 0, 0, 0, 0, 0], by decide +kernel⟩,
   ⟨up, 7, 0, twoTakes, ((up.upon 7).enqueue ⟨5, 9, 65535, 1⟩ 1 none false 0 7 2 false).enqueue ⟨6, 9, 65535, 1⟩ 1 none false 0 7 2 false, by decide +kernel⟩,
   ⟨queuedUp, 7, 0, bytes [0, 0, 0, 0, 0, 0, 0, 3], by decide +kernel⟩,
   ⟨chg up (fun c => c.setRec tyDstCh 5 (bytes [0, 5, 4, 0, 0, 0, 0, 0])), 7, 0, bytes [0, 1, 0, 0, 0, 0, 0, 0, 0, 0, 0, 0, 0, 0, 0, 0, 0, 5, 127, 255, 128, 0, 0, 0], by decide +kernel⟩,
   ⟨up, 7, 0, bytes [1, 0, 0, 0], by decide +kernel⟩⟩

theorem witness_ReceptionCommandsComplete :
    (∃ (s : State) (t : Nat) (port : Fin 18) (breakout : Fin 8) (data : List Byte) (fcsOk full : Bool),
    s.runs ∧ (s.chip.mac (macKey port breakout)).up = true ∧ (isHostPort port = false ∨ (s.chip.mac (macKey port 0)).pausing = false) ∧ data.length < 64) ∧
    (∃ (s : State) (t : Nat) (port : Fin 18) (breakout : Fin 8) (data : List Byte) (fill : Nat) (learnt : Option Format) (deepFull : List (Fin 8)),
    s.runs ∧ (s.chip.mac (macKey port breakout)).up = true ∧ 64 ≤ data.length ∧ data.length ≤ s.chip.maxFrame port ∧ (readEth (data.take (data.length - 4))).tags ≤ 1 ∧ (readEth (data.take (data.length - 4))).etype ≠ 0x8808 ∧ s.chip.macAccepts port breakout (readEth (data.take (data.length - 4))).dst = true) ∧
    (∃ (s : State) (t : Nat) (port : Fin 18) (breakout : Fin 8) (data : List Byte) (fcsOk full : Bool) (fill : Nat) (learnt : Option Format) (deepFull : List (Fin 8)),
    s.runs ∧ (s.chip.mac (macKey port breakout)).up = false) ∧
    (∃ (s : State) (t : Nat) (flow : Fin 4096) (o : Nat × Nat),
    s.runs ∧ (s.chip.rx flow).other = some o ∧ o.2 + msU 50 ≤ max s.chip.now t) ∧
    (∃ (s : State) (t : Nat) (flow : Fin 4096) (pathB : Bool),
    let limit := if flowKind (s.chip.record tyRx flow) = 4 then 3 * framePeriod (u8 (s.chip.record tyRx flow) 101) else msU 10
    s.runs ∧ (if pathB then (s.chip.rx flow).upB else (s.chip.rx flow).upA) = true ∧ (if pathB then (s.chip.rx flow).lastB else (s.chip.rx flow).lastA) + limit ≤ max s.chip.now t) ∧
    (∃ (s : State) (t : Nat) (flow : Fin 4096),
    s.runs ∧ flowOn (s.chip.record tyRx flow) = true ∧ flowDual (s.chip.record tyRx flow) = true) ∧
    (∃ (s : State) (t : Nat) (port : Fin 16) (breakout : Fin 8),
    s.runs) ∧
    (∃ (s : State) (t : Nat) (dst : Fin 1568) (line : Nat),
    s.runs ∧ s.chip.route dst 0 = none ∧ s.chip.route dst 1 = none ∧ s.chip.ancFlow dst = none ∧ s.chip.twinHeld = false ∧ isCapture dst = false) ∧
    (∃ (s : State) (t : Nat),
    s.runs) :=
  ⟨⟨linkedUp, 7, 0, 0, bytes [1, 2, 3], true, false, by decide +kernel⟩,
   ⟨linkedUp, 7, 0, 0, (List.replicate 6 255 ++ List.replicate 58 0 : List Byte), 0, none, [], by decide +kernel⟩,
   ⟨up, 7, 0, 0, bytes [1, 2, 3], true, false, 9, none, [], by decide +kernel⟩,
   ⟨chg up (fun c => c.modRx 9 (fun x => { x with ssrc := some 4, other := some (5, 0) })), msU 60, 9, (5, 0), by decide +kernel⟩,
   ⟨chg up (fun c => c.modRx 9 (fun x => { x with upB := true })), msU 60, 9, true, by decide +kernel⟩,
   ⟨dualUp, 7, 9, by decide +kernel⟩,
   ⟨chg up (fun c => { c with net := { c.net with reports := [⟨⟨0, 0, 0, false, 5, []⟩, false, false, 2⟩, ⟨⟨1, 0, 0, false, 5, []⟩, false, false, 2⟩] } }), 7, 0, 0, by decide +kernel⟩,
   ⟨up, 7, 5, 42, by decide +kernel⟩,
   ⟨chg up (fun c => c.set Reg.PMI_F_LOST_COUNT 8 4), 7, by decide +kernel⟩⟩

theorem witness_EgressFlowCommandsComplete :
    (∃ (s : State) (t : Nat) (flow : Fin 4096),
    s.runs ∧ (s.chip.tx flow).next = 0 ∧ ((flowKind (s.chip.record tyTx flow) = 2 ∨ flowKind (s.chip.record tyTx flow) = 3)) ∧ s.chip.txOn flow = true) ∧
    (∃ (s : State) (t : Nat) (flow : Fin 4096),
    s.runs ∧ (s.chip.tx flow).next ≠ 0 ∧ ((flowKind (s.chip.tx flow).record = 0 ∨ flowKind (s.chip.tx flow).record = 5)) ∧ (s.chip.tx flow).sending = true) ∧
    (∃ (s : State) (t : Nat) (ch : Fin 8) (x : Injection),
    s.runs ∧ Tbl.get none s.chip.net.inject ch = some x ∧ injCount x.desc ≤ x.next + 1) ∧
    (∃ (s : State) (t : Nat) (port : Fin 18) (breakout : Fin 8) (x : TxFrame),
    let k := macKey port breakout
    s.runs ∧ (s.chip.mac k).frames.find? (fun x => x.queue == 7) = some x ∧ s.chip.queueStopped port k 7 = false ∧ (s.chip.mac k).up = true) ∧
    (∃ (s : State) (t : Nat) (flow : Fin 4096) (p : RingPkt) (f : Nat),
    let r := s.chip.record tyTx flow
    s.runs ∧ flowKind r = 1 ∧ s.chip.txOn flow = true ∧ ((s.chip.withheld r = false ∨ (s.chip.tx flow).inFrame = true)) ∧ (((s.chip.tx flow).src = s.chip.passSource r ∨ (s.chip.tx flow).inFrame = true)) ∧ (s.chip.tx flow).src = some f ∧ (s.chip.rx f).nextIn (s.chip.tx flow).readIdx = some p ∧ p.arrived + usU 19 ≤ max s.chip.now t ∧ (s.chip.tx flow).awaitMark = false) ∧
    (∃ (s : State) (t : Nat),
    s.runs) ∧
    (∃ (s : State) (t : Nat) (slot : Fin 16) (body : List Byte) (i : Nat),
    let d := body.take 154
    s.serving slot 0x010A 2 ∧ 154 < body.length ∧ body.length ≤ 154 + 262144 ∧ s.chip.injFields body = true ∧ zeroAt body (28 + u8 body 3) (126 - u8 body 3) = true ∧ (s.upon t).deviceQ + usU 100 * 65536 ≤ qOf (u64 d 8) (u32 d 16) ∧ s.chip.injBad d (body.length - 154) = false ∧ s.chip.freeChannel = some i) :=
  ⟨⟨audTxUp, 7, 3, by decide +kernel⟩,
   ⟨chg up (fun c => c.modTx 3 (fun x => { x with next := 1, sending := true, record := bytes [0, 3, 5, 1, 0, 9] })), 7, 3, by decide +kernel⟩,
   ⟨chg up (fun c => { c with net := { c.net with inject := [(2, some ⟨bytes (List.replicate 28 0), [], 0, 0, 7, 1⟩)] } }), 7, 2, ⟨bytes (List.replicate 28 0), [], 0, 0, 7, 1⟩, by decide +kernel⟩,
   ⟨chg linkedUp (fun c => c.modMac 0 (fun m => { m with frames := [⟨7, bytes [1, 2], some 0, 4, none, none, false⟩] })), 7, 0, 0, ⟨7, bytes [1, 2], some 0, 4, none, none, false⟩, by decide +kernel⟩,
   ⟨passUp, msU 1, 3, ⟨4, 0, 100, 5, false, bytes [9]⟩, 6, by decide +kernel⟩,
   ⟨chg up (fun c => c.set Reg.PMO_F_LATE_COUNT 8 4), 7, by decide +kernel⟩,
   ⟨up, 7, 0, injBody, 0, by decide +kernel⟩⟩

theorem witness_MacCommandsComplete :
    (∃ (s : State) (t : Nat) (port : Fin 18) (breakout : Fin 8) (req : SendReq),
    let k := macKey port breakout
    let largest := if req.segment then min req.segLen req.payload.length else req.payload.length
    s.runs ∧ breakout.val < s.chip.breakouts port) ∧
    (∃ (s : State) (t : Nat) (port : Fin 18) (breakout : Fin 8) (first : Option Nat) (x : TxFrame),
    let k := macKey port breakout
    s.runs ∧ (s.chip.mac k).up = true ∧ ((([6, 5, 4, 3, 2, 1, 0] : List Nat).filterMap (fun q => (s.chip.mac k).frames.find? (fun x => x.queue == q))).find? ((s.upon t).mayStart port k first)) = some x) ∧
    (∃ (s : State) (t : Nat) (port : Fin 18) (breakout : Fin 8) (e : SendSt),
    let k := macKey port breakout
    s.runs ∧ (s.chip.mac k).sends.find? (fun e => e.left == 0) = some e) ∧
    (∃ (s : State) (t : Nat) (port : Fin 18) (breakout : Fin 8) (q id n : Nat),
    let k := macKey port breakout
    let th := min (s.chip.fld Reg.MAC_P_CFG_START_THRESH k + 256) (s.chip.maxFrame port)
    s.runs ∧ (s.chip.mac k).current = some (q, id, n) ∧ q ≠ 7) ∧
    (∃ (s : State) (t : Nat) (port : Fin 18) (breakout : Fin 8),
    let k := macKey port breakout
    s.runs ∧ (s.chip.mac k).up = true) ∧
    (∃ (s : State) (t : Nat) (port : Fin 18) (breakout : Fin 8),
    s.runs ∧ (s.chip.mac (macKey port breakout)).up = false ∧ breakout.val < s.chip.breakouts port ∧ s.chip.macOn port = true ∧ s.chip.breakoutReady port breakout = true) ∧
    (∃ (s : State) (t : Nat) (port : Fin 18) (breakout : Fin 8) (kind : Fin 9) (u : Nat),
    let k := macKey port breakout
    s.runs ∧ Tbl.find (s.chip.mac k).pauseUntil kind = some u ∧ u ≤ max s.chip.now t) ∧
    (∃ (s : State) (t : Nat) (port : Fin 18) (kind : Fin 9) (u : Nat),
    let k := macKey port 0
    s.runs ∧ isHostPort port = true ∧ Tbl.find (s.chip.mac k).pauseSince kind = some u ∧ u + msU (s.chip.fld Reg.MAC_P_PAUSE_WD_MS k) < max s.chip.now t) ∧
    (∃ (s : State) (t : Nat) (port : Fin 18) (kind : Fin 9) (u : Nat),
    s.runs ∧ Tbl.find (s.chip.mac (macKey port 0)).ignoreUntil kind = some u ∧ u ≤ max s.chip.now t) ∧
    (∃ (s : State) (t : Nat) (port : Fin 18) (fill : Nat),
    s.runs ∧ (s.chip.mac (macKey port 0)).pausing = true ∧ 65536 < fill) ∧
    (∃ (s : State) (t : Nat),
    let p := s.chip.fld Reg.MAC_PORT_SEL_PORT 0
    let k := macKey p (s.chip.fld Reg.MAC_PORT_SEL_BREAKOUT 0)
    s.runs ∧ Reg.MAC_PORT_SEL_PORT.addr ∉ s.chip.noSel ∧ isHostPort p = false) ∧
    (∃ (s : State) (t : Nat) (port : Fin 16) (breakout : Fin 8),
    let k := macKey port breakout
    s.runs ∧ (s.chip.mac k).gateSwap = true ∧ gatesOk (s.chip.mac k).gatesNew = true) ∧
    (∃ (s : State) (t : Nat) (e : Nat × Nat × Nat) (r : List (Nat × Nat × Nat)),
    let k := macKey (s.chip.fld Reg.MAC_PORT_SEL_PORT 0) (s.chip.fld Reg.MAC_PORT_SEL_BREAKOUT 0)
    s.runs ∧ Reg.MAC_PORT_SEL_PORT.addr ∉ s.chip.noSel ∧ (s.chip.mac k).stamps = e :: r) ∧
    (∃ (s : State) (t : Nat),
    s.runs) :=
  ⟨⟨linkedUp, 7, 0, 0, sendOne, by decide +kernel⟩,
   ⟨chg linkedUp (fun c => c.modMac 0 (fun m => { m with frames := [⟨3, bytes [1, 2], none, 4, none, none, false⟩] })), 7, 0, 0, none, ⟨3, bytes [1, 2], none, 4, none, none, false⟩, by decide +kernel⟩,
   ⟨chg up (fun c => c.modMac 0 (fun m => { m with sends := [⟨1, 70, 1, 0⟩, ⟨2, 71, 0, 3⟩] })), 7, 0, 0, ⟨2, 71, 0, 3⟩, by decide +kernel⟩,
   ⟨chg linkedUp (fun c => c.modMac 0 (fun m => { m with current := some (3, 4, 100), sends := [⟨4, 70, 0, 0⟩] })), 7, 0, 0, 3, 4, 100, by decide +kernel⟩,
   ⟨linkedUp, 7, 0, 0, by decide +kernel⟩,
   ⟨trainedUp, 7, 16, 0, by decide +kernel⟩,
   ⟨chg linkedUp (fun c => c.modMac 128 (fun m => { m with pauseUntil := [(8, 5)], pauseSince := [(8, 1)] })), 7, 16, 0, 8, 5, by decide +kernel⟩,
   ⟨chg linkedUp (fun c => c.modMac 128 (fun m => { m with pauseUntil := [(8, 5)], pauseSince := [(8, 1)] })), 27000000000, 16, 8, 1, by decide +kernel⟩,
   ⟨chg linkedUp (fun c => c.modMac 128 (fun m => { m with ignoreUntil := [(8, 5)] })), 7, 16, 8, 5, by decide +kernel⟩,
   ⟨chg linkedUp (fun c => c.modMac 128 (fun m => { m with pausing := true })), 7, 16, 70000, by decide +kernel⟩,
   ⟨up, 7, by decide +kernel⟩,
   ⟨chg up (fun c => c.modMac 0 (fun m => { m with gateSwap := true, gatesNew := [(125000, 255)] })), 7, 0, 0, by decide +kernel⟩,
   ⟨chg up (fun c => c.modMac 0 (fun m => { m with stamps := [(1, 2, 70), (3, 4, 71)] })), 7, (1, 2, 70), [(3, 4, 71)], by decide +kernel⟩,
   ⟨chg up (fun c => c.set Reg.MAC_TX_PAD_COUNT 8 4), 7, by decide +kernel⟩⟩

theorem witness_SdiAndEthernetLaneCommandsComplete :
    (∃ (s : State) (t : Nat) (lane : Fin 216) (rise : Bool),
    s.runs) ∧
    (∃ (s : State) (t : Nat) (lane : Fin 64),
    let x := s.chip.lane (sdiLane lane)
    s.runs ∧ x.on = true ∧ x.lock = false ∧ bit (s.chip.sdiFlags lane) 2 = true ∧ x.triedAt + msU 2 ≤ max s.chip.now t) ∧
    (∃ (s : State) (t : Nat) (lane : Fin 64) (words : Nat) (ident : Option (Format × Fin 4)) (raster : Option Format),
    let x := s.chip.lane (sdiLane lane)
    s.runs ∧ x.on = true ∧ x.lock = false ∧ x.eavs = 3 ∧ words = x.words) ∧
    (∃ (s : State) (t : Nat) (lane : Fin 64) (offset : Int) (u : Nat),
    s.runs ∧ (s.chip.lane (sdiLane lane)).lockAt = some u ∧ u + msU 1 ≤ max s.chip.now t) ∧
    (∃ (s : State) (t : Nat) (lane : Fin 64) (cdr : Bool),
    s.runs ∧ (s.chip.lane (sdiLane lane)).lock = true) ∧
    (∃ (s : State) (t : Nat) (lane : Fin 216) (p b : Nat),
    s.runs ∧ lane.val < 136 ∧ s.chip.laneUsed lane = true ∧ s.chip.laneActive lane = true ∧ s.chip.laneBreakout lane = some (p, b) ∧ (s.chip.mac (macKey p b)).up = false) ∧
    (∃ (s : State) (t : Nat) (lane : Fin 216),
    s.runs ∧ 136 ≤ lane.val ∧ lane.val < 152 ∧ s.chip.laneUsed lane = true ∧ s.chip.laneActive lane = true) ∧
    (∃ (s : State) (t : Nat) (p b : Nat),
    let l := s.chip.fld Reg.LNE_LANE_SEL_LANE 0
    s.runs ∧ s.chip.laneUsed l = true ∧ s.chip.laneActive l = true ∧ s.chip.laneBreakout l = some (p, b) ∧ (s.chip.mac (macKey p b)).up = false) ∧
    (∃ (s : State) (t : Nat) (lane : Fin 152),
    s.runs ∧ s.chip.fld Reg.LNE_L_STATE_TRAIN lane = 1) ∧
    (∃ (s : State) (t : Nat) (lane : Fin 152),
    s.runs ∧ s.chip.fld Reg.LNE_L_STATE_TRAIN lane = 1 ∧ (s.chip.lane lane).startedAt + s.chip.trainLimit lane ≤ max s.chip.now t) ∧
    (∃ (s : State) (t : Nat) (port : Fin 18) (breakout : Fin 8),
    let l := s.chip.firstLane port breakout
    s.runs ∧ breakout.val < s.chip.breakouts port ∧ s.chip.macOn port = true ∧ s.chip.laneActive l = true ∧ (s.chip.mac (macKey port breakout)).up = false ∧ (s.chip.lane l).startedAt + secU 1 ≤ max s.chip.now t) ∧
    (∃ (s : State) (t : Nat) (port : Fin 18) (breakout : Fin 8),
    s.runs ∧ (s.chip.mac (macKey port breakout)).up = true) ∧
    (∃ (s : State) (t : Nat) (port : Fin 18) (breakout : Fin 8) (u : Nat),
    s.runs ∧ (s.chip.lane (s.chip.firstLane port breakout)).lossAt = some u ∧ u + msU 100 ≤ max s.chip.now t ∧ (s.chip.mac (macKey port breakout)).up = false) :=
  ⟨⟨sdiUp, 7, 154, true, by decide +kernel⟩,
   ⟨sdiUp, msU 60, 2, by decide +kernel⟩,
   ⟨chg sdiUp (fun c => c.modLane 154 (fun x => { x with eavs := 3, words := 2200 })), 7, 2, 2200, none, none, by decide +kernel⟩,
   ⟨chg sdiUp (fun c => c.modLane 154 (fun x => { x with lock := true, lockAt := some 7 })), msU 3, 2, -90000, 7, by decide +kernel⟩,
   ⟨chg sdiUp (fun c => c.modLane 154 (fun x => { x with lock := true, lockAt := some 7 })), msU 3, 2, true, by decide +kernel⟩,
   ⟨portUp, 7, 3, 0, 1, by decide +kernel⟩,
   ⟨splUp, 7, 139, by decide +kernel⟩,
   ⟨portUp, 7, 0, 1, by decide +kernel⟩,
   ⟨chg portUp (fun c => c.set Reg.LNE_L_STATE_TRAIN 3 1), 7, 3, by decide +kernel⟩,
   ⟨chg portUp (fun c => c.set Reg.LNE_L_STATE_TRAIN 3 1), msU 500, 3, by decide +kernel⟩,
   ⟨chg portUp (fun c => c.modLane 2 (fun x => { x with fails := 2 })), secU 2, 0, 1, by decide +kernel⟩,
   ⟨chg portUp (fun c => c.modMac 1 (fun m => { m with up := true })), 7, 0, 1, by decide +kernel⟩,
   ⟨chg portUp (fun c => c.modLane 2 (fun x => { x with lossAt := some 7 })), secU 2, 0, 1, 7, by decide +kernel⟩⟩

theorem witness_SpliceLaneAndDiagnosticCommandsComplete :
    (∃ (s : State) (t : Nat) (port : Fin 8) (k : Fin 2) (farMax : Fin 4) (farAuto : Bool),
    let l := spliceLane port k
    s.runs ∧ s.chip.spliceOn port = true ∧ 2 ≤ s.chip.fld Reg.LNE_L_STATE_TRAIN l ∧ (s.chip.stepSt port).change.isNone = true) ∧
    (∃ (s : State) (t : Nat) (port : Fin 8) (k : Fin 2),
    let l := spliceLane port k
    s.runs ∧ s.chip.spliceOn port = true ∧ (s.chip.fld Reg.LNE_L_STATE_TRAIN l = 2 ∨ s.chip.fld Reg.LNE_L_STATE_TRAIN l = 3) ∧ s.chip.isSet Reg.LNE_L_STATE_ALIGNED l = false ∧ (s.chip.lane l).searchAt + msU 100 ≤ max s.chip.now t) ∧
    (∃ (s : State) (t : Nat) (port : Fin 8),
    let now := s.chip.fld Reg.SPL_P_STATE_STEP port
    let goal := (s.upon t).targetStep port
    let new := if now < goal then now + 1 else now - 1
    s.runs ∧ s.chip.spliceOn port = true ∧ s.chip.bothAligned port = true ∧ (s.chip.stepSt port).change.isNone = true ∧ goal ≠ now ∧ Tbl.has (s.chip.stepSt port).bars new = false) ∧
    (∃ (s : State) (t : Nat) (port : Fin 8) (x : StepChange),
    s.runs ∧ (s.chip.stepSt port).change = some x ∧ s.chip.fld Reg.LNE_L_STATE_TRAIN (spliceLane port x.lane) ≠ 1 ∧ x.back = false ∧ x.lane = 1) ∧
    (∃ (s : State) (t : Nat) (port : Fin 8) (x : StepChange),
    s.runs ∧ (s.chip.stepSt port).change = some x ∧ s.chip.fld Reg.LNE_L_STATE_TRAIN (spliceLane port x.lane) ≠ 1 ∧ x.back = false ∧ x.lane = 0) ∧
    (∃ (s : State) (t : Nat) (port : Fin 8) (x : StepChange),
    s.runs ∧ (s.chip.stepSt port).change = some x ∧ s.chip.fld Reg.LNE_L_STATE_TRAIN (spliceLane port x.lane) ≠ 1 ∧ x.back = false) ∧
    (∃ (s : State) (t : Nat) (port : Fin 8),
    s.runs) ∧
    (∃ (s : State) (t : Nat) (lane : Fin 216),
    s.runs ∧ (s.chip.lane lane).going = some (s.chip.laneWant lane)) ∧
    (∃ (s : State) (t : Nat),
    let l := s.chip.fld Reg.LNE_LANE_SEL_LANE 0
    s.runs ∧ s.chip.lne.noLane = false ∧ (s.chip.fld Reg.LNE_L_CTRL_DIAG l = 1 ∨ s.chip.manual l = true)) ∧
    (∃ (s : State) (t : Nat),
    let l := s.chip.fld Reg.LNE_LANE_SEL_LANE 0
    s.runs ∧ s.chip.fld Reg.LNE_L_CTRL_DIAG l ≠ 1 ∧ s.chip.manual l = false) ∧
    (∃ (s : State) (t : Nat),
    let l := s.chip.fld Reg.LNE_LANE_SEL_LANE 0
    s.runs ∧ s.chip.lne.noLane = false ∧ s.chip.fld Reg.LNE_L_CTRL_DIAG l = 1) ∧
    (∃ (s : State) (t : Nat) (lane : Fin 216) (words : List (BitVec 32)),
    s.runs ∧ (s.chip.lane lane).rawBusy = true) ∧
    (∃ (s : State) (t : Nat),
    let l := s.chip.fld Reg.LNE_LANE_SEL_LANE 0
    let w := s.chip.fld Reg.LNE_L_RAW_ADDR_WORD l
    s.runs ∧ s.chip.lne.noLane = false) ∧
    (∃ (s : State) (t : Nat),
    let l := s.chip.fld Reg.LNE_LANE_SEL_LANE 0
    s.runs ∧ s.chip.lne.noLane = false ∧ s.chip.fld Reg.LNE_L_CTRL_DIAG l = 2) ∧
    (∃ (s : State) (t : Nat),
    let l := s.chip.fld Reg.LNE_LANE_SEL_LANE 0
    s.runs ∧ s.chip.lne.noLane = false ∧ s.chip.laneActive l = true) ∧
    (∃ (s : State) (t : Nat) (lane : Fin 216) (errors : Nat),
    s.runs ∧ (s.chip.lane lane).scan.isSome = true) ∧
    (∃ (s : State) (t : Nat),
    s.runs) :=
  ⟨⟨splUp, 7, 1, 0, 2, true, by decide +kernel⟩,
   ⟨splUp, msU 200, 1, 0, by decide +kernel⟩,
   ⟨stepUp, 7, 1, by decide +kernel⟩,
   ⟨chg stepUp (fun c => c.modStep 1 (fun y => { y with change := some ⟨0, 1, 1, false, 5⟩ })), 7, 1, ⟨0, 1, 1, false, 5⟩, by decide +kernel⟩,
   ⟨chg stepUp (fun c => c.modStep 1 (fun y => { y with change := some ⟨0, 1, 0, false, 5⟩ })), 7, 1, ⟨0, 1, 0, false, 5⟩, by decide +kernel⟩,
   ⟨chg stepUp (fun c => c.modStep 1 (fun y => { y with change := some ⟨0, 1, 0, false, 5⟩ })), 7, 1, ⟨0, 1, 0, false, 5⟩, by decide +kernel⟩,
   ⟨chg stepUp (fun c => c.modStep 1 (fun y => { y with bars := [(1, 6), (2, 900)] })), 7, 1, by decide +kernel⟩,
   ⟨chg portUp (fun c => (c.set Reg.LNE_L_STATE_PSTATE 3 3).modLane 3 (fun x => { x with going := some 0 })), 7, 3, by decide +kernel⟩,
   ⟨diagUp, 7, by decide +kernel⟩,
   ⟨portUp, 7, by decide +kernel⟩,
   ⟨diagUp, 7, by decide +kernel⟩,
   ⟨chg diagUp (fun c => c.modLane 200 (fun x => { x with rawBusy := true })), 7, 200, [5, 6], by decide +kernel⟩,
   ⟨chg diagUp (fun c => (c.modLane 200 (fun x => { x with raw := [5, 6, 7] })).set Reg.LNE_L_RAW_ADDR_WORD 200 1), 7, by decide +kernel⟩,
   ⟨chg diagUp (fun c => c.set Reg.LNE_L_CTRL_DIAG 200 2), 7, by decide +kernel⟩,
   ⟨diagUp, 7, by decide +kernel⟩,
   ⟨chg diagUp (fun c => c.modLane 200 (fun x => { x with scan := some (1, 2, 3, 4) })), 7, 200, 9, by decide +kernel⟩,
   ⟨chg diagUp (fun c => c.set Reg.LNE_L_LOCK_LOST_COUNT 200 7), 7, by decide +kernel⟩⟩

theorem witness_ReferenceCommandsComplete :
    (∃ (s : State) (t : Nat) (entry : Fin 8),
    s.runs ∧ s.chip.refType entry ≤ 6 ∧ s.chip.refOn entry = true ∧ s.chip.refState entry = 1) ∧
    (∃ (s : State) (t : Nat) (facts : List RefFact) (freq phase : Int),
    s.runs) ∧
    (∃ (s : State) (t : Nat) (f : RefFact) (freq phase : Int),
    s.runs ∧ s.chip.refType f.entry ≤ 6 ∧ s.chip.refOn f.entry = true ∧ s.chip.refState f.entry = 2 ∧ (s.chip.refEntry f.entry).present = true ∧ magnitude f.offset ≤ s.chip.loLimit f.entry ∧ s.chip.timersRun = true ∧ (∀ x, x < 8 → s.chip.selectable x = false)) ∧
    (∃ (s : State) (t : Nat) (entry : Fin 8) (u : Nat),
    s.runs ∧ (s.chip.refEntry entry).timer = some u ∧ s.chip.refState entry = 2 ∧ u + secU (s.chip.qualS entry) ≤ max s.chip.now t) ∧
    (∃ (s : State) (t : Nat) (entry : Fin 8) (u : Nat),
    s.runs ∧ (s.chip.refEntry entry).timer = some u ∧ s.chip.refState entry = 4 ∧ u + secU (s.chip.holdoffS entry) ≤ max s.chip.now t) ∧
    (∃ (s : State) (t : Nat),
    s.runs ∧ s.chip.restarting = false ∧ s.chip.spliceLed = false ∧ s.chip.refSelected ≠ 14 ∧ s.chip.fullIn 0 = true) ∧
    (∃ (s : State) (t : Nat) (entry : Fin 8),
    s.runs ∧ s.chip.refType entry ≤ 6 ∧ s.chip.refOn entry = true ∧ 2 ≤ s.chip.refState entry) ∧
    (∃ (s : State) (t : Nat) (entry : Fin 8),
    s.runs ∧ s.chip.refOn entry = true ∧ 2 ≤ s.chip.refState entry) ∧
    (∃ (s : State) (t : Nat),
    s.runs ∧ s.chip.fld Reg.REFS_DPLL_STATE 0 = 1 ∧ s.chip.ref.acquiredAt + secU 3 ≤ max s.chip.now t) ∧
    (∃ (s : State) (t : Nat) (average : Int),
    s.runs ∧ s.chip.fld Reg.REFS_DPLL_STATE 0 = 2 ∧ s.chip.ref.averagedAt + secU 1 ≤ max s.chip.now t) ∧
    (∃ (s : State) (t : Nat) (f : Int),
    s.runs ∧ s.chip.isSet Reg.REFS_CTRL_FORCE_HOLD 0 = false ∧ s.chip.dpllFollows = true ∧ (s.upon t).holdMean = some f) ∧
    (∃ (s : State) (t : Nat),
    s.runs ∧ s.chip.isSet Reg.REFS_CTRL_FORCE_HOLD 0 = true ∧ s.chip.refSelected ≠ 15 ∧ s.chip.dpllFollows = false) ∧
    (∃ (s : State) (t : Nat) (output : Fin 4),
    let o := s.chip.refOut output
    let a := (s.chip.dom output).tickAt + nsU o.offset
    s.runs ∧ bit o.flags 0 = true ∧ s.chip.pulses output = true ∧ s.chip.outHeld output = false ∧ s.chip.isSet Reg.REFS_STATUS_LO_OK 0 = true) ∧
    (∃ (s : State) (t : Nat),
    s.runs) :=
  ⟨⟨chg refUp (fun c => c.set Reg.REFS_E_STATE_STATE 2 1), 7, 2, by decide +kernel⟩,
   ⟨refLockedUp, 7, [], 50, -30, by decide +kernel⟩,
   ⟨chg refUp (fun c => (c.set Reg.REFS_E_STATE_STATE 2 2).modRef 2 (fun x => { x with present := true })), 7, ⟨2, 500, some 4⟩, 50, -30, by decide +kernel⟩,
   ⟨chg refUp (fun c => (c.set Reg.REFS_E_STATE_STATE 2 2).modRef 2 (fun x => { x with timer := some 7 })), secU 60, 2, 7, by decide +kernel⟩,
   ⟨chg refUp (fun c => (c.set Reg.REFS_E_STATE_STATE 2 4).modRef 2 (fun x => { x with timer := some 7, why := 2 })), secU 60, 2, 7, by decide +kernel⟩,
   ⟨chg refUp (fun c => c.set Reg.REFS_E_STATE_STATE 2 3), 7, by decide +kernel⟩,
   ⟨refLockedUp, 7, 2, by decide +kernel⟩,
   ⟨refLockedUp, 7, 2, by decide +kernel⟩,
   ⟨chg refLockedUp (fun c => c.set Reg.REFS_DPLL_STATE 0 1), secU 4, by decide +kernel⟩,
   ⟨refLockedUp, secU 4, -70, by decide +kernel⟩,
   ⟨refLockedUp, secU 4, 40, by decide +kernel⟩,
   ⟨chg refLockedUp (fun c => (c.set Reg.REFS_CTRL_FORCE_HOLD 0 1).set Reg.REFS_DPLL_STATE 0 3), 7, by decide +kernel⟩,
   ⟨chg refLockedUp (fun c => { c with ref := { c.ref with outs := [(1, ⟨1, 4, 20⟩)] } }), 7, 1, by decide +kernel⟩,
   ⟨chg refLockedUp (fun c => c.set Reg.REFS_E_GLITCH_COUNT 2 7), 7, by decide +kernel⟩⟩

theorem witness_PtpCommandsComplete :
    (∃ (s : State) (t : Nat) (entry : Fin 8),
    s.runs ∧ (s.chip.refType entry = 5 ∨ s.chip.refType entry = 6) ∧ s.chip.ptp.pend = none) ∧
    (∃ (s : State) (t : Nat) (entry : Fin 8) (sec : Nat),
    s.runs ∧ (s.chip.refType entry = 5 ∨ s.chip.refType entry = 6) ∧ s.chip.ptp.pend = some (.set sec) ∧ s.chip.refSelected = entry.val) ∧
    (∃ (s : State) (t : Nat) (m : PtpMsg) (sec ns : Nat),
    let rx : Int := (s.upon t).deviceQ
    s.runs ∧ s.chip.ptpAccepts m = true ∧ -7 ≤ m.log ∧ m.log ≤ 0 ∧ s.chip.restarting = false ∧ s.chip.ptp.master = some (m.portB, m.source) ∧ 2 ≤ s.chip.ptpState ∧ s.chip.ptp.delays = []) ∧
    (∃ (s : State) (t : Nat) (m : PtpMsg) (sec ns : Nat),
    s.runs ∧ s.chip.ptpAccepts m = true ∧ -7 ≤ m.log ∧ m.log ≤ 0 ∧ s.chip.restarting = false ∧ s.chip.ptp.master = some (m.portB, m.source) ∧ 2 ≤ s.chip.ptpState) ∧
    (∃ (s : State) (t : Nat) (m : PtpMsg) (sec ns : Nat),
    let rx : Int := (s.upon t).deviceQ
    s.runs ∧ s.chip.ptpAccepts m = true ∧ -7 ≤ m.log ∧ m.log ≤ 0 ∧ s.chip.restarting = false ∧ s.chip.ptp.master = some (m.portB, m.source) ∧ s.chip.ptpState = 2 ∧ s.chip.ptp.delays ≠ [] ∧ s.chip.ptp.valid < 15 ∧ s.chip.ptp.pend = none) ∧
    (∃ (s : State) (t : Nat) (m : PtpMsg) (twoStep : Bool) (sec ns : Nat),
    s.runs ∧ s.chip.timeSource = 1 ∧ s.chip.restarting = false ∧ s.chip.ptpAccepts m = false) ∧
    (∃ (s : State) (t : Nat) (m : PtpMsg) (w : SyncWait) (sec ns : Nat),
    s.runs ∧ s.chip.ptpAccepts m = true ∧ s.chip.restarting = false ∧ s.chip.ptp.master = some (m.portB, m.source) ∧ s.chip.ptp.wait = some w ∧ w.source = m.source ∧ w.seq = m.seq ∧ s.chip.ptp.delays = []) ∧
    (∃ (s : State) (t : Nat) (m : PtpMsg) (a : Announce),
    s.runs ∧ s.chip.ptpAccepts m = true ∧ -3 ≤ m.log ∧ m.log ≤ 1 ∧ s.chip.restarting = false) ∧
    (∃ (s : State) (t : Nat) (m : PtpMsg) (sec ns : Nat) (x : Int × Int) (u : Nat),
    s.runs ∧ s.chip.ptpAccepts m = true ∧ s.chip.restarting = false ∧ s.chip.ptp.sync = some x ∧ s.chip.ptp.reqAt = some u ∧ s.chip.ptp.reqSeq = some m.seq ∧ s.chip.ptp.master = some (m.portB, m.source) ∧ s.chip.ptp.delays.length < 16) ∧
    (∃ (s : State) (t : Nat),
    s.runs ∧ s.chip.timeSource = 1 ∧ s.chip.ptp.master.isSome = true ∧ 2 ≤ s.chip.ptpState) ∧
    (∃ (s : State) (t : Nat) (b : Bool) (src : Nat) (f : Foreign),
    s.runs ∧ s.chip.ptp.master = some (b, src) ∧ s.chip.ptp.foreign.find? (fun g => g.portB == b && g.source == src) = some f ∧ f.heard.headD 0 + s.chip.annTimeout f ≤ max s.chip.now t) ∧
    (∃ (s : State) (t : Nat) (b : Bool) (src : Nat),
    s.runs ∧ s.chip.ptp.master = some (b, src) ∧ s.chip.ptp.validAt + secU 2 ≤ max s.chip.now t) ∧
    (∃ (s : State) (t : Nat) (slot : Fin 16) (body : List Byte),
    s.serving slot 0x0109 3 ∧ u8 body 0 = 1 ∧ timeBodyOk body = true ∧ s.chip.stepRefused (u32 body 4) = none) ∧
    (∃ (s : State) (t : Nat) (slot : Fin 16) (body : List Byte),
    s.serving slot 0x0109 3 ∧ u8 body 0 = 2 ∧ timeBodyOk body = true ∧ bit (u8 body 1) 0 = false ∧ s.chip.setRefused false (u32 body 4) = none) ∧
    (∃ (s : State) (t : Nat),
    s.runs) :=
  ⟨⟨chg up (fun c => c.setRec tyEntries 2 (bytes [2, 5, 1, 1, 0, 0, 5, 2, 0, 100, 0, 200])), 7, 2, by decide +kernel⟩,
   ⟨chg up (fun c => ((c.setRec tyEntries 2 (bytes [2, 5, 1, 1, 0, 0, 5, 2, 0, 100, 0, 200])).set Reg.REFS_DPLL_SELECTED 0 2).modPtp (fun p => { p with pend := some (.set 900) })), 7, 2, 900, by decide +kernel⟩,
   ⟨slaveUp, 7, ⟨false, 127, 99, 5, -3, 8⟩, 4, 5, by decide +kernel⟩,
   ⟨slaveUp, 7, ⟨false, 127, 99, 5, -3, 8⟩, 4, 5, by decide +kernel⟩,
   ⟨chg slaveUp (fun c => c.modPtp (fun p => { p with delays := [40, 50] })), 7, ⟨false, 127, 99, 5, -3, 8⟩, 4, 5, by decide +kernel⟩,
   ⟨slaveUp, 7, ⟨false, 126, 99, 5, -3, 8⟩, true, 4, 5, by decide +kernel⟩,
   ⟨chg slaveUp (fun c => c.modPtp (fun p => { p with wait := some ⟨99, 5, 30, 2⟩ })), 7, ⟨false, 127, 99, 5, -3, 8⟩, ⟨99, 5, 30, 2⟩, 4, 5, by decide +kernel⟩,
   ⟨ptpUp, 7, ⟨false, 127, 99, 5, 0, 8⟩, ⟨1, 6, 33, 100, 2, 77, 3, 37⟩, by decide +kernel⟩,
   ⟨chg slaveUp (fun c => c.modPtp (fun p => { p with sync := some (40, 90), reqSeq := some 5, reqAt := some 200 })), 7, ⟨false, 127, 99, 5, -3, 8⟩, 4, 5, (40, 90), 200, by decide +kernel⟩,
   ⟨slaveUp, 7, by decide +kernel⟩,
   ⟨slaveUp, secU 60, false, 99, ⟨false, 99, [], 5, 6, 1, 37, 0, [7, 3]⟩, by decide +kernel⟩,
   ⟨slaveUp, secU 60, false, 99, by decide +kernel⟩,
   ⟨chg slaveUp (fun c => (c.set Reg.PTP_STATUS_STATE 0 4).modPtp (fun p => { p with offsets := List.replicate 16 5 })), 7, 0, bytes [1, 0, 0, 0, 0, 0, 0, 0, 0, 0, 0, 0, 0, 0, 0, 0], by decide +kernel⟩,
   ⟨up, 7, 0, bytes [2, 0, 0, 0, 0, 0, 0, 0, 0, 0, 0, 0, 0, 0, 7, 0], by decide +kernel⟩,
   ⟨chg up (fun c => c.set Reg.PTP_CNT_SYNC_COUNT 0 7), 7, by decide +kernel⟩⟩

theorem witness_FrameStoreCommandsComplete :
    (∃ (s : State) (t : Nat) (src : Fin 1024) (line row : Nat) (samples : List Nat) (anc : List (List Nat)) (f : Format) (b : Nat),
    s.runs ∧ s.chip.bound src = true ∧ s.chip.is22 src = false ∧ s.chip.srcFormat src = some f ∧ activeRow f line = some row ∧ line ≠ (activeSpan f).1 ∧ line ≠ (activeSpan f).2 ∧ (s.chip.sync src).active = true ∧ (s.chip.sync src).writing = some b) ∧
    (∃ (s : State) (t : Nat) (src : Fin 1120) (td : Fin 4) (line corrected : Nat) (errors : List TileError) (sideLate : Bool),
    s.runs ∧ (s.chip.decision src td).latched.isSome = true ∧ s.chip.readouts.any (fun k => k % 2 ^ 20 == src.val * 4 + td.val) = true) ∧
    (∃ (s : State) (t : Nat) (fail : Nat),
    s.runs ∧ fail % 2 ^ 64 = 0) ∧
    (∃ (s : State) (t : Nat) (fail : Nat),
    s.runs ∧ fail % 2 ^ 64 ≠ 0) ∧
    (∃ (s : State) (t : Nat) (corrected : Nat) (errors : List TileError),
    s.runs ∧ s.chip.isSet Reg.FST_CTRL_SCRUB_EN 0 = true) ∧
    (∃ (s : State) (t : Nat) (td : Fin 4) (facts : List Remote) (drives : List DriveFact) (f : Nat),
    s.runs ∧ s.chip.boot.fullAt = some f ∧ f + msU 1 ≤ max s.chip.now t ∧ s.chip.fullIn td = false ∧ s.chip.tdOn td = true) ∧
    (∃ (s : State) (t : Nat) (sdi : List SdiAudio) (given : List (Fin 16384 × Nat)),
    s.runs ∧ s.chip.tick.running = true) ∧
    (∃ (s : State) (t : Nat),
    s.runs) :=
  ⟨⟨ingestUp, 7, 5, 50, 8, [3, 4, 5], [], ⟨1920, 1080, 0, 0, 10, 8⟩, 1, by decide +kernel⟩,
   ⟨readUp, 7, 1024, 0, 50, 1, [], false, by decide +kernel⟩,
   ⟨State.reset, 7, 0, by decide +kernel⟩,
   ⟨up, 7, 2 ^ 33 + 1, by decide +kernel⟩,
   ⟨up, 7, 4, [⟨3, 4⟩], by decide +kernel⟩,
   ⟨chg up (fun c => c.modDom 0 (fun m => { m with fullTick := false })), msU 2, 0, [], [], 0, by decide +kernel⟩,
   ⟨up, 7, [], [(5, 70)], by decide +kernel⟩,
   ⟨chg up (fun c => c.set Reg.FST_WR_FRAMES_COUNT 7 5), 7, by decide +kernel⟩⟩

theorem witness_ComposerAndSurfaceCommandsComplete :
    (∃ (s : State) (t : Nat) (td : Fin 4),
    s.runs ∧ (s.chip.dom td).occlOpen = true) ∧
    (∃ (s : State) (t : Nat) (cmp : Fin 32) (late : List LayerTile) (corrected : Nat) (errors : List LayerError) (stored : Nat),
    s.runs ∧ s.chip.cmpOn cmp = true ∧ s.chip.fullIn (s.chip.cmpTd cmp) = true) ∧
    (∃ (s : State) (t : Nat),
    s.runs) ∧
    (∃ (s : State) (t : Nat) (surface : Fin 1024) (g : Surface) (l : SurfLoad) (r : List SurfLoad),
    s.runs ∧ s.chip.surface surface = some g ∧ g.loads = l :: r ∧ s.chip.cmpOn g.owner = true) ∧
    (∃ (s : State) (t : Nat) (slot : Fin 16) (body : List Byte),
    s.serving slot 0x0105 1 ∧ 8 ≤ body.length ∧ u8 body 1 ≤ 1 ∧ s.chip.fullIn (s.chip.cmpTd (u8 body 0)) = true ∧ (s.upon t).checkLayoutEarly body = none ∧ ((s.upon t).admitLayout ((s.upon t).newLayout slot body false)).toOption.isSome = true) ∧
    (∃ (s : State) (t : Nat) (slot : Fin 16) (body : List Byte) (g : Surface),
    s.serving slot 0x0801 1 ∧ u8 body 0 = 1 ∧ bulkWriteOk body = true ∧ body.length = 16 + 4 * (u16 body 12 * u16 body 14) ∧ s.chip.surface (u32 body 4) = some g ∧ surfaceRectOk g (u16 body 8) (u16 body 10) (u16 body 12) (u16 body 14) = true ∧ s.chip.quarantined 2 = false) ∧
    (∃ (s : State) (t : Nat) (slot : Fin 16) (body : List Byte) (g : Surface),
    let x := u16 body 8
    let y := u16 body 10
    let w := u16 body 12
    let h := u16 body 14
    s.serving slot 0x0802 1 ∧ u8 body 0 = 7 ∧ bulkReadOk body = true ∧ s.chip.surface (u32 body 4) = some g ∧ surfaceRectOk g x y w h = true ∧ u32 body 16 = w * h * 4 ∧ s.chip.quarantined 3 = false ∧ g.poison = []) ∧
    (∃ (s : State) (t : Nat) (port : Fin 12),
    s.runs ∧ s.chip.portAsync port = true ∧ (s.chip.audPort port).clock ≠ 0) ∧
    (∃ (s : State) (t : Nat) (port : Fin 12) (rate : Nat),
    s.runs ∧ s.chip.portAsync port = true ∧ (s.chip.audPort port).clock = 2 ∧ ratesDiffer (s.chip.audPort port).rate rate = true ∧ (s.chip.audPort port).odd = true) ∧
    (∃ (s : State) (t : Nat) (port : Fin 12) (rate : Nat),
    s.runs ∧ s.chip.portOn port = true ∧ (s.chip.portAsync port = false ∨ (s.chip.audPort port).clock ≠ 0)) ∧
    (∃ (s : State) (t : Nat) (port : Fin 12) (words : List Nat) (errors : Nat),
    s.runs ∧ s.chip.portAsync port = true ∧ (s.chip.audPort port).clock = 2) ∧
    (∃ (s : State) (t : Nat),
    s.runs) :=
  ⟨⟨chg cmpUp (fun c => c.modDom 0 (fun m => { m with occlOpen := true })), 7, 0, by decide +kernel⟩,
   ⟨cmpUp, 7, 0, [], 1, [], 900, by decide +kernel⟩,
   ⟨chg up (fun c => c.set Reg.CMP_L_FILLED_COUNT 7 5), 7, by decide +kernel⟩,
   ⟨chg cmpUp (fun c => c.setSurface 3 (some { owner := 0, width := 64, height := 16, format := 0, front := [(2, 9)], back := [(1, 7)], opaqueTiles := [], poison := [], loads := [⟨0, 0, 64, 16, 0, 7, 4, []⟩] })), 7, 3, { owner := 0, width := 64, height := 16, format := 0, front := [(2, 9)], back := [(1, 7)], opaqueTiles := [], poison := [], loads := [⟨0, 0, 64, 16, 0, 7, 4, []⟩] }, ⟨0, 0, 64, 16, 0, 7, 4, []⟩, [], by decide +kernel⟩,
   ⟨cmpUp, 7, 0, layoutBody, by decide +kernel⟩,
   ⟨cmpUp, 7, 0, loadBody, { owner := 0, width := 64, height := 16, format := 0, front := [(2, 9)], back := [(1, 7)], opaqueTiles := [], poison := [], loads := [] }, by decide +kernel⟩,
   ⟨cmpUp, 7, 0, bytes [7, 0, 0, 0, 0, 0, 0, 3, 0, 0, 0, 0, 0, 64, 0, 16, 0, 0, 16, 0], { owner := 0, width := 64, height := 16, format := 0, front := [(2, 9)], back := [(1, 7)], opaqueTiles := [], poison := [], loads := [] }, by decide +kernel⟩,
   ⟨portAud, 7, 0, by decide +kernel⟩,
   ⟨chg portAud (fun c => c.modPort 0 (fun x => { x with odd := true })), 7, 0, 470000, by decide +kernel⟩,
   ⟨portAud, 7, 0, 480010, by decide +kernel⟩,
   ⟨portAud, 7, 0, [5, 6], 3, by decide +kernel⟩,
   ⟨chg up (fun c => c.set Reg.AUD_DST_CLIP_COUNT 7 5), 7, by decide +kernel⟩⟩

theorem witness_SpliceLinkCommandsComplete :
    (∃ (s : State) (t : Nat),
    s.runs) ∧
    (∃ (s : State) (t : Nat) (port : Fin 8) (neighbour : Fin 4096) (proto : Fin 256),
    s.runs ∧ s.chip.spliceOn port = true ∧ s.chip.bothAligned port = true ∧ s.chip.inService port = false ∧ s.chip.isSet Reg.SPL_STATUS_ID_CONFLICT 0 = false ∧ proto.val = s.chip.fld Reg.SPL_STATUS_PROTO 0 ∧ s.chip.twinOn = false) ∧
    (∃ (s : State) (t : Nat) (port : Fin 8) (neighbour : Fin 4096) (proto : Fin 256),
    s.runs ∧ s.chip.spliceOn port = true ∧ s.chip.bothAligned port = true ∧ s.chip.inService port = false ∧ s.chip.isSet Reg.SPL_STATUS_ID_CONFLICT 0 = false ∧ proto.val ≠ s.chip.fld Reg.SPL_STATUS_PROTO 0) ∧
    (∃ (s : State) (t : Nat) (port : Fin 8),
    s.runs ∧ s.chip.inService port = true ∧ s.chip.twinOn = false) ∧
    (∃ (s : State) (t : Nat) (u : Nat),
    s.runs ∧ s.chip.spl.electAt = some u ∧ u ≤ max s.chip.now t) ∧
    (∃ (s : State) (t : Nat) (port : Fin 8),
    s.runs ∧ (s.chip.stepSt port).farMax.isSome = true) ∧
    (∃ (s : State) (t : Nat),
    s.runs ∧ s.chip.channelMaster = true) ∧
    (∃ (s : State) (t : Nat) (port : Fin 8) (n residence : Nat),
    s.runs ∧ s.chip.inService port = true) ∧
    (∃ (s : State) (t : Nat) (port : Fin 8) (body : List Byte) (fecOk : Bool) (news : CellNews),
    s.runs ∧ s.chip.spliceOn port = true ∧ body.length = 256 ∧ (fecOk && cellCrcOk body) = false) ∧
    (∃ (s : State) (t : Nat) (port : Fin 8) (body : List Byte) (td : Fin 4) (sec ns : Nat),
    s.runs ∧ s.chip.spliceOn port = true ∧ s.chip.inService port = true ∧ s.chip.twinOn = false ∧ body.length = 256 ∧ cellCrcOk body = true ∧ u8 body 0 = 2 ∧ bits (u16 body 2) 14 12 = 0 ∧ bit (u16 body 2) 15 = true) ∧
    (∃ (s : State) (t : Nat) (slot : Fin 17) (facts : List Remote) (e : Exchange) (c1 : Chip),
    let c0 : Chip := { s.upon t with spl := { s.chip.spl with exchanges := s.chip.spl.exchanges.filter (fun x => x.slot != slot.val) } }
    s.runs ∧ slot.val < 16 ∧ s.chip.spl.exchanges.find? (fun x => x.slot == slot.val) = some e ∧ (s.chip.session slot).id = e.session ∧ (s.chip.session slot).state = .opened ∧ e.asks.any s.chip.mustHold = false ∧ c0.admitAll (s.chip.lan.takeId + 1) e.nb e.notify slot e.session (if e.salvo then e.asks.length else 0) false 0 facts e.asks = .ok c1) ∧
    (∃ (s : State) (t : Nat) (slot : Fin 17) (e : Exchange),
    s.runs ∧ s.chip.spl.exchanges.find? (fun x => x.slot == slot.val) = some e ∧ (s.chip.session slot).id = e.session ∧ (s.chip.session slot).state = .opened) ∧
    (∃ (s : State) (t : Nat) (dev : Fin 4096) (src : Fin 1120) (td : Fin 4) (line : Nat) (x : Import),
    let k := pairKey (some dev.val) src td
    s.runs ∧ s.chip.spl.imports.find? (fun y => y.pair == k) = some x) ∧
    (∃ (s : State) (t : Nat),
    s.runs) :=
  ⟨⟨sysUp, 7, by decide +kernel⟩,
   ⟨chg sysUp (fun c => c.set Reg.SPL_P_STATE_IN_SERVICE 1 0), 7, 1, 9, 1, by decide +kernel⟩,
   ⟨chg sysUp (fun c => c.set Reg.SPL_P_STATE_IN_SERVICE 1 0), 7, 1, 9, 2, by decide +kernel⟩,
   ⟨sysUp, 7, 1, by decide +kernel⟩,
   ⟨chg sysUp (fun c => { c with spl := { c.spl with electAt := some 5, master := none } }), 7, 5, by decide +kernel⟩,
   ⟨stepUp, 7, 1, by decide +kernel⟩,
   ⟨sysUp, 7, by decide +kernel⟩,
   ⟨sysUp, 7, 1, 2 ^ 33, 0, by decide +kernel⟩,
   ⟨sysUp, 7, 1, bytes (List.replicate 256 1), true, .nothing, by decide +kernel⟩,
   ⟨sysUp, 7, 1, tickCell, 0, 900, 5, by decide +kernel⟩,
   ⟨exchUp, 7, 0, [], { slot := 0, session := 7, asks := [⟨5, 9, 65535, 1⟩], nb := none, notify := false, salvo := false, since := 0 }, (chg exchUp (fun c => { c with spl := { c.spl with exchanges := [] } })).upon 7 |>.enqueue ⟨5, 9, 65535, 1⟩ 1 none false 0 7 0 false, by decide +kernel⟩,
   ⟨exchUp, usU 300, 0, { slot := 0, session := 7, asks := [⟨5, 9, 65535, 1⟩], nb := none, notify := false, salvo := false, since := 0 }, by decide +kernel⟩,
   ⟨importUp, 7, 9, 20, 0, 7, ⟨pairKey (some 9) 20 0, 1, 100, 0, 9, 500, [], some ⟨1920, 1080, 0, 0, 10, 8⟩⟩, by decide +kernel⟩,
   ⟨chg up (fun c => c.set Reg.SPL_P_CELLS_COUNT 7 5), 7, by decide +kernel⟩⟩

theorem witness_TwinAndFlowWatchCommandsComplete :
    (∃ (s : State) (t : Nat),
    s.runs ∧ s.chip.twinOn = true ∧ s.chip.fld Reg.SPL_TWIN_ROLE 0 = 0 ∧ s.chip.fullIn 0 = true ∧ bit (u8 (s.chip.record tyTwin 0) 0) 1 = true ∧ s.chip.spl.barred = false) ∧
    (∃ (s : State) (t : Nat),
    s.runs ∧ s.chip.twinOn = true ∧ s.chip.fld Reg.SPL_TWIN_ROLE 0 = 0 ∧ s.chip.fullIn 0 = true ∧ bit (u8 (s.chip.record tyTwin 0) 0) 1 = true) ∧
    (∃ (s : State) (t : Nat),
    s.runs ∧ s.chip.spl.mirror.any (fun x => decide (x.2.2 + usU 50 ≤ max s.chip.now t)) = true) ∧
    (∃ (s : State) (t : Nat),
    s.runs ∧ s.chip.standby = true ∧ s.chip.spl.barred = false ∧ s.chip.isSet Reg.SPL_TWIN_SYNCED 0 = true) ∧
    (∃ (s : State) (t : Nat) (u cause : Nat),
    s.runs ∧ s.chip.spl.handover = some (u, cause) ∧ s.chip.twinOn = true ∧ s.chip.fld Reg.SPL_TWIN_ROLE 0 ≠ 0 ∧ u ≤ (s.chip.dom 0).tickAt) ∧
    (∃ (s : State) (t : Nat) (slot : Fin 16) (body : List Byte),
    s.serving slot 0x0108 3 ∧ body = [] ∧ s.chip.canHandOver = true) ∧
    (∃ (s : State) (t : Nat) (slot : Fin 16) (body : List Byte),
    s.serving slot 0x0107 3 ∧ body = [] ∧ s.chip.inSystem = true) ∧
    (∃ (s : State) (t : Nat) (pos : Fin 16384),
    s.runs ∧ s.chip.audBound false pos = true ∧ s.chip.fwa.silent.contains pos.val = false ∧ Tbl.get 0 s.chip.fwa.loudAt pos + s.chip.silenceTime ≤ max s.chip.now t) ∧
    (∃ (s : State) (t : Nat) (facts : List WatchFact) (cs : List (Fin 16384 × Nat)),
    s.runs ∧ (s.chip.dom 0).fwaOpen = true ∧ s.chip.fwa.ticks ≠ 0) ∧
    (∃ (s : State) (t : Nat) (ana : Fin 8),
    s.runs ∧ s.chip.packetSource (s.chip.fld Reg.FWA_D_CFG_SRC ana) = true) ∧
    (∃ (s : State) (t : Nat) (ana : Fin 8),
    s.runs ∧ s.chip.packetSource (s.chip.fld Reg.FWA_D_CFG_SRC ana) = false) ∧
    (∃ (s : State) (t : Nat) (ana : Fin 8),
    s.runs) ∧
    (∃ (s : State) (t : Nat),
    s.runs) ∧
    (∃ (s : State) (t : Nat),
    s.runs) :=
  ⟨⟨twinUp, 7, by decide +kernel⟩,
   ⟨twinUp, 7, by decide +kernel⟩,
   ⟨chg up (fun c => { c.set Reg.SPL_TWIN_SYNCED 0 1 with spl := { c.spl with act := true, mirror := [(0, 5, 0), (0, 6, 4)] } }), usU 70, by decide +kernel⟩,
   ⟨standbyUp, 7, by decide +kernel⟩,
   ⟨chg standbyUp (fun c => { c with spl := { c.spl with handover := some (0, 1) } }), 7, 0, 1, by decide +kernel⟩,
   ⟨standbyUp, 7, 0, [], by decide +kernel⟩,
   ⟨sysUp, 7, 0, [], by decide +kernel⟩,
   ⟨chg up (fun c => c.setRec tySrcCh 6 (bytes [0, 6, 1, 0, 0, 9, 0, 0, 0, 0, 0, 0])), secU 9, 6, by decide +kernel⟩,
   ⟨watchUp, 7, [], [(5, 2)], by decide +kernel⟩,
   ⟨chg watchUp (fun c => c.set Reg.FWA_D_CFG_SRC 2 5), 7, 2, by decide +kernel⟩,
   ⟨up, 7, 2, by decide +kernel⟩,
   ⟨chg up (fun c => c.set Reg.FWA_D_STATE_RUNNING 2 1), 7, 2, by decide +kernel⟩,
   ⟨chg up (fun c => c.set Reg.FWA_D_LOST_COUNT 7 5), 7, by decide +kernel⟩,
   ⟨up, 7, by decide +kernel⟩⟩

theorem witness_CaptureRequestsComplete :
    (∃ (s : State) (t : Nat) (slot : Fin 16) (body : List Byte),
    s.serving slot 0x0601 1 ∧ u8 body 0 = 1 ∧ 28 ≤ body.length ∧ body.length = armLength body ∧ (s.upon t).checkArm body = none) ∧
    (∃ (s : State) (t : Nat) (slot : Fin 16) (body : List Byte),
    let i := u8 body 4
    s.serving slot 0x0601 1 ∧ u8 body 0 = 2 ∧ body.length = 8 ∧ setBodyBad body = false ∧ s.chip.cap.ready = true ∧ (s.chip.capSet i).state = 1 ∧ (s.chip.capSet i).causeOn 1 = true) ∧
    (∃ (s : State) (t : Nat) (slot : Fin 16) (body : List Byte),
    let i := u8 body 4
    s.serving slot 0x0601 1 ∧ u8 body 0 = 3 ∧ body.length = 8 ∧ setBodyBad body = false ∧ s.chip.cap.ready = true ∧ (s.chip.capSet i).live = true ∧ s.chip.cap.hold = false) ∧
    (∃ (s : State) (t : Nat) (slot : Fin 16) (body : List Byte),
    let i := u8 body 4
    s.serving slot 0x0601 3 ∧ u8 body 0 = 4 ∧ body.length = 8 ∧ setBodyBad body = false ∧ s.chip.cap.ready = true ∧ ((s.chip.capSet i).state = 3 ∨ (s.chip.capSet i).state = 4) ∧ s.chip.cap.replay = none ∧ s.chip.setRead i = false) ∧
    (∃ (s : State) (t : Nat) (slot : Fin 16) (body : List Byte),
    s.serving slot 0x0601 3 ∧ u8 body 0 = 5 ∧ body.length = 4 ∧ zeroAt body 1 3 = true ∧ s.chip.enabledDrives ≠ [] ∧ s.chip.liveSets = [] ∧ s.chip.cap.players.any (fun e => e.2.reads) = false ∧ s.chip.cap.replay = none ∧ s.chip.cap.format = none) ∧
    (∃ (s : State) (t : Nat) (slot : Fin 16) (body : List Byte),
    let n := u8 body 4
    s.serving slot 0x0601 1 ∧ u8 body 0 = 6 ∧ body.length = 24 ∧ s.chip.checkPlay body = none) ∧
    (∃ (s : State) (t : Nat) (slot : Fin 16) (body : List Byte),
    let n := u8 body 4
    s.serving slot 0x0601 1 ∧ u8 body 0 = 7 ∧ u8 body 5 = 1 ∧ body.length = 8 ∧ zeroAt body 1 3 = true ∧ zeroAt body 6 2 = true ∧ n ≤ 31 ∧ s.chip.cap.ready = true ∧ (s.chip.player n).state = 2) ∧
    (∃ (s : State) (t : Nat) (slot : Fin 16) (body : List Byte),
    let n := u8 body 4
    s.serving slot 0x0601 1 ∧ u8 body 0 = 7 ∧ u8 body 5 = 2 ∧ body.length = 8 ∧ zeroAt body 1 3 = true ∧ zeroAt body 6 2 = true ∧ n ≤ 31 ∧ s.chip.cap.ready = true ∧ (s.chip.player n).state = 3) ∧
    (∃ (s : State) (t : Nat) (slot : Fin 16) (body : List Byte),
    let n := u8 body 4
    s.serving slot 0x0601 1 ∧ u8 body 0 = 7 ∧ u8 body 5 = 3 ∧ body.length = 8 ∧ zeroAt body 1 3 = true ∧ zeroAt body 6 2 = true ∧ n ≤ 31 ∧ s.chip.cap.ready = true ∧ 1 ≤ (s.chip.player n).state ∧ (s.chip.player n).state ≤ 4) ∧
    (∃ (s : State) (t : Nat) (slot : Fin 16) (body : List Byte),
    let i := u8 body 4
    let x := s.chip.capSet i
    s.serving slot 0x0601 2 ∧ u8 body 0 = 8 ∧ body.length = 8 ∧ setBodyBad body = false ∧ s.chip.cap.ready = true ∧ (x.state = 3 ∨ x.state = 4) ∧ s.chip.cap.replay = none ∧ (x.channels.any s.chip.playerOn || (List.range 32).any (fun k => x.watched.contains (0x8000 + k) && s.chip.cmpOn k)) = false ∧ x.granules ≤ s.chip.freeGranules ∧ s.chip.bandwidthOk x.rates.sum = true) ∧
    (∃ (s : State) (t : Nat) (slot : Fin 16) (body data : List Byte),
    s.serving slot 0x0802 1 ∧ u8 body 0 = 4 ∧ bulkReadOk body = true ∧ u32 body 4 ≤ 3 ∧ u64 body 8 % 4096 = 0 ∧ u32 body 16 % 4096 = 0 ∧ (s.chip.drive (u32 body 4)).present = true ∧ u64 body 8 + u32 body 16 ≤ 1048576 + 268435456 * (s.chip.drive (u32 body 4)).extents) :=
  ⟨⟨capUp, 7, 0, bytes [1, 0, 0, 0] ++ setDef, by decide +kernel⟩,
   ⟨armedUp, 7, 0, bytes [2, 0, 0, 0, 4, 0, 0, 0], by decide +kernel⟩,
   ⟨armedUp, 7, 0, bytes [3, 0, 0, 0, 4, 0, 0, 0], by decide +kernel⟩,
   ⟨keptUp, 7, 0, bytes [4, 0, 0, 0, 4, 0, 0, 0], by decide +kernel⟩,
   ⟨keptUp, 7, 0, bytes [5, 0, 0, 0], by decide +kernel⟩,
   ⟨keptUp, 7, 0, bytes [6, 0, 0, 0, 1, 4, 0, 0, 0, 0, 0, 0, 0, 0, 0, 0, 0, 0, 0, 0, 0, 0, 0, 0], by decide +kernel⟩,
   ⟨playUp 2, 7, 0, bytes [7, 0, 0, 0, 1, 1, 0, 0], by decide +kernel⟩,
   ⟨playUp 3, 7, 0, bytes [7, 0, 0, 0, 1, 2, 0, 0], by decide +kernel⟩,
   ⟨playUp 3, 7, 0, bytes [7, 0, 0, 0, 1, 3, 0, 0], by decide +kernel⟩,
   ⟨keptUp, 7, 0, bytes [8, 0, 0, 0, 4, 0, 0, 0], by decide +kernel⟩,
   ⟨capUp, 7, 0, bytes [4, 0, 0, 0, 0, 0, 0, 0, 0, 0, 0, 0, 0, 0, 0x20, 0, 0, 0, 0x10, 0], [], by decide +kernel⟩⟩

theorem witness_RecordingCommandsComplete :
    (∃ (s : State) (t : Nat) (j : FlashJob),
    s.runs ∧ s.chip.cap.format = some j) ∧
    (∃ (s : State) (t : Nat) (facts : List ReplayFact) (r : Replay),
    s.runs ∧ s.chip.cap.replay = some r ∧ r.notBefore ≤ max s.chip.now t ∧ r.index + 1 < (s.chip.capSet r.set).ticks.length) ∧
    (∃ (s : State) (t : Nat) (facts : List ReplayFact) (r : Replay),
    s.runs ∧ s.chip.cap.replay = some r ∧ r.notBefore ≤ max s.chip.now t ∧ (s.chip.capSet r.set).ticks.length ≤ r.index + 1) ∧
    (∃ (s : State) (t : Nat) (falling : Bool) (i : Nat),
    s.runs ∧ (s.chip.capSet i).state = 1 ∧ (s.chip.capSet i).causeOn 0 = true ∧ bit (u8 (s.chip.capSet i).body 1) 3 = falling) ∧
    (∃ (s : State) (t : Nat) (set : Fin 256) (u : Nat),
    let x := s.chip.capSet set
    s.runs ∧ x.live = true ∧ s.chip.cap.hold = false ∧ x.endAt = 0 ∧ x.trig = some u ∧ x.postMs ≠ 0 ∧ u + x.postMs * 1000000 ≤ (s.upon t).uptime) ∧
    (∃ (s : State) (t : Nat) (set : Fin 256),
    s.runs ∧ (s.chip.capSet set).live = true ∧ s.chip.cap.hold = false ∧ (s.chip.capSet set).committedAt + 1000000000 ≤ (s.upon t).uptime) ∧
    (∃ (s : State) (t : Nat) (set : Fin 256) (ch : Fin 32) (g : Nat × Nat × Nat × Nat),
    let k := (s.chip.capSet set).chan ch
    s.runs ∧ (s.chip.capSet set).live = true ∧ k.takes 32 = true ∧ k.gap = some g) ∧
    (∃ (s : State) (t : Nat) (link : Fin 4) (status : Fin 65536) (set : Fin 256) (ch : Fin 32) (n : Nat),
    s.runs ∧ status.val ≠ 0) ∧
    (∃ (s : State) (t : Nat) (link : Fin 4) (set : Fin 256) (ch : Fin 32) (n : Nat),
    let x := (s.chip.capSet set).modChan ch (fun k => { k with fresh := k.fresh ++ k.staged.take n, staged := k.staged.drop n })
    s.runs ∧ (s.chip.capSet set).live = true ∧ s.chip.cap.hold = false ∧ x.used ≤ x.reserved) ∧
    (∃ (s : State) (t : Nat) (link : Fin 4) (reason : Fin 16) (status : Fin 65536) (lost : List (Fin 32 × Nat)),
    s.runs) ∧
    (∃ (s : State) (t : Nat),
    s.runs) :=
  ⟨⟨chg capUp (fun c => { c with cap := { c.cap with ready := false, format := some { slot := 0, session := 7, reqSeq := 3, entry := 0, inUse := false, ceiling := 0, key := [] } } }), 7, { slot := 0, session := 7, reqSeq := 3, entry := 0, inUse := false, ceiling := 0, key := [] }, by decide +kernel⟩,
   ⟨replayUp, 7, [], { set := 4, cause := 1, index := 0, notBefore := 0, slot := 0, session := 7 }, by decide +kernel⟩,
   ⟨chg replayUp (fun c => { c with cap := { c.cap with replay := some { set := 4, cause := 0, index := 1, notBefore := 0, slot := 0, session := 7 } } }), 7, [], { set := 4, cause := 0, index := 1, notBefore := 0, slot := 0, session := 7 }, by decide +kernel⟩,
   ⟨armedUp, 7, false, 4, by decide +kernel⟩,
   ⟨chg armedUp (fun c => c.modSet 4 (fun x => { x with state := 2, trig := some 5 })), secU 1, 4, 5, by decide +kernel⟩,
   ⟨armedUp, secU 2, 4, by decide +kernel⟩,
   ⟨chg armedUp (fun c => c.modSet 4 (fun x => x.modChan 0 (fun k => { k with rate := 1000, gap := some (2, 3, 4, 5) }))), 7, 4, 0, (2, 3, 4, 5), by decide +kernel⟩,
   ⟨armedUp, 7, 0, 9, 4, 0, 2, by decide +kernel⟩,
   ⟨chg armedUp (fun c => c.modSet 4 (fun x => x.modChan 0 (fun k => { k with rate := 1000, staged := [{ kind := 1, uptime := 0, frame := 1, bytes := bytes [5] }] }))), 7, 0, 4, 0, 1, by decide +kernel⟩,
   ⟨armedUp, 7, 0, 2, 9, [(0, 3)], by decide +kernel⟩,
   ⟨chg up (fun c => c.set Reg.CAP_K_GAPS_COUNT 7 5), 7, by decide +kernel⟩⟩

theorem witness_SessionsComplete :
    (∃ (s : State) (t : Nat) (port : Fin 2) (ipv6 : Bool) (addr udpPort : Nat) (b : List Byte) (session : Nat) (nonce : List Byte) (ceiling : Nat) (key : List Byte) (slot : Nat) (rest : List Nat),
    s.runs ∧ s.chip.lanCarries port = true ∧ openOk b = true ∧ u8 b 16 < 16 ∧ keyEntry s.mem (u8 b 16) = some (ceiling, key) ∧ hmac key (b.take 56) = bytesAt b 56 32 ∧ ((∀ e ∈ s.chip.lan.nonces, e.1 ≠ u8 b 16 ∨ e.2.1 ≠ bytesAt b 24 32)) ∧ u8 b 17 ≤ ceiling ∧ s.chip.freeSlots = slot :: rest ∧ s.chip.drawOk session nonce = true) ∧
    (∃ (s : State) (t : Nat) (port : Fin 2) (ipv6 : Bool) (addr udpPort : Nat) (b : List Byte),
    s.runs ∧ s.chip.lanCarries port = true ∧ outerOk 3 b = true ∧ (List.range 16).find? (fun i => (s.chip.session i).state != .free && (s.chip.session i).id == u32 b 4) = none) ∧
    (∃ (s : State) (t : Nat) (port : Fin 2) (ipv6 : Bool) (addr udpPort : Nat) (b : List Byte) (slot : Nat) (p : List Byte),
    s.runs ∧ s.chip.lanCarries port = true ∧ outerOk 3 b = true ∧ (List.range 16).find? (fun i => (s.chip.session i).state != .free && (s.chip.session i).id == u32 b 4) = some slot ∧ b.length ≤ (s.chip.session slot).maxDgram ∧ gcmOpen (s.chip.session slot).key (hostNonce b) (b.take 16) (b.drop 16) = some p ∧ (s.chip.session slot).rxTop ≤ u64 b 8 + 1024 ∧ u64 b 8 ∉ (s.chip.session slot).rxSeen) ∧
    (∃ (s : State) (t : Nat) (slot : Fin 16),
    s.runs ∧ (s.chip.session slot).state = .halfOpen ∧ (s.chip.session slot).openedAt + secU 2 ≤ max s.chip.now t) ∧
    (∃ (s : State) (t : Nat) (slot : Fin 16) (seq : Nat) (p : Partial),
    s.runs ∧ p ∈ (s.chip.session slot).partials ∧ p.seq = seq ∧ p.since + secU 1 ≤ max s.chip.now t) ∧
    (∃ (s : State) (t : Nat) (slot : Fin 16),
    s.runs ∧ (s.chip.session slot).state = .opened ∧ (s.chip.session slot).complete ≠ []) ∧
    (∃ (s : State) (t : Nat) (slot : Fin 16) (n : Notice) (rest : List Notice),
    s.runs ∧ (s.chip.session slot).state = .opened ∧ (s.chip.session slot).notices = n :: rest ∧ n.sentAt + msU n.interval ≤ max s.chip.now t) ∧
    (∃ (s : State) (t : Nat) (slot : Fin 16),
    s.runs ∧ (s.chip.session slot).state = .opened ∧ (s.chip.session slot).lastAt + secU s.chip.idleS ≤ max s.chip.now t) ∧
    (∃ (s : State) (t : Nat),
    s.runs) ∧
    (∃ (s : State) (t : Nat),
    s.runs) :=
  ⟨⟨keyedUp, 7, 0, false, 77, 4000, openBody, 12, bytes (List.replicate 32 1), 3, bytes (List.replicate 32 7), 1, (List.range 14).map (fun i => i + 2), by decide +kernel⟩,
   ⟨up, 7, 0, false, 77, 4000, bytes ([0x4C, 0x4E, 1, 3] ++ [0, 0, 0, 9] ++ List.replicate 8 0), by decide +kernel⟩,
   ⟨sealUp, 7, 0, false, 77, 4000, sealBody, 0, bytes ([4] ++ List.replicate 39 0), by decide +kernel⟩,
   ⟨halfUp, secU 3, 0, by decide +kernel⟩,
   ⟨busyUp, secU 3, 0, 2, ⟨2, 1, 9, [], 0⟩, by decide +kernel⟩,
   ⟨busyUp, 7, 0, by decide +kernel⟩,
   ⟨busyUp, msU 30, 0, ⟨1, 0x8001, bytes [5], 0, 20⟩, [], by decide +kernel⟩,
   ⟨busyUp, secU 31, 0, by decide +kernel⟩,
   ⟨busyUp, 7, by decide +kernel⟩,
   ⟨busyUp, 7, by decide +kernel⟩⟩

theorem witness_MessagesTravelSealed :
    ∃ (x : Session) (channel msgType status seq : Nat) (body : List Byte),
    1200 ≤ x.maxDgram :=
  ⟨sealUp.chip.session 0, 2, 0x0301, 0, 5, List.replicate 3000 7, by decide +kernel⟩

theorem witness_SessionRequestsComplete :
    (∃ (s : State) (t : Nat) (slot : Fin 16),
    s.serving slot 1 1) ∧
    (∃ (s : State) (t : Nat) (slot : Fin 16),
    s.serving slot 2 1) ∧
    (∃ (s : State) (t : Nat) (slot : Fin 16) (body : List Byte),
    s.serving slot 3 1 ∧ body.length = 8 ∧ zeroAt body 5 3 = true) ∧
    (∃ (s : State) (t : Nat) (slot : Fin 16) (body : List Byte),
    s.serving slot 0x0201 1 ∧ u8 body 0 = 1 ∧ queryOk body = true ∧ u16 body 2 ≤ 1567 ∧ u16 body 2 + u16 body 4 ≤ 1568) ∧
    (∃ (s : State) (t : Nat) (slot : Fin 16),
    s.serving slot 0x0201 1) ∧
    (∃ (s : State) (t : Nat) (slot : Fin 16),
    s.serving slot 0x0201 1) ∧
    (∃ (s : State) (t : Nat) (slot : Fin 16),
    s.serving slot 0x0201 1) ∧
    (∃ (s : State) (t : Nat) (slot : Fin 16) (a : Nat) (facts : List BusFact),
    s.serving slot 0x0301 1 ∧ a % 4 = 0 ∧ 0x40000000 ≤ a ∧ a < 0x400E0000 ∧ bit (s.chip.fld Reg.FAB_QUAR_MASTER 0) 7 = false ∧ facts.all (fun f => !f.late) = true) ∧
    (∃ (s : State) (t : Nat) (slot : Fin 16) (v : BitVec 32) (facts : List BusFact),
    s.serving slot 0x0302 2 ∧ v.toNat % 256 ≠ 0 ∧ bit (s.chip.fld Reg.FAB_QUAR_MASTER 0) 7 = false ∧ facts.all (fun f => !f.late) = true) ∧
    (∃ (s : State) (t : Nat) (master : Fin 9) (slot : Fin 16) (v : BitVec 32),
    s.runs ∧ v.toNat % 256 ≠ 0) ∧
    (∃ (s : State) (t : Nat) (slot : Fin 16) (body : List Byte),
    s.serving slot 0x0801 3 ∧ u8 body 0 = 2 ∧ bulkWriteOk body = true ∧ u64 body 8 % 64 = 0 ∧ u64 body 8 + (body.length - 16) ≤ storeSize ∧ s.chip.bulkOut = false) ∧
    (∃ (s : State) (t : Nat) (slot : Fin 16) (body : List Byte),
    s.serving slot 0x0802 3 ∧ u8 body 0 = 2 ∧ bulkReadOk body = true ∧ u64 body 8 % 64 = 0 ∧ u64 body 8 + u32 body 16 ≤ storeSize ∧ s.chip.bulkOut = false) ∧
    (∃ (s : State) (t : Nat) (slot : Fin 16) (body : List Byte),
    s.serving slot 0x0802 1 ∧ u8 body 0 = 5 ∧ bulkReadOk body = true ∧ u32 body 4 ≤ 7 ∧ u64 body 8 % 16 = 0 ∧ u64 body 8 + u32 body 16 ≤ 134217728 ∧ s.chip.bulkOut = false) ∧
    (∃ (s : State) (t : Nat) (slot : Fin 16) (body : List Byte),
    s.serving slot 0x0802 3 ∧ u8 body 0 = 6 ∧ bulkReadOk body = true ∧ u64 body 8 + u32 body 16 ≤ 0x0C000000) :=
  ⟨⟨up, 7, 0, by decide +kernel⟩,
   ⟨up, 7, 0, by decide +kernel⟩,
   ⟨up, 7, 0, bytes [0, 0, 0, 5, 2, 0, 0, 0], by decide +kernel⟩,
   ⟨up, 7, 0, bytes [1, 0, 0, 5, 0, 2, 0, 0], by decide +kernel⟩,
   ⟨up, 7, 0, by decide +kernel⟩,
   ⟨up, 7, 0, by decide +kernel⟩,
   ⟨up, 7, 0, by decide +kernel⟩,
   ⟨up, 7, 0, 0x40020008, [⟨false, false, false, none, [.store 3]⟩], by decide +kernel⟩,
   ⟨up, 7, 0, 90, [], by decide +kernel⟩,
   ⟨up, 7, 1, 0, 90, by decide +kernel⟩,
   ⟨up, 7, 0, bytes ([2, 0, 0, 0] ++ [0, 0, 0, 0] ++ [0, 0, 0, 0, 0, 0, 0, 64] ++ [1, 2, 3]), by decide +kernel⟩,
   ⟨up, 7, 0, bytes ([2, 0, 0, 0] ++ [0, 0, 0, 0] ++ [0, 0, 0, 0, 0, 0, 0, 64] ++ [0, 0, 0, 3]), by decide +kernel⟩,
   ⟨up, 7, 0, bytes ([5, 0, 0, 0] ++ [0, 0, 0, 1] ++ [0, 0, 0, 0, 0, 0, 0, 64] ++ [0, 0, 0, 3]), by decide +kernel⟩,
   ⟨up, 7, 0, bytes ([6, 0, 0, 0] ++ [0, 0, 0, 0] ++ [0, 0, 0, 0, 0, 0, 0, 64] ++ [0, 0, 0, 3]), by decide +kernel⟩⟩

theorem witness_SettingsRequestsComplete :
    (∃ (s : State) (t : Nat) (slot : Fin 16) (body : List Byte) (facts : List Remote),
    let ty := u16 body 0
    let td := u8 body 2
    let r := body.drop 8
    s.serving slot 0x0401 2 ∧ configBodyOk body = true ∧ td ≤ 3 ∧ ((td = 0 ∨ ty = tyTick)) ∧ ty ≠ tySurface ∧ ty ∈ allTypes ∧ (s.upon t).configureCode slot ty td ((s.upon t).configIndex ty td r) r facts = none) ∧
    (∃ (s : State) (t : Nat) (slot : Fin 16) (r : List Byte) (facts : List Remote),
    s.serving slot 0x0401 2 ∧ r.length = 4 ∧ 1 ≤ u8 r 0 ∧ u8 r 1 ≤ 1 ∧ zeroAt r 2 2 = true) ∧
    (∃ (s : State) (t : Nat) (slot : Fin 16),
    s.serving slot 0x0402 2 ∧ s.chip.upd.set.state ≠ .armed ∧ s.chip.upd.act = none ∧ s.chip.upd.save = none ∧ s.chip.upd.enrol = none ∧ s.chip.loading 1 = false ∧ s.chip.loading 2 = false) ∧
    (∃ (s : State) (t : Nat) (fails : Bool) (journalFails : Fin 3) (j : FlashJob),
    let bank := s.chip.spareBank s.mem 2
    let m1 := makeRoom (writeSettings s.mem bank j.key ((s.chip.fld Reg.BOOT_SET_GEN_GEN 0 + 1) % 4294967296))
    let bad := fails = true ∨ bankCode m1 2 bank false ≠ 0 ∨ journalFails ≠ 0
    s.runs ∧ s.chip.upd.save = some j ∧ (s.upon t).flashStopped = false) :=
  ⟨⟨up, 7, 0, bytes ([3, 2, 0, 0] ++ [0, 0, 0, 4] ++ [90, 1, 0, 0]), [], by decide +kernel⟩,
   ⟨up, 7, 0, bytes [90, 1, 0, 0], [], by decide +kernel⟩,
   ⟨up, 7, 0, by decide +kernel⟩,
   ⟨flashUp, 7, true, 0, ⟨0, 7, 1, 0, false, 0, bytes [1]⟩, by decide +kernel⟩⟩

theorem witness_UpdateCommandsComplete :
    (∃ (s : State) (t : Nat) (slot : Fin 16) (body : List Byte),
    let kind := u8 body 1
    s.serving slot 0x0701 3 ∧ body.length = 20 ∧ u8 body 0 = 1 ∧ zeroAt body 2 2 = true ∧ updPlain body = true ∧ 1 ≤ kind ∧ kind ≤ 2 ∧ 2 ≤ u32 body 4 ∧ u32 body 4 ≤ (if kind = 1 then 768 else 256) ∧ s.chip.loading 1 = false ∧ s.chip.loading 2 = false ∧ s.chip.actNames kind = false ∧ s.chip.upd.save = none) ∧
    (∃ (s : State) (t : Nat) (kind : Fin 3),
    s.runs ∧ kind.val ≠ 0 ∧ (s.chip.load kind).state = .erasing ∧ (s.upon t).flashStopped = false) ∧
    (∃ (s : State) (t : Nat) (slot : Fin 16) (id : Nat) (data : List Byte) (fails : Bool) (kind : Nat),
    let l := s.chip.load kind
    let man := manifest s.mem kind l.bank
    s.serving slot 0x0801 3 ∧ data.length = 65536 ∧ s.chip.holding = false ∧ s.chip.loadingKind = some kind ∧ 1 ≤ id ∧ id < 65536 ∧ 0 ∈ l.written ∧ id ∉ l.written) ∧
    (∃ (s : State) (t : Nat) (slot : Fin 16) (body : List Byte),
    let kind := u8 body 1
    s.serving slot 0x0701 3 ∧ body.length = 20 ∧ u8 body 0 = 2 ∧ zeroAt body 2 2 = true ∧ updPlain body = true ∧ u32 body 4 = 0 ∧ 1 ≤ kind ∧ kind ≤ 2 ∧ (s.chip.load kind).state = .loading ∧ (s.chip.load kind).verifying = false ∧ (s.chip.load kind).written.length = (s.chip.load kind).arg ∧ s.chip.upd.save = none) ∧
    (∃ (s : State) (t : Nat) (kind : Fin 3) (fails : Bool),
    let l := s.chip.load kind
    let code := bankCode s.mem kind l.bank fails
    s.runs ∧ kind.val ≠ 0 ∧ l.state = .loading ∧ l.verifying = true ∧ (s.upon t).flashStopped = false) ∧
    (∃ (s : State) (t : Nat) (slot : Fin 16) (body : List Byte),
    let kinds := u32 body 4
    s.serving slot 0x0701 3 ∧ body.length = 20 ∧ u8 body 0 = 3 ∧ u8 body 1 = 0 ∧ zeroAt body 2 2 = true ∧ updPlain body = true ∧ 1 ≤ kinds ∧ kinds ≤ 3 ∧ ((bit kinds 0 = true → s.chip.upd.fw.state = .armed)) ∧ ((bit kinds 1 = true → s.chip.upd.set.state = .armed)) ∧ s.chip.upd.act = none ∧ s.chip.upd.save = none) ∧
    (∃ (s : State) (t : Nat) (slot : Fin 16) (body : List Byte),
    let kind := u8 body 1
    s.serving slot 0x0701 3 ∧ body.length = 20 ∧ u8 body 0 = 4 ∧ zeroAt body 2 2 = true ∧ updPlain body = true ∧ u32 body 4 = 0 ∧ kind ≤ 2 ∧ ((kind = 0 → s.chip.upd.act.any (fun a => a.state == 1) = true)) ∧ ((kind ≠ 0 → (s.chip.load kind).state ≠ .idle ∧ s.chip.actNames kind = false))) ∧
    (∃ (s : State) (t : Nat) (slot : Fin 16) (k ceiling : Nat) (key : List Byte),
    s.serving slot 0x0701 3 ∧ k ≤ 15 ∧ 1 ≤ ceiling ∧ ceiling ≤ 3 ∧ key.length = 32 ∧ s.chip.upd.save = none ∧ s.chip.upd.enrol = none) ∧
    (∃ (s : State) (t : Nat) (j : FlashJob),
    s.runs ∧ s.chip.upd.enrol = some j ∧ (s.upon t).flashStopped = false) ∧
    (∃ (s : State) (t : Nat) (journalFails : Fin 3) (a : Activation),
    s.runs ∧ s.chip.phase ≠ 4 ∧ s.chip.upd.act = some a ∧ a.state = 1 ∧ (s.upon t).actDue a = true) ∧
    (∃ (s : State) (t : Nat) (x : Trial) (a : Activation) (w : Nat × Nat × Nat),
    s.runs ∧ s.chip.upd.act = some a ∧ 2 ≤ a.state ∧ a.why = some w ∧ (s.upon t).flashStopped = false) ∧
    (∃ (s : State) (t : Nat) (x : Trial) (a : Activation) (c1 : Chip),
    s.runs ∧ s.chip.upd.act = some a ∧ a.state = 2 ∧ a.kinds = 2 ∧ a.why = none ∧ x.late = false ∧ x.journalFails = 0 ∧ (s.upon t).flashStopped = false ∧ (s.upon t).trial a.slot ((readBody (bankBody s.mem s.chip.upd.set.bank)).getD ([], [])).2 none = .ok c1) ∧
    (∃ (s : State) (t : Nat),
    s.runs) :=
  ⟨⟨up, 7, 0, bytes ([1, 2, 0, 0] ++ [0, 0, 0, 9] ++ List.replicate 12 0), by decide +kernel⟩,
   ⟨eraseUp, 7, 1, by decide +kernel⟩,
   ⟨loadUp, 7, 0, 1, (List.replicate 65536 0 : List Byte), false, 1, ⟨by decide +kernel, List.length_replicate, by decide +kernel, by decide +kernel, by decide +kernel, by decide +kernel, by decide +kernel, by decide +kernel⟩⟩,
   ⟨loadUp, 7, 0, bytes ([2, 1, 0, 0] ++ List.replicate 16 0), by decide +kernel⟩,
   ⟨verifyUp, 7, 1, true, by decide +kernel⟩,
   ⟨armedSet, 7, 0, bytes ([3, 0, 0, 0] ++ [0, 0, 0, 2] ++ List.replicate 12 0), by decide +kernel⟩,
   ⟨armedSet, 7, 0, bytes ([4, 2, 0, 0] ++ List.replicate 16 0), by decide +kernel⟩,
   ⟨up, 7, 0, 4, 2, bytes (List.replicate 32 5), by decide +kernel⟩,
   ⟨flashUp, 7, ⟨0, 7, 1, 3, true, 2, bytes (List.replicate 32 5)⟩, by decide +kernel⟩,
   ⟨actUp 1, 7, 0, ⟨1, 2, none, 0, none, 0, 7, 1⟩, by decide +kernel⟩,
   ⟨chg up (fun c => { c with upd := { c.upd with act := some ⟨4, 2, none, 0, some (5, 0, 0), 0, 7, 1⟩ } }), 7, ⟨true, none, none, false, 0⟩, ⟨4, 2, none, 0, some (5, 0, 0), 0, 7, 1⟩, (5, 0, 0), by decide +kernel⟩,
   ⟨actUp 2, 7, ⟨true, none, none, false, 0⟩, ⟨2, 2, none, 0, none, 0, 7, 1⟩, (match ((actUp 2).upon 7).trial 0 [] none with | .ok c => c | .error _ => Chip.reset), by decide +kernel⟩,
   ⟨up, 7, by decide +kernel⟩⟩

theorem witness_FaultCommandsComplete :
    (∃ (s : State) (t : Nat) (td : Fin 4) (late f : Nat),
    s.runs ∧ (s.chip.dom td).jobFrame = some f ∧ (s.chip.dom td).commit ≠ some f ∧ (s.chip.dom td).takeOvr + 1 < s.chip.takeOvrLimit) ∧
    (∃ (s : State) (t : Nat) (td : Fin 4) (late : Nat),
    s.runs ∧ (s.chip.dom td).syncOpen = true) ∧
    (∃ (s : State) (t : Nat) (td : Fin 4) (late : Nat),
    s.runs ∧ (s.chip.dom td).cmpOpen = true) ∧
    (∃ (s : State) (t : Nat) (td : Fin 4) (late : Nat),
    s.runs ∧ (s.chip.dom td).fwaOpen = true) ∧
    (∃ (s : State) (t : Nat) (hit : SramHit) (offset part row : Nat),
    s.runs ∧ hitPlace hit = some (part, row) ∧ (part = 2 ∨ row = 6)) ∧
    (∃ (s : State) (t : Nat) (p offset : Nat),
    let recent := s.chip.flt.restarts.filter (fun u => decide (max s.chip.now t < u + secU 600))
    s.runs ∧ s.chip.halted = false ∧ s.chip.upd.act = none ∧ recent.length < s.chip.restartLimit) ∧
    (∃ (s : State) (t : Nat) (core : Fin 4),
    let recent := s.chip.flt.restarts.filter (fun u => decide (max s.chip.now t < u + secU 600))
    s.runs ∧ s.chip.boot.released = true ∧ s.chip.halted = false ∧ s.chip.upd.act = none ∧ recent.length < s.chip.restartLimit) ∧
    (∃ (s : State) (t : Nat) (core : Fin 4),
    let recent := s.chip.flt.restarts.filter (fun u => decide (max s.chip.now t < u + secU 600))
    s.runs ∧ s.chip.boot.released = true ∧ s.chip.fab.held = [] ∧ s.chip.halted = false ∧ s.chip.upd.act = none ∧ recent.length < s.chip.restartLimit) ∧
    (∃ (s : State) (t : Nat),
    let recent := s.chip.flt.restarts.filter (fun u => decide (max s.chip.now t < u + secU 600))
    s.runs ∧ s.chip.halted = false ∧ s.chip.upd.act = none ∧ recent.length < s.chip.restartLimit) ∧
    (∃ (s : State) (t : Nat) (key : Fin 65536),
    s.runs ∧ key.val ≠ 0x7E57) ∧
    (∃ (s : State) (t : Nat),
    s.runs ∧ s.chip.restarting = true) ∧
    (∃ (s : State) (t : Nat),
    s.runs) ∧
    (∃ (s : State) (t : Nat),
    s.runs) :=
  ⟨⟨jobsUp, 7, 1, 44, 9, by decide +kernel⟩,
   ⟨jobsUp, 7, 1, 44, by decide +kernel⟩,
   ⟨jobsUp, 7, 1, 44, by decide +kernel⟩,
   ⟨jobsUp, 7, 1, 44, by decide +kernel⟩,
   ⟨up, 7, .rxPacket, 40, 2, 3, by decide +kernel⟩,
   ⟨up, 7, 1, 40, by decide +kernel⟩,
   ⟨up, 7, 1, by decide +kernel⟩,
   ⟨up, 7, 1, by decide +kernel⟩,
   ⟨up, 7, by decide +kernel⟩,
   ⟨up, 7, 0x7E58, by decide +kernel⟩,
   ⟨restartUp, usU 300, by decide +kernel⟩,
   ⟨up, 7, by decide +kernel⟩,
   ⟨chg up (fun c => c.set Reg.FLT_WD_M2 0 4), 7, by decide +kernel⟩⟩

theorem witness_RecorderCommandsComplete :
    (∃ (s : State) (t : Nat) (r : Rec) (rest : List Rec),
    s.runs ∧ s.chip.log.handed = r :: rest ∧ r.ctl = none ∧ s.chip.isSet Reg.PWR_STATUS_HOLD 0 = false ∧ s.chip.log.freeze = none ∧ newestLike s.chip.log.ring r = none ∧ s.chip.ringSev ≤ r.sev ∧ unitsOf s.chip.log.ring + r.units ≤ ringUnits) ∧
    (∃ (s : State) (t : Nat) (r : Rec) (due : List Rec),
    let taken := fitUnits (roomAt s.chip.log.offset) (r :: due)
    s.runs ∧ s.chip.isSet Reg.PWR_STATUS_HOLD 0 = false ∧ (s.upon t).batchDue = some (r :: due) ∧ s.chip.log.closed = false ∧ s.chip.log.offset + 16 + 32 * r.units ≤ 65536) ∧
    (∃ (s : State) (t : Nat) (f : Freeze),
    s.runs ∧ s.chip.log.freeze = some f ∧ f.since + secU s.chip.freezeS ≤ max s.chip.now t) ∧
    (∃ (s : State) (t : Nat),
    s.runs) ∧
    (∃ (s : State) (t : Nat) (f : Freeze),
    s.runs ∧ s.chip.log.freeze = some f ∧ f.owner = .window) ∧
    (∃ (s : State) (t : Nat),
    s.runs ∧ (∀ f ∈ s.chip.log.freeze, f.owner ≠ .window)) ∧
    (∃ (s : State) (t : Nat),
    let r := s.chip.windowRead (s.chip.fld Reg.LOG_WIN_CURSOR_SEQ 0)
    s.runs) ∧
    (∃ (s : State) (t : Nat),
    s.runs) ∧
    (∃ (s : State) (t : Nat) (slot : Fin 16) (cursor : BitVec 32),
    let r := s.chip.windowRead cursor.toNat
    s.serving slot 0x0501 1 ∧ cursor.toNat ≠ 0xFFFFFFFF) ∧
    (∃ (s : State) (t : Nat) (slot : Fin 16),
    s.serving slot 0x0502 3) :=
  ⟨⟨logUp, 7, rec1, [rec1], by decide +kernel⟩,
   ⟨logUp, 7, { rec1 with seq := 5 }, [], by decide +kernel⟩,
   ⟨frozenUp, secU 11, { owner := .window, since := 0 }, by decide +kernel⟩,
   ⟨frozenUp, 7, by decide +kernel⟩,
   ⟨frozenUp, 7, { owner := .window, since := 0 }, by decide +kernel⟩,
   ⟨up, 7, by decide +kernel⟩,
   ⟨logUp, 7, by decide +kernel⟩,
   ⟨chg up (fun c => c.set Reg.LOG_BELOW_COUNT 0 4), 7, by decide +kernel⟩,
   ⟨logUp, 7, 0, 0, by decide +kernel⟩,
   ⟨frozenUp, 7, 0, by decide +kernel⟩⟩

theorem witness_FabricCommandsComplete :
    (∃ (s : State) (t : Nat) (master : Fin 9) (slot : Fin 16) (addr : BitVec 32) (write : Bool) (words : List (BitVec 32)) (lock barrier : Bool) (tg : Nat),
    s.runs ∧ master.val ∉ s.chip.fab.held ∧ words ≠ [] ∧ addr.toNat % 4 = 0 ∧ (s.chip.fab.txs.filter (fun x => x.master == master.val)).length < 16 ∧ s.chip.fabAccess master addr.toNat (4 * words.length) write = .ok tg ∧ (tg ≠ 0 ∨ s.chip.fab.remapDue = false)) ∧
    (∃ (s : State) (t : Nat) (master : Fin 9) (slot : Fin 16) (addr : BitVec 32) (write : Bool) (words : List (BitVec 32)) (lock barrier : Bool) (tg k : Nat),
    s.runs ∧ 5 ≤ master.val ∧ master.val ∉ s.chip.fab.held ∧ words ≠ [] ∧ addr.toNat % 4 = 0 ∧ (s.chip.fab.txs.filter (fun x => x.master == master.val)).length < 16 ∧ s.chip.fabAccess master addr.toNat (4 * words.length) write = .error (tg, k)) ∧
    (∃ (s : State) (t : Nat) (target : Fin 7) (x : FabTx),
    s.runs ∧ target.val = 1 ∧ s.chip.inProgress target = some x ∧ x.target = target ∧ x.write = true) ∧
    (∃ (s : State) (t : Nat) (target : Fin 7) (x : FabTx),
    s.runs ∧ s.chip.fab.txs = [x] ∧ x.target = target ∧ x.granted = false ∧ ((∀ p, p < 7 → (s.chip.port p).lock = none))) ∧
    (∃ (s : State) (t : Nat),
    s.runs) ∧
    (∃ (s : State) (t : Nat) (target : Fin 7) (delivered : Nat) (x : FabTx),
    s.runs ∧ target.val = 1 ∧ s.chip.inProgress target = some x ∧ s.chip.fab.txs.any (fun y => y.target == target.val && y.master != x.master) = true ∧ x.target = target ∧ x.master ∈ [1, 2, 3, 4, 7, 8]) ∧
    (∃ (s : State) (t : Nat) (master : Fin 9) (target : Fin 7) (tookEffect : Bool) (x : FabTx),
    s.runs ∧ 5 ≤ master.val ∧ 2 ≤ target.val ∧ s.chip.fab.txs.find? (fun x => x.master == master.val && x.target == target.val) = some x ∧ x.granted = false ∧ x.write = false ∧ (x.at_ + (if target.val = 3 ∨ target.val = 4 then usU (s.chip.fld Reg.FAB_TIMEOUT_REG_US 0) else msU (s.chip.fld Reg.FAB_TIMEOUT_MEM_MS 0)) ≤ max s.chip.now t)) ∧
    (∃ (s : State) (t : Nat) (on : Bool),
    s.runs ∧ s.chip.isSet Reg.FAB_CTRL_REMAP 0 ≠ on ∧ (∀ x ∈ s.chip.fab.txs, x.target ≠ 0)) ∧
    (∃ (s : State) (t : Nat) (mask : Fin 512),
    let q := s.chip.fld Reg.FAB_QUAR_MASTER 0
    s.runs) ∧
    (∃ (s : State) (t : Nat),
    s.runs) :=
  ⟨⟨up, 7, 8, 0, 0x10000000, true, [5, 6], false, false, 1, by decide +kernel⟩,
   ⟨up, 7, 6, 0, 0x40000000, true, [5, 6], false, false, 3, 2, by decide +kernel⟩,
   ⟨fabUp, 7, 1, { tx8 with granted := true }, by decide +kernel⟩,
   ⟨chg up (fun c => { c with fab := { c.fab with txs := [tx8] } }), 7, 1, tx8, by decide +kernel⟩,
   ⟨fabUp, 7, by decide +kernel⟩,
   ⟨fabUp, 7, 1, 1, { tx8 with granted := true }, by decide +kernel⟩,
   ⟨fabLate, usU 300, 5, 3, false, ⟨5, 3, 0x40000000, false, [0], false, false, 0, 0, 0, false⟩, by decide +kernel⟩,
   ⟨up, 7, true, by decide +kernel⟩,
   ⟨chg fabUp (fun c => c.set Reg.FAB_QUAR_MASTER 0 0x180), 7, 0x100, by decide +kernel⟩,
   ⟨chg up (fun c => c.set Reg.FAB_M_BEATS_COUNT 3 4), 7, by decide +kernel⟩⟩

theorem witness_XptRejectedWrites :
    (∃ (s : State) (t : Nat) (master : Fin 9) (slot : Fin 16) (v : BitVec 32),
    s.runs ∧ ((v.toNat % 4 = 3 ∨ v.toNat / 256 % 256 = 0))) ∧
    (∃ (s : State) (t : Nat) (master : Fin 9) (slot : Fin 16) (v : BitVec 32),
    s.runs ∧ 1567 < v.toNat) ∧
    (∃ (s : State) (t : Nat) (master : Fin 9) (slot : Fin 16) (v : BitVec 32),
    s.runs ∧ 1119 < v.toNat) :=
  ⟨⟨up, 5, 7, 0, 0x0000_0203#32, by decide +kernel⟩,
   ⟨up, 5, 7, 0, 1568, by decide +kernel⟩,
   ⟨up, 5, 7, 0, 1120, by decide +kernel⟩⟩

theorem witness_SpliceRejectedWrites :
    (∃ (s : State) (t : Nat) (master : Fin 9) (slot : Fin 16) (v : BitVec 32),
    s.runs ∧ 7 < v.toNat) ∧
    (∃ (s : State) (t : Nat) (master : Fin 9) (slot : Fin 16) (v : BitVec 32),
    s.runs ∧ 1567 < v.toNat) ∧
    (∃ (s : State) (t : Nat) (master : Fin 9) (slot : Fin 16) (v : BitVec 32),
    s.runs ∧ ((bit v.toNat 1 = true ∧ s.chip.spl.members.length ≤ 1 ∨ bit v.toNat 2 = true ∧ s.chip.fld Reg.SPL_TWIN_SYNCED 0 = 0))) ∧
    (∃ (s : State) (t : Nat) (slot : Fin 16) (v : BitVec 32) (facts : List BusFact),
    s.runs ∧ s.chip.serves slot = true ∧ (s.chip.session slot).priv < 3 ∧ ((bit v.toNat 1 = true ∨ bit v.toNat 2 = true))) :=
  ⟨⟨up, 5, 7, 0, 8, by decide +kernel⟩,
   ⟨up, 5, 7, 0, 1568, by decide +kernel⟩,
   ⟨up, 5, 7, 0, 2, by decide +kernel⟩,
   ⟨configUp, 5, 0, 2, [], by decide +kernel⟩⟩

theorem witness_InvalidSlotTableNeverSwaps :
    ∃ (s : State) (t : Nat),
    s.runs ∧ s.chip.arb.swapPend = true ∧ s.chip.fst.ready = true ∧ ((∃ ch ∈ List.range 64, ownedLimit < s.chip.arb.shadow.owned ch ∨ s.chip.arb.shadow.tailOwned ch = true)) :=
  ⟨badShadow, 5, by decide +kernel⟩

theorem witness_WindowLoadsTheLog :
    ∃ (s : State) (t : Nat) (master : Fin 9) (slot : Fin 16) (v : BitVec 32),
    let r := (s.upon t).windowRead (s.chip.fld Reg.LOG_WIN_CURSOR_SEQ 0)
    s.runs ∧ v.toNat % 32 = 8 :=
  ⟨windowUp, 5, 7, 0, 8, by decide +kernel⟩

theorem witness_SlotCountRunsFree :
    (∃ (c : Chip) (k : Nat) (m : Fin 9) (sl : Fin 16),
    c.released ≤ c.now) ∧
    (∃ (c d : Chip),
    c.now = d.now ∧ c.released = d.released) ∧
    (∃ (s : State) (t : Nat) (ch : Fin 64) (beats : Nat) (lock write : Bool),
    s.runs ∧ s.chip.fst.ready = true ∧ bit (s.chip.fld Reg.ARB_QUAR_CLIENT 0) 0 = false ∧ (∀ x ∈ (s.chip.arbiter ch).waiting ++ (s.chip.arbiter ch).grant.toList, x.client ≠ 0)) :=
  ⟨⟨{ up.chip with now := 1000 }, 7, 7, 0, by decide +kernel⟩,
   ⟨up.chip, flashed.chip, by decide +kernel⟩,
   ⟨up, 7000, 3, 32, false, true, by decide +kernel⟩⟩

theorem witness_OldestRequestArbitration :
    ∃ (s : State) (t : Nat) (ch : Fin 64) (slot : Fin 18304) (ready : List (Fin 5)) (o : BeReq),
    s.runs ∧ s.chip.fst.ready = true ∧ s.chip.arb.active.owner ch slot = 0 ∧ s.chip.arb.catchUp = [] ∧ oldestOf (s.chip.arbiter ch).waiting = some o ∧ ((o.lock = false ∨ slot.val < 18288)) :=
  ⟨backoffState, 7, 3, 5, [], ⟨4, 0, 2, 32, false, true⟩, by decide +kernel⟩

theorem witness_SalvoIsAllOrNothing :
    ∃ (s : State) (t : Nat) (slot : Fin 16) (body : List Byte),
    s.runs :=
  ⟨up, 5, 0, twoTakes, by decide +kernel⟩

theorem witness_RequestsWaitTheirTurn :
    ∃ (i : Instr) (s : State) (slot : Fin 16),
    i.request?.isSome = true ∧ s.runs ∧ ((∀ r, i.request? = some r → r.1 = slot)) ∧ s.chip.serves slot = false :=
  ⟨.take 5 1 [], up, 1, by decide +kernel⟩

theorem witness_KeysAreNeverRead :
    ∃ (s : State) (m : Tbl Byte) (t : Nat) (slot : Fin 16) (body : List Byte) (facts : List BusFact),
    ((∀ a, a < 0x1C000000 ∨ 0x1C0FFFFF < a → Tbl.get memUnlisted s.mem a = Tbl.get memUnlisted m a)) :=
  ⟨keyedUp, [], 5, 0, beBytes 4 0x06000000 ++ beBytes 4 0 ++ beBytes 8 0x0C020000 ++ beBytes 4 64 ++ beBytes 4 0, [], keysOnly⟩

theorem witness_ClosingKeepsTakes :
    (∃ (s : State) (t : Nat),
    s.runs) ∧
    (∃ (s : State) (t : Nat) (slot : Fin 16),
    s.runs) ∧
    (∃ (s : State) (t : Nat) (slot : Fin 16) (body : List Byte),
    s.runs) :=
  ⟨⟨up, 5, by decide +kernel⟩,
   ⟨queuedUp, 40000000000000, 0, by decide +kernel⟩,
   ⟨queuedUp, 5, 0, [], by decide +kernel⟩⟩

theorem witness_ColdResetNeedsItsKey :
    (∃ (s : State) (t : Nat) (master : Fin 9) (slot : Fin 16) (v : BitVec 32),
    s.runs ∧ ((v.toNat / 65536 ≠ 0xC0DE ∨ bit v.toNat 0 = false))) ∧
    (∃ (s : State) (t : Nat) (master : Fin 9) (slot : Fin 16) (v : BitVec 32),
    s.runs ∧ v.toNat / 65536 = 0xC0DE ∧ bit v.toNat 0 = true) :=
  ⟨⟨up, 5, 7, 0, 0xC0DD_0001#32, by decide +kernel⟩,
   ⟨up, 5, 7, 0, 0xC0DE_0001#32, by decide +kernel⟩⟩

theorem witness_IdleStepChangesNothing : up.pending = [] := by decide

theorem witness_StoppedModuleStaysAsItIs :
    (chg up (fun c => { c with run := .inReset })).chip.run ≠ .running ∧ (Instr.xptClrCnt 5).alwaysActs = false := by decide

theorem witness_OnlyMemoryCommandsWriteMemory :
    ∃ u, (Instr.xptClrCnt 5).reachesMemory = false ∧ exec (.xptClrCnt 5) up = .next u := ⟨_, rfl, rfl⟩

theorem witness_MemoryStaysCanonical : ∃ u, flashed.memOk ∧ step { flashed with pending := [.ping 5 0 []] } = .next u := ⟨_, by decide +kernel, rfl⟩

theorem witness_RefusedRequestChangesNothing :
    observerUp.chip.serves 0 = true ∧ (observerUp.chip.gateCode 0 0x0402 2 false true).isSome = true ∧
    up.chip.serves 0 = true ∧ (up.chip.gateCode 0 0x0402 2 false false).isSome = true := by decide +kernel

theorem witness_ReservedBitsReadZero : ∀ f ∈ Regs.atAddr 0x40000048, 2 < f.lo ∨ f.lo + f.width ≤ 2 := by decide +kernel

theorem witness_ReservedBitsWriteNothing :
    selects 0x40000048 = false ∧ 0x40000048 ≠ Reg.FAB_QUAR_MASTER.addr ∧
    (∀ f ∈ Regs.atAddr 0x40000048, f.of (0x00000201#32).toNat = f.of (0xFFFF02FD#32).toNat) := by decide +kernel

/-! ## Well-formedness: a term that each check refuses, and one that it accepts -/

theorem wf_body_too_long (body : List Byte) (h : Request.maxBody < body.length) : (Instr.take 5 0 body).wf = false := by
  simp [Instr.wf, Instr.request?]; omega

theorem wf_request_too_long : (Instr.take 5 0 (List.replicate 266241 0)).wf = false :=
  wf_body_too_long _ (by rw [List.length_replicate]; decide)

theorem wf_request : (Instr.take 5 0 (List.replicate 24 0)).wf = true := by decide +kernel

theorem wf_register_misaligned : (Instr.registerWrite 5 7 0 0x40000021 0).wf = false ∧ (Instr.registerWrite 5 7 0 0x40000020 0).wf = true := by decide

theorem wf_burst :
    burstOk 0x40000002 1 false = false ∧ burstOk 0x40000000 0 false = false ∧ burstOk 0x10000000 17 false = false ∧
    burstOk 0x100003F0 5 false = false ∧ burstOk 0x100003F0 4 false = true ∧ burstOk 0x10000000 17 true = true := by decide

theorem wf_open :
    (Instr.openSession 5 0 0 0 65536 [] 7 (List.replicate 32 0)).wf = false ∧ (Instr.openSession 5 0 0 0 4791 [] 0 (List.replicate 32 0)).wf = false ∧
    (Instr.openSession 5 0 0 0 4791 [] 4294967296 (List.replicate 32 0)).wf = false ∧ (Instr.openSession 5 0 0 0 4791 [] 7 []).wf = false ∧
    (Instr.openSession 5 0 0 0 4791 [] 7 (List.replicate 32 0)).wf = true := by decide

theorem wf_sealed : (Instr.sealed 5 0 0 0 65536 []).wf = false ∧ (Instr.sealed 5 0 0 0 4791 []).wf = true := by decide

theorem wf_samples :
    (Instr.supplyMonitorSample 5 [750]).wf = false ∧ (Instr.temperatureSample 5 [40]).wf = false ∧
    (Instr.supplyMonitorSample 5 [750, 850, 1200, 900, 1100, 400, 1800, 900, 900, 1800, 1800]).wf = true := by decide

/-! ## No word spells a command -/

theorem test_decode_none : decodeTableWord 32 0xDEADBEEF = none := by decide

theorem test_place_nothing : (up.withFetchWord 32 0xDEADBEEF).pending = [] := by decide

/-! ## The standards that the spec names, at their published check values -/

/-- CRC-32C of the nine digits. -/
theorem test_crc32c : crc32c [0x31, 0x32, 0x33, 0x34, 0x35, 0x36, 0x37, 0x38, 0x39] = 0xE3069283 := by decide +kernel

/-- FIPS 180-4: the first bytes of SHA-256 of "abc". -/
theorem test_sha256 : (sha256 (bytes [0x61, 0x62, 0x63])).take 8 = bytes [0xBA, 0x78, 0x16, 0xBF, 0x8F, 0x01, 0xCF, 0xEA] := by decide +kernel

/-- FIPS 180-4: the first bytes of SHA-512 of "abc". -/
theorem test_sha512 : (sha512 (bytes [0x61, 0x62, 0x63])).take 8 = bytes [0xDD, 0xAF, 0x35, 0xA1, 0x93, 0x61, 0x7A, 0xBA] := by decide +kernel

/-- The first test of AES-256-GCM: key, nonce and text of zeros, no text. -/
theorem test_gcm : gcmTag (bytes (List.replicate 32 0)) (bytes (List.replicate 12 0)) [] [] =
    bytes [0x53, 0x0F, 0x8A, 0xFB, 0xC7, 0x45, 0x36, 0xB9, 0xA9, 0x63, 0xB4, 0xF1, 0xC4, 0xCB, 0x73, 0x8B] := by decide +kernel

/-! ## Numbers of the spec -/

/-- The identifiers of R8, through the register window. -/
theorem test_ids : up.chip.regWord 7 0 Reg.BOOT_DEV_ID_ID.addr = 0x544B1024 ∧ up.chip.regWord 7 0 Reg.BOOT_REV_ID_REV.addr = 0x00000B00 := by decide +kernel

/-- The switch points of the example of "Crosspoint, takes and salvos": 213.3 µs, 320 µs and 106.7 µs after the tick, in units of 1/27 ns. -/
theorem test_switch_points :
    ([(⟨1920, 1080, 1, 0, 10, 2⟩, 2), (⟨720, 576, 1, 0, 10, 2⟩, 2), (⟨3840, 2160, 0, 0, 10, 7⟩, 7)] : List (Format × Nat)).map (fun e =>
      ((switchLine e.1).1 - 1) * framePeriod e.2 / (switchLine e.1).2) = [5760000, 8640000, 2880000] := by decide

/-- The worked example of "Packet media I/O": 1,440 sample bytes in a full packet, 7 packets a line, 15,120 a frame. -/
theorem test_packing :
    let r := bytes ([2, 188, 0, 0] ++ List.replicate 92 0 ++ [15, 0, 8, 112, 0, 8, 0, 10, 0, 0, 0, 0, 0, 0, 0, 0])
    txFormat r = ⟨3840, 2160, 0, 0, 10, 8⟩ ∧ packetBytes r = 1440 ∧ packetsPerLine r = 7 ∧ packetsPerFrame r = 15120 := by decide +kernel

/-- R44: 1,001 samples in a frame of code 5, and 1602, 1601, 1602, 1601, 1602 in the five frames of code 3. -/
theorem test_samples : samplesPerFrame 5 0 = 1001 ∧ ((List.range 5).map (samplesPerFrame 3)).sum = 8008 := by decide

end Sys2Proof.Tests
end

section
/-! PROOFS. Register writes: what a write does when its register has no command, when it is rejected, and when it selects nothing (R6, R109, R637). -/

namespace Sys2Proof.Machine

/-! ## Writes of registers -/

/-- The registers whose write does more than give plain fields their values: command bits, counts to clear, rows and weights to put in force. -/
def commandFlds : List Fld :=
  [Reg.TICK_CTRL_REALIGN, Reg.ARB_CTRL_SWAP, Reg.ARB_QUAR_CLIENT, Reg.ARB_TBL_DATA_OWNERS, Reg.MAC_CTRL_GCL_SWAP, Reg.MAC_P_GCL_DATA_OPEN,
   Reg.LNE_CTRL_CLR_CNT, Reg.LNE_L_CTRL_DIAG, Reg.LNE_L_EYE_CTRL_EYE, Reg.REFS_CTRL_FORCE_EN, Reg.PTP_CTRL_SET_TIME, Reg.SPL_CTRL_REJOIN,
   Reg.FWA_CTRL_CLR_CNT, Reg.FWA_D_CFG_SRC, Reg.LOG_CTRL_FREEZE, Reg.FAB_CTRL_REMAP, Reg.FAB_QUAR_MASTER, Reg.FAB_FSWIN_BASE_PAGE,
   Reg.FAB_M_CFG_WEIGHT, Reg.XPT_CTRL_CLR_CNT, Reg.FST_CTRL_CLR_CNT, Reg.CMP_CTRL_CLR_CNT, Reg.AUD_CTRL_CLR_CNT, Reg.PMI_CTRL_CLR_CNT,
   Reg.PMO_CTRL_CLR_CNT, Reg.CAP_CTRL_CLR_CNT, Reg.LAN_CTRL_CLR_CNT, Reg.FLT_CTRL_CLR_CNT, Reg.UPD_CTRL_CLR_CNT, Reg.PWR_CTRL_CLR_CNT,
   Reg.BOOT_CTRL_COLD_RESET, Reg.FLT_CTRL_FORCE_RESTART, Reg.LAN_CTRL_CLOSE_ALL] ++
  (List.range 4).map Reg.TICK_TD_OUT_DELAY_DELAY_NS ++ (List.range 4).map Reg.TICK_TD_PHASE_LIMIT_LIMIT_NS ++ (List.range 6).map Reg.ARB_BE_CFG_WEIGHT

/-- The registers whose written word a rule may reject, but for the read-only block `UPD`. -/
def judgedFlds : List Fld :=
  selectors.map Prod.fst ++
  [Reg.TICK_CTRL_REALIGN, Reg.ARB_TBL_DATA_OWNERS, Reg.ARB_TBL_SEL_ROW, Reg.ARB_HOG_LIMIT_BEATS, Reg.MAC_PORT_SEL_PORT, Reg.MAC_P_CFG_START_THRESH,
   Reg.MAC_P_PAUSE_WD_MS, Reg.MAC_P_GCL_DATA_OPEN, Reg.MAC_CTRL_GCL_SWAP, Reg.LNE_L_CTRL_DIAG, Reg.LNE_L_EYE_CTRL_EYE, Reg.PTP_CTRL_SET_TIME,
   Reg.PTP_SET_NS_NS, Reg.FWA_D_CFG_SRC, Reg.LOG_CTRL_FREEZE, Reg.LOG_WIN_CURSOR_SEQ, Reg.FAB_CTRL_REMAP, Reg.FAB_FSWIN_BASE_PAGE,
   Reg.FAB_HOG_LIMIT_BEATS, Reg.FAB_M_CFG_WEIGHT, Reg.FAB_TIMEOUT_REG_US, Reg.FAB_QUAR_MASTER, Reg.XPT_SRC_CFG_MODE, Reg.FST_SCRUB_PERIOD_S,
   Reg.FST_SYNC_SEL_SRC, Reg.REFS_CTRL_FORCE_EN, Reg.SPL_CTRL_REJOIN, Reg.FLT_CTRL_KEY] ++
  (List.range 4).map Reg.TICK_TD_CFG_RATE ++ (List.range 4).map Reg.TICK_TD_WINDOW_LEAD_MIN ++ (List.range 4).map Reg.TICK_TD_OUT_DELAY_DELAY_NS ++
  (List.range 6).map Reg.ARB_BE_CFG_WEIGHT

/-- In a module that runs, a write to an aligned address is a register write at the command's instant. -/
theorem exec_registerWrite (s : State) (t : Nat) (master : Fin 9) (slot : Fin 16) (reg v : BitVec 32) {a : Nat} (hs : s.runs) (hreg : reg.toNat = a)
    (ha : a % 4 = 0) :
    exec (.registerWrite t master slot reg v) s = .next { s with
      mem := ((s.upon t).regWrite s.mem master slot a v.toNat).2,
      chip := { ((s.upon t).regWrite s.mem master slot a v.toNat).1 with now := max s.chip.now t } } := by
  have hexec : exec (.registerWrite t master slot reg v) s = execRegisterWrite t master slot reg v s := rfl
  rw [hexec, execRegisterWrite, actMem_runs _ _ _ hs, hreg, if_pos ha]

/-- A write that is rejected whatever is selected has no effect but that of its rejection. -/
theorem Chip.regWrite_of_bad (c : Chip) (m : Tbl Byte) (master slot a v : Nat) (h : ∀ b, c.regBad master a v b = true) :
    c.regWrite m master slot a v = (c.rejectWrite a, m) := by
  unfold Chip.regWrite
  split <;> simp only [h, if_true]

/-- In the form that `simp` decides the branches of a block's write by. -/
theorem ne_addr_of_forall {fs : List Fld} {a : Nat} (h : ∀ f ∈ fs, f.addr ≠ a) {f : Fld} (hf : f ∈ fs) : (a = f.addr) = False := by
  simpa [eq_comm] using h f hf

/-- A register that no rule judges takes every word. -/
theorem Chip.regBad_of_unjudged (c : Chip) (master a v b : Nat) (h : ∀ f ∈ judgedFlds, f.addr ≠ a) (hu : a / 65536 ≠ 0x6007) :
    c.regBad master a v b = false := by
  have hsel : selectBad a v = false := by
    simp only [selectBad, List.any_eq_false, Bool.and_eq_true, beq_iff_eq, not_and]
    intro e he hea
    exact absurd hea (h e.1 (by simp only [judgedFlds, List.append_assoc]; exact List.mem_append_left _ (List.mem_map_of_mem he)))
  simp (disch := decide) [Chip.regBad, hsel, hu, Chip.badTick, Chip.badArb, Chip.badMac, Chip.badLne, Chip.badPtp, Chip.badFwa, Chip.badLog,
    Chip.badFab, List.range_succ, ne_addr_of_forall h]

/-- What a write without a command does: it gives the plain fields their values, and a select register then names something or nothing. -/
theorem Chip.carryOut_of_noCommand (c : Chip) (master slot a b v : Nat) (h : ∀ f ∈ commandFlds, f.addr ≠ a) :
    c.carryOut master slot a b v = if selects a then
      (c.writePlain a b v).setBlind a ((a == Reg.XPT_DST_SEL_DST.addr && decide (1567 < v)) || (a == Reg.XPT_SRC_SEL_SRC.addr && decide (1119 < v)))
      else c.writePlain a b v := by
  simp (disch := decide) [Chip.carryOut, Chip.doTick, Chip.doArb, Chip.doMac, Chip.doLne, Chip.doRefs, Chip.doPtp, Chip.doSpl,
    Chip.doFwa, Chip.doLog, Chip.doFab, Chip.doClear, List.range_succ, ne_addr_of_forall h]

/-- Without a command and without a rejection, a register write is what `carryOut` makes of it, and the memories stay. -/
theorem Chip.regWrite_of_plain (c : Chip) (m : Tbl Byte) (master slot a b v : Nat) (hb : c.bankAt a = some b) (hg : c.regBad master a v b = false)
    (h : ∀ f ∈ commandFlds, f.addr ≠ a) : c.regWrite m master slot a v = (c.carryOut master slot a b v, m) := by
  simp (disch := decide) [Chip.regWrite, hb, hg, ne_addr_of_forall h]

/-! ## Select registers -/

/-- Only the lane selection is kept outside `noSel` too (R344). -/
theorem Chip.setBlind_frame (c : Chip) (a : Nat) (b : Bool) (h : a ≠ Reg.LNE_LANE_SEL_LANE.addr) :
    c.setBlind a b = { c with noSel := (c.setBlind a b).noSel } := by
  simp [Chip.setBlind, h]

theorem Chip.mem_noSel_setBlind (c : Chip) (a : Nat) : a ∈ (c.setBlind a true).noSel := by
  have hnoSel : (c.setBlind a true).noSel = if c.noSel.contains a then c.noSel else a :: c.noSel := by
    by_cases ha : a = Reg.LNE_LANE_SEL_LANE.addr <;> simp [Chip.setBlind, ha]
  rw [hnoSel]
  split
  · next h => simpa using h
  · simp

/-- The bank in which an address lies; none for a register that no select register chooses. -/
def bankOf (a : Nat) : Option Bank := banks.find? (fun x => decide (x.first ≤ a) && decide (a ≤ x.last))

/-- Where the select register of an address has named nothing, the address reads as 0, to every master. -/
theorem Chip.regWord_of_mem_noSel (c : Chip) (master slot a : Nat) (k : Bank) (hk : bankOf a = some k) (h : k.sel.addr ∈ c.noSel) :
    c.regWord master slot a = 0 := by
  unfold bankOf at hk
  simp [Chip.regWord, Chip.bankAt, hk, Chip.noneSelected, h]

theorem Fld.key_ne {f g : Fld} {b d : Nat} (hf : f.lo < 32) (hg : g.lo < 32) (hb : b < 1048576) (hd : d < 1048576)
    (h : f.addr ≠ g.addr ∨ f.lo ≠ g.lo) : f.key b ≠ g.key d := by
  unfold Fld.key
  omega

/-- Giving one field a value leaves what every other field reads. -/
theorem Chip.sameRegs_set (c : Chip) (f : Fld) (b v : Nat) (hf : f.lo < 32) (hb : b < 1048576) : (c.set f b v).sameRegs c [f] := by
  intro g d hg hd hne
  exact c.fld_set_other f g b d v (Fld.key_ne hg hf hd hb (hne f (by simp)))

/-- A word beyond the destinations or the sources, written to its select register: the field takes its low bits (log 61), and nothing is selected. -/
theorem Chip.regWrite_xptSel_beyond (c : Chip) (m : Tbl Byte) (master slot v : Nat) (sel : Fld)
    (h : sel = Reg.XPT_DST_SEL_DST ∧ 1567 < v ∨ sel = Reg.XPT_SRC_SEL_SRC ∧ 1119 < v) :
    c.regWrite m master slot sel.addr v = ((c.set sel 0 (sel.of v)).setBlind sel.addr true, m) := by
  have hbeyond : ((sel.addr == Reg.XPT_DST_SEL_DST.addr && decide (1567 < v)) || (sel.addr == Reg.XPT_SRC_SEL_SRC.addr && decide (1119 < v))) = true := by
    rcases h with ⟨rfl, hv⟩ | ⟨rfl, hv⟩ <;> simp [hv]
  have hplain : c.writePlain sel.addr 0 v = c.set sel 0 (sel.of v) := by
    rcases h with ⟨rfl, -⟩ | ⟨rfl, -⟩ <;> rfl
  have hbank : c.bankAt sel.addr = some 0 := by rcases h with ⟨rfl, -⟩ | ⟨rfl, -⟩ <;> rfl
  obtain ⟨hcmd, hjudge, hupd, hsel⟩ : (∀ f ∈ commandFlds, f.addr ≠ sel.addr) ∧ (∀ f ∈ judgedFlds, f.addr ≠ sel.addr) ∧ sel.addr / 65536 ≠ 0x6007 ∧
      selects sel.addr = true := by
    rcases h with ⟨rfl, -⟩ | ⟨rfl, -⟩ <;> decide
  rw [c.regWrite_of_plain m master slot _ 0 v hbank (c.regBad_of_unjudged master _ v 0 hjudge hupd) hcmd,
    c.carryOut_of_noCommand master slot _ 0 v hcmd, if_pos hsel, hbeyond, hplain]

/-! ## The rejected writes of the crosspoint (R109) -/

/-- Such a word, written in a module that runs: what the select register shows reads as 0, and all else is as it was. -/
theorem yields_xptSel_beyond (s : State) (t : Nat) (master : Fin 9) (slot : Fin 16) (reg v : BitVec 32) (sel : Fld) (hs : s.runs) (hreg : reg.toNat = sel.addr)
    (h : sel = Reg.XPT_DST_SEL_DST ∧ 1567 < v.toNat ∨ sel = Reg.XPT_SRC_SEL_SRC ∧ 1119 < v.toNat) (shown : List Nat)
    (hshown : ∀ a ∈ shown, (bankOf a).map Bank.sel = some sel) :
    Yields (.registerWrite t master slot reg v) s (fun c =>
      (∀ (m : Fin 9) (sl : Fin 16), ∀ a ∈ shown, c.regWord m sl a = 0) ∧
      c.sameRegs s.chip [sel] ∧ c = { s.upon t with regs := c.regs, noSel := c.noSel }) := by
  obtain ⟨haligned, hlane, hlo⟩ : sel.addr % 4 = 0 ∧ sel.addr ≠ Reg.LNE_LANE_SEL_LANE.addr ∧ sel.lo < 32 := by
    rcases h with ⟨rfl, -⟩ | ⟨rfl, -⟩ <;> decide
  have hstep := exec_registerWrite s t master slot reg v hs hreg haligned
  rw [Chip.regWrite_xptSel_beyond _ _ _ _ _ sel h] at hstep
  refine ⟨_, hstep, ?_, ?_, ?_⟩
  · intro m sl a ha
    obtain ⟨k, hk, rfl⟩ := Option.map_eq_some_iff.mp (hshown a ha)
    exact Chip.regWord_of_mem_noSel _ _ _ a k hk (Chip.mem_noSel_setBlind _ _)
  · rw [Chip.setBlind_frame _ _ _ hlane]
    exact Chip.sameRegs_set s.chip sel 0 _ hlo (by decide)
  · rw [Chip.setBlind_frame _ _ _ hlane]
    rfl

/-- MODE 3 and LOSS_FRAMES 0 are rejected, whatever is selected (R109). -/
theorem Chip.regBad_srcCfg (c : Chip) (master v b : Nat) (h : v % 4 = 3 ∨ v / 256 % 256 = 0) : c.regBad master Reg.XPT_SRC_CFG_MODE.addr v b = true := by
  have hfld : (Reg.XPT_SRC_CFG_MODE.of v == 3 || Reg.XPT_SRC_CFG_LOSS_FRAMES.of v == 0) = true := by
    simpa [Fld.of, Reg.XPT_SRC_CFG_MODE, Reg.XPT_SRC_CFG_LOSS_FRAMES] using h
  simp [Chip.regBad, hfld]

/-- Settles O39: a rejected word is rejected in every bank and where none is shown; a word beyond the range of a select register makes nothing selected. -/
theorem xptRejectedWrites : Obligations.XptRejectedWrites := by
  refine ⟨fun s t master slot v hs hv => ?_, fun s t master slot v hs hv => ?_, fun s t master slot v hs hv => ?_⟩
  · rw [exec_registerWrite s t master slot _ v hs (show _ = Reg.XPT_SRC_CFG_MODE.addr from rfl) rfl,
      Chip.regWrite_of_bad _ _ _ _ _ _ (fun b => Chip.regBad_srcCfg _ _ _ b hv)]
    rfl
  · exact yields_xptSel_beyond s t master slot _ v Reg.XPT_DST_SEL_DST hs rfl (.inl ⟨rfl, hv⟩) _ (by decide)
  · exact yields_xptSel_beyond s t master slot _ v Reg.XPT_SRC_SEL_SRC hs rfl (.inr ⟨rfl, hv⟩) _ (by decide)

end Sys2Proof.Machine
end

section
/-! PROOFS. Slot tables and best-effort requests: a swap that is refused, and the slot count with the age stamps it gives (R146, R148, R153, R160). -/

namespace Sys2Proof.Machine

/-! ## The swap that an invalid shadow refuses (R148, R153) -/

/-- The channels that a swap finds invalid are those that break a condition of R148. -/
theorem SlotTables.mem_invalid (x : SlotTables) (ch : Nat) :
    ch ∈ x.invalid ↔ ch ∈ List.range 64 ∧ (ownedLimit < x.owned ch ∨ x.tailOwned ch = true) := by
  simp [SlotTables.invalid]

/-- What the module makes of a swap when `ch` is the first invalid channel of the shadow. -/
def Chip.refuseSwap (c : Chip) (ch : Nat) : Chip :=
  (({ c with arb := { c.arb with swapPend := false } }).mark Reg.ARB_STATUS_SWAP_REFUSED).event Ev.arbSwapRefused
    [ch + flag (c.arb.shadow.tailOwned ch) * 256, c.arb.shadow.owned ch]

/-- TABLE_SWAP with an invalid channel in the shadow refuses the pending swap, whatever the other channels hold. -/
theorem exec_tableSwap_invalid (s : State) (t ch : Nat) (rest : List Nat) (hs : s.runs) (hpend : s.chip.arb.swapPend = true)
    (hready : s.chip.fst.ready = true) (hinv : s.chip.arb.shadow.invalid = ch :: rest) :
    exec (.tableSwap t) s = .next { s with chip := (s.upon t).refuseSwap ch } := by
  have hexec : exec (.tableSwap t) s = execTableSwap t s := rfl
  rw [hexec, execTableSwap, act_runs _ _ _ hs]
  simp only [Chip.begin_arb, Chip.begin_fst, hpend, hready, hinv, Bool.and_true, if_true]
  rfl

/-- Settles O41: some channel is invalid, so the swap takes the branch that refuses it. -/
theorem invalidSlotTableNeverSwaps : Obligations.InvalidSlotTableNeverSwaps := by
  intro s t hs hpend hready ⟨ch, hch, hbad⟩
  have hmem : ch ∈ s.chip.arb.shadow.invalid := (SlotTables.mem_invalid _ ch).mpr ⟨hch, hbad⟩
  obtain ⟨first, rest, hinv⟩ := List.exists_cons_of_ne_nil (List.ne_nil_of_mem hmem)
  refine ⟨_, exec_tableSwap_invalid s t first rest hs hpend hready hinv, rfl, ?_, ?_, ?_, rfl⟩
  · exact Chip.fld_set _ Reg.ARB_STATUS_SWAP_REFUSED 0 1
  · exact Chip.sameRegs_set s.chip Reg.ARB_STATUS_SWAP_REFUSED 0 1 (by decide) (by decide)
  · exact ⟨_, List.mem_append_right _ (List.mem_singleton_self _), rfl, rfl, rfl⟩

/-! ## The slot count (R146) -/

/-- ARB.SLOT_CNT shows the slot count, to every master. -/
theorem Chip.regWord_slotCnt (c : Chip) (master slot : Nat) : c.regWord master slot Reg.ARB_SLOT_CNT_COUNT.addr = c.slotCount := by
  have hbank : c.bankAt Reg.ARB_SLOT_CNT_COUNT.addr = some 0 := rfl
  have hfields : Regs.atAddr Reg.ARB_SLOT_CNT_COUNT.addr = [Reg.ARB_SLOT_CNT_COUNT] := by decide
  have hview : (c.views master slot 0x40030000 0).find? (fun e => e.1 == Reg.ARB_SLOT_CNT_COUNT) = some (Reg.ARB_SLOT_CNT_COUNT, c.slotCount) := rfl
  have hnow : c.fieldNow master slot Reg.ARB_SLOT_CNT_COUNT 0 = c.slotCount % 2 ^ 32 := by
    rw [Chip.fieldNow, show Reg.ARB_SLOT_CNT_COUNT.addr / 65536 * 65536 = 0x40030000 from rfl, hview]
    rfl
  have hread : c.fieldRead master slot Reg.ARB_SLOT_CNT_COUNT 0 = c.slotCount % 2 ^ 32 := by
    rw [Chip.fieldRead, if_neg (by decide), if_neg (by decide), hnow]
  calc c.regWord master slot Reg.ARB_SLOT_CNT_COUNT.addr
      = c.slotCount % 2 ^ 32 % 2 ^ Reg.ARB_SLOT_CNT_COUNT.width * 2 ^ Reg.ARB_SLOT_CNT_COUNT.lo := by simp [Chip.regWord, hbank, hfields, hread]
    _ = c.slotCount % 2 ^ 32 := by simp [Reg.ARB_SLOT_CNT_COUNT]
    _ = c.slotCount := Nat.mod_eq_of_lt (Nat.mod_lt _ (by decide))

/-- 4608 units are 25 slot times, from any instant at or after reset release. -/
theorem Chip.slotCount_later (c : Chip) (k : Nat) (h : c.released ≤ c.now) :
    ({ c with now := c.now + 4608 * k } : Chip).slotCount = (c.slotCount + 25 * k) % 2 ^ 32 := by
  have hslots : (c.now + 4608 * k - c.released) * 25 / 4608 = (c.now - c.released) * 25 / 4608 + 25 * k := by omega
  simp only [Chip.slotCount, hslots]
  omega

/-! ## The stamp of a request (R159, R160) -/

/-- The arbiter of a channel after a change of it. -/
theorem Chip.arbiter_modArbiter (c : Chip) (k : Nat) (f : Arbiter → Arbiter) : (c.modArbiter k f).arbiter k = f (c.arbiter k) :=
  Tbl.get_upd _ _ _ _

/-- A request of a client without a local arbiter, not in quarantine and with no request of its leaf outstanding, joins those that wait at its
channel, stamped with the slot count. -/
theorem exec_beRequest_direct (s : State) (t : Nat) (ch : Fin 64) (client : Fin 6) (leaf : Fin 32) (beats : Nat) (lock write : Bool) (hs : s.runs)
    (hready : s.chip.fst.ready = true) (hquar : bit (s.chip.fld Reg.ARB_QUAR_CLIENT 0) client = false) (hdirect : hasLeaves client = false)
    (hleaf : leaf.val < leavesOf client)
    (hfree : ∀ x ∈ (s.chip.arbiter ch).waiting ++ (s.chip.arbiter ch).grant.toList, x.client = client.val → x.leaf ≠ leaf.val) :
    exec (.beRequest t ch client leaf beats lock write) s = .next { s with
      chip := (s.upon t).modArbiter ch (fun a => { a with waiting := a.waiting ++ [⟨client, leaf, (s.upon t).slotCount, beats, lock, write⟩] }) } := by
  have hexec : exec (.beRequest t ch client leaf beats lock write) s = execBeRequest t ch client leaf beats lock write s := rfl
  have hbusy : (((s.upon t).arbiter ch).waiting ++ ((s.upon t).arbiter ch).grant.toList).any
      (fun x => x.client == client.val && x.leaf == leaf.val) = false := by
    simp only [List.any_eq_false, Bool.and_eq_true, beq_iff_eq, not_and]
    exact hfree
  have hbeyond : decide (leavesOf client ≤ leaf.val) = false := decide_eq_false (by omega)
  have hquar' : bit ((s.upon t).fld Reg.ARB_QUAR_CLIENT 0) client = false := hquar
  rw [hexec, execBeRequest, act_runs _ _ _ hs]
  simp only [Chip.begin_fst, hready, hquar', hdirect, hbeyond, hbusy, Bool.not_true, Bool.or_self, Bool.false_eq_true, if_false]
  rfl

/-- Settles O43: the count is a function of the time since reset release alone, and the request carries it. -/
theorem slotCountRunsFree : Obligations.SlotCountRunsFree := by
  refine ⟨fun c k m sl h => ?_, fun c d hnow hrel => ?_, fun s t ch beats lock write hs hready hquar hfree => ?_⟩
  · change Chip.regWord _ m sl Reg.ARB_SLOT_CNT_COUNT.addr = (c.regWord m sl Reg.ARB_SLOT_CNT_COUNT.addr + 25 * k) % 2 ^ 32
    rw [Chip.regWord_slotCnt, Chip.regWord_slotCnt, c.slotCount_later k h]
  · rw [Chip.slotCount, Chip.slotCount, hnow, hrel]
  · refine ⟨_, exec_beRequest_direct s t ch 0 0 beats lock write hs hready hquar rfl (by decide) (fun x hx h0 => absurd h0 (hfree x hx)),
      ⟨0, 0, (s.upon t).slotCount, beats, lock, write⟩, ?_, rfl, rfl, ?_⟩
    · rw [Chip.arbiter_modArbiter]
      exact List.mem_append_right _ (List.mem_singleton_self _)
    · exact ((s.upon t).regWord_slotCnt 0 0).symm

end Sys2Proof.Machine
end

section
/-! PROOFS. Rejected writes of the splice block, and the request of the register window that its session's privilege does not allow (R431, R540, R547). -/

namespace Sys2Proof.Machine

/-! ## Responses that stay -/

@[simp] theorem Chip.session_emit (c : Chip) (o : Out) (i : Nat) : (c.emit o).session i = c.session i := rfl

/-- A response joins those that its session keeps, under the number of the request being processed. -/
theorem Chip.responses_respond (c : Chip) (slot m status : Nat) (body : List Byte) :
    ((c.respond slot m status body).session slot).responses =
      (c.session slot).responses ++ [{ seq := (c.session slot).done + 1, msgType := m, status := status, body := body }] := by
  simp only [Chip.respond, Chip.sendMsg, Chip.session_emit, Chip.session_modSession]

/-- A response that is withheld stays with its session. -/
theorem Chip.responses_withhold (a : Chip) (slot m q since : Nat) :
    ((a.withhold slot m q since).session slot).responses = (a.session slot).responses := by
  rw [Chip.withhold, Chip.session_modSession]
  rfl

/-- What the twin makes of a response leaves the responses of the session. -/
theorem Chip.responses_mirrorOut (a b : Chip) (slot m : Nat) : ((a.mirrorOut b slot m).session slot).responses = (a.session slot).responses := by
  unfold Chip.mirrorOut
  dsimp only
  split
  · exact a.responses_withhold slot m _ _
  · split
    · exact a.responses_withhold slot m _ _
    · rfl

/-- Answering the requests of unknown type that follow keeps the earlier responses of the session. -/
theorem Chip.answered_answerUnknown (slot n : Nat) (c : Chip) {q m status : Nat} {body : List Byte} (h : c.answered slot q m status body) :
    (Chip.answerUnknown slot n c).answered slot q m status body := by
  induction n generalizing c with
  | zero => exact h
  | succ n ih =>
    unfold Chip.answerUnknown
    split
    · split
      · exact h
      · refine ih _ ?_
        rw [Chip.answered, Chip.responses_mirrorOut, Chip.refuse, Chip.responses_respond]
        exact List.mem_append_left _ h
    · exact h

/-! ## A request that a common check refuses (R540) -/

/-- What a response and its twin may change: the sessions, what is sent, and the responses that wait for the twin. -/
def Chip.differsByResponse (c before : Chip) : Prop :=
  c = { before with lan := c.lan, sent := c.sent, spl := { before.spl with mirror := c.spl.mirror } }

/-- A request of a served session that fails a common check is answered with the check's code, and nothing else changes. -/
theorem Chip.request_refused_replies (c : Chip) (slot m need code : Nat) (rec lenOk : Bool) (f : Chip → Chip) (h : c.serves slot = true)
    (hg : c.gateCode slot m need rec lenOk = some code) :
    (c.request slot m need rec lenOk f).replied c slot m (statusOf code wholeIndex) [] ∧ (c.request slot m need rec lenOk f).differsByResponse c := by
  rw [c.request_refused slot m need code rec lenOk f h hg]
  constructor
  · refine Chip.answered_answerUnknown slot 256 _ ?_
    rw [Chip.answered, Chip.responses_mirrorOut, Chip.refuse, Chip.responses_respond]
    exact List.mem_append_right _ (List.mem_singleton_self _)
  · obtain ⟨d, hd⟩ := Chip.answerUnknown_frame slot 256 ((c.refuse slot m code wholeIndex).mirrorOut c slot m)
    obtain ⟨e, he⟩ := Chip.mirrorOut_frame (c.refuse slot m code wholeIndex) c slot m
    rw [hd, he]
    rfl

/-- The privilege is the first of the common checks. -/
theorem Chip.gateCode_of_priv_lt (c : Chip) (slot m need : Nat) (rec lenOk : Bool) (h : (c.session slot).priv < need) :
    c.gateCode slot m need rec lenOk = some 0x1102 := by
  simp [Chip.gateCode, firstCode, h]

/-- A request of the register window that fails a common check reaches no register. -/
theorem Chip.window_refused (c : Chip) (m : Tbl Byte) (slot mt code : Nat) (l : List WinEntry) (lenOk : Bool) (facts : List BusFact)
    (hg : c.gateCode slot mt (windowNeed l) false lenOk = some code) :
    c.window m slot mt l lenOk facts = (c.request slot mt (windowNeed l) false lenOk id, m) := by
  simp [Chip.window, hg]

/-- A REG_WRITE of a served session whose privilege does not suffice for its entries is answered with LAN_PRIV. -/
theorem yields_regWrite_of_priv_lt (s : State) (t : Nat) (slot : Fin 16) (body : List Byte) (facts : List BusFact) (hs : s.runs)
    (hserves : s.chip.serves slot = true) (hpriv : (s.chip.session slot).priv < windowNeed (writeEntries body)) :
    Yields (.regWrite t slot body facts) s (fun c =>
      c.replied (s.upon t) slot 0x0302 (statusOf 0x1102 wholeIndex) [] ∧ c.differsByResponse (s.upon t)) := by
  have hexec : exec (.regWrite t slot body facts) s = execRegWrite t slot body facts s := rfl
  have hgate (lenOk : Bool) : (s.upon t).gateCode slot 0x0302 (windowNeed (writeEntries body)) false lenOk = some 0x1102 :=
    (s.upon t).gateCode_of_priv_lt slot _ _ _ _ hpriv
  have hstep := hexec.trans (actMem_runs _ _ _ hs)
  rw [Chip.window_refused _ _ _ _ _ _ _ _ (hgate _)] at hstep
  obtain ⟨hreplied, hframe⟩ := (s.upon t).request_refused_replies slot 0x0302 _ _ _ _ id hserves (hgate _)
  refine ⟨_, hstep, hreplied, ?_⟩
  rw [hframe]
  rfl

/-! ## The rejected writes of the splice block (R431) -/

/-- The body of a REG_WRITE of one entry. -/
def oneWrite (a v : Nat) : List Byte := beBytes 2 1 ++ beBytes 2 0 ++ beBytes 4 a ++ beBytes 4 v

/-- A REG_WRITE of SPL.CTRL alone needs MAINTAIN, whatever word it carries. -/
theorem windowNeed_splCtrl (v : Nat) : windowNeed (writeEntries (oneWrite Reg.SPL_CTRL_REJOIN.addr v)) = 3 := by
  have hcount : u16 (oneWrite Reg.SPL_CTRL_REJOIN.addr v) 0 = 1 := by simp [oneWrite, beBytes, u16, u8]
  have haddr : u32 (oneWrite Reg.SPL_CTRL_REJOIN.addr v) 4 = Reg.SPL_CTRL_REJOIN.addr := by
    simp [oneWrite, beBytes, u32, u16, u8, Reg.SPL_CTRL_REJOIN]
  have hentries : writeEntries (oneWrite Reg.SPL_CTRL_REJOIN.addr v) =
      [(Reg.SPL_CTRL_REJOIN.addr, some (u32 (oneWrite Reg.SPL_CTRL_REJOIN.addr v) 8))] := by
    rw [writeEntries, hcount]
    simp [haddr]
  rw [hentries]
  rfl

/-- A word beyond the range of a select register is rejected, whatever is selected. -/
theorem Chip.regBad_of_selectBad (c : Chip) (master a v b : Nat) (h : selectBad a v = true) : c.regBad master a v b = true := by
  simp [Chip.regBad, h]

/-- A word is out of range when it exceeds the largest value of a select register's rule. -/
theorem selectBad_of_lt {e : Fld × Nat × Bool} {v : Nat} (he : e ∈ selectors) (h : e.2.1 < v) : selectBad e.1.addr v = true := by
  simp only [selectBad, List.any_eq_true, Bool.and_eq_true, decide_eq_true_eq]
  exact ⟨e, he, beq_self_eq_true _, h⟩

/-- A written word sets a one-bit field when its bit at the field's place is 1. -/
theorem Fld.on_eq_bit (f : Fld) (v : Nat) (h : f.width = 1) : f.on v = bit v f.lo := by
  rw [Fld.on, Fld.of, h, bit, Bool.eq_iff_iff]
  simp

/-- REJOIN outside a splice system and HANDOVER without a synchronised standby are rejected, whatever is selected. -/
theorem Chip.regBad_splCtrl (c : Chip) (master v b : Nat)
    (h : bit v 1 = true ∧ c.spl.members.length ≤ 1 ∨ bit v 2 = true ∧ c.fld Reg.SPL_TWIN_SYNCED 0 = 0) :
    c.regBad master Reg.SPL_CTRL_REJOIN.addr v b = true := by
  have hbad : ((Reg.SPL_CTRL_REJOIN.on v && !c.inSystem) || (Reg.SPL_CTRL_HANDOVER.on v && !c.canHandOver)) = true := by
    rcases h with ⟨hbit, hmembers⟩ | ⟨hbit, hsynced⟩
    · have hon : Reg.SPL_CTRL_REJOIN.on v = true := (Fld.on_eq_bit _ v rfl).trans hbit
      have hout : c.inSystem = false := decide_eq_false (Nat.not_lt.mpr hmembers)
      rw [hon, hout]
      rfl
    · have hon : Reg.SPL_CTRL_HANDOVER.on v = true := (Fld.on_eq_bit _ v rfl).trans hbit
      have hout : c.canHandOver = false := by simp [Chip.canHandOver, Chip.isSet, hsynced]
      rw [hon, hout]
      exact Bool.or_true _
  simp [Chip.regBad, hbad]

/-- A word that a register of the splice block rejects, whatever is selected, has no effect but CFG_REJECT of SPL.STATUS. -/
theorem exec_registerWrite_spl_of_bad (s : State) (t : Nat) (master : Fin 9) (slot : Fin 16) (reg v : BitVec 32) {a : Nat} (hs : s.runs)
    (hreg : reg.toNat = a) (haligned : a % 4 = 0) (hreject : rejectFld a = some Reg.SPL_STATUS_CFG_REJECT) (hblind : blinds a = false)
    (hbad : ∀ b, (s.upon t).regBad master a v.toNat b = true) :
    exec (.registerWrite t master slot reg v) s = .next { s with chip := (s.upon t).mark Reg.SPL_STATUS_CFG_REJECT } := by
  have hrejected : (s.upon t).rejectWrite a = (s.upon t).mark Reg.SPL_STATUS_CFG_REJECT := by
    simp [Chip.rejectWrite, hreject, hblind]
  rw [exec_registerWrite s t master slot reg v hs hreg haligned, Chip.regWrite_of_bad _ _ _ _ _ _ hbad, hrejected]
  rfl

/-- Settles O40: each of the words is rejected in every bank, and the privilege is checked before any entry of the request. -/
theorem spliceRejectedWrites : Obligations.SpliceRejectedWrites := by
  refine ⟨fun s t master slot v hs hv => ?_, fun s t master slot v hs hv => ?_, fun s t master slot v hs hv => ?_,
    fun s t slot v facts hs hserves hpriv _ => ?_⟩
  · exact exec_registerWrite_spl_of_bad s t master slot _ v (a := Reg.SPL_PORT_SEL_PORT.addr) hs rfl rfl rfl rfl fun b =>
      Chip.regBad_of_selectBad _ _ _ _ b (selectBad_of_lt (e := (Reg.SPL_PORT_SEL_PORT, 7, false)) (by decide) hv)
  · exact exec_registerWrite_spl_of_bad s t master slot _ v (a := Reg.SPL_DST_SEL_DST.addr) hs rfl rfl rfl rfl fun b =>
      Chip.regBad_of_selectBad _ _ _ _ b (selectBad_of_lt (e := (Reg.SPL_DST_SEL_DST, 1567, false)) (by decide) hv)
  · exact exec_registerWrite_spl_of_bad s t master slot _ v (a := Reg.SPL_CTRL_REJOIN.addr) hs rfl rfl rfl rfl fun b =>
      Chip.regBad_splCtrl _ _ _ b hv
  · exact yields_regWrite_of_priv_lt s t slot (oneWrite Reg.SPL_CTRL_REJOIN.addr v.toNat) facts hs hserves
      (by rw [windowNeed_splCtrl]; exact hpriv)

end Sys2Proof.Machine
end

section
/-! PROOFS. The register window of the recorder: what a load puts into its registers, and the write of LOG.CTRL that asks for it (R590, R592). -/

namespace Sys2Proof.Machine

/-! ## Several fields written one after another -/

/-- Two changes, each of some fields only, change no field but those of either. -/
theorem Chip.sameRegs_trans {c d e : Chip} {fs gs : List Fld} (h : c.sameRegs d fs) (h' : d.sameRegs e gs) : c.sameRegs e (gs ++ fs) := by
  intro f b hf hb hne
  rw [h f b hf hb (fun g hg => hne g (List.mem_append_right _ hg)), h' f b hf hb (fun g hg => hne g (List.mem_append_left _ hg))]

/-- Gives the first bank of each field of a family its value. -/
def Chip.setEach (c : Chip) (f : Nat → Fld) (v : Nat → Nat) (ws : List Nat) : Chip := ws.foldl (fun a w => a.set (f w) 0 (v w)) c

@[simp] theorem Chip.setEach_nil (c : Chip) (f : Nat → Fld) (v : Nat → Nat) : c.setEach f v [] = c := rfl

@[simp] theorem Chip.setEach_cons (c : Chip) (f : Nat → Fld) (v : Nat → Nat) (w : Nat) (ws : List Nat) :
    c.setEach f v (w :: ws) = (c.set (f w) 0 (v w)).setEach f v ws := rfl

theorem Chip.setEach_frame (f : Nat → Fld) (v : Nat → Nat) (ws : List Nat) (c : Chip) :
    c.setEach f v ws = { c with regs := (c.setEach f v ws).regs } := by
  induction ws generalizing c with
  | nil => rfl
  | cons w ws ih =>
    rw [Chip.setEach_cons, ih]
    rfl

theorem Chip.sameRegs_setEach (f : Nat → Fld) (v : Nat → Nat) (ws : List Nat) (c : Chip) (hf : ∀ w, (f w).lo < 32) :
    (c.setEach f v ws).sameRegs c (ws.map f) := by
  induction ws generalizing c with
  | nil => exact fun _ _ _ _ _ => rfl
  | cons w ws ih => exact Chip.sameRegs_trans (ih _) (Chip.sameRegs_set c (f w) 0 (v w) (hf w) (by decide))

/-- Each field written, at an address of its own, reads its value. -/
theorem Chip.fld_setEach (f : Nat → Fld) (v : Nat → Nat) (ws : List Nat) (c : Chip) (hf : ∀ w, (f w).lo < 32) (hinj : ∀ u w, (f u).addr = (f w).addr → u = w)
    {w : Nat} (hw : w ∈ ws) : (c.setEach f v ws).fld (f w) 0 = v w % 2 ^ (f w).width := by
  induction ws generalizing c with
  | nil => cases hw
  | cons u ws ih =>
    by_cases hrest : w ∈ ws
    · exact ih _ hrest
    · obtain rfl : w = u := (List.mem_cons.mp hw).resolve_right hrest
      have hkeep : ∀ g ∈ ws.map f, (f w).addr ≠ g.addr ∨ (f w).lo ≠ g.lo := by
        intro g hg
        obtain ⟨x, hx, rfl⟩ := List.mem_map.mp hg
        exact .inl (fun h => hrest (hinj _ _ h ▸ hx))
      rw [Chip.setEach_cons, Chip.sameRegs_setEach f v ws _ hf (f w) 0 (hf w) (by decide) hkeep, Chip.fld_set]

/-! ## The load of the window (R589, R590) -/

/-- The registers that a load writes. -/
def windowFlds : List Fld := [Reg.LOG_WIN_NEXT_SEQ, Reg.LOG_WIN_CURSOR_SEQ] ++ (List.range 64).map Reg.LOG_WIN_DATA_WORD

/-- The read of the log that a load performs: from the cursor of the window. -/
def Chip.loadedRead (c : Chip) : List Byte × Nat := c.windowRead (c.fld Reg.LOG_WIN_CURSOR_SEQ 0)

/-- The module with WIN_NEXT and the cursor at a position. -/
def Chip.setPosition (c : Chip) (n : Nat) : Chip := (c.set Reg.LOG_WIN_NEXT_SEQ 0 n).set Reg.LOG_WIN_CURSOR_SEQ 0 n

theorem Chip.winLoad_eq (c : Chip) :
    c.winLoad = (c.setPosition c.loadedRead.2).setEach Reg.LOG_WIN_DATA_WORD (fun w => u32 c.loadedRead.1 (4 * w)) (List.range 64) := rfl

theorem Chip.winLoad_frame (c : Chip) : c.winLoad = { c with regs := c.winLoad.regs } := by
  rw [Chip.winLoad_eq]
  exact Chip.setEach_frame _ _ _ _

theorem Chip.winLoad_now (c : Chip) : c.winLoad.now = c.now := by rw [c.winLoad_frame]

theorem Chip.sameRegs_winLoad (c : Chip) : c.winLoad.sameRegs c windowFlds := by
  have hposition (n : Nat) : (c.setPosition n).sameRegs c [Reg.LOG_WIN_NEXT_SEQ, Reg.LOG_WIN_CURSOR_SEQ] :=
    Chip.sameRegs_trans (Chip.sameRegs_set _ Reg.LOG_WIN_CURSOR_SEQ 0 n (by decide) (by decide))
      (Chip.sameRegs_set c Reg.LOG_WIN_NEXT_SEQ 0 n (by decide) (by decide))
  rw [Chip.winLoad_eq]
  exact Chip.sameRegs_trans (Chip.sameRegs_setEach Reg.LOG_WIN_DATA_WORD _ _ _ (fun _ => Nat.zero_lt_succ _)) (hposition _)

/-- WIN_NEXT and the cursor stand at the position after the read (log 49). -/
theorem Chip.fld_winLoad_position (c : Chip) (f : Fld) (hf : f = Reg.LOG_WIN_NEXT_SEQ ∨ f = Reg.LOG_WIN_CURSOR_SEQ) :
    c.winLoad.fld f 0 = c.loadedRead.2 % 2 ^ 32 := by
  have hdata : f.lo < 32 ∧ ∀ g ∈ (List.range 64).map Reg.LOG_WIN_DATA_WORD, f.addr ≠ g.addr ∨ f.lo ≠ g.lo := by
    rcases hf with rfl | rfl <;> decide
  rw [Chip.winLoad_eq, Chip.sameRegs_setEach _ _ _ _ (fun _ => Nat.zero_lt_succ _) f 0 hdata.1 (by decide) hdata.2]
  rcases hf with rfl | rfl
  · rw [Chip.setPosition, Chip.fld_set_other _ _ _ _ _ _ (by decide), Chip.fld_set]
    rfl
  · exact Chip.fld_set _ _ _ _

theorem u32_lt (l : List Byte) (i : Nat) : u32 l i < 2 ^ 32 := by
  have hbyte (k : Nat) : u8 l k < 256 := BitVec.isLt _
  simp only [u32, u16]
  have h0 := hbyte i
  have h1 := hbyte (i + 1)
  have h2 := hbyte (i + 2)
  have h3 := hbyte (i + 2 + 1)
  omega

/-- WIN_DATA holds the words read. -/
theorem Chip.fld_winLoad_data (c : Chip) (w : Nat) (hw : w < 64) : c.winLoad.fld (Reg.LOG_WIN_DATA_WORD w) 0 = u32 c.loadedRead.1 (4 * w) := by
  have hinj (x y : Nat) (h : (Reg.LOG_WIN_DATA_WORD x).addr = (Reg.LOG_WIN_DATA_WORD y).addr) : x = y := by
    simp only [Reg.LOG_WIN_DATA_WORD] at h
    omega
  rw [Chip.winLoad_eq, Chip.fld_setEach _ _ _ _ (fun _ => Nat.zero_lt_succ _) hinj (List.mem_range.mpr hw)]
  exact Nat.mod_eq_of_lt (u32_lt _ _)

/-! ## The write of LOG.CTRL (R592, R593) -/

/-- Of the rules that reject a word, LOG.CTRL has that of its block alone. -/
theorem Chip.regBad_logCtrl (c : Chip) (master v b : Nat) (h : c.badLog Reg.LOG_CTRL_FREEZE.addr v = false) :
    c.regBad master Reg.LOG_CTRL_FREEZE.addr v b = false := by
  have hother : ∀ f ∈ judgedFlds.erase Reg.LOG_CTRL_FREEZE, f.addr ≠ Reg.LOG_CTRL_FREEZE.addr := by decide
  have hsel : selectBad Reg.LOG_CTRL_FREEZE.addr v = false := rfl
  have hupd : Reg.LOG_CTRL_FREEZE.addr / 65536 ≠ 0x6007 := by decide
  simp (disch := decide) [Chip.regBad, h, hsel, hupd, Chip.badTick, Chip.badArb, Chip.badMac, Chip.badLne, Chip.badPtp, Chip.badFwa, Chip.badFab,
    List.range_succ, ne_addr_of_forall hother]

/-- No other register that takes a command stands at the address of LOG.CTRL. -/
theorem commandFlds_addr_ne_logCtrl : ∀ f ∈ commandFlds.erase Reg.LOG_CTRL_FREEZE, f.addr ≠ Reg.LOG_CTRL_FREEZE.addr := by decide

/-- A write to LOG.CTRL has the effect of its command bits alone: it has no field that keeps a value. -/
theorem Chip.carryOut_logCtrl (c : Chip) (master slot b v : Nat) :
    c.carryOut master slot Reg.LOG_CTRL_FREEZE.addr b v = c.doLog Reg.LOG_CTRL_FREEZE.addr v := by
  have hsel : selects Reg.LOG_CTRL_FREEZE.addr = false := by decide
  have hplain : c.writePlain Reg.LOG_CTRL_FREEZE.addr b v = c := rfl
  simp (disch := decide) [Chip.carryOut, hsel, hplain, Chip.doTick, Chip.doArb, Chip.doMac, Chip.doLne, Chip.doRefs, Chip.doPtp, Chip.doSpl,
    Chip.doFwa, Chip.doFab, Chip.doClear, List.range_succ, ne_addr_of_forall commandFlds_addr_ne_logCtrl]

/-- A word that LOG.CTRL does not reject has the effect of its command bits when it is written there, and the memories stay. -/
theorem Chip.regWrite_logCtrl (c : Chip) (m : Tbl Byte) (master slot v : Nat) (h : c.badLog Reg.LOG_CTRL_FREEZE.addr v = false) :
    c.regWrite m master slot Reg.LOG_CTRL_FREEZE.addr v = (c.doLog Reg.LOG_CTRL_FREEZE.addr v, m) := by
  have hbank : c.bankAt Reg.LOG_CTRL_FREEZE.addr = some 0 := rfl
  simp (disch := decide) [Chip.regWrite, hbank, c.regBad_logCtrl _ _ _ h, c.carryOut_logCtrl, ne_addr_of_forall commandFlds_addr_ne_logCtrl]

/-- A bit below the cut of a word is that of the word. -/
theorem bit_mod_two_pow (v : Nat) {i n : Nat} (h : i < n) : bit (v % 2 ^ n) i = bit v i := by
  have htest (x : Nat) : bit x i = x.testBit i := by rw [bit, Nat.testBit_eq_decide_div_mod_eq, beq_eq_decide]
  rw [htest, htest, Nat.testBit_mod_two_pow, decide_eq_true h, Bool.true_and]

/-- With WIN_LOAD and no other bit, a write to LOG.CTRL is the load of the window: neither FREEZE nor THAW could be rejected. -/
theorem Chip.regWrite_winLoad (c : Chip) (m : Tbl Byte) (master slot v : Nat) (hv : v % 32 = 8) :
    c.regWrite m master slot Reg.LOG_CTRL_FREEZE.addr v = (c.winLoad, m) := by
  have hbit (f : Fld) (hwidth : f.width = 1) (hlo : f.lo < 5) : f.on v = bit 8 f.lo := by
    rw [Fld.on_eq_bit f v hwidth, ← hv]
    exact (bit_mod_two_pow v hlo).symm
  have hcount : Reg.LOG_CTRL_CLR_CNT.on v = false := hbit _ rfl (by decide)
  have hfreeze : Reg.LOG_CTRL_FREEZE.on v = false := hbit _ rfl (by decide)
  have hthaw : Reg.LOG_CTRL_THAW.on v = false := hbit _ rfl (by decide)
  have hload : Reg.LOG_CTRL_WIN_LOAD.on v = true := hbit _ rfl (by decide)
  have hclear : Reg.LOG_CTRL_CLEAR.on v = false := hbit _ rfl (by decide)
  have hgood : c.badLog Reg.LOG_CTRL_FREEZE.addr v = false := by
    have hcursor : (Reg.LOG_CTRL_FREEZE.addr == Reg.LOG_WIN_CURSOR_SEQ.addr) = false := rfl
    simp [Chip.badLog, hfreeze, hthaw, hcursor]
  rw [c.regWrite_logCtrl m master slot v hgood]
  simp [Chip.doLog, Chip.onBit, hcount, hfreeze, hthaw, hload, hclear]

/-- The clock set to where it stands is no change. -/
theorem Chip.with_now_eq (c : Chip) {n : Nat} (h : c.now = n) : { c with now := n } = c := by
  subst h
  rfl

/-- In a module that runs, such a write leaves the module as the load of the window makes it. -/
theorem exec_registerWrite_winLoad (s : State) (t : Nat) (master : Fin 9) (slot : Fin 16) (v : BitVec 32) (hs : s.runs) (hv : v.toNat % 32 = 8) :
    exec (.registerWrite t master slot 0x60060000 v) s = .next { s with chip := (s.upon t).winLoad } := by
  have hnow : (s.upon t).winLoad.now = max s.chip.now t := (s.upon t).winLoad_now
  rw [exec_registerWrite s t master slot _ v (a := Reg.LOG_CTRL_FREEZE.addr) hs rfl rfl, Chip.regWrite_winLoad _ _ _ _ _ hv, Chip.with_now_eq _ hnow]

/-- Settles O42: such a write is the load of the window, which writes the window's registers and nothing else. -/
theorem windowLoadsTheLog : Obligations.WindowLoadsTheLog := by
  intro s t master slot v r hs hv
  have hdata (w : Nat) (hw : w < 64) := (s.upon t).fld_winLoad_data w hw
  have hnext := (s.upon t).fld_winLoad_position _ (.inl rfl)
  have hkeep : (s.upon t).winLoad.sameRegs s.chip windowFlds := (s.upon t).sameRegs_winLoad
  exact ⟨_, exec_registerWrite_winLoad s t master slot v hs hv, hdata, hnext, hkeep, (s.upon t).winLoad_frame⟩

end Sys2Proof.Machine
end

section
/-! PROOFS. The byte-addressed memories: every writer of them keeps their canonical form, and a command that does not reach them leaves them. -/

namespace Sys2Proof.Machine

/-! ## Erasures and writes of the flash -/

/-- What both outcomes of a condition keep. -/
theorem wf_ite {b : Prop} [Decidable b] {x y : Chip × Tbl Byte} (hx : Memory.wf x.2 = true) (hy : Memory.wf y.2 = true) :
    Memory.wf (if b then x else y).2 = true := by
  split
  · exact hx
  · exact hy

theorem wf_ite_mem {b : Prop} [Decidable b] {x y : Tbl Byte} (hx : Memory.wf x = true) (hy : Memory.wf y = true) :
    Memory.wf (if b then x else y) = true := by
  split
  · exact hx
  · exact hy

theorem Memory.wf_eraseRange (m : Tbl Byte) (a n : Nat) (h : Memory.wf m = true) : Memory.wf (eraseRange m a n) = true := Memory.wf_filter _ _ h

theorem Memory.wf_eraseSector (m : Tbl Byte) (k : Nat) (h : Memory.wf m = true) : Memory.wf (eraseSector m k) = true := Memory.wf_filter _ _ h

theorem Memory.wf_flashOnly (m : Tbl Byte) (h : Memory.wf m = true) : Memory.wf (flashOnly m) = true := Memory.wf_filter _ _ h

theorem Memory.wf_programJournal (m : Tbl Byte) (k : Nat) (j : Journal) (cause : Nat) (h : Memory.wf m = true) :
    Memory.wf (programJournal m k j cause) = true := Memory.wf_memWrite _ _ _ h

theorem Memory.wf_writeSettings (m : Tbl Byte) (bank : Nat) (body : List Byte) (gen : Nat) (h : Memory.wf m = true) :
    Memory.wf (writeSettings m bank body gen) = true := Memory.wf_memWrite _ _ _ (Memory.wf_eraseRange _ _ _ h)

/-- A fold that carries the memories keeps what each of its turns keeps. -/
theorem List.foldl_keeps {α β : Type} (P : β → Prop) (f : β → α → β) (hf : ∀ b a, P b → P (f b a)) (l : List α) (b : β) (h : P b) : P (l.foldl f b) := by
  induction l generalizing b with
  | nil => exact h
  | cons a l ih => exact ih _ (hf b a h)

theorem Memory.wf_makeRoom (m : Tbl Byte) (h : Memory.wf m = true) : Memory.wf (makeRoom m) = true := by
  refine List.foldl_keeps (fun a => Memory.wf a = true) _ (fun a k ha => ?_) _ _ h
  split
  · split
    · exact Memory.wf_memWrite _ _ _ (Memory.wf_eraseRange _ _ _ ha)
    · exact Memory.wf_eraseRange _ _ _ ha
  · exact ha

theorem Memory.wf_writeKeyTable (m : Tbl Byte) (b : List Byte) (fails : Nat) (h : Memory.wf m = true) : Memory.wf (writeKeyTable m b fails) = true := by
  have hput (a : Tbl Byte) (k : Nat) (ha : Memory.wf a = true) :
      Memory.wf (memWrite (eraseRange a (keySector (2 + k)) 65536) (keySector (2 + k)) b) = true :=
    Memory.wf_memWrite _ _ _ (Memory.wf_eraseRange _ _ _ ha)
  unfold writeKeyTable
  dsimp only
  split
  · exact Memory.wf_eraseRange _ _ _ h
  · split
    · exact hput _ _ h
    · exact hput _ _ (hput _ _ h)

theorem Chip.wf_commitJournal (c : Chip) (m : Tbl Byte) (j : Journal) (cause fails : Nat) (h : Memory.wf m = true) :
    Memory.wf (c.commitJournal m j cause fails).2 = true := by
  have hfirst : Memory.wf (if fails = 1 then m else programJournal m 0 j cause) = true := by
    split
    · exact h
    · exact Memory.wf_programJournal _ _ _ _ h
  unfold Chip.commitJournal
  dsimp only
  split
  · exact Memory.wf_programJournal _ _ _ _ hfirst
  · exact hfirst

/-! ## The fabric's bursts and resets of its masters -/

theorem Chip.wf_fabBeats (c : Chip) (m : Tbl Byte) (x : FabTx) (n : Nat) (h : Memory.wf m = true) : Memory.wf (c.fabBeats m x n) = true := by
  unfold Chip.fabBeats
  split
  · exact Memory.wf_memWrite _ _ _ h
  · exact h

theorem Chip.wf_resetMaster (c : Chip) (m : Tbl Byte) (master : Nat) (h : Memory.wf m = true) : Memory.wf (c.resetMaster m master).2 = true := by
  have hcut (l : List FabTx) : Memory.wf (l.foldl (fun a x => c.fabBeats a x (c.openVal 5 % (x.words.length + 1))) m) = true :=
    List.foldl_keeps (fun a => Memory.wf a = true) _ (fun a x ha => c.wf_fabBeats a x _ ha) l m h
  unfold Chip.resetMaster
  dsimp only
  split <;> exact hcut _

theorem Chip.wf_resetCores (c : Chip) (m : Tbl Byte) (h : Memory.wf m = true) : Memory.wf (c.resetCores m).2 = true := by
  simp only [Chip.resetCores]
  exact List.foldl_keeps (fun a : Chip × Tbl Byte => Memory.wf a.2 = true) _ (fun a k ha => a.1.wf_resetMaster a.2 k ha) _ (c, m) h

/-! ## The archive -/

theorem Chip.wf_nextSector (c : Chip) (m : Tbl Byte) (first : Nat) (fails : Bool) (h : Memory.wf m = true) : Memory.wf (c.nextSector m first fails).2 = true := by
  simp only [Chip.nextSector]
  exact Memory.wf_eraseSector _ _ h

theorem Chip.wf_batchWritten (c : Chip) (m : Tbl Byte) (first : Nat) (taken : List Rec) (h : Memory.wf m = true) :
    Memory.wf (c.batchWritten m first taken).2 = true := by
  simp only [Chip.batchWritten]
  exact Memory.wf_memWrite _ _ _ h

theorem Chip.wf_archiveBatch (c : Chip) (m : Tbl Byte) (how : BatchEnd) (due : List Rec) (h : Memory.wf m = true) :
    Memory.wf (c.archiveBatch m how due).2 = true := by
  have hplace (b : Bool) (first : Nat) (fails : Bool) : Memory.wf (if b = true then c.nextSector m first fails else (c, m)).2 = true := by
    split
    · exact c.wf_nextSector m first fails h
    · exact h
  cases how with
  | cut pages => exact Memory.wf_memWrite _ _ _ (hplace _ _ _)
  | programFailed => exact Chip.wf_batchWritten _ _ _ _ (Chip.wf_nextSector _ _ _ _ (hplace _ _ _))
  | written => exact Chip.wf_batchWritten _ _ _ _ (hplace _ _ _)
  | eraseFailed => exact Chip.wf_batchWritten _ _ _ _ (hplace _ _ _)

theorem Chip.wf_writeAll (n : Nat) (c : Chip) (m : Tbl Byte) (h : Memory.wf m = true) : Memory.wf (Chip.writeAll n c m).2 = true := by
  induction n generalizing c m with
  | zero => exact h
  | succ n ih =>
    unfold Chip.writeAll
    split
    · exact h
    · exact ih _ _ (c.wf_archiveBatch m _ _ h)

theorem Chip.wf_commitAll (c : Chip) (m : Tbl Byte) (h : Memory.wf m = true) : Memory.wf (c.commitAll m).2 = true := by
  unfold Chip.commitAll
  dsimp only
  split
  · exact h
  · exact Chip.wf_writeAll _ _ _ h

theorem Chip.wf_startLog (c : Chip) (m : Tbl Byte) (h : Memory.wf m = true) : Memory.wf (c.startLog m).2 = true := Memory.wf_eraseSector _ _ h

/-! ## Resets, restarts and faults -/

theorem Chip.wf_inReset (c : Chip) (m : Tbl Byte) (cause : Nat) (h : Memory.wf m = true) : Memory.wf (c.inReset m cause).2 = true :=
  Memory.wf_flashOnly _ h

theorem Chip.wf_coldReset (c : Chip) (m : Tbl Byte) (key : Nat) (h : Memory.wf m = true) : Memory.wf (c.coldReset m key).2 = true := by
  unfold Chip.coldReset
  split
  · exact c.wf_inReset m 4 h
  · exact h

theorem Chip.wf_stopCores (c : Chip) (m : Tbl Byte) (h : Memory.wf m = true) : Memory.wf (c.stopCores m).2 = true := by
  simp only [Chip.stopCores]
  exact c.wf_resetCores m h

theorem Chip.wf_beginRestart (c : Chip) (m : Tbl Byte) (cause processor : Nat) (h : Memory.wf m = true) :
    Memory.wf (c.beginRestart m cause processor).2 = true := by
  simp only [Chip.beginRestart]
  split_ifs
  · exact h
  · exact h
  · exact Chip.wf_stopCores _ m h
  · exact Chip.wf_stopCores _ m h

theorem Chip.wf_forceRestart (c : Chip) (m : Tbl Byte) (key : Nat) (h : Memory.wf m = true) : Memory.wf (c.forceRestart m key).2 = true := by
  unfold Chip.forceRestart
  split
  · exact c.wf_beginRestart m 6 0 h
  · exact h

theorem Chip.wf_deviceFault (c : Chip) (m : Tbl Byte) (cause : Nat) (h : Memory.wf m = true) : Memory.wf (c.deviceFault m cause).2 = true :=
  Chip.wf_inReset _ _ _ (Chip.wf_commitAll _ _ h)

theorem Chip.wf_sramOutcome (c : Chip) (m : Tbl Byte) (hit : SramHit) (h : Memory.wf m = true) : Memory.wf (c.sramOutcome m hit).2 = true := by
  cases hit with
  | core p => exact c.wf_beginRestart m 1 p h
  | lamplighter => exact c.wf_deviceFault m 2 h
  | storeSystem a => exact Chip.wf_beginRestart _ m 2 0 h
  | _ => exact h

theorem Chip.wf_masterError (c : Chip) (m : Tbl Byte) (master : Nat) (h : Memory.wf m = true) : Memory.wf (c.masterError m master).2 = true := by
  unfold Chip.masterError
  split
  · split
    · exact c.wf_deviceFault m 3 h
    · exact h
  · split
    · exact c.wf_beginRestart m 3 master h
    · exact h

/-! ## Sessions that close -/

theorem Chip.wf_closeSession (c : Chip) (m : Tbl Byte) (slot cause : Nat) (h : Memory.wf m = true) : Memory.wf (c.closeSession m slot cause).2 = true := by
  simp only [Chip.closeSession]
  split_ifs
  · exact Chip.wf_resetMaster _ m 7 h
  · exact h
  · exact h

theorem Chip.wf_closeAll (c : Chip) (m : Tbl Byte) (h : Memory.wf m = true) : Memory.wf (c.closeAll m).2 = true := by
  refine List.foldl_keeps (fun a : Chip × Tbl Byte => Memory.wf a.2 = true) _ (fun a i ha => ?_) _ (c, m) h
  split
  · exact ha
  · exact a.1.wf_closeSession a.2 i 3 ha

/-! ## Register writes and the beats of the fabric -/

theorem Chip.wf_regWrite (c : Chip) (m : Tbl Byte) (master slot a v : Nat) (h : Memory.wf m = true) : Memory.wf (c.regWrite m master slot a v).2 = true := by
  unfold Chip.regWrite
  split
  · exact h
  · split
    · exact h
    · dsimp only
      split_ifs
      · exact Chip.wf_coldReset _ m _ h
      · exact Chip.wf_forceRestart _ m _ h
      · exact Chip.wf_closeAll _ m h
      · exact h

theorem Chip.wf_storeBeat (c : Chip) (m : Tbl Byte) (master slot target a v : Nat) (h : Memory.wf m = true) :
    Memory.wf (c.storeBeat m master slot target a v).2 = true := by
  unfold Chip.storeBeat
  split_ifs
  · exact c.wf_regWrite m master slot a v h
  · exact h
  · exact Memory.wf_memWrite _ _ _ h

theorem Chip.wf_runBeats (c : Chip) (m : Tbl Byte) (x : FabTx) (n : Nat) (facts : List BusFact) (h : Memory.wf m = true) :
    Memory.wf (c.runBeats m x n facts).1.2 = true := by
  refine List.foldl_keeps (fun a : (Chip × Tbl Byte) × List Nat => Memory.wf a.1.2 = true) _ (fun a i ha => ?_) _ ((c, m), []) h
  dsimp only
  split
  · exact Chip.wf_storeBeat _ _ _ _ _ _ _ ha
  · exact ha

theorem Chip.wf_completeTx (c : Chip) (m : Tbl Byte) (x : FabTx) (facts : List BusFact) (h : Memory.wf m = true) :
    Memory.wf (c.completeTx m x facts).2 = true := by
  unfold Chip.completeTx
  dsimp only
  split
  · exact Chip.wf_runBeats _ m x _ facts h
  · exact Chip.wf_masterError _ m x.master h

theorem Chip.wf_busBeat (c : Chip) (m : Tbl Byte) (master slot a : Nat) (write : Option Nat) (fact : BusFact) (h : Memory.wf m = true) :
    Memory.wf (c.busBeat m master slot a write fact).1.2 = true := by
  unfold Chip.busBeat
  split
  · exact h
  · cases write with
    | none => dsimp only; split <;> exact h
    | some v =>
      have hstore (b : Prop) [Decidable b] (d : Chip) (target : Nat) :
          Memory.wf (if b then d.storeBeat m master slot target a v else (d, m)).2 = true := by
        split
        · exact Chip.wf_storeBeat _ _ _ _ _ _ _ h
        · exact h
      dsimp only
      split
      · exact hstore _ _ _
      · exact hstore _ _ _

/-! ## The register window of the lanyard -/

theorem Chip.wf_runEntries (slot : Nat) (l : List WinEntry) (facts : List BusFact) (i : Nat) (out : List Byte) (c : Chip) (m : Tbl Byte)
    (h : Memory.wf m = true) : Memory.wf (Chip.runEntries slot l facts i out c m).1.2 = true := by
  induction l generalizing facts i out c m with
  | nil => exact h
  | cons e rest ih =>
    unfold Chip.runEntries
    split
    · have hbeat := c.wf_busBeat m 7 slot e.1 e.2 (facts.headD ⟨false, false, false, none, []⟩) h
      dsimp only
      split
      · exact ih _ _ _ _ _ hbeat
      · exact hbeat
    · exact h

theorem Chip.wf_runWindow (c : Chip) (m : Tbl Byte) (slot mt : Nat) (l : List WinEntry) (facts : List BusFact) (h : Memory.wf m = true) :
    Memory.wf (c.runWindow m slot mt l facts).2 = true := by
  have hrun := Chip.wf_runEntries slot l facts 0 [] c m h
  unfold Chip.runWindow
  split
  · exact h
  · dsimp only
    split
    · split <;> exact hrun
    · exact hrun

theorem Chip.wf_window (c : Chip) (m : Tbl Byte) (slot mt : Nat) (l : List WinEntry) (lenOk : Bool) (facts : List BusFact) (h : Memory.wf m = true) :
    Memory.wf (c.window m slot mt l lenOk facts).2 = true := by
  unfold Chip.window
  split
  · exact c.wf_runWindow m slot mt l facts h
  · exact h


/-! ## The rings of the deep analysers -/

theorem Chip.wf_deepTap (c : Chip) (m : Tbl Byte) (n : Nat) (x : Tap) (full : List Nat) (a : Nat) (h : Memory.wf m = true) :
    Memory.wf (c.deepTap m n x full a).2 = true := by
  simp only [Chip.deepTap]
  split_ifs with hruns hfull hlast
  · exact h
  · exact Memory.wf_memWrite _ _ _ h
  · exact Memory.wf_memWrite _ _ _ h
  · exact h

theorem Chip.wf_tapPacket (c : Chip) (m : Tbl Byte) (x : Tap) (full : List Nat) (h : Memory.wf m = true) : Memory.wf (c.tapPacket m x full).2 = true := by
  simp only [Chip.tapPacket]
  refine List.foldl_keeps (fun a : Chip × Tbl Byte => Memory.wf a.2 = true) _ (fun a n ha => ?_) _ (_, m) h
  exact List.foldl_keeps (fun a : Chip × Tbl Byte => Memory.wf a.2 = true) _ (fun b i hb => b.1.wf_deepTap b.2 n x full i hb) _ a ha

theorem Chip.wf_passFrame (c : Chip) (m : Tbl Byte) (p b : Nat) (e : EthFrame) (learnt : Option Format) (full : List Nat) (h : Memory.wf m = true) :
    Memory.wf (c.passFrame m p b e learnt full).2 = true := by
  simp only [Chip.passFrame]
  split_ifs with harp hhost
  · exact h
  · cases readIp e with
    | none => exact h
    | some q =>
      dsimp only
      split_ifs <;> exact h
  · cases readIp e with
    | none => exact h
    | some q =>
      dsimp only
      cases queryOf q with
      | some g => dsimp only; split_ifs <;> exact h
      | none =>
        cases c.matchFlow p b e.vlan q with
        | none => dsimp only; split_ifs <;> exact h
        | some fl =>
          dsimp only
          split_ifs with hsolicit hecho hudp
          · exact h
          · exact h
          · exact Chip.wf_tapPacket _ m _ full h
          · exact Chip.wf_tapPacket _ m _ full h
          · exact h

theorem Chip.wf_judgeFrame (c : Chip) (m : Tbl Byte) (p b : Nat) (bytes : List Byte) (fcsOk bufferFull : Bool) (learnt : Option Format) (full : List Nat)
    (h : Memory.wf m = true) : Memory.wf (c.judgeFrame m p b bytes fcsOk bufferFull learnt full).2 = true := by
  simp only [Chip.judgeFrame]
  split_ifs
  iterate 7 exact h
  exact Chip.wf_passFrame _ m p b _ learnt full h

/-! ## Which shared operation a command is -/

/-- A command of a module that runs which does not reach the memories is an effect on the module alone. -/
theorem exec_eq_act (i : Instr) (s : State) (hmem : i.reachesMemory = false) (halways : i.alwaysActs = false) : ∃ t f, exec i s = act t s f := by
  unfold exec
  cases i
  any_goals exact absurd hmem Bool.noConfusion
  any_goals exact absurd halways Bool.noConfusion
  all_goals exact ⟨_, _, rfl⟩

/-- A command of a module that runs which reaches the memories is an effect on the module and the memories. -/
theorem exec_eq_actMem (i : Instr) (s : State) (hmem : i.reachesMemory = true) (halways : i.alwaysActs = false) : ∃ t f, exec i s = actMem t s f := by
  unfold exec
  cases i
  any_goals exact absurd hmem Bool.noConfusion
  any_goals exact absurd halways Bool.noConfusion
  all_goals exact ⟨_, _, rfl⟩

/-- The management target, boundary scan and the samples act on the module alone, whether it runs or not. -/
theorem exec_eq_actAlways (i : Instr) (s : State) (hmem : i.reachesMemory = false) (halways : i.alwaysActs = true) : ∃ t f, exec i s = actAlways t s f := by
  unfold exec
  cases i
  any_goals exact absurd hmem Bool.noConfusion
  any_goals exact absurd halways Bool.noConfusion
  all_goals exact ⟨_, _, rfl⟩

theorem exec_mem_of_not_reachesMemory (i : Instr) (s u : State) (hmem : i.reachesMemory = false) (h : exec i s = .next u) : u.mem = s.mem := by
  cases halways : i.alwaysActs with
  | false =>
    obtain ⟨t, f, hact⟩ := exec_eq_act i s hmem halways
    exact (act_frame t s u f (hact.symm.trans h)).2.1
  | true =>
    obtain ⟨t, f, hact⟩ := exec_eq_actAlways i s hmem halways
    exact (actAlways_frame t s u f (hact.symm.trans h)).2.1

/-- Settles O35: such a command is an effect on the module alone. -/
theorem onlyMemoryCommandsWriteMemory : Obligations.OnlyMemoryCommandsWriteMemory := exec_mem_of_not_reachesMemory

/-- Settles O34: what every command runs under leaves a module that does not run. -/
theorem stoppedModuleStaysAsItIs : Obligations.StoppedModuleStaysAsItIs := by
  intro i s hrun halways
  cases hmem : i.reachesMemory with
  | false =>
    obtain ⟨t, f, hact⟩ := exec_eq_act i s hmem halways
    exact ⟨t, hact.trans (act_stopped t s f hrun)⟩
  | true =>
    obtain ⟨t, f, hact⟩ := exec_eq_actMem i s hmem halways
    exact ⟨t, hact.trans (actMem_stopped t s f hrun)⟩

/-! ## Commands that reach the memories -/

/-- A frame reaches the memories through the rings of the deep analysers. -/
theorem execReceiveFrame_keeps_wf (t : Nat) (port : Fin 18) (breakout : Fin 8) (bytes : List Byte) (fcsOk bufferFull : Bool) (fill : Nat)
    (learnt : Option Format) (full : List (Fin 8)) (s u : State) (hs : s.memOk)
    (h : execReceiveFrame t port breakout bytes fcsOk bufferFull fill learnt full s = .next u) : u.memOk := by
  refine actMem_keeps_wf t s u _ (fun c m hm => ?_) hs h
  split
  · exact c.wf_judgeFrame m port breakout bytes fcsOk bufferFull learnt _ hm
  · exact hm

/-- The job that misses its deadline reaches the memories through the restart of a stall alone (R62). -/
theorem execJobDeadline_keeps_wf (t : Nat) (td : Fin 4) (job : Fin 6) (late : Nat) (s u : State) (hs : s.memOk)
    (h : execJobDeadline t td job late s = .next u) : u.memOk := by
  refine actMem_keeps_wf t s u _ (fun c m hm => ?_) hs h
  dsimp only
  cases (c.dom td).jobFrame with
  | none => dsimp only; split_ifs <;> exact hm
  | some f =>
    dsimp only
    split_ifs with htake hcommit hstall
    · exact hm
    · exact Chip.wf_beginRestart _ m 5 0 hm
    all_goals exact hm

theorem Chip.wf_imageBlock (c : Chip) (m : Tbl Byte) (slot id : Nat) (data : List Byte) (fails : Bool) (h : Memory.wf m = true) :
    Memory.wf (c.imageBlock m slot id data fails).2 = true := by
  unfold Chip.imageBlock
  cases c.loadingKind with
  | none => exact h
  | some kind =>
    dsimp only
    have hput := wf_ite (b := fails = true) (x := ((c.modLoad kind (fun _ => Load.idle)).refuse slot 0x0801 0x1406 wholeIndex, m))
      (y := ((c.modLoad kind (fun x => { x with written := x.written ++ [id] })).done slot 0x0801 [],
        memWrite m (bankBase kind (c.load kind).bank + 65536 * id) data)) h (Memory.wf_memWrite _ _ _ h)
    refine wf_ite (wf_ite (wf_ite h h) ?_) (wf_ite h (wf_ite h (wf_ite h hput)))
    cases manifestCode kind data with
    | some k => exact h
    | none => exact wf_ite h hput

theorem execArmVerifyDone_keeps_wf (t : Nat) (kind : Fin 3) (fails : Bool) (s u : State) (hs : s.memOk)
    (h : execArmVerifyDone t kind fails s = .next u) : u.memOk := by
  refine actMem_keeps_wf t s u _ (fun c m hm => ?_) hs h
  dsimp only
  split_ifs
  · exact hm
  · exact Memory.wf_makeRoom _ (Memory.wf_eraseRange _ _ _ hm)
  · exact Memory.wf_makeRoom _ hm
  · exact hm

theorem execEnrolDone_keeps_wf (t : Nat) (fails : Fin 3) (s u : State) (hs : s.memOk) (h : execEnrolDone t fails s = .next u) : u.memOk := by
  refine actMem_keeps_wf t s u _ (fun c m hm => ?_) hs h
  cases c.upd.enrol with
  | none => exact hm
  | some j =>
    dsimp only
    split
    · exact hm
    · split <;> exact Memory.wf_writeKeyTable _ _ _ hm

theorem execSaveDone_keeps_wf (t : Nat) (fails : Bool) (journalFails : Fin 3) (s u : State) (hs : s.memOk)
    (h : execSaveDone t fails journalFails s = .next u) : u.memOk := by
  refine actMem_keeps_wf t s u _ (fun c m hm => ?_) hs h
  cases c.upd.save with
  | none => exact hm
  | some j =>
    have hbank (bank gen : Nat) : Memory.wf (makeRoom (writeSettings m bank j.key gen)) = true :=
      Memory.wf_makeRoom _ (Memory.wf_writeSettings _ _ _ _ hm)
    dsimp only
    split
    · exact hm
    · split
      · dsimp only
        exact hbank _ _
      · split
        · dsimp only
          exact Chip.wf_commitJournal _ _ _ _ _ (hbank _ _)
        · dsimp only
          exact Chip.wf_commitJournal _ _ _ _ _ (hbank _ _)

theorem Chip.wf_recoveryActivate (c : Chip) (m : Tbl Byte) (a : Activation) (fails : Nat) (h : Memory.wf m = true) :
    Memory.wf (c.recoveryActivate m a fails).2 = true := by
  simp only [Chip.recoveryActivate]
  split
  · exact Chip.wf_inReset _ _ _ (Chip.wf_commitJournal _ _ _ _ _ h)
  · dsimp only
    exact Chip.wf_commitJournal _ _ _ _ _ h

theorem execActivationStart_keeps_wf (t : Nat) (journalFails : Fin 3) (s u : State) (hs : s.memOk)
    (h : execActivationStart t journalFails s = .next u) : u.memOk := by
  refine actMem_keeps_wf t s u _ (fun c m hm => ?_) hs h
  cases c.upd.act with
  | none => exact hm
  | some a =>
    dsimp only
    split
    · exact hm
    · split
      · split
        · exact hm
        · exact c.wf_recoveryActivate m a _ hm
      · dsimp only
        exact Chip.wf_resetCores _ m hm

/-- The memories that a trial checks: as they are, or with a converted settings body written. -/
theorem Chip.wf_trialSettings (c : Chip) (m m' : Tbl Byte) (a : Activation) (x : Trial) (r : Option Nat × List (Nat × List Byte))
    (hx : c.trialSettings m a x = some (m', r)) (h : Memory.wf m = true) : Memory.wf m' = true := by
  simp only [Chip.trialSettings] at hx
  split_ifs at hx with hkinds hfw
  · cases hx; exact h
  · cases hconv : x.converted with
    | none => rw [hconv] at hx; cases hx; exact h
    | some y =>
      rw [hconv] at hx
      dsimp only at hx
      split_ifs at hx
      cases hx
      exact Memory.wf_writeSettings _ _ _ _ h
  · cases hx; exact h

theorem execActivationEnd_keeps_wf (t : Nat) (trial : Trial) (s u : State) (hs : s.memOk) (h : execActivationEnd t trial s = .next u) : u.memOk := by
  refine actMem_keeps_wf t s u _ (fun c m hm => ?_) hs h
  cases c.upd.act with
  | none => exact hm
  | some a =>
    dsimp only
    refine wf_ite ?_ ?_
    · exact hm
    cases a.why with
    | some w => exact hm
    | none =>
      refine wf_ite hm (wf_ite hm ?_)
      cases hx : c.trialSettings m a trial with
      | none => exact hm
      | some r =>
        obtain ⟨m1, bank, ss⟩ := r
        have hm1 : Memory.wf m1 = true := c.wf_trialSettings m m1 a trial _ hx hm
        dsimp only
        split
        · exact hm1
        · refine wf_ite ?_ ?_
          · dsimp only
            exact Chip.wf_commitJournal _ _ _ _ _ hm1
          · dsimp only
            exact Chip.wf_commitJournal _ _ _ _ _ hm1

theorem execFabricTransaction_keeps_wf (t : Nat) (master : Fin 9) (slot : Fin 16) (addr : BitVec 32) (write : Bool) (words : List (BitVec 32))
    (lock barrier : Bool) (s u : State) (hs : s.memOk) (h : execFabricTransaction t master slot addr write words lock barrier s = .next u) : u.memOk := by
  refine actMem_keeps_wf t s u _ (fun c m hm => wf_ite hm ?_) hs h
  cases c.fabAccess master addr.toNat (4 * words.length) write with
  | error e => exact Chip.wf_masterError _ m master hm
  | ok tg => exact wf_ite hm (wf_ite hm hm)

theorem execFabricArbiterDecision_keeps_wf (t : Nat) (target : Fin 7) (facts : List BusFact) (s u : State) (hs : s.memOk)
    (h : execFabricArbiterDecision t target facts s = .next u) : u.memOk := by
  refine actMem_keeps_wf t s u _ (fun c m hm => ?_) hs h
  cases c.inProgress target with
  | none => exact hm
  | some x => exact wf_ite (c.wf_completeTx m x facts hm) (c.wf_completeTx m x facts hm)

theorem execFabricHogCut_keeps_wf (t : Nat) (target : Fin 7) (delivered : Nat) (facts : List BusFact) (s u : State) (hs : s.memOk)
    (h : execFabricHogCut t target delivered facts s = .next u) : u.memOk := by
  refine actMem_keeps_wf t s u _ (fun c m hm => ?_) hs h
  cases c.inProgress target with
  | none => exact hm
  | some x =>
    refine wf_ite ?_ hm
    dsimp only
    exact wf_ite (c.wf_runBeats m x _ facts hm) hm

theorem execFabricTimeout_keeps_wf (t : Nat) (master : Fin 9) (target : Fin 7) (tookEffect : Bool) (s u : State) (hs : s.memOk)
    (h : execFabricTimeout t master target tookEffect s = .next u) : u.memOk := by
  refine actMem_keeps_wf t s u _ (fun c m hm => ?_) hs h
  dsimp only
  cases c.fab.txs.find? (fun x => x.master == master.val && x.target == target.val) with
  | none => exact hm
  | some x =>
    have hbeats (b : Prop) [Decidable b] : Memory.wf (if b then (c.runBeats m x x.words.length []).1 else (c, m)).2 = true :=
      wf_ite (c.wf_runBeats m x _ [] hm) hm
    refine wf_ite (wf_ite ?_ ?_) hm
    · dsimp only
      exact Chip.wf_masterError _ _ master (hbeats _)
    · exact Chip.wf_masterError _ _ master (hbeats _)

theorem execOpenSession_keeps_wf (t : Nat) (port : Fin 2) (ipv6 : Bool) (addr udpPort : Nat) (bytes : List Byte) (session : Nat) (nonce : List Byte)
    (s u : State) (hs : s.memOk) (h : execOpenSession t port ipv6 addr udpPort bytes session nonce s = .next u) : u.memOk := by
  refine actMem_keeps_wf t s u _ (fun c m hm => wf_ite hm (wf_ite hm ?_)) hs h
  cases (if u8 bytes 16 < 16 then keyEntry m (u8 bytes 16) else none) with
  | none => exact hm
  | some e => exact wf_ite hm (wf_ite hm hm)

theorem execClose_keeps_wf (t : Nat) (slot : Fin 16) (body : List Byte) (s u : State) (hs : s.memOk) (h : execClose t slot body s = .next u) : u.memOk := by
  refine actMem_keeps_wf t s u _ (fun c m hm => ?_) hs h
  exact wf_ite (Chip.wf_closeSession _ m slot 1 hm) hm

/-- A block at a place: left as the application that the command makes, whose reduction would have the kernel compare the place's digits. -/
theorem Chip.wf_placedBlock (m : Tbl Byte) (slot place id : Nat) (data : List Byte) (fails : Bool) (c : Chip) (h : Memory.wf m = true) :
    Memory.wf ((fun d : Chip => if place ≠ 0 then (d.refuse slot 0x0801 0x1108 wholeIndex, m) else d.imageBlock m slot id data fails) c).2 = true :=
  wf_ite h (c.wf_imageBlock m slot id data fails h)

theorem execImageBlock_keeps_wf (t : Nat) (slot : Fin 16) (body : List Byte) (fails : Bool) (s u : State) (hs : s.memOk)
    (h : execImageBlock t slot body fails s = .next u) : u.memOk := by
  refine actMem_keeps_wf t s u _ (fun c m hm => ?_) hs h
  refine wf_ite hm (wf_ite_mem ?_ hm)
  exact Chip.wf_placedBlock m slot _ _ _ fails c hm

theorem execArchiveBatch_keeps_wf (t : Nat) (how : BatchEnd) (s u : State) (hs : s.memOk) (h : execArchiveBatch t how s = .next u) : u.memOk := by
  refine actMem_keeps_wf t s u _ (fun c m hm => wf_ite ?_ hm) hs h
  cases c.batchDue with
  | none => exact hm
  | some due => exact c.wf_archiveBatch m how due hm

theorem Chip.wf_release (c : Chip) (m : Tbl Byte) (recoveryLow : Bool) (h : Memory.wf m = true) : Memory.wf (c.release m recoveryLow).2 = true := by
  simp only [Chip.release]
  exact Chip.wf_startLog _ m h

theorem execResetRelease_keeps_wf (t : Nat) (recoveryLow lo : Bool) (fails : List (Fin 2)) (s u : State) (hs : s.memOk)
    (h : execResetRelease t recoveryLow lo fails s = .next u) : u.memOk := by
  refine actMemAlways_keeps_wf t s u _ (fun c m hm => wf_ite ?_ hm) hs h
  exact wf_ite (c.wf_release m recoveryLow hm) (c.wf_release m recoveryLow hm)

theorem execServiceCoreException_keeps_wf (t : Nat) (core : Fin 4) (s u : State) (hs : s.memOk)
    (h : execServiceCoreException t core s = .next u) : u.memOk := by
  refine actMem_keeps_wf t s u _ (fun c m hm => ?_) hs h
  exact wf_ite (c.wf_beginRestart m 3 _ hm) hm

theorem execServiceCoreWatchdog_keeps_wf (t : Nat) (core : Fin 4) (s u : State) (hs : s.memOk)
    (h : execServiceCoreWatchdog t core s = .next u) : u.memOk := by
  refine actMem_keeps_wf t s u _ (fun c m hm => ?_) hs h
  exact wf_ite (Chip.wf_beginRestart _ m 4 _ hm) hm

theorem execForceRestart_keeps_wf (t : Nat) (key : Fin 65536) (s u : State) (hs : s.memOk) (h : execForceRestart t key s = .next u) : u.memOk := by
  refine actMem_keeps_wf t s u _ (fun c m hm => ?_) hs h
  exact c.wf_forceRestart m key hm

theorem execLamplighterWatchdog_keeps_wf (t : Nat) (s u : State) (hs : s.memOk) (h : execLamplighterWatchdog t s = .next u) : u.memOk := by
  refine actMem_keeps_wf t s u _ (fun c m hm => ?_) hs h
  exact c.wf_deviceFault m 1 hm

theorem execSramUncorrectableError_keeps_wf (t : Nat) (hit : SramHit) (offset : Nat) (s u : State) (hs : s.memOk)
    (h : execSramUncorrectableError t hit offset s = .next u) : u.memOk := by
  refine actMem_keeps_wf t s u _ (fun c m hm => ?_) hs h
  exact Chip.wf_sramOutcome _ m hit hm

theorem execRegRead_keeps_wf (t : Nat) (slot : Fin 16) (body : List Byte) (facts : List BusFact) (s u : State) (hs : s.memOk)
    (h : execRegRead t slot body facts s = .next u) : u.memOk := by
  refine actMem_keeps_wf t s u _ (fun c m hm => ?_) hs h
  exact c.wf_window m slot _ _ _ facts hm

theorem execRegWrite_keeps_wf (t : Nat) (slot : Fin 16) (body : List Byte) (facts : List BusFact) (s u : State) (hs : s.memOk)
    (h : execRegWrite t slot body facts s = .next u) : u.memOk := by
  refine actMem_keeps_wf t s u _ (fun c m hm => ?_) hs h
  exact c.wf_window m slot _ _ _ facts hm

theorem execFrameStoreWrite_keeps_wf (t : Nat) (slot : Fin 16) (body : List Byte) (s u : State) (hs : s.memOk)
    (h : execFrameStoreWrite t slot body s = .next u) : u.memOk := by
  refine actMem_keeps_wf t s u _ (fun c m hm => ?_) hs h
  refine wf_ite hm ?_
  dsimp only
  split
  · exact Memory.wf_memWrite _ _ _ hm
  · exact hm

theorem execUpdateBegin_keeps_wf (t : Nat) (slot : Fin 16) (body : List Byte) (s u : State) (hs : s.memOk)
    (h : execUpdateBegin t slot body s = .next u) : u.memOk := by
  refine actMem_keeps_wf t s u _ (fun c m hm => ?_) hs h
  exact hm

theorem execEraseDone_keeps_wf (t : Nat) (kind : Fin 3) (fails : Bool) (s u : State) (hs : s.memOk)
    (h : execEraseDone t kind fails s = .next u) : u.memOk := by
  refine actMem_keeps_wf t s u _ (fun c m hm => ?_) hs h
  exact wf_ite (wf_ite hm (Memory.wf_eraseRange _ _ _ hm)) hm

theorem execArm_keeps_wf (t : Nat) (slot : Fin 16) (body : List Byte) (s u : State) (hs : s.memOk)
    (h : execArm t slot body s = .next u) : u.memOk := by
  refine actMem_keeps_wf t s u _ (fun c m hm => ?_) hs h
  exact hm

theorem execReplay_keeps_wf (t : Nat) (slot : Fin 16) (body : List Byte) (s u : State) (hs : s.memOk)
    (h : execReplay t slot body s = .next u) : u.memOk := by
  refine actMem_keeps_wf t s u _ (fun c m hm => ?_) hs h
  exact hm

theorem execRegisterWrite_keeps_wf (t : Nat) (master : Fin 9) (slot : Fin 16) (reg value : BitVec 32) (s u : State) (hs : s.memOk)
    (h : execRegisterWrite t master slot reg value s = .next u) : u.memOk := by
  refine actMem_keeps_wf t s u _ (fun c m hm => ?_) hs h
  exact wf_ite (c.wf_regWrite m master slot _ _ hm) hm

theorem execCloseAll_keeps_wf (t : Nat) (s u : State) (hs : s.memOk) (h : execCloseAll t s = .next u) : u.memOk := by
  refine actMem_keeps_wf t s u _ (fun c m hm => ?_) hs h
  exact c.wf_closeAll m hm

theorem execSessionIdleTimeout_keeps_wf (t : Nat) (slot : Fin 16) (s u : State) (hs : s.memOk)
    (h : execSessionIdleTimeout t slot s = .next u) : u.memOk := by
  refine actMem_keeps_wf t s u _ (fun c m hm => ?_) hs h
  exact wf_ite (c.wf_closeSession m slot 2 hm) hm

theorem execColdReset_keeps_wf (t : Nat) (key : Fin 65536) (s u : State) (hs : s.memOk) (h : execColdReset t key s = .next u) : u.memOk := by
  refine actMem_keeps_wf t s u _ (fun c m hm => ?_) hs h
  exact c.wf_coldReset m key hm

theorem execLoClkPresent_keeps_wf (t : Nat) (fails : List (Fin 2)) (s u : State) (hs : s.memOk)
    (h : execLoClkPresent t fails s = .next u) : u.memOk := by
  refine actMem_keeps_wf t s u _ (fun c m hm => ?_) hs h
  exact wf_ite hm hm

theorem execPilotServiceStart_keeps_wf (t : Nat) (fails : List (Fin 2)) (s u : State) (hs : s.memOk)
    (h : execPilotServiceStart t fails s = .next u) : u.memOk := by
  refine actMem_keeps_wf t s u _ (fun c m hm => ?_) hs h
  exact wf_ite hm hm

theorem execProcessorsReleased_keeps_wf (t : Nat) (ok : Bool) (fails : List (Fin 2)) (s u : State) (hs : s.memOk)
    (h : execProcessorsReleased t ok fails s = .next u) : u.memOk := by
  refine actMem_keeps_wf t s u _ (fun c m hm => ?_) hs h
  exact wf_ite (wf_ite hm hm) hm

theorem execRefLoLost_keeps_wf (t : Nat) (s u : State) (hs : s.memOk) (h : execRefLoLost t s = .next u) : u.memOk := by
  refine actMem_keeps_wf t s u _ (fun c m hm => ?_) hs h
  refine wf_ite ?_ hm
  dsimp only
  exact Chip.wf_commitAll _ m hm

theorem execLoClkRecovered_keeps_wf (t : Nat) (s u : State) (hs : s.memOk) (h : execLoClkRecovered t s = .next u) : u.memOk := by
  refine actMem_keeps_wf t s u _ (fun c m hm => ?_) hs h
  exact wf_ite (c.wf_inReset m 4 hm) hm

theorem execRailReset_keeps_wf (t : Nat) (rail : Fin 11) (mv : Nat) (s u : State) (hs : s.memOk)
    (h : execRailReset t rail mv s = .next u) : u.memOk := by
  refine actMemAlways_keeps_wf t s u _ (fun c m hm => ?_) hs h
  exact c.wf_inReset m 0 hm

theorem execThermalTrip_keeps_wf (t : Nat) (sensor : Fin 12) (reading : Int) (s u : State) (hs : s.memOk)
    (h : execThermalTrip t sensor reading s = .next u) : u.memOk := by
  refine actMemAlways_keeps_wf t s u _ (fun c m hm => ?_) hs h
  exact c.wf_inReset m 0 hm

theorem execPowerOn_keeps_wf (t : Nat) (s u : State) (hs : s.memOk) (h : execPowerOn t s = .next u) : u.memOk := by
  refine actMemAlways_keeps_wf t s u _ (fun c m hm => ?_) hs h
  exact c.wf_inReset m 1 hm

theorem execResetPin_keeps_wf (t : Nat) (low : Bool) (s u : State) (hs : s.memOk) (h : execResetPin t low s = .next u) : u.memOk := by
  refine actMemAlways_keeps_wf t s u _ (fun c m hm => ?_) hs h
  exact wf_ite (c.wf_inReset m 2 hm) hm

/-- A command that reaches the memories keeps their canonical form, whatever it writes. -/
theorem exec_keeps_wf_of_reachesMemory (i : Instr) (s u : State) (hi : i.reachesMemory = true) (hs : s.memOk) (h : exec i s = .next u) : u.memOk := by
  cases i
  case serviceCoreException => exact execServiceCoreException_keeps_wf _ _ s u hs h
  case serviceCoreWatchdog => exact execServiceCoreWatchdog_keeps_wf _ _ s u hs h
  case forceRestart => exact execForceRestart_keeps_wf _ _ s u hs h
  case lamplighterWatchdog => exact execLamplighterWatchdog_keeps_wf _ s u hs h
  case sramUncorrectableError => exact execSramUncorrectableError_keeps_wf _ _ _ s u hs h
  case jobDeadline => exact execJobDeadline_keeps_wf _ _ _ _ s u hs h
  case regRead => exact execRegRead_keeps_wf _ _ _ _ s u hs h
  case regWrite => exact execRegWrite_keeps_wf _ _ _ _ s u hs h
  case frameStoreWrite => exact execFrameStoreWrite_keeps_wf _ _ _ s u hs h
  case updateBegin => exact execUpdateBegin_keeps_wf _ _ _ s u hs h
  case eraseDone => exact execEraseDone_keeps_wf _ _ _ s u hs h
  case imageBlock => exact execImageBlock_keeps_wf _ _ _ _ s u hs h
  case armVerifyDone => exact execArmVerifyDone_keeps_wf _ _ _ s u hs h
  case enrolDone => exact execEnrolDone_keeps_wf _ _ s u hs h
  case saveDone => exact execSaveDone_keeps_wf _ _ _ s u hs h
  case activationStart => exact execActivationStart_keeps_wf _ _ s u hs h
  case activationEnd => exact execActivationEnd_keeps_wf _ _ s u hs h
  case arm => exact execArm_keeps_wf _ _ _ s u hs h
  case replay => exact execReplay_keeps_wf _ _ _ s u hs h
  case fabricTransaction => exact execFabricTransaction_keeps_wf _ _ _ _ _ _ _ _ s u hs h
  case fabricArbiterDecision => exact execFabricArbiterDecision_keeps_wf _ _ _ s u hs h
  case fabricHogCut => exact execFabricHogCut_keeps_wf _ _ _ _ s u hs h
  case fabricTimeout => exact execFabricTimeout_keeps_wf _ _ _ _ s u hs h
  case receiveFrame => exact execReceiveFrame_keeps_wf _ _ _ _ _ _ _ _ _ s u hs h
  case registerWrite => exact execRegisterWrite_keeps_wf _ _ _ _ _ s u hs h
  case openSession => exact execOpenSession_keeps_wf _ _ _ _ _ _ _ _ s u hs h
  case closeAll => exact execCloseAll_keeps_wf _ s u hs h
  case sessionIdleTimeout => exact execSessionIdleTimeout_keeps_wf _ _ s u hs h
  case close => exact execClose_keeps_wf _ _ _ s u hs h
  case coldReset => exact execColdReset_keeps_wf _ _ s u hs h
  case loClkPresent => exact execLoClkPresent_keeps_wf _ _ s u hs h
  case pilotServiceStart => exact execPilotServiceStart_keeps_wf _ _ s u hs h
  case processorsReleased => exact execProcessorsReleased_keeps_wf _ _ _ s u hs h
  case refLoLost => exact execRefLoLost_keeps_wf _ s u hs h
  case loClkRecovered => exact execLoClkRecovered_keeps_wf _ s u hs h
  case archiveBatch => exact execArchiveBatch_keeps_wf _ _ s u hs h
  case railReset => exact execRailReset_keeps_wf _ _ _ s u hs h
  case thermalTrip => exact execThermalTrip_keeps_wf _ _ _ s u hs h
  case powerOn => exact execPowerOn_keeps_wf _ s u hs h
  case resetPin => exact execResetPin_keeps_wf _ _ s u hs h
  case resetRelease => exact execResetRelease_keeps_wf _ _ _ _ s u hs h
  all_goals exact absurd hi Bool.false_ne_true

theorem exec_keeps_wf (i : Instr) (s u : State) (hs : s.memOk) (h : exec i s = .next u) : u.memOk := by
  cases hmem : i.reachesMemory with
  | false => exact (congrArg Memory.wf (exec_mem_of_not_reachesMemory i s u hmem h)).trans hs
  | true => exact exec_keeps_wf_of_reachesMemory i s u hmem hs h

/-- Settles O36: an idle step changes nothing, and every command keeps the canonical form. -/
theorem memoryStaysCanonical : Obligations.MemoryStaysCanonical := by
  intro s u hs h
  unfold step at h
  cases hpend : s.pending with
  | nil => rw [hpend] at h; cases h; exact hs
  | cons i rest => rw [hpend] at h; exact exec_keeps_wf i { s with pending := rest } u hs h

/-- Settles O37: at reset no byte is listed. -/
theorem memoryIsCanonicalAtReset : Obligations.MemoryIsCanonicalAtReset := rfl

end Sys2Proof.Machine
end

section
/-! PROOFS. Requests that wait: what a session that is not served leaves undone (R530, R538, R406), and the front of the queue. -/

namespace Sys2Proof.Machine

/-! ## The queue -/

/-- Settles O30: a step takes the front of the queue by its definition. -/
theorem stepRunsTheFrontCommand : Obligations.StepRunsTheFrontCommand := fun _ _ _ => rfl

/-- Settles O31: with an empty queue a step takes nothing. -/
theorem idleStepChangesNothing : Obligations.IdleStepChangesNothing := by
  intro s hpend
  simp only [step, hpend]

/-! ## Effects that change nothing -/

theorem act_unchanged (t : Nat) (s : State) (f : Chip → Chip) (hs : s.runs) (hf : f (s.upon t) = s.upon t) : act t s f = .next { s with chip := s.upon t } := by
  rw [act_runs t s f hs, hf]
  rfl

theorem actMem_unchanged (t : Nat) (s : State) (f : Chip → Tbl Byte → Chip × Tbl Byte) (hs : s.runs) (hf : f (s.upon t) s.mem = (s.upon t, s.mem)) :
    actMem t s f = .next { s with chip := s.upon t } := by
  rw [actMem_runs t s f hs, hf]
  rfl

/-- A command whose effect is none for a session that is not served. -/
theorem act_waits (t slot : Nat) (s : State) (f : Chip → Chip) (hs : s.runs) (hserves : s.chip.serves slot = false)
    (hf : ∀ c : Chip, c.serves slot = false → f c = c) : ∃ u, act t s f = .next { s with chip := s.upon u } :=
  ⟨t, act_unchanged t s f hs (hf (s.upon t) hserves)⟩

theorem actMem_waits (t slot : Nat) (s : State) (f : Chip → Tbl Byte → Chip × Tbl Byte) (hs : s.runs) (hserves : s.chip.serves slot = false)
    (hf : ∀ (c : Chip) (m : Tbl Byte), c.serves slot = false → f c m = (c, m)) : ∃ u, actMem t s f = .next { s with chip := s.upon u } :=
  ⟨t, actMem_unchanged t s f hs (hf (s.upon t) s.mem hserves)⟩

/-! ## The gates of requests -/

theorem Chip.capture_waits (c : Chip) (slot need : Nat) (mine lenOk : Bool) (check : Chip → Option Nat) (f : Chip → Chip) (h : c.serves slot = false) :
    c.capture slot need mine lenOk check f = c := by
  rw [Chip.capture, c.request_waits _ _ _ _ _ _ h, ite_self]

theorem Chip.update_waits (c : Chip) (slot : Nat) (body : List Byte) (ops : List Nat) (rec : Bool) (codes : Chip → List (Bool × Nat)) (f : Chip → Chip)
    (h : c.serves slot = false) : c.update slot body ops rec codes f = c := by
  rw [Chip.update, c.request_waits _ _ _ _ _ _ h, ite_self]

theorem Chip.query_waits (c : Chip) (slot : Nat) (body : List Byte) (mine : Bool) (answer : Chip → List Byte) (h : c.serves slot = false) :
    c.query slot body mine answer = c := by
  rw [Chip.query, c.request_waits _ _ _ _ _ _ h, ite_self]

theorem Chip.playerControl_waits (c : Chip) (slot : Nat) (body : List Byte) (op pend : Nat) (states : List Nat) (h : c.serves slot = false) :
    c.playerControl slot body op pend states = c := c.capture_waits _ _ _ _ _ _ h

/-- Settles O46: behind every request stands the gate of R540, which leaves the request of a session that is not served. -/
theorem requestsWaitTheirTurn : Obligations.RequestsWaitTheirTurn := by
  intro i s slot hreq hs hslot hserves
  unfold exec
  cases i
  all_goals try exact absurd hreq Bool.false_ne_true
  all_goals
    rw [← hslot _ rfl] at hserves
    first
      | refine act_waits _ _ s _ hs hserves (fun c hc => ?_)
      | refine actMem_waits _ _ s _ hs hserves (fun c m hc => ?_)
    simp [hc, Chip.request_waits, Chip.window_waits, Chip.capture_waits, Chip.update_waits, Chip.query_waits,
      Chip.playerControl_waits]

end Sys2Proof.Machine
end

section
/-! PROOFS. Registers at reset, the bits that no field covers, and the key of a cold reset. -/

namespace Sys2Proof.Machine

/-- Settles O38: at reset the register file lists no field. -/
theorem registersAtReset : Obligations.RegistersAtReset :=
  ⟨fun _ _ => rfl, rfl, rfl, rfl, rfl, rfl, fun _ => ⟨rfl, rfl, rfl⟩, fun _ _ => rfl, rfl, fun _ => rfl, rfl, rfl⟩

/-! ## The key of a cold reset -/

/-- Of the rules that reject a word none stands at the address of BOOT.CTRL. -/
theorem Chip.regBad_bootCtrl (c : Chip) (master v b : Nat) : c.regBad master Reg.BOOT_CTRL_COLD_RESET.addr v b = false := by
  have hother : ∀ f ∈ judgedFlds, f.addr ≠ Reg.BOOT_CTRL_COLD_RESET.addr := by decide
  have hsel : selectBad Reg.BOOT_CTRL_COLD_RESET.addr v = false := rfl
  have hupd : Reg.BOOT_CTRL_COLD_RESET.addr / 65536 ≠ 0x6007 := by decide
  simp (disch := decide) [Chip.regBad, hsel, hupd, Chip.badTick, Chip.badArb, Chip.badMac, Chip.badLne, Chip.badPtp, Chip.badFwa, Chip.badLog,
    Chip.badFab, List.range_succ, ne_addr_of_forall hother]

/-- No other register that takes a command stands at the address of BOOT.CTRL. -/
theorem commandFlds_addr_ne_bootCtrl : ∀ f ∈ commandFlds.erase Reg.BOOT_CTRL_COLD_RESET, f.addr ≠ Reg.BOOT_CTRL_COLD_RESET.addr := by decide

/-- BOOT.CTRL keeps no value, and no block carries out a command for a word written there. -/
theorem Chip.carryOut_bootCtrl (c : Chip) (master slot b v : Nat) : c.carryOut master slot Reg.BOOT_CTRL_COLD_RESET.addr b v = c := by
  have hsel : selects Reg.BOOT_CTRL_COLD_RESET.addr = false := by decide
  have hplain : c.writePlain Reg.BOOT_CTRL_COLD_RESET.addr b v = c := rfl
  simp (disch := decide) [Chip.carryOut, hsel, hplain, Chip.doTick, Chip.doArb, Chip.doMac, Chip.doLne, Chip.doRefs, Chip.doPtp, Chip.doSpl,
    Chip.doFwa, Chip.doLog, Chip.doFab, Chip.doClear, List.range_succ, ne_addr_of_forall commandFlds_addr_ne_bootCtrl]

/-- A write to BOOT.CTRL has the effect of its COLD_RESET bit alone. -/
theorem Chip.regWrite_bootCtrl (c : Chip) (m : Tbl Byte) (master slot v : Nat) :
    c.regWrite m master slot Reg.BOOT_CTRL_COLD_RESET.addr v =
      if Reg.BOOT_CTRL_COLD_RESET.on v = true then c.coldReset m (Reg.BOOT_CTRL_KEY.of v) else (c, m) := by
  have hbank : c.bankAt Reg.BOOT_CTRL_COLD_RESET.addr = some 0 := rfl
  simp (disch := decide) [Chip.regWrite, hbank, c.regBad_bootCtrl, c.carryOut_bootCtrl, ne_addr_of_forall commandFlds_addr_ne_bootCtrl]

/-- The key field of BOOT.CTRL is the upper half of the word. -/
theorem bootKey_of (v : BitVec 32) : Reg.BOOT_CTRL_KEY.of v.toNat = v.toNat / 65536 := by
  have hlt := v.isLt
  exact Nat.mod_eq_of_lt (by change v.toNat / 65536 < 65536; omega)

theorem Chip.resetFor_run (c : Chip) (cause : Nat) : (c.resetFor cause).run = .inReset := by
  cases hseen : c.isSet Reg.PWR_STATUS_TRIP_SEEN 0 <;> simp [Chip.resetFor, hseen, Chip.emit, Chip.mark, Chip.set]

/-- Settles O52: BOOT.CTRL holds no field that keeps a value, and its command needs the key. -/
theorem coldResetNeedsItsKey : Obligations.ColdResetNeedsItsKey := by
  have hwrite (s : State) (t : Nat) (master : Fin 9) (slot : Fin 16) (v : BitVec 32) (hs : s.runs) :=
    exec_registerWrite s t master slot 0x60030000 v (a := Reg.BOOT_CTRL_COLD_RESET.addr) hs rfl rfl
  have hon (v : BitVec 32) : Reg.BOOT_CTRL_COLD_RESET.on v.toNat = bit v.toNat 0 := Fld.on_eq_bit _ _ rfl
  refine ⟨fun s t master slot v hs hv => ?_, fun s t master slot v hs hkey hbit => ?_⟩
  · have hsame : (s.upon t).regWrite s.mem master slot Reg.BOOT_CTRL_COLD_RESET.addr v.toNat = (s.upon t, s.mem) := by
      rw [Chip.regWrite_bootCtrl, hon, bootKey_of, Chip.coldReset]
      rcases hv with hkey | hbit
      · rw [if_neg hkey, ite_self]
      · rw [if_neg (by simp [hbit])]
    rw [hwrite s t master slot v hs, hsame]
    rfl
  · refine ⟨_, _, hwrite s t master slot v hs, ?_⟩
    rw [Chip.regWrite_bootCtrl, hon, bootKey_of, if_pos hbit, Chip.coldReset, if_pos hkey]
    exact (s.upon t).resetFor_run 4

/-! ## Reserved bits of a word read (R6) -/

/-- Without a common bit, a sum is the union of the bits. -/
theorem Nat.add_eq_or_of_and_eq_zero (x y : Nat) (h : x &&& y = 0) : x + y = x ||| y := by
  have hx : x < 2 ^ (x + y) := lt_of_le_of_lt (Nat.le_add_right x y) Nat.lt_two_pow_self
  have hy : y < 2 ^ (x + y) := lt_of_le_of_lt (Nat.le_add_left y x) Nat.lt_two_pow_self
  have hor := BitVec.add_eq_or_of_and_eq_zero (BitVec.ofNat (x + y) x) (BitVec.ofNat (x + y) y) (by simp [← BitVec.ofNat_and, h])
  simpa [BitVec.toNat_add, BitVec.toNat_or, Nat.mod_eq_of_lt, hx, hy, Nat.lt_two_pow_self] using congrArg BitVec.toNat hor

/-- The field covers the bit. -/
def Fld.covers (f : Fld) (k : Nat) : Prop := f.lo ≤ k ∧ k < f.lo + f.width

/-- Two fields of one register cover no bit together. -/
def Fld.apart (f g : Fld) : Bool := f.addr != g.addr || decide (f.lo + f.width ≤ g.lo) || decide (g.lo + g.width ≤ f.lo)

/-- The bits of a value placed in a field are bits of the field. -/
theorem Fld.covers_of_testBit (f : Fld) (n : Nat) {k : Nat} (h : (n % 2 ^ f.width * 2 ^ f.lo).testBit k = true) : f.covers k := by
  rw [Nat.testBit_mul_two_pow, Nat.testBit_mod_two_pow] at h
  simp only [Bool.and_eq_true, decide_eq_true_eq] at h
  obtain ⟨hlo, hwidth, -⟩ := h
  exact ⟨hlo, by omega⟩

/-- Each bit of a word assembled of the fields of one register is a bit of one of them. -/
theorem exists_covers_of_testBit (a : Nat) (v : Fld → Nat) (fs : List Fld) (haddr : ∀ f ∈ fs, f.addr = a) (hapart : fs.Pairwise (fun f g => f.apart g = true))
    {k : Nat} (h : ((fs.map (fun f => v f % 2 ^ f.width * 2 ^ f.lo)).sum).testBit k = true) : ∃ f ∈ fs, f.covers k := by
  induction fs generalizing k with
  | nil => simp at h
  | cons f fs ih =>
    obtain ⟨hf, hfs⟩ := List.pairwise_cons.mp hapart
    have hrest {j : Nat} := ih (fun g hg => haddr g (List.mem_cons_of_mem _ hg)) hfs (k := j)
    have hdisjoint : (v f % 2 ^ f.width * 2 ^ f.lo) &&& (fs.map (fun f => v f % 2 ^ f.width * 2 ^ f.lo)).sum = 0 := by
      refine Nat.eq_of_testBit_eq fun j => ?_
      rw [Nat.zero_testBit, Nat.testBit_and, Bool.and_eq_false_iff, ← Bool.not_eq_true, ← Bool.not_eq_true]
      by_contra hboth
      obtain ⟨hj, hj'⟩ := not_or.mp hboth
      obtain ⟨g, hg, hcover⟩ := hrest (not_not.mp hj')
      have hcover' := f.covers_of_testBit _ (not_not.mp hj)
      have hsame : f.addr = g.addr := (haddr f List.mem_cons_self).trans (haddr g (List.mem_cons_of_mem _ hg)).symm
      have := hf g hg
      simp only [Fld.apart, Fld.covers, hsame, bne_self_eq_false, Bool.false_or, Bool.or_eq_true, decide_eq_true_eq] at this hcover hcover'
      omega
    rw [List.map_cons, List.sum_cons, Nat.add_eq_or_of_and_eq_zero _ _ hdisjoint, Nat.testBit_or, Bool.or_eq_true] at h
    rcases h with h | h
    · exact ⟨f, List.mem_cons_self, f.covers_of_testBit _ h⟩
    · obtain ⟨g, hg, hcover⟩ := hrest h
      exact ⟨g, List.mem_cons_of_mem _ hg, hcover⟩

/-- The bases of the register blocks. -/
def blockBases : List Nat :=
  [0x40010000, 0x40000000, 0x40020000, 0x40030000, 0x40040000, 0x40050000, 0x40060000, 0x40070000, 0x40080000, 0x40090000, 0x60000000, 0x60010000,
   0x60020000, 0x400b0000, 0x400a0000, 0x400c0000, 0x60030000, 0x60040000, 0x60050000, 0x60060000, 0x60070000, 0x400d0000, 0x60080000]

theorem Regs.ofBase_apart_of_mem : ∀ base ∈ blockBases, (Regs.ofBase base).Pairwise (fun f g => f.apart g = true) := by decide +kernel

theorem Regs.ofBase_eq_nil (base : Nat) (h : base ∉ blockBases) : Regs.ofBase base = [] := by
  unfold Regs.ofBase
  split
  any_goals rfl
  all_goals exact absurd (by decide) h

/-- The fields of a register cover no bit twice. -/
theorem Regs.atAddr_apart (a : Nat) : (Regs.atAddr a).Pairwise (fun f g => f.apart g = true) := by
  refine List.Pairwise.filter _ ?_
  by_cases hbase : a / 65536 * 65536 ∈ blockBases
  · exact Regs.ofBase_apart_of_mem _ hbase
  · rw [Regs.ofBase_eq_nil _ hbase]
    exact List.Pairwise.nil

theorem Regs.addr_of_mem_atAddr {a : Nat} {f : Fld} (h : f ∈ Regs.atAddr a) : f.addr = a := by
  simpa using (List.mem_filter.mp h).2

/-- Settles O50: the word is assembled of the fields, and none of them covers the bit. -/
theorem reservedBitsReadZero : Obligations.ReservedBitsReadZero := by
  intro c master slot a k hk
  by_contra hbit
  rw [Bool.not_eq_false] at hbit
  unfold Chip.regWord at hbit
  split at hbit
  next => simp at hbit
  next b _ =>
    obtain ⟨f, hf, hcover⟩ := exists_covers_of_testBit a (fun f => c.fieldRead master slot f b) _ (fun _ => Regs.addr_of_mem_atAddr) (Regs.atAddr_apart a) hbit
    unfold Fld.covers at hcover
    have := hk f hf
    omega

end Sys2Proof.Machine
end

section
/-! PROOFS. Reserved bits of a word written (R6): every use of a word goes by the fields of its register. -/

namespace Sys2Proof.Machine

/-- Two words agree in every field of a register. -/
def AgreeAt (a v w : Nat) : Prop := ∀ f ∈ Regs.atAddr a, f.of v = f.of w

theorem AgreeAt.on {a v w : Nat} (h : AgreeAt a v w) : ∀ f ∈ Regs.atAddr a, f.on v = f.on w := fun f hf => by rw [Fld.on, Fld.on, h f hf]

/-- A rule at an address judges words alike when it does so for words that agree there. -/
theorem guard_congr {a b : Nat} {p q : Bool} (h : a = b → p = q) : (a == b && p) = (a == b && q) := by
  by_cases hab : a = b
  · rw [h hab]
  · rw [beq_false_of_ne hab, Bool.false_and, Bool.false_and]

theorem and_guard_congr {a b : Nat} {p q p' q' : Bool} (h : a = b → (p && p') = (q && q')) : (a == b && p && p') = (a == b && q && q') := by
  rw [Bool.and_assoc, Bool.and_assoc]
  exact guard_congr h

/-- What is done at an address alone is the same when it is the same there. -/
theorem ite_addr_congr {α : Type} {a b : Nat} {x y z z' : α} (h : a = b → x = y) (h' : z = z') : (if a = b then x else z) = if a = b then y else z' := by
  by_cases hab : a = b
  · rw [if_pos hab, if_pos hab, h hab]
  · rw [if_neg hab, if_neg hab, h']

theorem any_congr_mem {α : Type} {p q : α → Bool} {l : List α} (h : ∀ x ∈ l, p x = q x) : l.any p = l.any q := by
  rw [Bool.eq_iff_iff, List.any_eq_true, List.any_eq_true]
  exact exists_congr fun x => and_congr_right fun hx => by rw [h x hx]

/-- Words that agree in a field of 32 bits are the same. -/
theorem AgreeAt.eq_of_whole {a v w : Nat} (h : AgreeAt a v w) {f : Fld} (hf : f ∈ Regs.atAddr a) (hlo : f.lo = 0) (hwidth : f.width = 32)
    (hv : v < 2 ^ 32) (hw : w < 2 ^ 32) : v = w := by
  have hof := h f hf
  rwa [Fld.of, Fld.of, hlo, hwidth, pow_zero, Nat.div_one, Nat.div_one, Nat.mod_eq_of_lt hv, Nat.mod_eq_of_lt hw] at hof

theorem selectBad_of_selects {a n : Nat} (hsel : selects a = false) : selectBad a n = false := by
  have hall : ∀ e ∈ selectors, selects e.1.addr = true := by decide
  refine List.any_eq_false.mpr fun e he hbad => ?_
  obtain ⟨haddr, -⟩ := Bool.and_eq_true_iff.mp hbad
  rw [← beq_iff_eq.mp haddr, hall e he] at hsel
  cases hsel

section
variable {a v w : Nat} (h : AgreeAt a v w) (c : Chip)
include h

theorem Chip.badTick_congr : c.badTick a v = c.badTick a w := by
  have hrate : ∀ n ∈ ([0, 1, 2, 3] : List Nat), Reg.TICK_TD_CFG_RATE n ∈ Regs.atAddr (Reg.TICK_TD_CFG_RATE n).addr ∧
      Reg.TICK_TD_CFG_ENABLE n ∈ Regs.atAddr (Reg.TICK_TD_CFG_RATE n).addr := by decide +kernel
  have hlead : ∀ n ∈ ([0, 1, 2, 3] : List Nat), Reg.TICK_TD_WINDOW_LEAD_MAX n ∈ Regs.atAddr (Reg.TICK_TD_WINDOW_LEAD_MIN n).addr ∧
      Reg.TICK_TD_WINDOW_LEAD_MIN n ∈ Regs.atAddr (Reg.TICK_TD_WINDOW_LEAD_MIN n).addr := by decide +kernel
  have hdelay : ∀ n ∈ ([0, 1, 2, 3] : List Nat), Reg.TICK_TD_OUT_DELAY_DELAY_NS n ∈ Regs.atAddr (Reg.TICK_TD_OUT_DELAY_DELAY_NS n).addr := by
    decide +kernel
  unfold Chip.badTick
  refine congrArg₂ _ (guard_congr (by rintro rfl; rw [h _ (by decide +kernel)])) (any_congr_mem fun n hn => ?_)
  dsimp only
  refine congrArg₂ _ (congrArg₂ _ (guard_congr ?_) (guard_congr ?_)) ?_
  · rintro rfl
    rw [h _ (hrate n hn).1, h.on _ (hrate n hn).2]
  · rintro rfl
    rw [h _ (hlead n hn).1, h _ (hlead n hn).2]
  · exact and_guard_congr (by rintro rfl; rw [h _ (hdelay n hn)])

theorem Chip.badArb_congr (hv : v < 2 ^ 32) (hw : w < 2 ^ 32) (hsel : selects a = false) : c.badArb a v = c.badArb a w := by
  have hrow : a ≠ Reg.ARB_TBL_SEL_ROW.addr := by rintro rfl; exact absurd hsel (by decide)
  have hweight : ∀ n ∈ List.range 6, Reg.ARB_BE_CFG_WEIGHT n ∈ Regs.atAddr (Reg.ARB_BE_CFG_WEIGHT n).addr := by decide +kernel
  unfold Chip.badArb
  rw [beq_false_of_ne hrow, Bool.false_and, Bool.false_and]
  refine congrArg₂ _ (congrArg₂ _ (congrArg₂ _ (guard_congr ?_) rfl) (guard_congr ?_)) (any_congr_mem fun n hn => guard_congr ?_)
  · rintro rfl
    rw [h.eq_of_whole (f := Reg.ARB_TBL_DATA_OWNERS) (by decide +kernel) rfl rfl hv hw]
  · rintro rfl
    rw [h _ (by decide +kernel)]
  · rintro rfl
    rw [h _ (hweight n hn)]

theorem Chip.badMac_congr (hsel : selects a = false) (b : Nat) : c.badMac a v b = c.badMac a w b := by
  have hport : a ≠ Reg.MAC_PORT_SEL_PORT.addr := by rintro rfl; exact absurd hsel (by decide)
  unfold Chip.badMac
  dsimp only
  rw [beq_false_of_ne hport, Bool.false_and, Bool.false_and]
  refine congrArg₂ _ (congrArg₂ _ (congrArg₂ _ (congrArg₂ _ rfl (guard_congr ?_)) (guard_congr ?_)) rfl) ?_
  · rintro rfl
    rw [h _ (by decide +kernel)]
  · rintro rfl
    rw [h _ (by decide +kernel)]
  · exact and_guard_congr (by rintro rfl; rw [h.on _ (by decide +kernel)])

theorem Chip.badLne_congr (l : Nat) : c.badLne a v l = c.badLne a w l := by
  unfold Chip.badLne
  dsimp only
  refine congrArg₂ _ (guard_congr ?_) (guard_congr ?_)
  · rintro rfl
    simp (disch := decide +kernel) only [h _, h.on _]
  · rintro rfl
    simp (disch := decide +kernel) only [h _, h.on _]

theorem Chip.badPtp_congr : c.badPtp a v = c.badPtp a w := by
  unfold Chip.badPtp
  refine congrArg₂ _ (guard_congr ?_) (guard_congr ?_)
  · rintro rfl
    simp (disch := decide +kernel) only [h.on _]
  · rintro rfl
    rw [h _ (by decide +kernel)]

theorem Chip.badFwa_congr (ana : Nat) : c.badFwa a v ana = c.badFwa a w ana := by
  unfold Chip.badFwa
  dsimp only
  rw [Bool.and_assoc, Bool.and_assoc]
  exact guard_congr (by rintro rfl; simp (disch := decide +kernel) only [h _, h.on _])

theorem Chip.doTick_congr : c.doTick a v = c.doTick a w := by
  have hdelay : ∀ n ∈ ([0, 1, 2, 3] : List Nat), Reg.TICK_TD_OUT_DELAY_DELAY_NS n ∈ Regs.atAddr (Reg.TICK_TD_OUT_DELAY_DELAY_NS n).addr := by
    decide +kernel
  have hlimit : ∀ n ∈ ([0, 1, 2, 3] : List Nat), Reg.TICK_TD_PHASE_LIMIT_LIMIT_NS n ∈ Regs.atAddr (Reg.TICK_TD_PHASE_LIMIT_LIMIT_NS n).addr := by
    decide +kernel
  unfold Chip.doTick
  refine ite_addr_congr (by rintro rfl; simp (disch := decide +kernel) only [Chip.onBit, h _, h.on _]) (List.foldl_ext _ _ _ fun x n hn => ?_)
  exact ite_addr_congr (by rintro rfl; rw [h _ (hdelay n hn)]) (ite_addr_congr (by rintro rfl; rw [h _ (hlimit n hn)]) rfl)

theorem Chip.doMac_congr (b : Nat) : c.doMac a b v = c.doMac a b w := by
  unfold Chip.doMac
  exact ite_addr_congr (by rintro rfl; simp (disch := decide +kernel) only [Chip.onBit, h.on _])
    (ite_addr_congr (by rintro rfl; simp (disch := decide +kernel) only [Chip.writeGate, h _]) rfl)

theorem Chip.doLne_congr (l was : Nat) : c.doLne a l v was = c.doLne a l w was := by
  unfold Chip.doLne
  exact ite_addr_congr (by rintro rfl; simp (disch := decide +kernel) only [Chip.onBit, h.on _])
    (ite_addr_congr (by rintro rfl; simp (disch := decide +kernel) only [Chip.onBit, h.on _])
      (ite_addr_congr (by rintro rfl; simp (disch := decide +kernel) only [Chip.onBit, h.on _]) rfl))

theorem Chip.doRefs_congr : c.doRefs a v = c.doRefs a w := by
  unfold Chip.doRefs
  exact ite_addr_congr (by rintro rfl; simp (disch := decide +kernel) only [Chip.onBit, h _, h.on _]) rfl

theorem Chip.doPtp_congr : c.doPtp a v = c.doPtp a w := by
  unfold Chip.doPtp
  exact ite_addr_congr (by rintro rfl; simp (disch := decide +kernel) only [Chip.onBit, h.on _]) rfl

theorem Chip.doSpl_congr : c.doSpl a v = c.doSpl a w := by
  unfold Chip.doSpl
  exact ite_addr_congr (by rintro rfl; simp (disch := decide +kernel) only [Chip.onBit, h.on _]) rfl

theorem Chip.doFwa_congr (b : Nat) : c.doFwa a b v = c.doFwa a b w := by
  unfold Chip.doFwa
  exact ite_addr_congr (by rintro rfl; simp (disch := decide +kernel) only [Chip.onBit, h.on _])
    (ite_addr_congr (by rintro rfl; simp (disch := decide +kernel) only [Chip.onBit, h.on _]) rfl)

theorem Chip.doLog_congr : c.doLog a v = c.doLog a w := by
  unfold Chip.doLog
  exact ite_addr_congr (by rintro rfl; simp (disch := decide +kernel) only [Chip.onBit, h.on _]) rfl

theorem Chip.doFab_congr (master slot b : Nat) : c.doFab master slot a b v = c.doFab master slot a b w := by
  unfold Chip.doFab
  exact ite_addr_congr (by rintro rfl; simp (disch := decide +kernel) only [Chip.onBit, h.on _])
    (ite_addr_congr (by rintro rfl; rw [h _ (by decide +kernel)])
      (ite_addr_congr (by rintro rfl; rw [h _ (by decide +kernel)]) (ite_addr_congr (by rintro rfl; rw [h _ (by decide +kernel)]) rfl)))

theorem AgreeAt.clear_congr {f : Fld} (hf : f ∈ Regs.atAddr f.addr) (g : Chip → Chip) {x y : Chip} (hxy : x = y) :
    (if a = f.addr ∧ f.on v = true then g x else x) = if a = f.addr ∧ f.on w = true then g y else y := by
  subst hxy
  by_cases ha : a = f.addr
  · rw [h.on f (ha ▸ hf)]
  · rw [if_neg (fun hp => ha hp.1), if_neg (fun hp => ha hp.1)]

/-- A command of a register with a key beside it. -/
theorem AgreeAt.keyed_congr {α : Type} {f g : Fld} (hf : f ∈ Regs.atAddr f.addr) (hg : g ∈ Regs.atAddr f.addr) (k : Nat → α) {x y : α} (hxy : x = y) :
    (if a = f.addr ∧ f.on v = true then k (g.of v) else x) = if a = f.addr ∧ f.on w = true then k (g.of w) else y := by
  subst hxy
  by_cases ha : a = f.addr
  · rw [h.on f (ha ▸ hf), h g (ha ▸ hg)]
  · rw [if_neg (fun hp => ha hp.1), if_neg (fun hp => ha hp.1)]

theorem Chip.doClear_congr : c.doClear a v = c.doClear a w := by
  unfold Chip.doClear
  iterate 11 refine h.clear_congr (by decide +kernel) _ ?_
  rfl

theorem Chip.writePlain_congr (b : Nat) : c.writePlain a b v = c.writePlain a b w := by
  unfold Chip.writePlain
  refine congrArg _ (List.foldl_ext _ _ _ fun x f hf => ?_)
  rw [Chip.writeField, Chip.writeField, h f hf]

theorem Chip.badLog_congr (hv : v < 2 ^ 32) (hw : w < 2 ^ 32) : c.badLog a v = c.badLog a w := by
  unfold Chip.badLog
  dsimp only
  refine congrArg₂ _ (guard_congr ?_) (guard_congr ?_)
  · rintro rfl
    simp (disch := decide +kernel) only [h.on _]
  · rintro rfl
    rw [h.eq_of_whole (f := Reg.LOG_WIN_CURSOR_SEQ) (by decide +kernel) rfl rfl hv hw]

theorem Chip.badFab_congr (master : Nat) (hquar : a ≠ Reg.FAB_QUAR_MASTER.addr) : c.badFab master a v = c.badFab master a w := by
  unfold Chip.badFab
  rw [beq_false_of_ne hquar, Bool.false_and, Bool.false_and]
  refine congrArg₂ _ (congrArg₂ _ (congrArg₂ _ (congrArg₂ _ (congrArg₂ _ (and_guard_congr ?_) (guard_congr ?_)) (guard_congr ?_)) (guard_congr ?_))
    (guard_congr ?_)) rfl
  all_goals
    rintro rfl
    simp (disch := decide +kernel) only [h _, h.on _]

theorem Chip.regBad_congr (hv : v < 2 ^ 32) (hw : w < 2 ^ 32) (hsel : selects a = false) (hquar : a ≠ Reg.FAB_QUAR_MASTER.addr) (master b : Nat) :
    c.regBad master a v b = c.regBad master a w b := by
  unfold Chip.regBad
  dsimp only
  rw [selectBad_of_selects hsel, selectBad_of_selects hsel, Chip.badTick_congr h c, Chip.badArb_congr h c hv hw hsel, Chip.badMac_congr h c hsel,
    Chip.badLne_congr h c, Chip.badPtp_congr h c, Chip.badFwa_congr h c, Chip.badLog_congr h c hv hw, Chip.badFab_congr h c master hquar]
  refine congrArg₂ _ (congrArg₂ _ (congrArg₂ _ (congrArg₂ _ (congrArg₂ _ (congrArg₂ _ (congrArg₂ _ rfl (guard_congr ?_)) (guard_congr ?_)) (guard_congr ?_))
    (and_guard_congr ?_)) (guard_congr ?_)) (and_guard_congr ?_)) rfl
  all_goals
    rintro rfl
    simp (disch := decide +kernel) only [h _, h.on _]

theorem Chip.doArb_congr (hv : v < 2 ^ 32) (hw : w < 2 ^ 32) : c.doArb a v = c.doArb a w := by
  have hweight : ∀ n ∈ List.range 6, Reg.ARB_BE_CFG_WEIGHT n ∈ Regs.atAddr (Reg.ARB_BE_CFG_WEIGHT n).addr := by decide +kernel
  unfold Chip.doArb
  refine ite_addr_congr ?_ (ite_addr_congr ?_ (ite_addr_congr ?_ (List.foldl_ext _ _ _ fun x n hn => ite_addr_congr ?_ rfl)))
  · rintro rfl
    simp (disch := decide +kernel) only [Chip.onBit, h.on _]
  · rintro rfl
    rw [h _ (by decide +kernel)]
  · rintro rfl
    rw [h.eq_of_whole (f := Reg.ARB_TBL_DATA_OWNERS) (by decide +kernel) rfl rfl hv hw]
  · rintro rfl
    rw [h _ (hweight n hn)]

/-- Where no select register stands, what a word does goes by its fields. -/
theorem Chip.carryOut_congr (hv : v < 2 ^ 32) (hw : w < 2 ^ 32) (hsel : selects a = false) (master slot b : Nat) :
    c.carryOut master slot a b v = c.carryOut master slot a b w := by
  unfold Chip.carryOut
  dsimp only
  rw [hsel, if_neg Bool.false_ne_true, if_neg Bool.false_ne_true, Chip.writePlain_congr h c, Chip.doTick_congr h, Chip.doArb_congr h _ hv hw,
    Chip.doMac_congr h, Chip.doLne_congr h, Chip.doRefs_congr h, Chip.doPtp_congr h, Chip.doSpl_congr h, Chip.doFwa_congr h, Chip.doLog_congr h,
    Chip.doFab_congr h, Chip.doClear_congr h]

end

/-- Settles O51: outside the select registers and FAB.QUAR, the rules that reject a word and what a word does go by the fields of the register. -/
theorem reservedBitsWriteNothing : Obligations.ReservedBitsWriteNothing := by
  intro c m master slot a v w hsel hquar h
  have hbad (b : Nat) := Chip.regBad_congr h c v.isLt w.isLt hsel hquar master b
  unfold Chip.regWrite
  split
  · rw [hbad]
  · rw [hbad]
    dsimp only
    rw [Chip.carryOut_congr h c v.isLt w.isLt hsel]
    generalize c.carryOut master slot a _ w.toNat = d
    refine congrArg _ ?_
    refine AgreeAt.keyed_congr h (f := Reg.BOOT_CTRL_COLD_RESET) (g := Reg.BOOT_CTRL_KEY) (by decide +kernel) (by decide +kernel) (fun n => d.coldReset m n) ?_
    refine AgreeAt.keyed_congr h (f := Reg.FLT_CTRL_FORCE_RESTART) (g := Reg.FLT_CTRL_KEY) (by decide +kernel) (by decide +kernel) (fun n => d.forceRestart m n) ?_
    exact AgreeAt.keyed_congr h (f := Reg.LAN_CTRL_CLOSE_ALL) (g := Reg.LAN_CTRL_CLOSE_ALL) (by decide +kernel) (by decide +kernel) (fun _ => d.closeAll m) rfl

end Sys2Proof.Machine
end

section
/-! PROOFS. What the lanyard reads does not depend on the keys region of the flash. -/

namespace Sys2Proof.Machine

/-- Two memories agree outside the keys region of the flash. -/
def AgreeOutsideKeys (m m' : Tbl Byte) : Prop := ∀ a, a < 0x1C000000 ∨ 0x1C0FFFFF < a → Tbl.get memUnlisted m a = Tbl.get memUnlisted m' a

section
variable {m m' : Tbl Byte} (hm : AgreeOutsideKeys m m')
include hm

/-- Bytes that stand before or after the keys region are read alike. -/
theorem memRead_congr {a n : Nat} (h : a + n ≤ 0x1C000000 ∨ 0x1C100000 ≤ a) : memRead m a n = memRead m' a n := by
  refine List.map_congr_left fun i hi => hm _ ?_
  have := List.mem_range.mp hi
  omega

theorem Chip.flashRead_congr (c : Chip) (slot : Nat) (body : List Byte) :
    (if 0x10000000 < u64 body 8 + u32 body 16 ∨ (u64 body 8 < 0x0C100000 ∧ 0x0C000000 < u64 body 8 + u32 body 16) then
      c.refuse slot 0x0802 0x1108 wholeIndex else c.done slot 0x0802 (memRead m (flashBase + u64 body 8) (u32 body 16))) =
    if 0x10000000 < u64 body 8 + u32 body 16 ∨ (u64 body 8 < 0x0C100000 ∧ 0x0C000000 < u64 body 8 + u32 body 16) then
      c.refuse slot 0x0802 0x1108 wholeIndex else c.done slot 0x0802 (memRead m' (flashBase + u64 body 8) (u32 body 16)) := by
  generalize u64 body 8 = a
  generalize u32 body 16 = n
  split_ifs with hbad
  · rfl
  · rw [memRead_congr hm (by unfold flashBase; omega)]

theorem memRead_store_congr (k n : Nat) : memRead m (storeBase + k) n = memRead m' (storeBase + k) n :=
  memRead_congr hm (.inr (by unfold storeBase; omega))

end

/-- Where each target of the fabric stands in the map. -/
theorem Chip.fabDecode_bounds (c : Chip) {a t stop : Nat} (h : c.fabDecode a = some (t, stop)) :
    (t = 0 ∧ a < 0x10000000) ∨ (t = 1 ∧ a < 0x10400000) ∨ (t = 2 ∧ 0x20000000 ≤ a) ∨ t = 3 ∨ t = 4 ∨ (t = 5 ∧ 0x80000000 ≤ a) ∨ t = 6 := by
  unfold Chip.fabDecode at h
  split_ifs at h <;> simp only [Option.some.injEq, Prod.mk.injEq] at h <;> omega

/-- The fabric lets the lanyard read no byte of the keys region. -/
theorem Chip.fabPlace_outside_keys (c d : Chip) {a t slot : Nat} (h : c.fabAccess 7 a 4 false = .ok t) (h3 : t ≠ 3) (h4 : t ≠ 4) (h6 : t ≠ 6) :
    d.fabPlace t 7 slot a + 4 ≤ 0x1C000000 ∨ 0x1C100000 ≤ d.fabPlace t 7 slot a := by
  unfold Chip.fabAccess at h
  split at h
  next => cases h
  next u stop hdec =>
    have hbounds := c.fabDecode_bounds hdec
    split_ifs at h with hquar hreach hpcie
    obtain rfl : u = t := Except.ok.inj h
    have hkeys : ¬(u = 2 ∧ a < 0x2C100000 ∧ 0x2C000000 < a + 4) := fun hk => hreach (.inr (.inr (.inr (.inr ⟨hk.1, by decide, hk.2⟩))))
    unfold Chip.fabPlace
    unfold romBase sramBase flashBase storeBase pcieBase
    split_ifs <;> omega

/-- An entry that reads leaves the memories, and reads alike. -/
theorem Chip.busBeat_read_congr {m m' : Tbl Byte} (hm : AgreeOutsideKeys m m') (c : Chip) (slot a : Nat) (fact : BusFact) :
    ∃ d r, c.busBeat m 7 slot a none fact = ((d, m), r) ∧ c.busBeat m' 7 slot a none fact = ((d, m'), r) := by
  unfold Chip.busBeat
  dsimp only [Option.isSome_none]
  cases hacc : c.fabAccess 7 a 4 false with
  | error e => exact ⟨_, _, rfl, rfl⟩
  | ok t =>
    have hload (d : Chip) : d.loadBeat m 7 slot t a fact = d.loadBeat m' 7 slot t a fact := by
      unfold Chip.loadBeat
      split_ifs with h34 h0 h56 h6
      · rfl
      · rfl
      · rfl
      · rw [memRead_congr hm (c.fabPlace_outside_keys d hacc (fun h => h34 (.inl h)) (fun h => h34 (.inr h)) h6)]
      · rfl
      · rw [memRead_congr hm (c.fabPlace_outside_keys d hacc (fun h => h34 (.inl h)) (fun h => h34 (.inr h)) (by omega))]
    dsimp only
    rw [hload]
    split_ifs
    · exact ⟨_, _, rfl, rfl⟩
    · exact ⟨_, _, rfl, rfl⟩

theorem Chip.runEntries_read_congr {m m' : Tbl Byte} (hm : AgreeOutsideKeys m m') (slot : Nat) (l : List WinEntry) (hl : ∀ e ∈ l, e.2 = none)
    (facts : List BusFact) (i : Nat) (out : List Byte) (c : Chip) :
    ∃ d r, Chip.runEntries slot l facts i out c m = ((d, m), r) ∧ Chip.runEntries slot l facts i out c m' = ((d, m'), r) := by
  induction l generalizing facts i out c with
  | nil => exact ⟨_, _, rfl, rfl⟩
  | cons e l ih =>
    obtain ⟨d, r, hd, hd'⟩ := c.busBeat_read_congr hm slot e.1 (facts.headD ⟨false, false, false, none, []⟩)
    unfold Chip.runEntries
    rw [hl e List.mem_cons_self, hd, hd']
    dsimp only
    rw [Option.isNone_none, if_pos rfl]
    split_ifs
    · exact ih (fun x hx => hl x (List.mem_cons_of_mem _ hx)) _ _ _ _
    · exact ⟨_, _, rfl, rfl⟩
    · exact ⟨_, _, rfl, rfl⟩

theorem Chip.window_read_congr {m m' : Tbl Byte} (hm : AgreeOutsideKeys m m') (c : Chip) (slot msgType : Nat) (l : List WinEntry) (hl : ∀ e ∈ l, e.2 = none)
    (lenOk : Bool) (facts : List BusFact) :
    ∃ d, c.window m slot msgType l lenOk facts = (d, m) ∧ c.window m' slot msgType l lenOk facts = (d, m') := by
  obtain ⟨d, r, hd, hd'⟩ := Chip.runEntries_read_congr hm slot l hl facts 0 [] c
  unfold Chip.window Chip.runWindow
  rw [hd, hd']
  dsimp only
  by_cases hgate : (c.serves slot && (c.gateCode slot msgType (windowNeed l) false lenOk).isNone) = true
  · rw [if_pos hgate, if_pos hgate]
    cases c.badEntry l with
    | some i => exact ⟨_, rfl, rfl⟩
    | none =>
      by_cases hopen : d.run = .running ∧ (d.session slot).state = .opened
      · dsimp only
        rw [if_pos hopen, if_pos hopen]
        cases r <;> exact ⟨_, rfl, rfl⟩
      · dsimp only
        rw [if_neg hopen, if_neg hopen]
        exact ⟨_, rfl, rfl⟩
  · rw [if_neg hgate, if_neg hgate]
    exact ⟨_, rfl, rfl⟩

theorem readEntries_reads (body : List Byte) : ∀ e ∈ readEntries body, e.2 = none := by
  intro e he
  obtain ⟨i, -, rfl⟩ := List.mem_map.mp he
  rfl

/-- A command that changes the module alone, alike for both memories, leaves the same module. -/
theorem act_alike (t : Nat) (s : State) (m : Tbl Byte) {f g : Chip → Chip} (hfg : ∀ c, f c = g c) :
    ∃ c, act t s f = .next { s with chip := c } ∧ act t { s with mem := m } g = .next { s with chip := c, mem := m } := by
  obtain rfl : f = g := funext hfg
  exact ⟨_, rfl, rfl⟩

theorem actMem_alike (t : Nat) (s : State) (m : Tbl Byte) {f : Chip → Tbl Byte → Chip × Tbl Byte}
    (hf : ∀ c, ∃ d, f c s.mem = (d, s.mem) ∧ f c m = (d, m)) :
    ∃ c, actMem t s f = .next { s with chip := c } ∧ actMem t { s with mem := m } f = .next { s with chip := c, mem := m } := by
  obtain ⟨d, hd, hd'⟩ := hf (s.chip.begin t)
  unfold actMem
  dsimp only
  rw [hd, hd']
  split_ifs
  · exact ⟨_, rfl, rfl⟩
  · exact ⟨_, rfl, rfl⟩

/-- Settles O48: the four reads refuse or never reach the keys region, and all else they do depends on no byte. -/
theorem keysAreNeverRead : Obligations.KeysAreNeverRead := by
  intro s m t slot body facts hm
  unfold exec
  refine ⟨?_, ?_, ?_, ?_⟩
  · refine act_alike t s m fun c => ?_
    simp only [Chip.flashRead_congr hm]
  · refine act_alike t s m fun c => ?_
    simp only [memRead_store_congr hm]
  · refine act_alike t s m fun c => ?_
    simp only [Nat.add_assoc, memRead_store_congr hm]
  · exact actMem_alike t s m fun c => c.window_read_congr hm _ _ _ (readEntries_reads body) _ _

end Sys2Proof.Machine
end

section
/-! PROOFS. What the closing of a session leaves alone. -/

namespace Sys2Proof.Machine

/-- The crosspoint, the composers, the capture store, the frame store and the audio matrix. -/
def Chip.works (c : Chip) : XptSt × CmpSt × CapSt × FstSt × AudSt := (c.xpt, c.cmp, c.cap, c.fst, c.aud)

theorem Chip.works_ringPut (c : Chip) (r : Rec) : (c.ringPut r).works = c.works := by
  unfold Chip.ringPut
  dsimp only
  split <;> rfl

theorem Chip.works_thaw (c : Chip) : c.thaw.works = c.works := by
  unfold Chip.thaw
  split
  · refine List.foldl_keeps (fun a : Chip => a.works = c.works) _ (fun a r ha => (a.works_ringPut r).trans ha) _ _ ?_
    rfl
  · rfl

theorem Chip.works_resetMaster (c : Chip) (m : Tbl Byte) (master : Nat) : (c.resetMaster m master).1.works = c.works := by
  unfold Chip.resetMaster
  dsimp only
  split_ifs <;> rfl

theorem Chip.works_closeSession (c : Chip) (m : Tbl Byte) (slot cause : Nat) : (c.closeSession m slot cause).1.works = c.works := by
  unfold Chip.closeSession
  by_cases hopen : (c.session slot).state = .opened
  · rw [if_pos hopen]
    dsimp only
    have hthaw (d : Chip) (hd : d.works = c.works) : (if d.fab.txs.any (fun x => x.master == 7 && x.slot == slot) then d.resetMaster m 7 else (d, m)).1.works = c.works := by
      split_ifs
      · rw [Chip.works_resetMaster, hd]
      · exact hd
    apply hthaw
    split
    · split_ifs
      · rw [Chip.works_thaw]
        rfl
      · rfl
    · rfl
  · rw [if_neg hopen]
    rfl

theorem Chip.works_closeAll (c : Chip) (m : Tbl Byte) : (c.closeAll m).1.works = c.works := by
  refine List.foldl_keeps (fun a : Chip × Tbl Byte => a.1.works = c.works) _ (fun a i ha => ?_) _ _ rfl
  split_ifs
  · exact ha
  · rw [Chip.works_closeSession, ha]

theorem Chip.works_answerUnknown (slot n : Nat) (c : Chip) : (Chip.answerUnknown slot n c).works = c.works := by
  obtain ⟨d, hd⟩ := Chip.answerUnknown_frame slot n c
  rw [hd]
  rfl

theorem Chip.works_mirrorOut (a b : Chip) (slot m : Nat) : (a.mirrorOut b slot m).works = a.works := by
  obtain ⟨d, hd⟩ := Chip.mirrorOut_frame a b slot m
  rw [hd]
  rfl

/-- A request leaves the works alone where what it carries out does. -/
theorem Chip.works_request (c : Chip) (slot m need : Nat) (rec lenOk : Bool) (f : Chip → Chip) (hf : (f c).works = c.works) :
    (c.request slot m need rec lenOk f).works = c.works := by
  unfold Chip.request
  by_cases hserves : c.serves slot = true
  · rw [if_pos hserves, Chip.works_answerUnknown, Chip.works_mirrorOut]
    split
    · rfl
    · split
      · rfl
      · exact hf
  · rw [if_neg hserves]

/-- A command after which the works are the same leaves each of them as it was. -/
theorem yieldsMem_works {i : Instr} {s : State} {t : Nat} {f : Chip → Tbl Byte → Chip × Tbl Byte} (hs : s.runs) (h : exec i s = actMem t s f)
    (hf : ∀ c m, (f c m).1.works = c.works) :
    YieldsMem i s (fun c _ => c.xpt = s.chip.xpt ∧ c.cmp = s.chip.cmp ∧ c.cap = s.chip.cap ∧ c.fst = s.chip.fst ∧ c.aud = s.chip.aud) := by
  refine ⟨_, _, h.trans (actMem_runs _ _ _ hs), ?_⟩
  have hworks := hf (s.chip.begin t) s.mem
  simp only [Chip.works, Prod.mk.injEq] at hworks
  exact hworks

/-- Settles O49: a session closes within the lanyard, the recorder, the fabric and the registers. -/
theorem closingKeepsTakes : Obligations.ClosingKeepsTakes := by
  refine ⟨fun s t hs => ?_, fun s t slot hs => ?_, fun s t slot body hs => ?_⟩
  · have hexec : exec (.closeAll t) s = execCloseAll t s := rfl
    exact yieldsMem_works hs hexec fun c m => c.works_closeAll m
  · have hexec : exec (.sessionIdleTimeout t slot) s = execSessionIdleTimeout t slot s := rfl
    refine yieldsMem_works hs hexec fun c m => ?_
    split_ifs
    · exact c.works_closeSession m slot 2
    · rfl
  · have hexec : exec (.close t slot body) s = execClose t slot body s := rfl
    refine yieldsMem_works hs hexec fun c m => ?_
    have hrequest := c.works_request slot 0x0002 1 true (decide (body.length = 0)) (fun c => c.done slot 0x0002 []) rfl
    dsimp only
    split_ifs
    · rw [Chip.works_closeSession, hrequest]
    · exact hrequest

end Sys2Proof.Machine
end

section
/-! PROOFS. Rules shared by the proofs of what commands do. -/

namespace Sys2Proof.Machine

/-! ## Commands of a module that runs -/

/-- A command that changes the module alone yields what its effect yields. -/
theorem yields_of_act {i : Instr} {s : State} {t : Nat} {f : Chip → Chip} {P : Chip → Prop} (hs : s.runs) (h : exec i s = act t s f)
    (hP : P { f (s.upon t) with now := max s.chip.now t }) : Yields i s P :=
  ⟨_, h.trans (act_runs _ _ _ hs), hP⟩

/-- The same where the effect is known: it leaves the clock at the instant of the command. -/
theorem yields_of_eq {i : Instr} {s : State} {t : Nat} {f : Chip → Chip} {d : Chip} {P : Chip → Prop} (hs : s.runs) (h : exec i s = act t s f)
    (hd : f (s.upon t) = d) (hnow : d.now = max s.chip.now t) (hP : P d) : Yields i s P := by
  subst hd
  refine ⟨_, h.trans (act_runs _ _ _ hs), ?_⟩
  rwa [Chip.with_now_eq _ hnow]

theorem yieldsMem_of_actMem {i : Instr} {s : State} {t : Nat} {f : Chip → Tbl Byte → Chip × Tbl Byte} {P : Chip → Tbl Byte → Prop} (hs : s.runs)
    (h : exec i s = actMem t s f) (hP : P { (f (s.upon t) s.mem).1 with now := max s.chip.now t } (f (s.upon t) s.mem).2) : YieldsMem i s P :=
  ⟨_, _, h.trans (actMem_runs _ _ _ hs), hP⟩

theorem yieldsMem_of_eq {i : Instr} {s : State} {t : Nat} {f : Chip → Tbl Byte → Chip × Tbl Byte} {d : Chip} {m : Tbl Byte} {P : Chip → Tbl Byte → Prop}
    (hs : s.runs) (h : exec i s = actMem t s f) (hd : f (s.upon t) s.mem = (d, m)) (hnow : d.now = max s.chip.now t) (hP : P d m) : YieldsMem i s P := by
  refine ⟨_, _, h.trans (actMem_runs _ _ _ hs), ?_⟩
  rw [hd]
  dsimp only
  rwa [Chip.with_now_eq _ hnow]

/-! ## Fields -/

/-- A write to one field leaves another, of whatever bank. -/
theorem Chip.fld_set_ne (c : Chip) (f g : Fld) (b d v : Nat) (hg : g.lo < 32) (hf : f.lo < 32) (hd : d < 1048576) (hb : b < 1048576)
    (h : g.addr ≠ f.addr ∨ g.lo ≠ f.lo) : (c.set f b v).fld g d = c.fld g d :=
  c.fld_set_other f g b d v (Fld.key_ne hg hf hd hb h)

theorem Chip.fld_count (c : Chip) (f : Fld) (b n : Nat) : (c.count f b n).fld f b = min (c.fld f b + n) (2 ^ f.width - 1) := by
  rw [Chip.count_eq, Chip.fld_set]
  exact Nat.mod_eq_of_lt (lt_of_le_of_lt (Nat.min_le_right _ _) (Nat.sub_lt (Nat.two_pow_pos _) one_pos))

theorem Chip.fld_mark (c : Chip) (f : Fld) (hf : f.width = 1) : (c.mark f).fld f 0 = 1 := by
  rw [Chip.mark_eq, Chip.fld_set, hf]
  rfl

theorem Chip.isSet_mark (c : Chip) (f : Fld) (hf : f.width = 1) : (c.mark f).isSet f 0 = true := by
  rw [Chip.isSet, c.fld_mark f hf]
  rfl

/-! ## Events -/

/-- An event is logged with its words. -/
theorem Chip.logged_event (c : Chip) (e : Ev) (payload : List Nat) : (c.event e payload).logged e payload :=
  ⟨_, List.mem_append_right _ (List.mem_singleton_self _), rfl, rfl, rfl, rfl⟩

end Sys2Proof.Machine
end

section
/-! PROOFS. Slot tables and the best-effort arbitration. -/

namespace Sys2Proof.Machine

/-! ## The slot tables -/

/-- No owner is late and none is masked: none is abandoned. -/
theorem Chip.abandoned_nil (c : Chip) (h : c.arb.maskLive = 0) : c.abandoned [] = [] := by
  unfold Chip.abandoned
  rw [h]
  rfl

theorem Chip.arbiter_modArbiter_other (c : Chip) (k j : Nat) (f : Arbiter → Arbiter) (h : j ≠ k) : (c.modArbiter k f).arbiter j = c.arbiter j :=
  Tbl.get_upd_other _ _ _ _ _ h

/-- The counters that ARB_CLR_CNT clears. -/
def arbCounters : List Fld :=
  (List.range 4).map Reg.ARB_RT_ABANDON_COUNT ++ (List.range 6).map Reg.ARB_BE_BEATS_COUNT ++ (List.range 6).map Reg.ARB_BE_WAIT_MAX_SLOTS
    ++ (List.range 6).map Reg.ARB_BE_EVENTS_HOG_CUTS ++ (List.range 6).map Reg.ARB_BE_EVENTS_LOCK_TRUNC

/-- Settles O1, a command at a time. -/
theorem slotTableCommandsComplete : Obligations.SlotTableCommandsComplete := by
  refine ⟨fun s t hs => ?_, fun s t hs hpend hready hvalid => ?_, fun s t v hs => ?_, fun s t hs => ?_, fun s t hs hrun hdue hmask => ?_, fun s t hs => ?_,
    fun s t ch client hs => ?_⟩
  · have hexec : exec (.arbSwap t) s = act t s (fun c => c.arbSwap) := rfl
    rw [hexec, act_runs _ _ _ hs]
    rfl
  · have hexec : exec (.tableSwap t) s = execTableSwap t s := rfl
    refine yields_of_act hs hexec ?_
    have hpend' : (s.upon t).arb.swapPend = true := hpend
    have hready' : (s.upon t).fst.ready = true := hready
    have hvalid' : (s.upon t).arb.shadow.invalid = [] := hvalid
    rw [if_pos (by rw [hpend', hready']; rfl), hvalid']
    exact ⟨rfl, Chip.fld_set _ _ _ _, Chip.sameRegs_set _ Reg.ARB_SWAPS_COUNT 0 _ (by decide) (by decide), rfl⟩
  · have hexec : exec (.arbHostTbl t v) s = execArbHostTbl t v s := rfl
    have hfld : ((s.upon t).set Reg.ARB_CTRL_HOST_TBL 0 (flag v)).fld Reg.ARB_CTRL_HOST_TBL 0 = flag v := by
      rw [Chip.fld_set]
      cases v <;> rfl
    have hregs : ((s.upon t).set Reg.ARB_CTRL_HOST_TBL 0 (flag v)).sameRegs s.chip [Reg.ARB_CTRL_HOST_TBL] :=
      Chip.sameRegs_set (s.upon t) Reg.ARB_CTRL_HOST_TBL 0 _ (by decide) (by decide)
    by_cases hback : s.chip.isSet Reg.ARB_CTRL_HOST_TBL 0 = true ∧ v = false
    · obtain ⟨hwas, rfl⟩ := hback
      have hwas' : (s.upon t).isSet Reg.ARB_CTRL_HOST_TBL 0 = true := hwas
      have hclear : ((s.upon t).set Reg.ARB_CTRL_HOST_TBL 0 (flag false)).isSet Reg.ARB_CTRL_HOST_TBL 0 = false := by
        rw [Chip.isSet, hfld]
        rfl
      refine yields_of_act hs hexec ?_
      rw [Chip.hostTbl, hwas', Chip.requestSwap, hclear]
      refine ⟨hfld, hregs, rfl, fun _ => rfl, fun h => ?_⟩
      rcases h with h | h
      · rw [hwas] at h
        cases h
      · cases h
    · have hwas : ((s.upon t).isSet Reg.ARB_CTRL_HOST_TBL 0 && !v) = false := by
        rw [Bool.and_eq_false_iff, Bool.not_eq_false', ← Bool.not_eq_true]
        by_contra hboth
        obtain ⟨h1, h2⟩ := not_or.mp hboth
        exact hback ⟨not_not.mp h1, Bool.not_eq_true _ ▸ h2⟩
      exact yields_of_eq hs hexec (by rw [Chip.hostTbl, hwas]; rfl) rfl ⟨hfld, hregs, rfl, fun h => absurd h hback, fun _ => rfl⟩
  · have hexec : exec (.arbClrCnt t) s = execArbClrCnt t s := rfl
    have hclear {f : Fld} (hf : f ∈ arbCounters) : (s.upon t).clrArb.fld f 0 = f.reset := Chip.fld_clearAll _ _ f 0 hf (by decide)
    have hrt : ∀ n, n < 4 → Reg.ARB_RT_ABANDON_COUNT n ∈ arbCounters := by decide
    have hbe : ∀ n, n < 6 → Reg.ARB_BE_BEATS_COUNT n ∈ arbCounters ∧ Reg.ARB_BE_WAIT_MAX_SLOTS n ∈ arbCounters ∧
      Reg.ARB_BE_EVENTS_HOG_CUTS n ∈ arbCounters ∧ Reg.ARB_BE_EVENTS_LOCK_TRUNC n ∈ arbCounters := by decide
    refine yields_of_eq hs hexec rfl rfl ⟨fun n hn => hclear (hrt n hn), fun n hn => ?_, rfl⟩
    obtain ⟨hbeats, hwait, hcuts, htrunc⟩ := hbe n hn
    exact ⟨hclear hbeats, hclear hwait, hclear hcuts, hclear htrunc⟩
  · have hexec : exec (.slotFrameBoundary t [] 0 []) s = execSlotFrameBoundary t [] 0 [] s := rfl
    have hrun' : (s.upon t).tick.running = true ∧ 6 * ((s.upon t).tick.slotFrames + 1) ≤ (s.upon t).tick.samples := ⟨hrun, hdue⟩
    have hnone : (if (s.upon t).fst.ready = true then (s.upon t).abandoned (([] : List (Fin 5)).map Fin.val) else []) = [] := by
      rw [List.map_nil, (s.upon t).abandoned_nil hmask, ite_self]
    refine yields_of_act hs hexec ?_
    rw [if_pos hrun', hnone]
    exact ⟨rfl, rfl, rfl, rfl⟩
  · have hexec : exec (.creditRefill t) s = execCreditRefill t s := rfl
    refine yields_of_eq hs hexec rfl rfl ⟨fun e he => ?_, rfl⟩
    obtain ⟨x, -, rfl⟩ := List.mem_map.mp he
    rfl
  · have hexec : exec (.backoffExpiry t ch client) s = execBackoffExpiry t ch client s := rfl
    refine yields_of_eq hs hexec rfl rfl ⟨?_, ?_, fun k hk => Chip.arbiter_modArbiter_other _ _ _ _ hk, rfl⟩
    · rw [Chip.arbiter_modArbiter]
      simp
    · rw [Chip.arbiter_modArbiter]
      rfl

/-! ## A decision (R162) -/

theorem oldestOf_mem {l : List BeReq} {o : BeReq} (h : oldestOf l = some o) : o ∈ l := by
  induction l using List.reverseRecOn generalizing o with
  | nil => cases h
  | append_singleton l r ih =>
    unfold oldestOf at h ih
    rw [List.foldl_append, List.foldl_cons, List.foldl_nil] at h
    split at h
    · exact List.mem_append_right _ (List.mem_singleton.mpr (Option.some.inj h).symm)
    next x hx =>
      split at h
      · exact List.mem_append_right _ (List.mem_singleton.mpr (Option.some.inj h).symm)
      · exact List.mem_append_left _ (ih (hx.trans h))

/-- The request chosen by `richest` is one of the list, and none has more credit. -/
theorem richest_spec (credit : BeReq → Nat) (l : List BeReq) (hl : l ≠ []) : ∃ q ∈ l, richest credit l = some q ∧ ∀ x ∈ l, credit x ≤ credit q := by
  induction l using List.reverseRecOn with
  | nil => exact absurd rfl hl
  | append_singleton l r ih =>
    by_cases hnil : l = []
    · subst hnil
      exact ⟨r, List.mem_singleton_self r, rfl, fun x hx => by rw [List.mem_singleton.mp hx]⟩
    · obtain ⟨p, hp, hrich, hmax⟩ := ih hnil
      have hlast : richest credit (l ++ [r]) = if credit p < credit r ∨ (credit p = credit r ∧ r.before p) then some r else some p := by
        unfold richest at hrich ⊢
        rw [List.foldl_append, hrich]
        rfl
      rw [hlast]
      simp only [List.mem_append, List.mem_singleton]
      split_ifs with hless
      · refine ⟨r, .inr rfl, rfl, fun x hx => ?_⟩
        rcases hx with hx | rfl
        · have := hmax x hx
          omega
        · exact le_refl _
      · refine ⟨p, .inl hp, rfl, fun x hx => ?_⟩
        rcases hx with hx | rfl
        · exact hmax x hx
        · omega

/-- What a decision grants when the oldest request waiting may be granted: no client in backoff but that of the oldest, the oldest at each sixteenth grant, and else
a request with no less credit. -/
theorem Arbiter.decideNext_spec (a : Arbiter) (who credit : BeReq → Nat) (barred : BeReq → Bool) (o : BeReq) (ho : oldestOf a.waiting = some o)
    (hbar : barred o = false) :
    ∃ a' q, a.decideNext who credit barred = (a', some q) ∧ q ∈ a.waiting ∧ (who q ∈ a.off → q = o) ∧ (a.grants % 16 = 15 → q = o) ∧
      (q ≠ o → credit o ≤ credit q) ∧ a'.waiting = a.waiting.filter (fun x => x != q) := by
  have hmem := oldestOf_mem ho
  have hocand : o ∈ a.waiting.filter (fun r => !(a.off.contains (who r)) || oldestOf a.waiting == some r) := by
    simp [hmem, ho]
  have hable : o ∈ (a.waiting.filter (fun r => !(a.off.contains (who r)) || oldestOf a.waiting == some r)).filter (fun r => !(barred r)) :=
    List.mem_filter.mpr ⟨hocand, by rw [hbar]; rfl⟩
  have hnotall : ¬((a.waiting.filter (fun r => !(a.off.contains (who r)) || oldestOf a.waiting == some r)).all barred = true) := by
    intro hall
    have := List.all_eq_true.mp hall o hocand
    rw [hbar] at this
    cases this
  unfold Arbiter.decideNext
  dsimp only
  rw [if_neg hnotall]
  by_cases hn : (a.grants + 1) % 16 = 0
  · have hold : oldestOf (if Option.any barred (oldestOf a.waiting) = true then
        (a.waiting.filter (fun r => !(a.off.contains (who r)) || oldestOf a.waiting == some r)).filter (fun r => !(barred r))
        else (oldestOf a.waiting).toList) = some o := by
      rw [ho, Option.any_some, hbar, if_neg Bool.false_ne_true]
      rfl
    rw [if_pos hn, hold]
    exact ⟨_, o, rfl, hmem, fun _ => rfl, fun _ => rfl, fun h => absurd rfl h, rfl⟩
  · obtain ⟨q, hq, hrich, hmax⟩ := richest_spec credit _ (List.ne_nil_of_mem hable)
    obtain ⟨hwait, hfree⟩ := List.mem_filter.mp (List.mem_filter.mp hq).1
    rw [if_neg hn, hrich]
    refine ⟨_, q, rfl, hwait, fun hoff => ?_, fun h => absurd (by omega) hn, fun _ => hmax o hable, rfl⟩
    rw [List.contains_iff_mem.mpr hoff, ho] at hfree
    exact (by simpa using hfree : o = q).symm

/-! ## Grants -/

theorem Chip.arbiter_present_other (c : Chip) (ch client k : Nat) (hch : k ≠ ch) (hlocal : k ≠ localKey ch client) :
    (c.present ch client).arbiter k = c.arbiter k := by
  unfold Chip.present
  dsimp only
  split
  · rfl
  · split
    · rfl
    · rw [Chip.arbiter_modArbiter_other _ _ _ _ hch, Chip.arbiter_modArbiter_other _ _ _ _ hlocal]

/-- The leaves of a client present a request at the arbiter of the channel, or none. -/
theorem Chip.arbiter_present (c : Chip) (ch client : Nat) (hch : ch < 64) :
    ∃ l, (c.present ch client).arbiter ch = { c.arbiter ch with waiting := (c.arbiter ch).waiting ++ l } := by
  have hlocal : ch ≠ localKey ch client := by unfold localKey; omega
  unfold Chip.present
  dsimp only
  split
  · exact ⟨[], by rw [List.append_nil]⟩
  · split
    · exact ⟨[], by rw [List.append_nil]⟩
    next q _ =>
      refine ⟨[q], ?_⟩
      rw [Chip.arbiter_modArbiter, Chip.arbiter_modArbiter_other _ _ _ _ hlocal]

/-- The arbiter of a channel with a grant, and its client's credit spent. -/
def Arbiter.granted (a : Arbiter) (q : BeReq) (n : Nat) : Arbiter :=
  { a with grant := some q, spent := Tbl.put 0 a.spent q.client (Tbl.get 0 a.spent q.client + n) }

/-- A grant: the arbiter of its channel takes it, counters aside, and the leaves of its client may present their next request. -/
theorem Chip.grantRequest_eq (c : Chip) (ch : Nat) (q : BeReq) :
    ∃ d : Chip, d.arb = (c.modArbiter ch (fun a => a.granted q (c.grantBeats q))).arb ∧
      c.grantRequest ch q =
        if hasLeaves q.client then (d.modArbiter (localKey ch q.client) (fun a => { a with grant := none })).present ch q.client else d := by
  refine ⟨_, ?_, rfl⟩
  rfl

/-- A grant of a client without leaves of its own touches the arbiter of its channel alone. -/
theorem Chip.arb_grantRequest_direct (c : Chip) (ch : Nat) (q : BeReq) (h : hasLeaves q.client = false) :
    (c.grantRequest ch q).arb = (c.modArbiter ch (fun a => a.granted q (c.grantBeats q))).arb := by
  obtain ⟨d, hd, hgrant⟩ := c.grantRequest_eq ch q
  rw [hgrant, h, if_neg Bool.false_ne_true, hd]

/-- A grant leaves its channel's arbiter with the grant and the credit spent; the leaves of the client may present their next request. -/
theorem Chip.arbiter_grantRequest (c : Chip) (ch : Nat) (q : BeReq) (hch : ch < 64) :
    ∃ l, (c.grantRequest ch q).arbiter ch = { (c.arbiter ch).granted q (c.grantBeats q) with waiting := (c.arbiter ch).waiting ++ l } := by
  obtain ⟨d, hd, hgrant⟩ := c.grantRequest_eq ch q
  have harb : d.arbiter ch = (c.arbiter ch).granted q (c.grantBeats q) := by
    rw [Chip.arbiter, hd]
    exact c.arbiter_modArbiter ch _
  rw [hgrant]
  split_ifs
  · have hlocal : ch ≠ localKey ch q.client := by unfold localKey; omega
    obtain ⟨l, hl⟩ := Chip.arbiter_present (d.modArbiter (localKey ch q.client) (fun a => { a with grant := none })) ch q.client hch
    refine ⟨l, hl.trans ?_⟩
    rw [Chip.arbiter_modArbiter_other _ _ _ _ hlocal, harb]
    rfl
  · exact ⟨[], by rw [harb, List.append_nil]; rfl⟩

/-- At a slot that no owner holds, with no catch-up credit, a decision grants what R162 chooses. -/
theorem yields_arbiterDecision {s : State} {t : Nat} {ch : Fin 64} {slot : Fin 18304} {ready : List (Fin 5)} {a : Arbiter} {q : BeReq} {P : Chip → Prop}
    (hs : s.runs) (hready : s.chip.fst.ready = true) (howner : s.chip.arb.active.owner ch slot = 0) (hcatch : s.chip.arb.catchUp = [])
    (hd : (s.chip.arbiter ch).decideNext BeReq.client (fun r => s.chip.credit ch r.client) (fun r => r.lock && decide (18288 ≤ slot.val)) = (a, some q))
    (hP : ∀ d : Chip, d.arb = (((s.upon t).modArbiter ch (fun _ => a)).grantRequest ch q).arb → P d) : Yields (.arbiterDecision t ch slot ready) s P := by
  have hexec : exec (.arbiterDecision t ch slot ready) s = execArbiterDecision t ch slot ready s := rfl
  have hready' : (!(s.upon t).fst.ready) = false := by rw [Chip.begin_fst, hready]; rfl
  have howner' : (s.upon t).arb.active.owner ch slot = 0 := howner
  have hd' : ((s.upon t).arbiter ch).decideNext BeReq.client (fun r => (s.upon t).credit ch r.client) (fun r => r.lock && decide (18288 ≤ slot.val)) =
    (a, some q) := hd
  have hnone (k : Nat) : ¬(0 < Tbl.get 0 (s.upon t).arb.catchUp k) := by
    rw [Chip.begin_arb, hcatch]
    exact Nat.not_lt_zero _
  refine yields_of_act hs hexec (hP _ ?_)
  simp only [hready', howner', hd', hnone, Bool.false_eq_true, if_false, ne_eq, not_true_eq_false, false_and, decide_false, Bool.and_false]
  rfl

/-- Settles O44: the decision takes the oldest at each sixteenth grant, and else a request with no less credit. -/
theorem oldestRequestArbitration : Obligations.OldestRequestArbitration := by
  intro s t ch slot ready o hs hready howner hcatch hold hlock
  have hbar : (o.lock && decide (18288 ≤ slot.val)) = false := by
    rcases hlock with hlock | hlock
    · rw [hlock, Bool.false_and]
    · rw [decide_eq_false (Nat.not_le.mpr hlock), Bool.and_false]
  obtain ⟨a, q, hd, hwait, hoff, hsixteenth, hcredit, hrest⟩ := Arbiter.decideNext_spec (s.chip.arbiter ch) BeReq.client
    (fun r => s.chip.credit ch r.client) (fun r => r.lock && decide (18288 ≤ slot.val)) o hold hbar
  refine yields_arbiterDecision hs hready howner hcatch hd fun d harb => ?_
  obtain ⟨l, hl⟩ := ((s.upon t).modArbiter ch (fun _ => a)).arbiter_grantRequest ch q ch.isLt
  have hch : d.arbiter ch = _ := (congrArg (fun x : ArbSt => Tbl.get Arbiter.reset x.arbiters ch) harb).trans hl
  refine ⟨q, hwait, by rw [hch]; rfl, hoff, hsixteenth, hcredit, fun x hx hne => ?_⟩
  rw [hch, Chip.arbiter_modArbiter]
  refine List.mem_append_left _ ?_
  rw [hrest]
  exact List.mem_filter.mpr ⟨hx, bne_iff_ne.mpr hne⟩

/-! ## Cuts and quarantine -/

/-- A client's requests, and its grant, are dropped from the arbiters of the channels. -/
theorem Chip.dropClient_spec (c : Chip) (client : Nat) : ∀ e ∈ (c.dropClient client).arb.arbiters, e.1 < 64 → ∀ r ∈ e.2.waiting, r.client ≠ client := by
  intro e he hch r hr
  obtain ⟨x, hx, rfl⟩ := List.mem_map.mp he
  by_cases hlocal : 64 ≤ x.1
  · rw [if_pos hlocal] at hch
    split_ifs at hch
    · exact absurd hlocal (Nat.not_le.mpr hch)
    · exact absurd hlocal (Nat.not_le.mpr hch)
  · rw [if_neg hlocal] at hr
    exact bne_iff_ne.mp (List.mem_filter.mp hr).2

/-- A client is out of quarantine at an arbiter: backoff 1, not in backoff, no request waiting. -/
def Arbiter.clearedOf (a : Arbiter) (i : Nat) : Prop := Tbl.get 1 a.backoff i = 1 ∧ i ∉ a.off ∧ ∀ r ∈ a.waiting, r.client ≠ i

/-- One client leaves quarantine (R166). -/
def Chip.releaseClient (c : Chip) (i : Nat) : Chip :=
  { c.dropClient i with arb := { (c.dropClient i).arb with arbiters := (c.dropClient i).arb.arbiters.map (fun e =>
    if e.1 < 64 then (e.1, { e.2 with backoff := Tbl.put 1 e.2.backoff i 1, off := e.2.off.filter (fun x => x != i) }) else e) } }

theorem Chip.clearQuar_eq (c : Chip) (mask : Nat) :
    c.clearQuar mask = ((List.range 6).filter (fun i => bit (c.fld Reg.ARB_QUAR_CLIENT 0) i && bit mask i)).foldl Chip.releaseClient
      (c.set Reg.ARB_QUAR_CLIENT 0 (c.fld Reg.ARB_QUAR_CLIENT 0 - (c.fld Reg.ARB_QUAR_CLIENT 0 &&& mask))) := rfl

theorem Chip.regs_releaseClient (c : Chip) (i : Nat) : (c.releaseClient i).regs = c.regs := rfl

/-- The client released is out of quarantine on every channel. -/
theorem Chip.releaseClient_clears (c : Chip) (i : Nat) : ∀ e ∈ (c.releaseClient i).arb.arbiters, e.1 < 64 → e.2.clearedOf i := by
  intro e he hch
  obtain ⟨x, hx, rfl⟩ := List.mem_map.mp he
  by_cases hx64 : x.1 < 64
  · rw [if_pos hx64]
    exact ⟨Tbl.get_put _ _ _ _, by simp, c.dropClient_spec i x hx hx64⟩
  · rw [if_neg hx64] at hch
    exact absurd hch hx64

/-- Another client released leaves a client out of quarantine. -/
theorem Chip.releaseClient_keeps (c : Chip) (i j : Nat) (h : ∀ e ∈ c.arb.arbiters, e.1 < 64 → e.2.clearedOf i) :
    ∀ e ∈ (c.releaseClient j).arb.arbiters, e.1 < 64 → e.2.clearedOf i := by
  intro e he hch
  obtain ⟨x, hx, rfl⟩ := List.mem_map.mp he
  obtain ⟨y, hy, rfl⟩ := List.mem_map.mp hx
  by_cases hlocal : 64 ≤ y.1
  · exfalso
    split_ifs at hch <;> exact absurd hlocal (Nat.not_le.mpr hch)
  · obtain ⟨hback, hoff, hwait⟩ := h y hy (Nat.not_le.mp hlocal)
    rw [if_neg hlocal, if_pos (Nat.not_le.mp hlocal)]
    refine ⟨?_, fun hi => hoff (List.mem_filter.mp hi).1, fun r hr => hwait r (List.mem_filter.mp hr).1⟩
    dsimp only
    rw [Tbl.get_put_if, hback, ite_self]

theorem List.foldl_establishes {α β : Type} (P : α → β → Prop) (f : β → α → β) (hest : ∀ b a, P a (f b a)) (hkeep : ∀ b a a', P a b → P a (f b a'))
    (l : List α) (b : β) {a : α} (ha : a ∈ l) : P a (l.foldl f b) := by
  induction l generalizing b with
  | nil => cases ha
  | cons x l ih =>
    by_cases hal : a ∈ l
    · exact ih _ hal
    · obtain rfl : a = x := (List.mem_cons.mp ha).resolve_right hal
      exact List.foldl_keeps (P a) f (fun b' a' h => hkeep b' a a' h) l _ (hest b a)

/-! ## Requests -/

/-- A grant made by a decision is taken out of what waits. -/
theorem Arbiter.waiting_decideNext (a a' : Arbiter) (who credit : BeReq → Nat) (barred : BeReq → Bool) (q : BeReq)
    (h : a.decideNext who credit barred = (a', some q)) : a'.waiting = a.waiting.filter (fun x => x != q) := by
  unfold Arbiter.decideNext at h
  dsimp only at h
  split at h
  · cases h
  · split at h
    · cases h
    · cases h
      rfl

/-- Presenting a request leaves every request of the client's own arbiter waiting or granted. -/
theorem Chip.present_keeps_requests (c : Chip) (ch client : Nat) (hch : ch < 64) (q : BeReq) (hq : q ∈ (c.arbiter (localKey ch client)).waiting) :
    q ∈ ((c.present ch client).arbiter (localKey ch client)).waiting ++ ((c.present ch client).arbiter (localKey ch client)).grant.toList := by
  have hlocal : localKey ch client ≠ ch := by unfold localKey; omega
  unfold Chip.present
  dsimp only
  split
  · exact List.mem_append_left _ hq
  · split
    · exact List.mem_append_left _ hq
    next p hp =>
      have hwait := Arbiter.waiting_decideNext (c.arbiter (localKey ch client)) _ BeReq.leaf
        (fun x => Config.leafWeight * 512 - Tbl.get 0 (c.arbiter (localKey ch client)).spent x.leaf) (fun _ => false) p (Prod.ext rfl hp)
      rw [Chip.arbiter_modArbiter_other _ _ _ _ hlocal, Chip.arbiter_modArbiter]
      by_cases hqp : q = p
      · exact List.mem_append_right _ (by rw [hqp]; exact List.mem_singleton_self p)
      · refine List.mem_append_left _ ?_
        dsimp only
        rw [hwait]
        exact List.mem_filter.mpr ⟨hq, bne_iff_ne.mpr hqp⟩

theorem Chip.present_frame (c : Chip) (ch client : Nat) : c.present ch client = { c with arb := (c.present ch client).arb } := by
  unfold Chip.present
  dsimp only
  split
  · rfl
  · split <;> rfl

/-- A request of a client with leaves of its own stands at its local arbiter, or is granted there. -/
theorem exec_beRequest_local (s : State) (t : Nat) (ch : Fin 64) (client : Fin 6) (leaf : Fin 32) (beats : Nat) (lock write : Bool) (hs : s.runs)
    (hready : s.chip.fst.ready = true) (hquar : bit (s.chip.fld Reg.ARB_QUAR_CLIENT 0) client = false) (hlocal : hasLeaves client = true)
    (hleaf : leaf.val < leavesOf client)
    (hfree : ∀ x ∈ (s.chip.arbiter (localKey ch client)).waiting ++ (s.chip.arbiter (localKey ch client)).grant.toList, x.client ≠ client.val ∨ x.leaf ≠ leaf.val) :
    exec (.beRequest t ch client leaf beats lock write) s = .next { s with
      chip := ((s.upon t).modArbiter (localKey ch client)
        (fun a => { a with waiting := a.waiting ++ [⟨client, leaf, (s.upon t).slotCount, beats, lock, write⟩] })).present ch client } := by
  have hexec : exec (.beRequest t ch client leaf beats lock write) s = execBeRequest t ch client leaf beats lock write s := rfl
  have hbusy : (((s.upon t).arbiter (localKey ch client)).waiting ++ ((s.upon t).arbiter (localKey ch client)).grant.toList).any
      (fun x => x.client == client.val && x.leaf == leaf.val) = false := by
    simp only [List.any_eq_false, Bool.and_eq_true, beq_iff_eq, not_and_or]
    exact hfree
  have hbeyond : decide (leavesOf client ≤ leaf.val) = false := decide_eq_false (by omega)
  have hquar' : bit ((s.upon t).fld Reg.ARB_QUAR_CLIENT 0) client = false := hquar
  rw [hexec, execBeRequest, act_runs _ _ _ hs]
  simp only [Chip.begin_fst, hready, hquar', hlocal, hbeyond, hbusy, Bool.not_true, Bool.or_self, Bool.false_eq_true, if_false, if_true]
  rw [Chip.with_now_eq]
  rw [Chip.present_frame]
  rfl

/-- Settles O2, a command at a time. -/
theorem bestEffortCommandsComplete : Obligations.BestEffortCommandsComplete := by
  refine ⟨fun s t ch client leaf beats lock write => ?_, fun s t ch slot ready a q hs hready howner hcatch hd => ?_, fun s t ch q hs hgrant hclient hlimit => ?_,
    fun s t mask hs => ?_⟩
  · intro key hs hready hquar hleaf hfree
    cases hlocal : hasLeaves client with
    | false =>
      have hkey : key = ch.val := if_neg (by rw [hlocal]; exact Bool.false_ne_true)
      rw [hkey] at hfree ⊢
      refine ⟨_, exec_beRequest_direct s t ch client leaf beats lock write hs hready hquar hlocal hleaf
        (fun x hx hclient => (hfree x hx).resolve_left (not_not.mpr hclient)), ?_, rfl⟩
      rw [Chip.arbiter_modArbiter]
      exact List.mem_append_left _ (List.mem_append_right _ (List.mem_singleton_self _))
    | true =>
      have hkey : key = localKey ch client := if_pos hlocal
      rw [hkey] at hfree ⊢
      refine ⟨_, exec_beRequest_local s t ch client leaf beats lock write hs hready hquar hlocal hleaf hfree,
        Chip.present_keeps_requests _ _ _ ch.isLt _ ?_, Chip.present_frame _ _ _⟩
      rw [Chip.arbiter_modArbiter]
      exact List.mem_append_right _ (List.mem_singleton_self _)
  · refine yields_arbiterDecision hs hready howner hcatch hd fun d harb => ?_
    obtain ⟨l, hl⟩ := ((s.upon t).modArbiter ch (fun _ => a)).arbiter_grantRequest ch q ch.isLt
    have hch : d.arbiter ch = _ := (congrArg (fun x : ArbSt => Tbl.get Arbiter.reset x.arbiters ch) harb).trans hl
    refine ⟨by rw [hch]; rfl, fun hdirect => ?_⟩
    have hall (k : Nat) : d.arbiter k = _ := congrArg (fun x : ArbSt => Tbl.get Arbiter.reset x.arbiters k) (harb.trans (Chip.arb_grantRequest_direct _ ch q hdirect))
    refine ⟨(hall ch).trans ?_, fun k hk => (hall k).trans ?_⟩
    · refine (Chip.arbiter_modArbiter _ _ _).trans ?_
      rw [Chip.arbiter_modArbiter]
      rfl
    · refine (Chip.arbiter_modArbiter_other _ _ _ _ hk).trans ?_
      rw [Chip.arbiter_modArbiter_other _ _ _ _ hk]
      rfl
  · have hexec : exec (.hogCut t ch) s = execHogCut t ch s := rfl
    have hgrant' : ((s.upon t).arbiter ch).grant = some q := hgrant
    have hlimit' : (s.upon t).fld Reg.ARB_HOG_LIMIT_BEATS 0 < q.beats := hlimit
    have hsmall (i : Nat) : (Reg.ARB_BE_EVENTS_HOG_CUTS i).addr ≠ Reg.ARB_QUAR_CLIENT.addr ∧
        (Reg.ARB_BE_EVENTS_HOG_CUTS i).addr ≠ Reg.ARB_STATUS_HOG_SEEN.addr := by
      constructor <;> simp only [Reg.ARB_BE_EVENTS_HOG_CUTS, Reg.ARB_QUAR_CLIENT, Reg.ARB_STATUS_HOG_SEEN] <;> omega
    obtain ⟨hquar, hseen⟩ := hsmall q.client
    refine yields_of_eq hs hexec (?eff : _ = ?d) ?now ?post
    case eff =>
      simp only [hgrant', if_pos hlimit']
      exact rfl
    case now => rfl
    case post =>
      refine ⟨?_, ?_, ?_, Chip.logged_event _ _ _, (s.upon t).dropClient_spec q.client⟩
      · rw [Chip.event_fld, Chip.count_eq, Chip.fld_set_ne _ _ _ _ _ _ (by decide) (Nat.zero_lt_succ _) (by decide) (by decide) (.inl hquar.symm), Chip.mark_eq,
          Chip.fld_set_other _ _ _ _ _ _ (by decide), Chip.fld_set]
        rfl
      · rw [Chip.isSet, Chip.event_fld, Chip.count_eq, Chip.fld_set_ne _ _ _ _ _ _ (by decide) (Nat.zero_lt_succ _) (by decide) (by decide) (.inl hseen.symm),
          Chip.fld_mark _ _ rfl]
        rfl
      · rw [Chip.event_fld, Chip.fld_count, Chip.mark_eq,
          Chip.fld_set_ne _ _ _ _ _ _ (Nat.zero_lt_succ _) (by decide) (by decide) (by decide) (.inl hseen),
          Chip.fld_set_ne _ _ _ _ _ _ (Nat.zero_lt_succ _) (by decide) (by decide) (by decide) (.inl hquar)]
        rfl
  · have hexec : exec (.arbQuarClear t mask) s = execArbQuarClear t mask s := rfl
    refine yields_of_act hs hexec ?_
    rw [Chip.clearQuar_eq]
    refine ⟨?_, fun i hi hquar hmask => ?_⟩
    · have hregs := List.foldl_keeps (fun c : Chip => c.regs = ((s.upon t).set Reg.ARB_QUAR_CLIENT 0
        ((s.upon t).fld Reg.ARB_QUAR_CLIENT 0 - ((s.upon t).fld Reg.ARB_QUAR_CLIENT 0 &&& mask.val))).regs) Chip.releaseClient
        (fun c i h => (c.regs_releaseClient i).trans h) ((List.range 6).filter (fun i => bit ((s.upon t).fld Reg.ARB_QUAR_CLIENT 0) i && bit mask i)) _ rfl
      exact (congrArg (fun r : Tbl Nat => Tbl.get Reg.ARB_QUAR_CLIENT.reset r (Reg.ARB_QUAR_CLIENT.key 0)) hregs).trans (Chip.fld_set _ _ _ _)
    · refine List.foldl_establishes (fun i (c : Chip) => ∀ e ∈ c.arb.arbiters, e.1 < 64 → e.2.clearedOf i) Chip.releaseClient
        (fun c i => c.releaseClient_clears i) (fun c i j h => c.releaseClient_keeps i j h) _ _ ?_
      exact List.mem_filter.mpr ⟨List.mem_range.mpr hi, Bool.and_eq_true_iff.mpr ⟨hquar, hmask⟩⟩

end Sys2Proof.Machine
end

section
/-! PROOFS. Rules for requests that are served: what their answers leave alone. -/

namespace Sys2Proof.Machine

/-- Between the two states the session of the slot has been sent answers, and nothing else has happened: of the module no more differs than the messages sent,
the responses withheld for the standby and the session's own numbering. -/
structure Chip.AnswersOnly (d e : Chip) (slot : Nat) : Prop where
  frame : d = { e with lan := { e.lan with slots := d.lan.slots }, sent := d.sent, spl := { e.spl with mirror := d.spl.mirror } }
  responses : ∀ r ∈ (e.session slot).responses, r ∈ (d.session slot).responses
  session : d.session slot = { e.session slot with
    done := (d.session slot).done, complete := (d.session slot).complete, responses := (d.session slot).responses, txCtr := (d.session slot).txCtr }
  others : ∀ k, k ≠ slot → d.session k = e.session k

theorem Chip.AnswersOnly.refl (c : Chip) (slot : Nat) : c.AnswersOnly c slot := ⟨rfl, fun _ h => h, rfl, fun _ _ => rfl⟩

theorem Chip.AnswersOnly.trans {c d e : Chip} {slot : Nat} (h : c.AnswersOnly d slot) (h' : d.AnswersOnly e slot) : c.AnswersOnly e slot := by
  refine ⟨?_, fun r hr => h.responses r (h'.responses r hr), ?_, fun k hk => (h.others k hk).trans (h'.others k hk)⟩
  · rw [h.frame, h'.frame]
  · rw [h.session, h'.session]

/-- A field of the module that no answer touches. -/
theorem Chip.AnswersOnly.eq_of_frame {d e : Chip} {slot : Nat} {α : Type} (h : d.AnswersOnly e slot) (g : Chip → α)
    (hg : ∀ (c : Chip) (slots : Tbl Session) (sent : List Out) (mirror : List (Nat × Nat × Nat)),
      g { c with lan := { c.lan with slots := slots }, sent := sent, spl := { c.spl with mirror := mirror } } = g c) : g d = g e := by
  rw [h.frame]
  exact hg _ _ _ _

theorem Chip.answersOnly_respond (c : Chip) (slot m status : Nat) (body : List Byte) : (c.respond slot m status body).AnswersOnly c slot := by
  refine ⟨rfl, fun r hr => ?_, ?_, fun k hk => ?_⟩
  · rw [Chip.responses_respond]
    exact List.mem_append_left _ hr
  · simp only [Chip.respond, Chip.sendMsg, Chip.session_emit, Chip.session_modSession]
  · simp only [Chip.respond, Chip.sendMsg, Chip.session_emit, Chip.session_modSession_other _ _ _ _ hk]

theorem Chip.answersOnly_withhold (c : Chip) (slot m q since : Nat) : (c.withhold slot m q since).AnswersOnly c slot := by
  refine ⟨rfl, fun r hr => ?_, ?_, fun k hk => ?_⟩
  · rwa [Chip.responses_withhold]
  · unfold Chip.withhold
    simp only [Chip.session_modSession]
    rfl
  · unfold Chip.withhold
    simp only [Chip.session_modSession_other _ _ _ _ hk]
    rfl

theorem Chip.answersOnly_emit (c : Chip) (slot : Nat) (o : Out) : (c.emit o).AnswersOnly c slot := ⟨rfl, fun _ h => h, rfl, fun _ _ => rfl⟩

theorem Chip.answersOnly_mirrorOut (c before : Chip) (slot m : Nat) : (c.mirrorOut before slot m).AnswersOnly c slot := by
  unfold Chip.mirrorOut
  dsimp only
  split
  · exact (Chip.answersOnly_emit _ slot _).trans (Chip.answersOnly_withhold _ _ _ _ _)
  · split
    · exact Chip.answersOnly_withhold _ _ _ _ _
    · exact Chip.AnswersOnly.refl _ _

theorem Chip.answersOnly_answerUnknown (slot n : Nat) (c : Chip) : (Chip.answerUnknown slot n c).AnswersOnly c slot := by
  induction n generalizing c with
  | zero => exact Chip.AnswersOnly.refl _ _
  | succ n ih =>
    unfold Chip.answerUnknown
    split
    · split
      · exact Chip.AnswersOnly.refl _ _
      · exact (ih _).trans ((Chip.answersOnly_mirrorOut _ _ _ _).trans (Chip.answersOnly_respond _ _ _ _ _))
    · exact Chip.AnswersOnly.refl _ _

/-- A request that no common check refuses has its own effect, and its answers. -/
theorem Chip.request_answersOnly (c : Chip) (slot m need : Nat) (rec lenOk : Bool) (f : Chip → Chip) (h : c.serves slot = true)
    (hg : c.gateCode slot m need rec lenOk = none) (hs : (mirroredRequest m && c.standby) = false) :
    (c.request slot m need rec lenOk f).AnswersOnly (f c) slot := by
  rw [c.request_served slot m need rec lenOk f h hg hs]
  exact (Chip.answersOnly_answerUnknown _ _ _).trans (Chip.answersOnly_mirrorOut _ _ _ _)

/-- A response answers the request in its turn. -/
theorem Chip.replied_respond {c before : Chip} {slot : Nat} (h : (c.session slot).done = (before.session slot).done) (m status : Nat) (body : List Byte) :
    (c.respond slot m status body).replied before slot m status body := by
  rw [Chip.replied, Chip.answered, Chip.responses_respond, h]
  exact List.mem_append_right _ (List.mem_singleton_self _)

theorem Chip.AnswersOnly.replied {d e before : Chip} {slot m status : Nat} {body : List Byte} (h : d.AnswersOnly e slot)
    (he : e.replied before slot m status body) : d.replied before slot m status body :=
  h.responses _ he

/-- A request of a session in full service that passes the common checks: what holds of its effect, whatever answers follow it. -/
theorem yields_of_request_at {i : Instr} {s : State} {t slot m need : Nat} {rec : Bool} {g f : Chip → Chip} {P : Chip → Prop} (hs : s.serving slot m need)
    (h : exec i s = act t s g) (hg : g (s.upon t) = (s.upon t).request slot m need rec true f) (hnow : (f (s.upon t)).now = (s.upon t).now)
    (hP : ∀ d : Chip, d.AnswersOnly (f (s.upon t)) slot → P d) : Yields i s P := by
  obtain ⟨hrun, hserves, hpriv, hphase, hstalled, hmirror⟩ := hs
  have hanswers := (s.upon t).request_answersOnly slot m need rec true f hserves (Chip.gateCode_none _ _ _ _ _ hpriv hphase hstalled) hmirror
  refine yields_of_eq hrun h hg ?_ (hP _ hanswers)
  rw [hanswers.eq_of_frame Chip.now fun _ _ _ _ => rfl, hnow]
  rfl

theorem yields_of_request {i : Instr} {s : State} {t slot m need : Nat} {rec lenOk : Bool} {f : Chip → Chip} {P : Chip → Prop} (hs : s.serving slot m need)
    (h : exec i s = act t s (fun c => c.request slot m need rec lenOk f)) (hok : lenOk = true) (hnow : (f (s.upon t)).now = (s.upon t).now)
    (hP : ∀ d : Chip, d.AnswersOnly (f (s.upon t)) slot → P d) : Yields i s P := by
  subst hok
  exact yields_of_request_at hs h rfl hnow hP

end Sys2Proof.Machine
end

section
/-! PROOFS. Takes and salvos: what acceptance leaves in the queue. -/

namespace Sys2Proof.Machine

/-! ## What acceptance touches -/

/-- The module without what settling takes touches: the crossing routes, the lanes' steps, registers, messages and the slot tables. -/
def Chip.unsettled (c : Chip) : Chip :=
  { c with spl := Chip.reset.spl, lne := Chip.reset.lne, regs := Chip.reset.regs, sent := Chip.reset.sent, arb := Chip.reset.arb }

section
variable {c d : Chip} (h : c.unsettled = d.unsettled)
include h

theorem Chip.xpt_of_unsettled : c.xpt = d.xpt := by
  have hxpt := congrArg Chip.xpt h
  exact hxpt

theorem Chip.lan_of_unsettled : c.lan = d.lan := by
  have hlan := congrArg Chip.lan h
  exact hlan

theorem Chip.now_of_unsettled : c.now = d.now := by
  have hnow := congrArg Chip.now h
  exact hnow

end

theorem Chip.unsettled_judgeLoads (c : Chip) : c.judgeLoads.unsettled = c.unsettled := by
  refine List.foldl_keeps (fun a : Chip => a.unsettled = c.unsettled) _ (fun a p ha => ?_) _ _ rfl
  split
  · exact ha
  · exact ha

theorem Chip.unsettled_reserveFor (c : Chip) (q : TakeAsk) (rf : Option Remote) : (c.reserveFor q rf).unsettled = c.unsettled := by
  unfold Chip.reserveFor
  split
  · rfl
  · dsimp only
    split
    · rfl
    · rw [Chip.unsettled_judgeLoads]
      rfl

theorem Chip.unsettled_emits {α : Type} (o : α → Out) (l : List α) (c : Chip) : (l.foldl (fun a x => a.emit (o x)) c).unsettled = c.unsettled :=
  List.foldl_keeps (fun a : Chip => a.unsettled = c.unsettled) (fun a x => a.emit (o x)) (fun _ _ ha => ha) _ _ rfl

theorem Chip.unsettled_releaseImports (c : Chip) : c.releaseImports.unsettled = c.unsettled := by
  unfold Chip.releaseImports
  dsimp only
  split
  · rfl
  · rw [Chip.unsettled_judgeLoads, Chip.unsettled_emits]
    rfl

theorem Chip.unsettled_swapIfChanged (c before : Chip) : (c.swapIfChanged before).unsettled = c.unsettled := by
  unfold Chip.swapIfChanged Chip.requestSwap
  split_ifs <;> rfl

theorem Chip.unsettled_peaks (c : Chip) : c.peaks.unsettled = c.unsettled := rfl

theorem Chip.unsettled_settle (c before : Chip) : (c.settle before).unsettled = c.unsettled := by
  rw [Chip.settle, Chip.unsettled_swapIfChanged, Chip.unsettled_peaks, Chip.unsettled_releaseImports]

theorem Chip.unsettled_wantCapacity (c : Chip) (code : Nat) (asks : List TakeAsk) (facts : List Remote) :
    (c.wantCapacity code asks facts).unsettled = c.unsettled := by
  unfold Chip.wantCapacity
  split
  · refine List.foldl_keeps (fun a : Chip => a.unsettled = c.unsettled) _ (fun a p ha => ?_) _ _ rfl
    dsimp only
    split
    · rw [Chip.unsettled_judgeLoads]
      exact ha
    · exact ha
  · rfl

/-- A take apart from its staging. -/
def Take.unstaged (q : Take) : Take := { q with staged := false }

theorem Take.unstaged_with (q : Take) (b : Bool) : Take.unstaged { q with staged := b } = q.unstaged := rfl

/-- The takes that wait, apart from their staging. -/
def Chip.takes (c : Chip) : List Take := c.xpt.queue.map Take.unstaged

theorem Chip.unstaged_stageList (c : Chip) (td tick : Nat) (all : List Take) (l : List Take) (blocked : List Nat) (salvos : List (Nat × Bool)) :
    (c.stageList td tick all blocked salvos l).map Take.unstaged = l.map Take.unstaged := by
  induction l generalizing blocked salvos with
  | nil => rfl
  | cons q l ih =>
    rw [Chip.stageList]
    split
    · rw [List.map_cons, List.map_cons, ih]
    · split
      · rw [List.map_cons, List.map_cons, ih, Take.unstaged_with]
      · split
        · rw [List.map_cons, List.map_cons, ih, Take.unstaged_with]
        · rw [List.map_cons, List.map_cons, ih, Take.unstaged_with]

theorem Chip.takes_restage (c : Chip) (td : Nat) : (c.restage td).takes = c.takes := by
  unfold Chip.restage
  dsimp only
  split
  · rfl
  · split
    · rfl
    · exact c.unstaged_stageList _ _ _ _ _ _

/-- The module but for the take queue. -/
def Chip.unqueued (c : Chip) : Chip := { c with xpt := { c.xpt with queue := [] } }

theorem Chip.unqueued_restage (c : Chip) (td : Nat) : (c.restage td).unqueued = c.unqueued := by
  unfold Chip.restage
  dsimp only
  split
  · rfl
  · split <;> rfl

/-- Staging again, in several domains, leaves which takes wait. -/
theorem Chip.takes_restages (c : Chip) (tds : List Nat) : (tds.foldl Chip.restage c).takes = c.takes :=
  List.foldl_keeps (fun a : Chip => a.takes = c.takes) _ (fun a td ha => (a.takes_restage td).trans ha) _ _ rfl

theorem Chip.unqueued_restages (c : Chip) (tds : List Nat) : (tds.foldl Chip.restage c).unqueued = c.unqueued :=
  List.foldl_keeps (fun a : Chip => a.unqueued = c.unqueued) _ (fun a td ha => (a.unqueued_restage td).trans ha) _ _ rfl

/-- A take asked for waits in the queue, apart from its staging. -/
def Take.asked (x : Take) (q : TakeAsk) (id now : Nat) : Prop := x.id = id ∧ x.dst = q.dst ∧ x.src = q.src ∧ x.levels = q.levels ∧ x.accepted = now

/-- A salvo that is admitted has every one of its takes queued, and nothing else has come of it than what settling touches. -/
theorem Chip.admitAll_spec (asks : List TakeAsk) (c c1 : Chip) (id : Nat) (nb : Option (Nat × Nat)) (notify : Bool) (slot session salvo : Nat) (held : Bool)
    (i : Nat) (facts : List Remote) (h : c.admitAll id nb notify slot session salvo held i facts asks = .ok c1) :
    c1.unsettled.unqueued = c.unsettled.unqueued ∧ (∀ x ∈ c.xpt.queue, x ∈ c1.xpt.queue) ∧ ∀ q ∈ asks, ∃ x ∈ c1.xpt.queue, x.asked q id c.now := by
  induction asks generalizing c i facts with
  | nil =>
    cases h
    exact ⟨rfl, fun _ hx => hx, fun _ hq => absurd hq List.not_mem_nil⟩
  | cons q asks ih =>
    unfold Chip.admitAll at h
    dsimp only at h
    split at h
    · cases h
    · obtain ⟨hframe, hqueue, hasks⟩ := ih _ _ _ h
      have hres := (c.enqueue q id nb notify slot session salvo held).unsettled_reserveFor q (if c.remoteInPart q then facts.head? else none)
      have hxpt := Chip.xpt_of_unsettled hres
      have hnow := Chip.now_of_unsettled hres
      rw [hxpt] at hqueue
      rw [hnow] at hasks
      refine ⟨hframe.trans (congrArg Chip.unqueued hres :), fun x hx => hqueue x (List.mem_append_left _ hx), fun p hp => ?_⟩
      rcases List.mem_cons.mp hp with rfl | hp
      · exact ⟨_, hqueue _ (List.mem_append_right _ (List.mem_singleton_self _)), rfl, rfl, rfl, rfl, rfl⟩
      · exact hasks p hp

/-- Settling and staging leave the takes asked for in the queue, and touch nothing but what settling touches and the queue. -/
theorem Chip.settled_spec (c before : Chip) (tds : List Nat) (asks : List TakeAsk) (id now : Nat) (hasks : ∀ q ∈ asks, ∃ x ∈ c.xpt.queue, x.asked q id now) :
    (tds.foldl Chip.restage (c.settle before)).unsettled.unqueued = c.unsettled.unqueued ∧
      ∀ q ∈ asks, ∃ x ∈ (tds.foldl Chip.restage (c.settle before)).xpt.queue, x.asked q id now := by
  have hsettle := c.unsettled_settle before
  constructor
  · have hrest := congrArg Chip.unsettled (Chip.unqueued_restages (c.settle before) tds)
    exact hrest.trans (congrArg Chip.unqueued hsettle)
  · intro q hq
    obtain ⟨x, hx, hid, hdst, hsrc, hlevels, hat⟩ := hasks q hq
    have hmem : x.unstaged ∈ (tds.foldl Chip.restage (c.settle before)).takes := by
      rw [Chip.takes_restages, Chip.takes, Chip.xpt_of_unsettled hsettle]
      exact List.mem_map_of_mem hx
    obtain ⟨y, hy, hyx⟩ := List.mem_map.mp hmem
    refine ⟨y, hy, ?_, ?_, ?_, ?_, ?_⟩
    · exact (congrArg Take.id hyx :).trans hid
    · exact (congrArg Take.dst hyx :).trans hdst
    · exact (congrArg Take.src hyx :).trans hsrc
    · exact (congrArg Take.levels hyx :).trans hlevels
    · exact (congrArg Take.accepted hyx :).trans hat

/-- Takes that are admitted: what is answered, and that they wait in the queue. -/
theorem Chip.finishTakes_admitted (c c1 : Chip) (slot m : Nat) (asks : List TakeAsk) (nb : Option (Nat × Nat)) (notify salvo : Bool) (facts : List Remote)
    (h : c.admitAll (c.lan.takeId + 1) nb notify slot (c.session slot).id (if salvo then asks.length else 0) (asks.any c.mustHold) 0 facts asks = .ok c1)
    (hphase : ¬(asks.any c.mustHold = true ∧ c.phase = 3)) :
    ∃ e : Chip, e.unsettled.unqueued = ({ c with lan := { c.lan with takeId := c.lan.takeId + 1 } } : Chip).unsettled.unqueued ∧
      (∀ q ∈ asks, ∃ x ∈ e.xpt.queue, x.asked q (c.lan.takeId + 1) c.now) ∧
      c.finishTakes slot m asks nb notify salvo facts =
        e.respond slot m (statusOf (if asks.any c.mustHold then 1 else 0) wholeIndex) (beBytes 8 (c.lan.takeId + 1)) := by
  obtain ⟨hframe, -, hasks⟩ := Chip.admitAll_spec asks c c1 _ _ _ _ _ _ _ _ _ h
  obtain ⟨hrest, hqueued⟩ := ({ c1 with lan := { c1.lan with takeId := c.lan.takeId + 1 } } : Chip).settled_spec c (dedup (asks.map (fun q => c.dstTd q.dst)))
    asks (c.lan.takeId + 1) c.now hasks
  refine ⟨_, hrest.trans ?_, hqueued, ?_⟩
  · have hlan := congrArg (fun x : Chip => ({ x with lan := { x.lan with takeId := c.lan.takeId + 1 } } : Chip)) hframe
    exact hlan
  · unfold Chip.finishTakes
    dsimp only
    rw [h]
    dsimp only
    rw [if_neg hphase]
    split_ifs <;> rfl

/-! ## A salvo enters whole or not at all -/

/-- A request leaves the module but for its answers as it was, or as its own effect makes it. -/
theorem Chip.request_cases (c : Chip) (slot m need : Nat) (rec lenOk : Bool) (f : Chip → Chip) :
    (c.request slot m need rec lenOk f).AnswersOnly c slot ∨ (c.request slot m need rec lenOk f).AnswersOnly (f c) slot := by
  unfold Chip.request
  by_cases hserves : c.serves slot = true
  · rw [if_pos hserves]
    have hanswers (e : Chip) : (Chip.answerUnknown slot 256 (e.mirrorOut c slot m)).AnswersOnly e slot :=
      (Chip.answersOnly_answerUnknown _ _ _).trans (Chip.answersOnly_mirrorOut _ _ _ _)
    split
    · exact .inl ((hanswers _).trans (Chip.answersOnly_respond _ _ _ _ _))
    · split
      · exact .inl ((hanswers _).trans (Chip.answersOnly_respond _ _ _ _ _))
      · exact .inr (hanswers _)
  · rw [if_neg hserves]
    exact .inl (Chip.AnswersOnly.refl _ _)

theorem Chip.xpt_countRefused (c : Chip) (code : Nat) : (c.countRefused code).xpt = c.xpt := rfl

/-- The queue is as it was, or every take asked for waits in it under one identifier. -/
def Chip.queuedWhole (c before : Chip) (asks : List TakeAsk) : Prop :=
  c.xpt.queue = before.xpt.queue ∨ ∃ id, ∀ a ∈ asks, ∃ q ∈ c.xpt.queue, q.id = id ∧ q.dst = a.dst ∧ q.src = a.src ∧ q.levels = a.levels

theorem Chip.queuedWhole_finishTakes (c : Chip) (slot m : Nat) (asks : List TakeAsk) (nb : Option (Nat × Nat)) (notify salvo : Bool) (facts : List Remote) :
    (c.finishTakes slot m asks nb notify salvo facts).queuedWhole c asks := by
  cases h : c.admitAll (c.lan.takeId + 1) nb notify slot (c.session slot).id (if salvo then asks.length else 0) (asks.any c.mustHold) 0 facts asks with
  | error e =>
    obtain ⟨code, i⟩ := e
    refine .inl ?_
    unfold Chip.finishTakes
    dsimp only
    rw [h]
    dsimp only
    rw [Chip.refuse_xpt, Chip.xpt_countRefused, Chip.xpt_of_unsettled (c.unsettled_wantCapacity code asks facts)]
  | ok c1 =>
    by_cases hphase : asks.any c.mustHold = true ∧ c.phase = 3
    · refine .inl ?_
      unfold Chip.finishTakes
      dsimp only
      rw [h]
      dsimp only
      rw [if_pos hphase]
      rfl
    · obtain ⟨e, -, hqueued, hfinish⟩ := c.finishTakes_admitted c1 slot m asks nb notify salvo facts h hphase
      refine .inr ⟨c.lan.takeId + 1, fun a ha => ?_⟩
      obtain ⟨x, hx, hid, hdst, hsrc, hlevels, -⟩ := hqueued a ha
      rw [hfinish]
      exact ⟨x, hx, hid, hdst, hsrc, hlevels⟩

theorem Chip.queuedWhole_salvoMsg (c : Chip) (slot : Nat) (body : List Byte) : (c.salvoMsg slot body).queuedWhole c (salvoAsks body) := by
  unfold Chip.salvoMsg
  dsimp only
  split
  · exact .inl rfl
  · unfold Chip.takeRequest
    split
    · exact .inl rfl
    · exact c.queuedWhole_finishTakes _ _ _ _ _ _ _

/-- Settles O45: a salvo is admitted whole, and every other way through it leaves the queue. -/
theorem salvoIsAllOrNothing : Obligations.SalvoIsAllOrNothing := by
  intro s t slot body hs
  have hexec : exec (.salvo t slot body) s = execSalvo t slot body s := rfl
  refine yields_of_act hs hexec ?_
  have hxpt (c d : Chip) (h : c.AnswersOnly d slot) : c.xpt = d.xpt := h.eq_of_frame Chip.xpt fun _ _ _ _ => rfl
  rcases (s.upon t).request_cases slot 0x0102 1 false (salvoBodyOk body) (fun c => c.salvoMsg slot body) with h | h
  · have hqueue := congrArg XptSt.queue (hxpt _ _ h)
    exact .inl hqueue
  · have hwhole := (s.upon t).queuedWhole_salvoMsg slot body
    unfold Chip.queuedWhole at hwhole
    rwa [← hxpt _ _ h] at hwhole

/-! ## Takes and salvos that pass are accepted -/

/-- What settling and staging leave of the module a session sees: its numbering. -/
theorem Chip.session_of_unqueued {c d : Chip} (h : c.unsettled.unqueued = d.unsettled.unqueued) (slot : Nat) : c.session slot = d.session slot := by
  have hsession := congrArg (fun x : Chip => x.session slot) h
  exact hsession

theorem Chip.takeId_of_unqueued {c d : Chip} (h : c.unsettled.unqueued = d.unsettled.unqueued) : c.lan.takeId = d.lan.takeId := by
  have htake := congrArg (fun x : Chip => x.lan.takeId) h
  exact htake

theorem Chip.now_of_unqueued {c d : Chip} (h : c.unsettled.unqueued = d.unsettled.unqueued) : c.now = d.now := by
  have hnow := congrArg Chip.now h
  exact hnow

/-- Takes that are admitted and not held are answered DONE with their identifier and wait in the queue. -/
theorem yields_takes {i : Instr} {s : State} {t slot m : Nat} {g f : Chip → Chip} {P : Chip → Prop} {asks : List TakeAsk} {nb : Option (Nat × Nat)}
    {notify salvo : Bool} {c1 : Chip} (hs : s.serving slot m 1) (h : exec i s = act t s g) (hg : g (s.upon t) = (s.upon t).request slot m 1 false true f)
    (hf : f (s.upon t) = (s.upon t).finishTakes slot m asks nb notify salvo []) (hheld : asks.any s.chip.mustHold = false)
    (hadmit : (s.upon t).admitAll (s.chip.lan.takeId + 1) nb notify slot (s.chip.session slot).id (if salvo then asks.length else 0) false 0 [] asks = .ok c1)
    (hP : ∀ c : Chip, c.lan.takeId = s.chip.lan.takeId + 1 → c.replied s.chip slot m done (beBytes 8 (s.chip.lan.takeId + 1)) →
      (∀ q ∈ asks, ∃ x ∈ c.xpt.queue, x.asked q (s.chip.lan.takeId + 1) (max s.chip.now t)) → P c) : Yields i s P := by
  have hheld' : asks.any (s.upon t).mustHold = false := hheld
  obtain ⟨e, hframe, hqueued, hfinish⟩ := (s.upon t).finishTakes_admitted c1 slot m asks nb notify salvo [] (by rw [hheld']; exact hadmit)
    (by rw [hheld']; exact fun hp => Bool.false_ne_true hp.1)
  rw [hheld', if_neg Bool.false_ne_true] at hfinish
  refine yields_of_request_at hs h hg ?_ fun d hd => ?_
  · rw [hf, hfinish]
    have hnow := Chip.now_of_unqueued hframe
    exact hnow
  · rw [hf, hfinish] at hd
    refine hP d ?_ (hd.replied (Chip.replied_respond ?_ _ _ _)) fun q hq => ?_
    · rw [hd.eq_of_frame (fun x => x.lan.takeId) fun _ _ _ _ => rfl]
      exact Chip.takeId_of_unqueued hframe
    · rw [Chip.session_of_unqueued hframe]
      rfl
    · rw [hd.eq_of_frame Chip.xpt fun _ _ _ _ => rfl]
      exact hqueued q hq

theorem Chip.takeRequest_of_local (c : Chip) (slot m : Nat) (asks : List TakeAsk) (nb : Option (Nat × Nat)) (notify salvo : Bool)
    (h : asks.any c.remoteInPart = false) : c.takeRequest slot m asks nb notify salvo = c.finishTakes slot m asks nb notify salvo [] := by
  refine if_neg fun hany => ?_
  obtain ⟨q, hq, hremote⟩ := List.any_eq_true.mp hany
  exact List.any_eq_false.mp h q hq (Bool.and_eq_true_iff.mp hremote).1

/-- One local take that passes its checks is admitted. -/
theorem Chip.admitAll_one (c : Chip) (q : TakeAsk) (id : Nat) (nb : Option (Nat × Nat)) (notify : Bool) (slot session salvo : Nat) (held : Bool)
    (hlocal : c.remoteInPart q = false) (hcheck : c.checkTake q nb none = none) :
    c.admitAll id nb notify slot session salvo held 0 [] [q] = .ok (c.enqueue q id nb notify slot session salvo held) := by
  simp only [Chip.admitAll, hlocal, Bool.false_eq_true, if_false, hcheck, Chip.reserveFor]

theorem Chip.dom_modDom (c : Chip) (td : Nat) (f : Domain → Domain) : (c.modDom td f).dom td = f (c.dom td) := Tbl.get_upd _ _ _ _

theorem Chip.dom_modDom_other (c : Chip) (td k : Nat) (f : Domain → Domain) (h : k ≠ td) : (c.modDom td f).dom k = c.dom k := Tbl.get_upd_other _ _ _ _ _ h

/-- A domain that awaits a realignment: the one it awaited already, else the new one. -/
def Domain.awaiting (r : Align) (m : Domain) : Domain := if m.pend.isSome then m else { m with pend := some r }

theorem Domain.pend_awaiting (r : Align) (m : Domain) : (m.awaiting r).pend = some (m.pend.getD r) := by
  unfold Domain.awaiting
  cases h : m.pend <;> simp [h]

/-- A realignment waits in each domain of the list. -/
theorem Chip.pend_awaiting (r : Align) (l : List Nat) (c : Chip) (td : Nat) :
    ((l.foldl (fun a td => a.modDom td (Domain.awaiting r)) c).dom td).pend = if td ∈ l then some ((c.dom td).pend.getD r) else (c.dom td).pend := by
  induction l generalizing c with
  | nil => rfl
  | cons k l ih =>
    rw [List.foldl_cons, ih]
    by_cases hk : td = k
    · subst hk
      rw [Chip.dom_modDom, Domain.pend_awaiting, Option.getD_some, ite_self, if_pos List.mem_cons_self]
    · rw [Chip.dom_modDom_other _ _ _ _ hk]
      simp only [List.mem_cons, hk, false_or]

theorem Chip.realign_eq (c : Chip) (mask : Nat) :
    c.realign mask = ([0, 1, 2, 3].filter (fun td => bit mask td)).foldl (fun a td => a.modDom td (Domain.awaiting ⟨c.now + msU 1, 2⟩)) c := rfl

/-- The module but for its timing domains. -/
def Chip.untimed (c : Chip) : Chip := { c with tick := { c.tick with domains := [] } }

theorem Chip.untimed_realign (c : Chip) (mask : Nat) : (c.realign mask).untimed = c.untimed := by
  rw [Chip.realign_eq]
  exact List.foldl_keeps (fun a : Chip => a.untimed = c.untimed) (fun a td => a.modDom td (Domain.awaiting ⟨c.now + msU 1, 2⟩)) (fun _ _ ha => ha) _ _ rfl

theorem Chip.pend_realign (c : Chip) (mask td : Nat) (htd : td < 4) (hmask : bit mask td = true) :
    ((c.realign mask).dom td).pend = some ((c.dom td).pend.getD ⟨c.now + msU 1, 2⟩) := by
  have hmem : td ∈ [0, 1, 2, 3].filter (fun td => bit mask td) := by
    refine List.mem_filter.mpr ⟨?_, hmask⟩
    simp only [List.mem_cons, List.not_mem_nil, or_false]
    omega
  rw [Chip.realign_eq, Chip.pend_awaiting, if_pos hmem]

/-- The module without takes of an identifier, of pictures and of sound. -/
def Chip.withoutTakes (c : Chip) (id : Nat) : Chip :=
  { c with xpt := { c.xpt with queue := c.xpt.queue.filter (fun q => q.id != id), audQueue := c.xpt.audQueue.filter (fun q => q.id != id) } }

/-- After a cancel no take of the identifier waits, whatever is staged again. -/
theorem Chip.cancelled_spec (c before : Chip) (tds : List Nat) (id : Nat) :
    (tds.foldl Chip.restage ((c.withoutTakes id).settle before)).unsettled.unqueued = (c.withoutTakes id).unsettled.unqueued ∧
      (∀ q ∈ (tds.foldl Chip.restage ((c.withoutTakes id).settle before)).xpt.queue, q.id ≠ id) := by
  have hsettle := (c.withoutTakes id).unsettled_settle before
  have hrest := congrArg Chip.unsettled (Chip.unqueued_restages ((c.withoutTakes id).settle before) tds)
  refine ⟨hrest.trans (congrArg Chip.unqueued hsettle), fun q hq => ?_⟩
  have hmem : q.unstaged ∈ (c.withoutTakes id).takes := by
    have htakes : ((c.withoutTakes id).settle before).takes = (c.withoutTakes id).takes := by
      rw [Chip.takes, Chip.xpt_of_unsettled hsettle]
      rfl
    rw [← htakes, ← Chip.takes_restages _ tds]
    exact List.mem_map_of_mem hq
  obtain ⟨x, hx, hxq⟩ := List.mem_map.mp hmem
  have hid := congrArg Take.id hxq
  have hid : x.id = q.id := hid
  rw [← hid]
  exact bne_iff_ne.mp (List.mem_filter.mp hx).2

/-- Settles O8, a request at a time. -/
theorem crosspointRequestsComplete : Obligations.CrosspointRequestsComplete := by
  refine ⟨?_, ?_, ?_, ?_, ?_⟩
  · intro s t slot body q nb hs hbody hlocal hheld hcheck
    have hexec : exec (.take t slot body) s = execTake t slot body s := rfl
    refine yields_takes (asks := [q]) (nb := nb) (notify := bit (u8 body 7) 0) (salvo := false) (f := fun c => c.takeMsg slot body) hs hexec ?_
      ((s.upon t).takeRequest_of_local slot 0x0101 [q] nb (bit (u8 body 7) 0) false ?_) ?_ (Chip.admitAll_one _ _ _ _ _ _ _ _ _ hlocal hcheck) ?_
    · rw [hbody]
    · exact (Bool.or_false _).trans hlocal
    · exact (Bool.or_false _).trans hheld
    · exact fun c htake hreply hqueue => ⟨htake, hreply, hqueue q (List.mem_singleton_self q)⟩
  · intro s t slot body c1 asks nb hs hbody hne hmany hdup hlocal hheld hadmit
    have hexec : exec (.salvo t slot body) s = execSalvo t slot body s := rfl
    refine yields_takes (asks := asks) (nb := nb) (notify := bit (u8 body 2) 0) (salvo := true) hs hexec (f := fun c => c.salvoMsg slot body) ?_ ?_ hheld hadmit ?_
    · rw [hbody]
    · have hempty : (asks.isEmpty || decide (4096 < asks.length)) = false := by
        simp [hne, hmany]
      have hcode : firstCode [(asks.isEmpty || decide (4096 < asks.length), 0x020E), (hasDup (asks.map TakeAsk.dst), 0x020F)] = none := by
        rw [hempty, hdup]
        rfl
      refine Eq.trans ?_ ((s.upon t).takeRequest_of_local slot 0x0102 asks nb (bit (u8 body 2) 0) true hlocal)
      unfold Chip.salvoMsg
      dsimp only
      rw [hcode]
    · refine fun c htake hreply hqueue => ⟨htake, hreply, fun q hq => ?_⟩
      obtain ⟨x, hx, hid, hdst, hsrc, hlevels, -⟩ := hqueue q hq
      exact ⟨x, hx, hid, hdst, hsrc, hlevels⟩
  · intro s t slot body id hs hlen hsome htakes haud
    have hexec : exec (.cancel t slot body) s = execCancel t slot body s := rfl
    have hnone : (((s.upon t).xpt.queue.filter (fun q => q.id == id)).isEmpty && ((s.upon t).xpt.audQueue.filter (fun q => q.id == id)).isEmpty) = false := by
      rw [Bool.and_eq_false_iff]
      exact hsome.imp (fun h => List.isEmpty_eq_false_iff.mpr h) (fun h => List.isEmpty_eq_false_iff.mpr h)
    have hstaged : (((s.upon t).xpt.queue.filter (fun q => q.id == id)).any (fun q => q.staged) ||
        ((s.upon t).xpt.queue.filter (fun q => q.id == id)).any (fun q => decide (((s.upon t).xpt.queue.filter (fun q => q.id == id)).length < q.salvo)) ||
        ((s.upon t).xpt.audQueue.filter (fun q => q.id == id)).any (fun q => decide (q.records.length < q.count))) = false := by
      simp only [Bool.or_eq_false_iff, List.any_eq_false, List.mem_filter, beq_iff_eq, decide_eq_true_eq, not_lt, Bool.not_eq_true, and_imp]
      exact ⟨⟨fun q hq hid => (htakes q hq hid).1, fun q hq hid => (htakes q hq hid).2⟩, fun q hq hid => haud q hq hid⟩
    obtain ⟨hframe, hqueue⟩ := (s.upon t).cancelled_spec (s.upon t)
      (dedup (((s.upon t).xpt.queue.filter (fun q => q.id == id)).map (fun q => (s.upon t).dstTd q.dst))) id
    refine yields_of_request hs hexec (decide_eq_true hlen) ?now ?post
    all_goals
      dsimp only
      rw [hnone, hstaged]
    case now =>
      have hnow := Chip.now_of_unqueued hframe
      exact hnow
    case post =>
      intro d hd
      have hxpt := hd.eq_of_frame Chip.xpt fun _ _ _ _ => rfl
      refine ⟨hd.replied (Chip.replied_respond ?_ _ _ _), ?_, ?_⟩
      · have hsession := congrArg Session.done (Chip.session_of_unqueued hframe slot)
        exact hsession
      · rw [hxpt]
        exact hqueue
      · rw [hxpt]
        have haud := congrArg (fun x : Chip => x.xpt.audQueue) hframe
        intro q hq
        have hq' : q ∈ (s.upon t).xpt.audQueue.filter (fun q => q.id != id) := by
          rw [← show _ = (s.upon t).xpt.audQueue.filter (fun q => q.id != id) from haud]
          exact hq
        exact bne_iff_ne.mp (List.mem_filter.mp hq').2
  · intro s t slot body hs hbody hheld hcheck
    have hexec : exec (.audioTake t slot body) s = execAudioTake t slot body s := rfl
    have hheld' : (s.upon t).audMustHold (audioRecords body) = false := hheld
    refine yields_of_request hs hexec hbody ?now ?post
    all_goals
      unfold Chip.audioTakeMsg
      dsimp only
      rw [hcheck, hheld']
    case now => rfl
    case post =>
      intro d hd
      refine ⟨?_, hd.replied (Chip.replied_respond rfl _ _ _), ?_⟩
      · rw [hd.eq_of_frame (fun x => x.lan.takeId) fun _ _ _ _ => rfl]
        rfl
      · rw [hd.eq_of_frame Chip.xpt fun _ _ _ _ => rfl]
        exact ⟨_, List.mem_append_right _ (List.mem_singleton_self _), rfl, rfl⟩
  · intro s t slot body hs hlen hmask hzero hgood
    have hexec : exec (.realign t slot body) s = execRealign t slot body s := rfl
    have hgood' : (s.upon t).realignBad (u8 body 0) = false := hgood
    refine yields_of_request hs hexec (by rw [decide_eq_true hlen, decide_eq_true hmask, hzero]; rfl) ?now ?post
    case now =>
      rw [hgood', if_neg Bool.false_ne_true]
      have hnow := congrArg Chip.now ((s.upon t).untimed_realign (u8 body 0))
      exact hnow
    case post =>
      rw [hgood', if_neg Bool.false_ne_true]
      intro d hd
      refine ⟨hd.replied (Chip.replied_respond ?_ _ _ _), fun td htd hbit => ?_⟩
      · have hsession := congrArg (fun x : Chip => (x.session slot).done) ((s.upon t).untimed_realign (u8 body 0))
        exact hsession
      · rw [hd.eq_of_frame (fun x => (x.dom td).pend) fun _ _ _ _ => rfl]
        exact (s.upon t).pend_realign (u8 body 0) td htd hbit

end Sys2Proof.Machine
end

section
/-! PROOFS. Resets, and the loss of LO_CLK. -/

namespace Sys2Proof.Machine

/-! ## Commands that always act -/

theorem yields_of_actAlways {i : Instr} {s : State} {t : Nat} {f : Chip → Chip} {P : Chip → Prop} (h : exec i s = actAlways t s f)
    (hP : P { f (s.upon t) with now := max s.chip.now t }) : Yields i s P := ⟨_, h, hP⟩

theorem yieldsMem_of_actMemAlways {i : Instr} {s : State} {t : Nat} {f : Chip → Tbl Byte → Chip × Tbl Byte} {P : Chip → Tbl Byte → Prop}
    (h : exec i s = actMemAlways t s f) (hP : P { (f (s.upon t) s.mem).1 with now := max s.chip.now t } (f (s.upon t) s.mem).2) : YieldsMem i s P := ⟨_, _, h, hP⟩

/-! ## What a reset leaves -/

theorem bit_eq_testBit (v i : Nat) : bit v i = v.testBit i := by
  rw [bit, Nat.testBit_eq_decide_div_mod_eq, beq_eq_decide]

/-- The state a reset begins with, registers and messages aside. -/
theorem Chip.resetFor_eq (c : Chip) (cause : Nat) :
    c.resetFor cause = { Chip.reset with
      now := c.now, free := c.free, sent := (c.resetFor cause).sent, regs := (c.resetFor cause).regs, run := .inReset, released := c.now,
      boot := { BootSt.reset with causes := (if c.run = .inReset then c.boot.causes else 0) ||| cause }, cap := c.cap.kept, pin := c.pin,
      pwr := { PwrSt.reset with alert := c.pwr.alert, railLow := c.pwr.railLow, tripped := c.pwr.tripped, due := c.pwr.due } } := by
  cases hseen : c.isSet Reg.PWR_STATUS_TRIP_SEEN 0 <;> simp [Chip.resetFor, hseen, Chip.emit, Chip.mark, Chip.set]

/-- The cause of a reset is noted. -/
theorem Chip.bit_causes_resetFor (c : Chip) (i : Nat) : bit (c.resetFor (2 ^ i)).boot.causes i = true := by
  rw [c.resetFor_eq, bit_eq_testBit, Nat.testBit_or, Nat.testBit_two_pow_self, Bool.or_true]

theorem Tbl.get_below {α : Type} [DecidableEq α] (d : α) (t : Tbl α) {lo k : Nat} (h : Tbl.okAbove d (some lo) t = true) (hk : k ≤ lo) : Tbl.get d t k = d := by
  cases t with
  | nil => rfl
  | cons e r =>
    obtain ⟨a, v⟩ := e
    simp only [Tbl.okAbove, Bool.and_eq_true, decide_eq_true_eq] at h
    have hlt : k < a := lt_of_le_of_lt hk (by tauto)
    rw [Tbl.get, if_neg (Nat.ne_of_lt hlt), if_pos hlt]

/-- A canonical table of which some addresses are kept. -/
theorem Tbl.get_filter_addr {α : Type} [DecidableEq α] (d : α) (p : Nat → Bool) (t : Tbl α) (lo : Option Nat) (h : Tbl.okAbove d lo t = true) (k : Nat) :
    Tbl.get d (t.filter (fun e => p e.1)) k = if p k = true then Tbl.get d t k else d := by
  induction t generalizing lo with
  | nil => exact (ite_self _).symm
  | cons e r ih =>
    obtain ⟨a, v⟩ := e
    have hrest : Tbl.okAbove d (some a) r = true := by
      simp only [Tbl.okAbove, Bool.and_eq_true] at h
      exact h.2
    rw [List.filter_cons]
    rcases lt_trichotomy k a with hlt | rfl | hgt
    · have hread : Tbl.get d ((a, v) :: r) k = d := by rw [Tbl.get, if_neg (Nat.ne_of_lt hlt), if_pos hlt]
      rw [hread, ite_self]
      split_ifs
      · rw [Tbl.get, if_neg (Nat.ne_of_lt hlt), if_pos hlt]
      · rw [ih _ hrest, Tbl.get_below d r hrest (le_of_lt hlt), ite_self]
    · split_ifs with hp
      · rw [Tbl.get, Tbl.get, if_pos rfl, if_pos rfl]
      · rw [ih _ hrest, if_neg hp]
    · have hread (l : Tbl α) : Tbl.get d ((a, v) :: l) k = Tbl.get d l k := by rw [Tbl.get, if_neg (Nat.ne_of_gt hgt), if_neg (Nat.lt_asymm hgt)]
      rw [hread, ← ih _ hrest]
      split_ifs
      · exact hread _
      · rfl

theorem memByte_flashOnly (m : Tbl Byte) (h : Memory.wf m = true) (a : Nat) :
    memByte (flashOnly m) a = if flashBase ≤ a ∧ a < flashBase + 0x10000000 then memByte m a else memUnlisted := by
  refine (Tbl.get_filter_addr memUnlisted (fun a => decide (flashBase ≤ a) && decide (a < flashBase + 0x10000000)) m none h a).trans ?_
  simp only [Bool.and_eq_true, decide_eq_true_eq]
  rfl

/-- Settles O3, a command at a time. -/
theorem resetCausesEnterReset : Obligations.ResetCausesEnterReset := by
  refine ⟨fun s t hm => ?_, fun s t hm => ?_, fun s t => rfl, fun s t key hs hm hkey => ?_, fun s t key hs hkey => ?_, fun s t rail mv hm => ?_,
    fun s t sensor reading hm => ?_, fun s t htripped => ?_, fun s t takes => ?_⟩
  · have hexec : exec (.powerOn t) s = execPowerOn t s := rfl
    have hcause := (s.upon t).bit_causes_resetFor 0
    refine yieldsMem_of_actMemAlways hexec ?_
    dsimp only [Chip.inReset]
    rw [Chip.resetFor_eq] at hcause ⊢
    exact ⟨rfl, hcause, rfl, rfl, rfl, rfl, memByte_flashOnly s.mem hm⟩
  · have hexec : exec (.resetPin t true) s = execResetPin t true s := rfl
    have hcause := (s.upon t).bit_causes_resetFor 1
    refine yieldsMem_of_actMemAlways hexec ?_
    rw [if_pos rfl]
    dsimp only [Chip.inReset]
    rw [Chip.resetFor_eq] at hcause ⊢
    exact ⟨rfl, hcause, rfl, rfl, rfl, rfl, memByte_flashOnly s.mem hm⟩
  · have hexec : exec (.coldReset t key) s = execColdReset t key s := rfl
    have hcause := (s.upon t).bit_causes_resetFor 2
    refine yieldsMem_of_actMem hs hexec ?_
    rw [Chip.coldReset, if_pos hkey]
    dsimp only [Chip.inReset]
    rw [Chip.resetFor_eq] at hcause ⊢
    exact ⟨rfl, hcause, rfl, rfl, rfl, memByte_flashOnly s.mem hm⟩
  · have hexec : exec (.coldReset t key) s = execColdReset t key s := rfl
    rw [hexec, execColdReset, actMem_runs _ _ _ hs, Chip.coldReset, if_neg hkey]
    rfl
  · have hexec : exec (.railReset t rail mv) s = execRailReset t rail mv s := rfl
    refine yieldsMem_of_actMemAlways hexec ?_
    dsimp only [Chip.inReset]
    rw [Chip.resetFor_eq]
    exact ⟨rfl, rfl, rfl, rfl, rfl, memByte_flashOnly s.mem hm⟩
  · have hexec : exec (.thermalTrip t sensor reading) s = execThermalTrip t sensor reading s := rfl
    refine yieldsMem_of_actMemAlways hexec ?_
    dsimp only [Chip.inReset]
    rw [Chip.resetFor_eq]
    exact ⟨rfl, rfl, Chip.isSet_mark _ _ rfl, rfl, rfl, rfl, memByte_flashOnly s.mem hm⟩
  · have hexec : exec (.thermalTripRecovery t) s = execThermalTripRecovery t s := rfl
    rw [hexec, execThermalTripRecovery, actAlways, Chip.begin_pwr, if_pos htripped]
    rfl
  · cases takes <;> rfl

/-! ## The loss of LO_CLK -/

theorem List.foldl_keeps_mem {α β : Type} (P : β → Prop) (f : β → α → β) (l : List α) (hf : ∀ b, ∀ a ∈ l, P b → P (f b a)) (b : β) (h : P b) : P (l.foldl f b) := by
  induction l generalizing b with
  | nil => exact h
  | cons a l ih => exact ih (fun b x hx => hf b x (List.mem_cons_of_mem _ hx)) _ (hf b a List.mem_cons_self h)

theorem Chip.sameRegs_refl (c : Chip) (fs : List Fld) : c.sameRegs c fs := fun _ _ _ _ _ => rfl

/-- Two changes of the same fields. -/
theorem Chip.sameRegs_chain {c d e : Chip} {fs : List Fld} (h : c.sameRegs d fs) (h' : d.sameRegs e fs) : c.sameRegs e fs :=
  fun f b hf hb hne => (h f b hf hb hne).trans (h' f b hf hb hne)

theorem Chip.sameRegs_showIdle (c : Chip) : c.showIdle.sameRegs c [Reg.LNE_L_STATE_TX_IDLE] := by
  refine List.foldl_keeps_mem (fun a : Chip => a.sameRegs c [Reg.LNE_L_STATE_TX_IDLE]) _ _ (fun a l hl ha => ?_) _ (c.sameRegs_refl _)
  have hbank : l < 1048576 := lt_trans (List.mem_range.mp hl) (by decide)
  split
  · exact Chip.sameRegs_chain (a.sameRegs_set Reg.LNE_L_STATE_TX_IDLE l _ (by decide) hbank) ha
  · exact ha

/-- The module but for its registers. -/
def Chip.unregistered (c : Chip) : Chip := { c with regs := [] }

theorem Chip.unregistered_showIdle (c : Chip) : c.showIdle.unregistered = c.unregistered := by
  refine List.foldl_keeps (fun a : Chip => a.unregistered = c.unregistered) _ (fun a l ha => ?_) _ _ rfl
  split
  · exact ha
  · exact ha

/-- A field that is not TX_IDLE of a lane. -/
theorem Chip.fld_showIdle (c : Chip) (f : Fld) (hf : f.lo < 32) (hne : f.addr ≠ Reg.LNE_L_STATE_TX_IDLE.addr) : c.showIdle.fld f 0 = c.fld f 0 :=
  c.sameRegs_showIdle f 0 hf (by decide) (fun g hg => .inl (by rw [List.mem_singleton.mp hg]; exact hne))

section
variable {c d : Chip} (h : c.unregistered = d.unregistered)
include h

theorem Chip.boot_of_unregistered : c.boot = d.boot := by
  have hboot := congrArg Chip.boot h
  exact hboot

theorem Chip.tick_of_unregistered : c.tick = d.tick := by
  have htick := congrArg Chip.tick h
  exact htick

theorem Chip.ref_of_unregistered : c.ref = d.ref := by
  have href := congrArg Chip.ref h
  exact href

end

/-- The module that waits for LO_CLK, but for the idle lanes shown. -/
def Chip.loWaiting (c : Chip) : Chip :=
  ((({ c with boot := { c.boot with lo := false }, tick := { c.tick with running := false }, ref := { c.ref with history := [] } } : Chip).set
    Reg.REFS_STATUS_LO_OK 0 0).set Reg.REFS_DPLL_HIST_VALID 0 0).set Reg.REFS_DPLL_HIST_S 0 0 |>.set Reg.BOOT_STATUS_LO_WAIT 0 1

theorem exec_refLoLost (s : State) (t : Nat) (hs : s.runs) (hlo : s.chip.boot.lo = true) (hbooted : s.chip.boot.booted = true) :
    ∃ r : Chip × Tbl Byte, exec (.refLoLost t) s = .next { s with chip := { r.1.loWaiting.showIdle with now := max s.chip.now t }, mem := r.2 } := by
  have hexec : exec (.refLoLost t) s = execRefLoLost t s := rfl
  have hstarted : (s.upon t).boot.lo = true ∧ (s.upon t).boot.booted = true := ⟨hlo, hbooted⟩
  refine ⟨(((s.upon t).event Ev.refLoLost []).releaseAct).commitAll s.mem, ?_⟩
  rw [hexec, execRefLoLost, actMem_runs _ _ _ hs, if_pos hstarted]
  rfl

/-- Settles O6, a command at a time. -/
theorem localOscillatorCommandsComplete : Obligations.LocalOscillatorCommandsComplete := by
  refine ⟨fun s t hs hlo hbooted => ?_, fun s t hs hm hlo hbooted => ?_⟩
  · obtain ⟨r, hr⟩ := exec_refLoLost s t hs hlo hbooted
    have hidle := r.1.loWaiting.unregistered_showIdle
    have hlo : r.1.loWaiting.showIdle.boot.lo = false := by rw [Chip.boot_of_unregistered hidle]; rfl
    have hrunning : r.1.loWaiting.showIdle.tick.running = false := by rw [Chip.tick_of_unregistered hidle]; rfl
    have hhistory : r.1.loWaiting.showIdle.ref.history = [] := by rw [Chip.ref_of_unregistered hidle]; rfl
    have hok : r.1.loWaiting.showIdle.fld Reg.REFS_STATUS_LO_OK 0 = 0 := by
      rw [Chip.fld_showIdle _ _ (by decide) (by decide), Chip.loWaiting, Chip.fld_set_other _ _ _ _ _ _ (by decide),
        Chip.fld_set_other _ _ _ _ _ _ (by decide), Chip.fld_set_other _ _ _ _ _ _ (by decide), Chip.fld_set]
      rfl
    have hwait : r.1.loWaiting.showIdle.fld Reg.BOOT_STATUS_LO_WAIT 0 = 1 := by
      rw [Chip.fld_showIdle _ _ (by decide) (by decide), Chip.loWaiting, Chip.fld_set]
      rfl
    have hhist : r.1.loWaiting.showIdle.fld Reg.REFS_DPLL_HIST_S 0 = 0 := by
      rw [Chip.fld_showIdle _ _ (by decide) (by decide), Chip.loWaiting, Chip.fld_set_other _ _ _ _ _ _ (by decide), Chip.fld_set]
      rfl
    clear hidle
    generalize r.1.loWaiting.showIdle = d at hr hlo hrunning hhistory hok hwait hhist
    have hclear : d.isSet Reg.REFS_STATUS_LO_OK 0 = false := by rw [Chip.isSet, hok]; rfl
    have hset : d.isSet Reg.BOOT_STATUS_LO_WAIT 0 = true := by rw [Chip.isSet, hwait]; rfl
    exact ⟨_, _, hr, hlo, hrunning, hhistory, hclear, hset, hhist⟩
  · have hexec : exec (.loClkRecovered t) s = execLoClkRecovered t s := rfl
    have hwaits : (s.upon t).boot.lo = false ∧ (s.upon t).boot.booted = true := ⟨hlo, hbooted⟩
    have hcause := (s.upon t).bit_causes_resetFor 2
    refine yieldsMem_of_actMem hs hexec ?_
    rw [if_pos hwaits]
    dsimp only [Chip.inReset]
    rw [Chip.resetFor_eq] at hcause ⊢
    exact ⟨rfl, hcause, rfl, rfl, memByte_flashOnly s.mem hm⟩

/-! ## Supplies, temperatures and the management target -/

/-- The sum of the powers of two of the places whose bit is set is below the next power. -/
theorem sum_bits_lt {α : Type} (p : α → Bool) (l : List α) : (l.zipIdx.map (fun e => if p e.1 then 2 ^ e.2 else 0)).sum < 2 ^ l.length := by
  induction l using List.reverseRecOn with
  | nil => exact Nat.one_pos
  | append_singleton l x ih =>
    rw [List.zipIdx_append, List.map_append, List.sum_append, List.length_append]
    simp only [List.zipIdx_singleton, List.map_cons, List.map_nil, List.sum_cons, List.sum_nil, List.length_singleton, Nat.zero_add, Nat.add_zero, Nat.pow_succ]
    split_ifs <;> omega

/-- A word assembled bit by bit shows each bit. -/
theorem bit_sum_bits {α : Type} (p : α → Bool) (d : α) (l : List α) (n : Nat) (hn : n < l.length) :
    bit (l.zipIdx.map (fun e => if p e.1 then 2 ^ e.2 else 0)).sum n = p (l.getD n d) := by
  induction l using List.reverseRecOn with
  | nil => exact absurd hn (Nat.not_lt_zero _)
  | append_singleton l x ih =>
    have hlt := sum_bits_lt p l
    rw [List.zipIdx_append, List.map_append, List.sum_append]
    simp only [List.zipIdx_singleton, List.map_cons, List.map_nil, List.sum_cons, List.sum_nil, Nat.zero_add, Nat.add_zero]
    rcases Nat.lt_or_ge n l.length with hin | hlast
    · rw [List.getD_append _ _ _ _ hin, ← ih hin, bit_eq_testBit, bit_eq_testBit]
      split_ifs
      · rw [Nat.add_comm, Nat.testBit_two_pow_add_gt hin]
      · rw [Nat.add_zero]
    · have hn' : n = l.length := by
        rw [List.length_append, List.length_singleton] at hn
        omega
      subst hn'
      rw [List.getD_append_right _ _ _ _ (le_refl _), Nat.sub_self, bit_eq_testBit]
      have hzero := Nat.testBit_lt_two_pow hlt
      split_ifs with hp
      · rw [Nat.add_comm, Nat.testBit_two_pow_add_eq, hzero, List.getD_cons_zero, hp]
        rfl
      · rw [Nat.add_zero, hzero, List.getD_cons_zero]
        exact (Bool.not_eq_true _ ▸ hp).symm

theorem getD_zip {α β : Type} (l : List α) (r : List β) (a : α) (b : β) (n : Nat) (hl : n < l.length) (hr : n < r.length) :
    (l.zip r).getD n (a, b) = (l.getD n a, r.getD n b) := by
  have hzip : n < (l.zip r).length := by rw [List.length_zip]; exact lt_min hl hr
  rw [List.getD_eq_getElem _ _ hzip, List.getD_eq_getElem _ _ hl, List.getD_eq_getElem _ _ hr, List.getElem_zip]

/-- The word of the supply monitor shows the state of each rail. -/
theorem bit_railWord (mv : List Nat) (hlen : mv.length = 11) (n : Nat) (hn : n < 11) :
    bit ((mv.zip rails).zipIdx.map (fun e => if railOk e.1.2.1 e.1.2.2.1 e.1.1 then 2 ^ e.2 else 0)).sum n =
      railOk (rails.getD n (0, 0, 0)).1 (rails.getD n (0, 0, 0)).2.1 (mv.getD n 0) := by
  have hmv : n < mv.length := by rw [hlen]; exact hn
  have hzip : n < (mv.zip rails).length := by rw [List.length_zip]; exact lt_min hmv hn
  rw [bit_sum_bits (fun x : Nat × Nat × Nat × Nat => railOk x.2.1 x.2.2.1 x.1) (0, 0, 0, 0) _ n hzip, getD_zip mv rails 0 (0, 0, 0) n hmv hn]

/-- Below the limit threshold no state of the limit begins. -/
theorem thermState_limit (was : Bool) (hot : Int) (h : hot < 1840) : (thermState was 115 hot && !was) = false := by
  have hlimit : ¬((((16 * 115 : Nat) : Int)) ≤ hot) := by push_cast; omega
  unfold thermState
  rw [if_neg hlimit]
  split_ifs
  · rfl
  · cases was <;> rfl

/-- Where the limit is not crossed, judging the heat writes no register but that of ALERT. -/
theorem Chip.fld_judgeHeat (c : Chip) (h : Int × Nat) (f : Fld) (hrun : c.run = .running) (hcool : h.1 < 1840) (hne : f.key 0 ≠ Reg.PWR_STATUS_ALERT.key 0) :
    (c.judgeHeat h).fld f 0 = c.fld f 0 := by
  unfold Chip.judgeHeat
  dsimp only
  rw [hrun, thermState_limit _ _ hcool, if_pos (beq_self_eq_true _), if_neg Bool.false_ne_true, Chip.eventIf_fld, Chip.eventIf_fld,
    Chip.fld_set_other _ _ _ _ _ _ hne]
  split_ifs <;> rfl

/-- The hold of the supplies begins. -/
def Chip.beginHold (c : Chip) (h : SupplyHold) : Chip :=
  (((({ c with pwr := { c.pwr with hold := some h }, cap := { c.cap with hold := true } } : Chip).set Reg.PWR_STATUS_HOLD 0 1).mark
    Reg.PWR_STATUS_HOLD_SEEN).count Reg.PWR_HOLDS_COUNT 0 1).event Ev.pwrSupplyHold [h.conds, 0]

/-- A hold that begins is shown, seen, counted and recorded. -/
theorem Chip.beginHold_spec (c : Chip) (h : SupplyHold) :
    (c.beginHold h).isSet Reg.PWR_STATUS_HOLD 0 = true ∧ (c.beginHold h).isSet Reg.PWR_STATUS_HOLD_SEEN 0 = true ∧
      (c.beginHold h).fld Reg.PWR_HOLDS_COUNT 0 = min (c.fld Reg.PWR_HOLDS_COUNT 0 + 1) 4294967295 ∧
      (c.beginHold h).sameRegs c [Reg.PWR_STATUS_HOLD, Reg.PWR_STATUS_HOLD_SEEN, Reg.PWR_HOLDS_COUNT] := by
  refine ⟨?_, ?_, ?_, fun f b hf hb hne => ?_⟩
  · rw [Chip.isSet, Chip.beginHold, Chip.event_fld, Chip.count_eq, Chip.fld_set_other _ _ _ _ _ _ (by decide), Chip.mark_eq,
      Chip.fld_set_other _ _ _ _ _ _ (by decide), Chip.fld_set]
    rfl
  · rw [Chip.isSet, Chip.beginHold, Chip.event_fld, Chip.count_eq, Chip.fld_set_other _ _ _ _ _ _ (by decide), Chip.fld_mark _ _ rfl]
    rfl
  · rw [Chip.beginHold, Chip.event_fld, Chip.fld_count, Chip.mark_eq, Chip.fld_set_other _ _ _ _ _ _ (by decide),
      Chip.fld_set_other _ _ _ _ _ _ (by decide)]
    rfl
  · have hother (g : Fld) (hg : g ∈ [Reg.PWR_STATUS_HOLD, Reg.PWR_STATUS_HOLD_SEEN, Reg.PWR_HOLDS_COUNT]) (hlo : g.lo < 32) : f.key b ≠ g.key 0 :=
      Fld.key_ne hf hlo hb (by decide) (hne g hg)
    rw [Chip.beginHold, Chip.event_fld, Chip.count_eq, Chip.fld_set_other _ _ _ _ _ _ (hother _ (by decide) (by decide)), Chip.mark_eq,
      Chip.fld_set_other _ _ _ _ _ _ (hother _ (by decide) (by decide)), Chip.fld_set_other _ _ _ _ _ _ (hother _ (by decide) (by decide))]
    rfl

/-- The module with WARN_N low. -/
def Chip.warned (c : Chip) : Chip := ({ c with pin := { c.pin with warnLow := true } } : Chip).set Reg.PWR_STATUS_WARN_IN 0 1

theorem Chip.sameRegs_warned (c : Chip) : c.warned.sameRegs c [Reg.PWR_STATUS_WARN_IN] :=
  Chip.sameRegs_set ({ c with pin := { c.pin with warnLow := true } } : Chip) Reg.PWR_STATUS_WARN_IN 0 1 (by decide) (by decide)

/-- The hold of the supplies ends. -/
def Chip.endHold (c : Chip) (h : SupplyHold) : Chip :=
  ((({ ({ c with pin := { c.pin with warnLow := false } } : Chip).set Reg.PWR_STATUS_WARN_IN 0 0 with
    pwr := { c.pwr with hold := none }, cap := { c.cap with hold := false } } : Chip).set Reg.PWR_STATUS_HOLD 0 0).peak Reg.PWR_HOLD_MAX_US 0
    ((c.now - h.since) / 27000)).event Ev.pwrSupplyOk [h.conds, (c.now - h.since) / 27000]

theorem Chip.endHold_spec (c : Chip) (h : SupplyHold) :
    (c.endHold h).isSet Reg.PWR_STATUS_HOLD 0 = false ∧
      (c.endHold h).sameRegs c [Reg.PWR_STATUS_WARN_IN, Reg.PWR_STATUS_HOLD, Reg.PWR_HOLD_MAX_US] := by
  refine ⟨?_, fun f b hf hb hne => ?_⟩
  · rw [Chip.isSet, Chip.endHold, Chip.event_fld, Chip.peak_eq, Chip.fld_set_other _ _ _ _ _ _ (by decide), Chip.fld_set]
    rfl
  · have hother (g : Fld) (hg : g ∈ [Reg.PWR_STATUS_WARN_IN, Reg.PWR_STATUS_HOLD, Reg.PWR_HOLD_MAX_US]) (hlo : g.lo < 32) : f.key b ≠ g.key 0 :=
      Fld.key_ne hf hlo hb (by decide) (hne g hg)
    rw [Chip.endHold, Chip.event_fld, Chip.peak_eq, Chip.fld_set_other _ _ _ _ _ _ (hother _ (by decide) (by decide)),
      Chip.fld_set_other _ _ _ _ _ _ (hother _ (by decide) (by decide))]
    exact Chip.fld_set_other _ _ _ _ _ _ (hother _ (by decide) (by decide))

/-- Four bytes read from a pointer: the value that stands there, the highest byte first, and the pointer at the next register. -/
theorem Chip.mgmtBytes_spec (c : Chip) (p : Nat) (hpointer : c.pin.pointer = p) (htaken : c.pin.taken = 0) :
    ((List.range 4).foldl (fun (a : Chip) _ => a.mgmtByte) c).sent = c.sent ++
      [.value (0x5A00 + p) (c.mgmtReg p / 0x1000000 % 256), .value (0x5A00 + p) (c.mgmtReg p / 0x10000 % 256),
        .value (0x5A00 + p) (c.mgmtReg p / 0x100 % 256), .value (0x5A00 + p) (c.mgmtReg p % 256)] ∧
    ((List.range 4).foldl (fun (a : Chip) _ => a.mgmtByte) c).pin.pointer = (p + 4) % 256 := by
  have hrange : List.range 4 = [0, 1, 2, 3] := rfl
  rw [hrange]
  simp [Chip.mgmtByte, hpointer, htaken, Chip.emit]

/-- Settles O5, a command at a time. -/
theorem powerAndPinCommandsComplete : Obligations.PowerAndPinCommandsComplete := by
  refine ⟨fun s t mv hlen => ?_, fun s t readings hlen => ?_, fun s t conds => ?_, fun s t h hs hhold => ?_, fun s t hs => ?_, fun s t p => ⟨?_, ?_⟩⟩
  · have hexec : exec (.supplyMonitorSample t mv) s = execSupplyMonitorSample t mv s := rfl
    refine yields_of_actAlways hexec fun n hn => ?_
    rw [if_pos hlen]
    exact bit_railWord mv hlen n hn
  · have hexec : exec (.temperatureSample t readings) s = execTemperatureSample t readings s := rfl
    refine yields_of_actAlways hexec ?_
    rw [if_pos hlen]
    refine ⟨rfl, fun hs hcool => ?_⟩
    have hrun : (s.upon t).run = .running := hs
    have hsample : (List.foldl (fun (a : Chip) (e : Int × Nat) => a.sampleTemp e.2 e.1) (s.upon t) readings.zipIdx).run = .running :=
      List.foldl_keeps (fun a : Chip => a.run = .running) (fun (a : Chip) (e : Int × Nat) => a.sampleTemp e.2 e.1) (fun _ _ ha => ha) _ _ hrun
    dsimp only
    rw [if_pos hrun]
    generalize List.foldl (fun (a : Chip) (e : Int × Nat) => a.sampleTemp e.2 e.1) (s.upon t) readings.zipIdx = d at hsample ⊢
    refine (Chip.fld_judgeHeat ((d.set Reg.PWR_TEMP_HOT_NOW 0 (unsigned 16 (hottest readings).1)).set Reg.PWR_TEMP_HOT_SENSOR 0 (hottest readings).2) (hottest readings) Reg.PWR_TEMP_HOT_NOW hsample hcool (by decide)).trans ?_
    rw [Chip.fld_set_other _ _ _ _ _ _ (by decide), Chip.fld_set]
    exact Nat.mod_eq_of_lt (by change _ < 65536; unfold unsigned; omega)
  · intro seen hs hhold hseen
    have hexec : exec (.supplyHoldStart t conds) s = execSupplyHoldStart t conds s := rfl
    have hhold' : (s.upon t).pwr.hold = none := hhold
    have hseen' : ¬((if (s.upon t).warnEn then conds.val else conds.val % 4) = 0) := hseen
    cases hwarn : bit conds.val 2 with
    | false =>
      obtain ⟨hset, hmark, hcount, hregs⟩ := (s.upon t).beginHold_spec { since := max s.chip.now t, conds := seen, holdup := s.chip.holdupUs }
      refine yields_of_eq (d := (s.upon t).beginHold { since := max s.chip.now t, conds := seen, holdup := s.chip.holdupUs }) hs hexec ?_ rfl
        ⟨rfl, rfl, hset, hmark, hcount, Chip.logged_event _ _ _, fun f b hf hb hne => hregs f b hf hb fun g hg => hne g (List.mem_cons_of_mem _ hg), rfl⟩
      dsimp only
      rw [hwarn, if_neg Bool.false_ne_true, if_neg hseen', hhold']
      rfl
    | true =>
      obtain ⟨hset, hmark, hcount, hregs⟩ := (s.upon t).warned.beginHold_spec { since := max s.chip.now t, conds := seen, holdup := s.chip.holdupUs }
      have hwarned : (s.upon t).warned.sameRegs s.chip [Reg.PWR_STATUS_WARN_IN] := (s.upon t).sameRegs_warned
      refine yields_of_eq (d := (s.upon t).warned.beginHold { since := max s.chip.now t, conds := seen, holdup := s.chip.holdupUs }) hs hexec ?_ rfl
        ⟨rfl, rfl, hset, hmark, ?_, Chip.logged_event _ _ _, Chip.sameRegs_trans hregs hwarned, rfl⟩
      · dsimp only
        rw [hwarn, if_pos rfl, if_neg hseen']
        split
        next h heq => exact absurd (hhold'.symm.trans heq) (by simp)
        next => rfl
      · rw [hcount, hwarned _ 0 (by decide) (by decide) (by decide)]
  · have hexec : exec (.supplyHoldEnd t) s = execSupplyHoldEnd t s := rfl
    have hhold' : (s.upon t).pwr.hold = some h := hhold
    obtain ⟨hset, hregs⟩ := (s.upon t).endHold_spec h
    refine yields_of_eq (d := (s.upon t).endHold h) hs hexec ?_ rfl ⟨rfl, rfl, hset, Chip.logged_event _ _ _, hregs⟩
    dsimp only
    split
    next heq => exact absurd (hhold'.symm.trans heq) (by simp)
    next k heq =>
      obtain rfl : h = k := Option.some.inj (hhold'.symm.trans heq)
      rfl
  · have hexec : exec (.pwrClrCnt t) s = execPwrClrCnt t s := rfl
    have hclear (f : Fld) (hf : f ∈ [Reg.PWR_HOLDS_COUNT, Reg.PWR_HOLD_MAX_US, Reg.PWR_RAIL_V_MIN_MV, Reg.PWR_RAIL_STATE_EXCURSIONS, Reg.PWR_TEMP_MAX])
        (b : Nat) (hb : b < 1048576) : (s.upon t).clrPwr.fld f b = f.reset := Chip.fld_clearAll _ _ f b hf hb
    refine yields_of_eq hs hexec rfl rfl ⟨hclear _ (by decide) 0 (by decide), hclear _ (by decide) 0 (by decide), fun n hn => ⟨?_, ?_⟩, fun n hn => ?_, rfl⟩
    · exact hclear Reg.PWR_RAIL_V_MIN_MV (by decide) n (by omega)
    · exact hclear Reg.PWR_RAIL_STATE_EXCURSIONS (by decide) n (by omega)
    · exact hclear Reg.PWR_TEMP_MAX (by decide) n (by omega)
  · rfl
  · have hexec : exec (.mgmtI2cTransfer t (some p) 4) s = execMgmtI2cTransfer t (some p) 4 s := rfl
    exact yields_of_actAlways hexec (Chip.mgmtBytes_spec { s.upon t with pin := { s.chip.pin with pointer := p, taken := 0 } } p rfl rfl)

end Sys2Proof.Machine
end

section
/-! PROOFS. Messages travel sealed: AES-256-GCM opens what it seals, and the datagrams of a message hold its body. -/

namespace Sys2Proof.Machine

/-! ## Lengths of the cipher -/

theorem length_beBytes (n v : Nat) : (beBytes n v).length = n := by
  induction n with
  | zero => rfl
  | succ n ih => rw [beBytes, List.length_cons, ih]

theorem length_xorL (a b : List Nat) : (xorL a b).length = min a.length b.length := List.length_zipWith

/-- Each word of the key schedule has four bytes. -/
theorem length_aesExpand_words (n i : Nat) (ws : List (List Nat)) (hlen : ws.length = 8) (hws : ∀ w ∈ ws, w.length = 4) : ∀ w ∈ aesExpand n i ws, w.length = 4 := by
  induction n generalizing i ws with
  | zero => exact fun _ hw => absurd hw List.not_mem_nil
  | succ n ih =>
    have hne : ws ≠ [] := List.ne_nil_of_length_pos (by omega)
    have hlast : (ws.getLastD []).length = 4 := by
      rw [List.getLastD_eq_getLast?, List.getLast?_eq_some_getLast hne]
      exact hws _ (List.getLast_mem hne)
    have hhead : (ws.headD []).length = 4 := by
      obtain ⟨x, xs, rfl⟩ := List.exists_cons_of_ne_nil hne
      exact hws x List.mem_cons_self
    rw [aesExpand]
    generalize ws.getLastD [] = last at hlast ⊢
    generalize hw : xorL (ws.headD []) (if i % 8 = 0 then xorL ((last.drop 1 ++ last.take 1).map aesS) [2 ^ (i / 8 - 1), 0, 0, 0]
      else if i % 8 = 4 then last.map aesS else last) = w
    have hword : w.length = 4 := by
      rw [← hw, length_xorL, hhead]
      split_ifs <;> simp [length_xorL, hlast]
    intro x hx
    rcases List.mem_cons.mp hx with rfl | hx
    · exact hword
    · refine ih (i + 1) (ws.drop 1 ++ [w]) (by simp [hlen]) (fun y hy => ?_) x hx
      rcases List.mem_append.mp hy with hy | hy
      · exact hws y (List.mem_of_mem_drop hy)
      · rw [List.mem_singleton.mp hy, hword]

theorem length_aesExpand (n i : Nat) (ws : List (List Nat)) : (aesExpand n i ws).length = n := by
  induction n generalizing i ws with
  | zero => rfl
  | succ n ih =>
    rw [aesExpand]
    exact congrArg (· + 1) (ih _ _)

/-- The first words of the schedule: the key itself. -/
theorem length_keyWords (k : List Nat) (hk : k.length = 32) : ∀ w ∈ (List.range 8).map (fun i => (k.drop (4 * i)).take 4), w.length = 4 := by
  intro w hw
  obtain ⟨i, hi, rfl⟩ := List.mem_map.mp hw
  have := List.mem_range.mp hi
  rw [List.length_take, List.length_drop, hk]
  omega

/-- The last round key has sixteen bytes. -/
theorem length_getLastD_aesKeys (key : List Byte) : ((aesKeys key).getLastD []).length = 16 := by
  have hk : ((key.map BitVec.toNat ++ List.replicate 32 0).take 32).length = 32 := by simp
  unfold aesKeys
  dsimp only
  generalize (key.map BitVec.toNat ++ List.replicate 32 0).take 32 = k at hk ⊢
  have hfirst := length_keyWords k hk
  generalize hf : (List.range 8).map (fun i => (k.drop (4 * i)).take 4) = first at hfirst ⊢
  have hlen : first.length = 8 := by rw [← hf, List.length_map, List.length_range]
  have hwords : ∀ w ∈ ((first ++ aesExpand 52 8 first).drop (4 * 14)).take 4, w.length = 4 := by
    intro w hw
    rcases List.mem_append.mp (List.mem_of_mem_drop (List.mem_of_mem_take hw)) with hw | hw
    · exact hfirst w hw
    · exact length_aesExpand_words 52 8 first hlen hfirst w hw
  have hfour : (((first ++ aesExpand 52 8 first).drop (4 * 14)).take 4).map List.length = List.replicate 4 4 := by
    refine List.eq_replicate_iff.mpr ⟨?_, fun n hn => ?_⟩
    · rw [List.length_map, List.length_take, List.length_drop, List.length_append, length_aesExpand, hlen]
      rfl
    · obtain ⟨w, hw, rfl⟩ := List.mem_map.mp hn
      exact hwords w hw
  rw [List.range_succ, List.map_append, List.map_singleton, List.getLastD_concat, List.length_flatten, hfour]
  rfl

/-- A block is sixteen bytes. -/
theorem length_aesBlock (key : List Byte) (block : List Nat) : (aesBlock (aesKeys key) block).length = 16 := by
  rw [aesBlock, length_xorL, length_getLastD_aesKeys]
  rfl

theorem length_ctrStream (key nonce : List Byte) (n : Nat) : (ctrStream (aesKeys key) nonce n).length = 16 * n := by
  rw [ctrStream, List.length_flatMap]
  simp [length_aesBlock, Nat.mul_comm]

theorem length_ctrXor (key nonce l : List Byte) : (ctrXor key nonce l).length = l.length := by
  rw [ctrXor, List.length_zipWith, length_ctrStream]
  omega

theorem zipWith_xor_xor (l : List Byte) (ks : List Nat) (h : l.length ≤ ks.length) :
    List.zipWith (fun (b : Byte) k => b ^^^ BitVec.ofNat 8 k) (List.zipWith (fun (b : Byte) k => b ^^^ BitVec.ofNat 8 k) l ks) ks = l := by
  induction l generalizing ks with
  | nil => simp
  | cons b l ih =>
    cases ks with
    | nil => simp at h
    | cons k ks =>
      simp only [List.zipWith_cons_cons, ih ks (by simpa using h)]
      rw [BitVec.xor_assoc, BitVec.xor_self, BitVec.xor_zero]

/-- Deciphering undoes enciphering. -/
theorem ctrXor_ctrXor (key nonce l : List Byte) : ctrXor key nonce (ctrXor key nonce l) = l := by
  have hlen := length_ctrXor key nonce l
  unfold ctrXor at hlen ⊢
  rw [hlen]
  exact zipWith_xor_xor _ _ (by rw [length_ctrStream]; omega)

theorem length_gcmTag (key nonce aad ct : List Byte) : (gcmTag key nonce aad ct).length = 16 := length_beBytes _ _

/-- What has been sealed opens under the same key, nonce and additional data. -/
theorem gcmOpen_gcmSeal (key nonce aad plain : List Byte) : gcmOpen key nonce aad (gcmSeal key nonce aad plain) = some plain := by
  have hlen : (gcmSeal key nonce aad plain).length - 16 = (ctrXor key nonce plain).length := by
    rw [gcmSeal, List.length_append, length_gcmTag, Nat.add_sub_cancel]
  have htake : (gcmSeal key nonce aad plain).take ((gcmSeal key nonce aad plain).length - 16) = ctrXor key nonce plain := by
    rw [hlen, gcmSeal, List.take_left]
  have hdrop : (gcmSeal key nonce aad plain).drop ((gcmSeal key nonce aad plain).length - 16) = gcmTag key nonce aad (ctrXor key nonce plain) := by
    rw [hlen, gcmSeal, List.drop_left]
  unfold gcmOpen
  dsimp only
  have hlong : 16 ≤ (gcmSeal key nonce aad plain).length := by
    rw [gcmSeal, List.length_append, length_gcmTag]
    omega
  rw [htake, hdrop, if_pos ⟨hlong, rfl⟩, ctrXor_ctrXor]

theorem length_gcmSeal (key nonce aad plain : List Byte) : (gcmSeal key nonce aad plain).length = plain.length + 16 := by
  rw [gcmSeal, List.length_append, length_gcmTag, length_ctrXor]

/-! ## The datagrams of a message -/

theorem length_outerHeader (kind session ctr : Nat) : (outerHeader kind session ctr).length = 16 := by
  simp [outerHeader, length_beBytes]

theorem length_innerHeader (x : Session) (channel msgType status seq len off : Nat) : (x.innerHeader channel msgType status seq len off).length = 40 := by
  simp [Session.innerHeader, length_beBytes]

theorem take_seal (x : Session) (ctr : Nat) (plain : List Byte) : (x.seal ctr plain).take 16 = outerHeader 3 x.id ctr := by
  rw [Session.seal, List.take_left' (length_outerHeader _ _ _)]

theorem drop_seal (x : Session) (ctr : Nat) (plain : List Byte) :
    (x.seal ctr plain).drop 16 = gcmSeal x.key (deviceNonce ctr) (outerHeader 3 x.id ctr) plain := by
  rw [Session.seal, List.drop_left' (length_outerHeader _ _ _)]

theorem length_seal (x : Session) (ctr : Nat) (plain : List Byte) : (x.seal ctr plain).length = plain.length + 32 := by
  rw [Session.seal, List.length_append, length_outerHeader, length_gcmSeal]
  omega

/-- Parts of one length, one after another, are the beginning of the list. -/
theorem flatMap_parts {α : Type} (l : List α) (p n : Nat) : (List.range n).flatMap (fun i => (l.drop (i * p)).take p) = l.take (n * p) := by
  induction n with
  | zero => simp
  | succ n ih => rw [List.range_succ, List.flatMap_append, ih, List.flatMap_singleton, Nat.succ_mul, List.take_add]

/-- Settles O23: the header of a datagram and its seal take 72 bytes of it. -/
theorem messagesTravelSealed : Obligations.MessagesTravelSealed := by
  intro x channel msgType status seq body hmax
  have hlength : (x.wire channel msgType status seq body).length = datagrams x.maxDgram body.length := by
    rw [Session.wire, List.length_map, List.length_range]
  refine ⟨fun i hi => ?_, ?_⟩
  · have hget : (x.wire channel msgType status seq body).getD i [] = x.seal (x.txCtr + 1 + i)
        (x.innerHeader channel msgType status seq body.length (i * (x.maxDgram - 72)) ++ (body.drop (i * (x.maxDgram - 72))).take (x.maxDgram - 72)) := by
      rw [List.getD_eq_getElem _ _ hi]
      simp only [Session.wire, List.getElem_map, List.getElem_range]
    rw [hget, take_seal, drop_seal, gcmOpen_gcmSeal, length_seal, List.length_append, length_innerHeader, List.length_take]
    exact ⟨by omega, rfl, rfl⟩
  · rw [hlength, flatMap_parts, List.take_of_length_le]
    have hpos : 0 < x.maxDgram - 72 := by omega
    have hceil : body.length ≤ ceilDiv body.length (x.maxDgram - 72) * (x.maxDgram - 72) := by
      have hmod := Nat.mod_lt (body.length + (x.maxDgram - 72) - 1) hpos
      have hdiv := Nat.div_add_mod (body.length + (x.maxDgram - 72) - 1) (x.maxDgram - 72)
      rw [ceilDiv, Nat.mul_comm]
      omega
    exact le_trans hceil (Nat.mul_le_mul_right _ (Nat.le_max_right _ _))

end Sys2Proof.Machine
end

section
/-! PROOFS. Sessions: they open, take datagrams, keep their timers and close. -/

namespace Sys2Proof.Machine

/-! ## Commands of a module that runs -/

theorem yields_of_act_eq {i : Instr} {s : State} {t : Nat} {f : Chip → Chip} {d : Chip} {P : Chip → Prop} (hs : s.runs) (h : exec i s = act t s f)
    (hd : f (s.upon t) = d) (hP : P { d with now := max s.chip.now t }) : Yields i s P := by
  subst hd
  exact yields_of_act hs h hP

/-- A command that may write the memories, where it leaves them as they are. -/
theorem yields_of_actMem_eq {i : Instr} {s : State} {t : Nat} {f : Chip → Tbl Byte → Chip × Tbl Byte} {d : Chip} {P : Chip → Prop} (hs : s.runs)
    (h : exec i s = actMem t s f) (hd : f (s.upon t) s.mem = (d, s.mem)) (hnow : d.now = max s.chip.now t) (hP : P d) : Yields i s P := by
  refine ⟨d, (h.trans (actMem_runs _ _ _ hs)).trans ?_, hP⟩
  rw [hd]
  dsimp only
  rw [Chip.with_now_eq _ hnow]

theorem yieldsMem_of_actMem_eq {i : Instr} {s : State} {t : Nat} {f : Chip → Tbl Byte → Chip × Tbl Byte} {d : Chip} {m : Tbl Byte}
    {P : Chip → Tbl Byte → Prop} (hs : s.runs) (h : exec i s = actMem t s f) (hd : f (s.upon t) s.mem = (d, m))
    (hP : P { d with now := max s.chip.now t } m) : YieldsMem i s P := by
  refine ⟨_, _, h.trans (actMem_runs _ _ _ hs), ?_⟩
  rw [hd]
  exact hP

theorem Chip.sameRegs_of_subset {c d : Chip} {fs gs : List Fld} (h : c.sameRegs d fs) (hsub : ∀ f ∈ fs, f ∈ gs) : c.sameRegs d gs :=
  fun f b hf hb hne => h f b hf hb fun g hg => hne g (hsub g hg)

/-! ## What stays the same while a session closes -/

theorem Chip.lan_thaw (c : Chip) : c.thaw.lan = c.lan := by
  have hput (a : Chip) (r : Rec) : (a.ringPut r).lan = a.lan := by
    unfold Chip.ringPut
    dsimp only
    split <;> rfl
  unfold Chip.thaw
  split
  · refine List.foldl_keeps (fun a : Chip => a.lan = c.lan) _ (fun a r ha => (hput a r).trans ha) _ _ ?_
    rfl
  · rfl

theorem Chip.lan_resetMaster (c : Chip) (m : Tbl Byte) (master : Nat) : (c.resetMaster m master).1.lan = c.lan := by
  unfold Chip.resetMaster
  dsimp only
  split_ifs <;> rfl

/-- A session that closes leaves its slot free, and every other session as it was. -/
theorem Chip.lan_closeSession (c : Chip) (m : Tbl Byte) (slot cause : Nat) :
    (c.closeSession m slot cause).1.lan = (c.modSession slot (fun x => { x with state := .free })).lan := by
  unfold Chip.closeSession
  by_cases hopen : (c.session slot).state = .opened
  · rw [if_pos hopen]
    dsimp only
    have hrest (d : Chip) (hd : d.lan = (c.modSession slot (fun x => { x with state := .free })).lan) :
        (if d.fab.txs.any (fun x => x.master == 7 && x.slot == slot) then d.resetMaster m 7 else (d, m)).1.lan =
          (c.modSession slot (fun x => { x with state := .free })).lan := by
      split_ifs
      · rw [Chip.lan_resetMaster, hd]
      · exact hd
    apply hrest
    split
    · split_ifs
      · rw [Chip.lan_thaw]
        rfl
      · rfl
    · rfl
  · rw [if_neg hopen]

theorem Chip.session_closeSession (c : Chip) (m : Tbl Byte) (slot cause : Nat) : ((c.closeSession m slot cause).1.session slot).state = .free := by
  rw [Chip.session, Chip.lan_closeSession]
  have hfree := congrArg Session.state (c.session_modSession slot (fun x => { x with state := .free }))
  exact hfree

theorem Chip.session_closeSession_other (c : Chip) (m : Tbl Byte) (slot cause k : Nat) (h : k ≠ slot) :
    (c.closeSession m slot cause).1.session k = c.session k := by
  rw [Chip.session, Chip.lan_closeSession]
  exact c.session_modSession_other slot k _ h

/-- After every slot has been closed each is free. -/
theorem Chip.closeAll_frees (c : Chip) (m : Tbl Byte) (i : Nat) (hi : i < 16) : ((c.closeAll m).1.session i).state = .free := by
  refine List.foldl_establishes (fun i (a : Chip × Tbl Byte) => (a.1.session i).state = .free) _ (fun a i => ?_) (fun a i j ha => ?_) _ _ (List.mem_range.mpr hi)
  · split_ifs with hfree
    · exact hfree
    · exact a.1.session_closeSession a.2 i 3
  · split_ifs
    · exact ha
    · by_cases hij : i = j
      · subst hij
        exact a.1.session_closeSession a.2 i 3
      · rw [a.1.session_closeSession_other a.2 j 3 i hij]
        exact ha

/-! ## The event of a session that closes -/

theorem Chip.handed_thaw (c : Chip) : c.thaw.log.handed = c.log.handed := by
  have hput (a : Chip) (r : Rec) : (a.ringPut r).log.handed = a.log.handed := by
    unfold Chip.ringPut
    dsimp only
    split <;> rfl
  unfold Chip.thaw
  split
  · refine List.foldl_keeps (fun a : Chip => a.log.handed = c.log.handed) _ (fun a r ha => (hput a r).trans ha) _ _ ?_
    rfl
  · rfl

/-- What has been logged stays handed over while a fabric master is reset. -/
theorem Chip.logged_resetMaster (c : Chip) (m : Tbl Byte) (master : Nat) (e : Ev) (payload : List Nat) (h : c.logged e payload) :
    (c.resetMaster m master).1.logged e payload := by
  obtain ⟨r, hr, hrest⟩ := h
  refine ⟨r, ?_, hrest⟩
  unfold Chip.resetMaster
  dsimp only
  by_cases hmine : c.fab.txs.filter (fun x => x.master == master) = []
  · rw [if_pos hmine]
    split_ifs <;> exact hr
  · rw [if_neg hmine]
    refine List.mem_append_left _ ?_
    split_ifs <;> exact hr

theorem Chip.logged_closeSession (c : Chip) (m : Tbl Byte) (slot cause : Nat) (h : (c.session slot).state = .opened) :
    (c.closeSession m slot cause).1.logged Ev.lanSessionClosed [slot + 65536 * cause, (c.session slot).id] := by
  unfold Chip.closeSession
  rw [if_pos h]
  dsimp only
  have hrest (d : Chip) (hd : d.logged Ev.lanSessionClosed [slot + 65536 * cause, (c.session slot).id]) :
      (if d.fab.txs.any (fun x => x.master == 7 && x.slot == slot) then d.resetMaster m 7 else (d, m)).1.logged Ev.lanSessionClosed
        [slot + 65536 * cause, (c.session slot).id] := by
    split_ifs
    · exact d.logged_resetMaster m 7 _ _ hd
    · exact hd
  apply hrest
  have hevent := c.logged_event Ev.lanSessionClosed [slot + 65536 * cause, (c.session slot).id]
  split
  · split_ifs
    · rw [Chip.logged, Chip.handed_thaw]
      exact hevent
    · exact hevent
  · exact hevent

/-! ## What a datagram of a session changes of the session -/

/-- Where a session stands: its state, when and from where it last heard of its host, and the highest counter. -/
def Session.standing (x : Session) : SlotState × Nat × Nat × Nat × Nat × Nat := (x.state, x.lastAt, x.rxTop, x.port, x.addr, x.udpPort)

theorem Session.standing_takeFrag {x y : Session} {now seq msgType len : Nat} {f : Frag} (h : x.takeFrag now seq msgType len f = some y) :
    y.standing = x.standing := by
  unfold Session.takeFrag at h
  dsimp only at h
  split_ifs at h <;> cases h <;> rfl

/-- Where the session of the slot stands, and how many datagrams have been taken. -/
def Chip.heard (c : Chip) (slot : Nat) : (SlotState × Nat × Nat × Nat × Nat × Nat) × Nat := ((c.session slot).standing, c.fld Reg.LAN_RX_SEALED_COUNT 0)

theorem Chip.heard_modSession (c : Chip) (slot : Nat) (f : Session → Session) (h : (f (c.session slot)).standing = (c.session slot).standing) :
    (c.modSession slot f).heard slot = c.heard slot := by
  rw [Chip.heard, Chip.session_modSession, h]
  rfl

theorem Chip.heard_count (c : Chip) (slot : Nat) (f : Fld) (n : Nat) (h : Reg.LAN_RX_SEALED_COUNT.key 0 ≠ f.key 0) : (c.count f 0 n).heard slot = c.heard slot := by
  rw [Chip.count_eq, Chip.heard, Chip.fld_set_other _ _ _ _ _ _ h]
  rfl

theorem Chip.heard_of_answersOnly {c d : Chip} {slot : Nat} (h : d.AnswersOnly c slot) : d.heard slot = c.heard slot := by
  rw [Chip.heard, Chip.heard, h.eq_of_frame (fun c => c.fld Reg.LAN_RX_SEALED_COUNT 0) fun _ _ _ _ => rfl, h.session]
  rfl

theorem Chip.answersOnly_sendMsg (c : Chip) (slot channel msgType status seq : Nat) (body : List Byte) :
    (c.sendMsg slot channel msgType status seq body).AnswersOnly c slot := by
  refine ⟨rfl, fun r hr => ?_, ?_, fun k hk => ?_⟩
  · simp only [Chip.sendMsg, Chip.session_emit, Chip.session_modSession]
    exact hr
  · simp only [Chip.sendMsg, Chip.session_emit, Chip.session_modSession]
  · simp only [Chip.sendMsg, Chip.session_emit, Chip.session_modSession_other _ _ _ _ hk]

theorem Chip.heard_duplicate (c : Chip) (slot seq off : Nat) : (c.duplicate slot seq off).heard slot = c.heard slot := by
  have hcount := c.heard_count slot Reg.LAN_DUP_REQ_COUNT 1 (by decide)
  unfold Chip.duplicate
  dsimp only
  split_ifs
  · rfl
  · exact hcount
  · split
    · rw [Chip.heard_of_answersOnly (Chip.answersOnly_sendMsg _ _ _ _ _ _ _), hcount]
    · exact hcount

theorem Chip.heard_fragment (c : Chip) (slot : Nat) (p : List Byte) : (c.fragment slot p).heard slot = c.heard slot := by
  unfold Chip.fragment
  dsimp only
  split_ifs
  · rfl
  · exact c.heard_count slot _ _ (by decide)
  · exact c.heard_duplicate slot _ _
  · split
    · next y hy => exact c.heard_modSession slot _ (Session.standing_takeFrag hy)
    · exact (Chip.heard_count _ _ _ _ (by decide)).trans (c.heard_modSession slot _ rfl)

/-- A session that is not free is open after a datagram that holds. -/
theorem Chip.session_opens (c : Chip) (slot : Nat) (h : (c.session slot).state ≠ .free) :
    (c.opens slot).session slot = { c.session slot with state := .opened } := by
  unfold Chip.opens
  by_cases hhalf : (c.session slot).state = .halfOpen
  · rw [if_pos hhalf]
    exact c.session_modSession slot _
  · rw [if_neg hhalf]
    have hopened : (c.session slot).state = .opened := by
      cases hstate : (c.session slot).state with
      | free => exact absurd hstate h
      | halfOpen => exact absurd hstate hhalf
      | opened => rfl
    rw [← hopened]

/-- After a datagram the session stands where it came from. -/
theorem Chip.standing_moves (c : Chip) (slot port : Nat) (ipv6 : Bool) (addr udpPort : Nat) :
    ((c.moves slot port ipv6 addr udpPort).session slot).standing =
      ((c.session slot).state, (c.session slot).lastAt, (c.session slot).rxTop, port, addr, udpPort) := by
  unfold Chip.moves
  dsimp only
  split_ifs with hsame
  · obtain ⟨rfl, rfl, rfl, rfl⟩ := hsame
    rfl
  · exact congrArg Session.standing (c.session_modSession slot _)

theorem Chip.fld_opens (c : Chip) (slot : Nat) (f : Fld) (d : Nat) : (c.opens slot).fld f d = c.fld f d := by
  unfold Chip.opens
  split_ifs <;> rfl

theorem Chip.fld_moves (c : Chip) (slot port : Nat) (ipv6 : Bool) (addr udpPort : Nat) (f : Fld) (d : Nat) :
    (c.moves slot port ipv6 addr udpPort).fld f d = c.fld f d := by
  unfold Chip.moves
  dsimp only
  split_ifs <;> rfl

theorem Chip.heard_accepted (c : Chip) (slot port : Nat) (ipv6 : Bool) (addr udpPort ctr : Nat) (p : List Byte) (h : (c.session slot).state ≠ .free) :
    (c.accepted slot port ipv6 addr udpPort ctr p).heard slot =
      ((.opened, c.now, max (c.session slot).rxTop ctr, port, addr, udpPort), (c.fld Reg.LAN_RX_SEALED_COUNT 0 + 1) % 2 ^ Reg.LAN_RX_SEALED_COUNT.width) := by
  have hanswers (d : Chip) : (if d.serves slot then Chip.answerUnknown slot 256 d else d).heard slot = d.heard slot := by
    split_ifs
    · exact Chip.heard_of_answersOnly (Chip.answersOnly_answerUnknown _ _ _)
    · rfl
  have hfragment (d : Chip) : (if 40 ≤ p.length ∧ u8 p 0 = 1 then d.fragment slot p else d).heard slot = d.heard slot := by
    split_ifs
    · exact d.heard_fragment slot p
    · rfl
  unfold Chip.accepted
  dsimp only
  rw [hanswers, hfragment, Chip.heard_modSession]
  · rw [Chip.heard, Chip.standing_moves, Chip.fld_moves, Chip.fld_opens, Chip.session_opens]
    · simp only [Chip.countWrap_eq, Chip.fld_set]
      have htaken := c.session_modSession slot (fun x =>
        { x with lastAt := c.now, rxTop := max x.rxTop ctr, rxSeen := (x.rxSeen ++ [ctr]).filter (fun n => decide (max x.rxTop ctr ≤ n + 1024)) })
      exact congrArg (fun x : Session => ((SlotState.opened, x.lastAt, x.rxTop, port, addr, udpPort),
        (c.fld Reg.LAN_RX_SEALED_COUNT 0 + 1) % 2 ^ Reg.LAN_RX_SEALED_COUNT.width)) htaken
    · have htaken := c.session_modSession slot (fun x =>
        { x with lastAt := c.now, rxTop := max x.rxTop ctr, rxSeen := (x.rxSeen ++ [ctr]).filter (fun n => decide (max x.rxTop ctr ≤ n + 1024)) })
      have hstate := congrArg Session.state htaken
      exact fun hfree => h (hstate.symm.trans hfree)
  · split_ifs <;> rfl

/-! ## Counters of the block -/

theorem Chip.clrLan_spec (c : Chip) : (∀ i, i < 16 → (c.clrLan.session i).lost = 0 ∧ (c.clrLan.session i).notices = (c.session i).notices) ∧
    c.clrLan = { c.clearAll lanCounters with lan := c.clrLan.lan } := by
  have hlost (i : Nat) (hi : i ∈ List.range 16) : (c.clrLan.session i).lost = 0 := by
    refine List.foldl_establishes (fun i (a : Chip) => (a.session i).lost = 0) _ (fun a i => ?_) (fun a i j ha => ?_) _ _ hi
    · split_ifs with h0
      · exact h0
      · rw [Chip.session_modSession]
    · split_ifs
      · exact ha
      · by_cases hij : i = j
        · rw [hij, Chip.session_modSession]
        · rw [Chip.session_modSession_other _ _ _ _ hij]
          exact ha
  have hnotices (i : Nat) : (c.clrLan.session i).notices = (c.session i).notices := by
    refine List.foldl_keeps (fun a : Chip => (a.session i).notices = (c.session i).notices) _ (fun a j ha => ?_) _ _ rfl
    split_ifs
    · exact ha
    · by_cases hij : i = j
      · subst hij
        rw [Chip.session_modSession]
        exact ha
      · rw [Chip.session_modSession_other _ _ _ _ hij]
        exact ha
  refine ⟨fun i hi => ⟨hlost i (List.mem_range.mpr hi), hnotices i⟩, ?_⟩
  refine List.foldl_keeps (fun a : Chip => a = { c.clearAll lanCounters with lan := a.lan }) _ (fun a j ha => ?_) _ _ rfl
  split_ifs
  · exact ha
  · rw [ha]
    rfl

theorem Chip.fld_clrLan (c : Chip) (f : Fld) (hf : f ∈ lanCounters) : c.clrLan.fld f 0 = f.reset := by
  have hregs := congrArg Chip.regs c.clrLan_spec.2
  rw [Chip.fld, hregs]
  exact c.fld_clearAll lanCounters f 0 hf (by decide)

theorem datagrams_zero (maxDgram : Nat) : datagrams maxDgram 0 = 1 := by
  have hnone : ceilDiv 0 (maxDgram - 72) = 0 := by
    rw [ceilDiv]
    rcases Nat.eq_zero_or_pos (maxDgram - 72) with h | h
    · rw [h]
    · exact Nat.div_eq_of_lt (by omega)
  rw [datagrams, hnone]
  rfl

theorem lanCounters_reset : ∀ f ∈ lanCounters, f.reset = 0 := by decide

/-- Settles O22, clause by clause: an open, a datagram of no session and of a session, the timers of a session, its ends, the counters. -/
theorem sessionsComplete : Obligations.SessionsComplete := by
  refine ⟨fun s t port ipv6 addr udpPort b session nonce ceiling key slot rest hs hport hok hkey hentry hmac hnonce hpriv hfree hdraw => ?_,
    fun s t port ipv6 addr udpPort b hs hport hok hnone => ?_,
    fun s t port ipv6 addr udpPort b slot p hs hport hok hfind hlen hopen htop hseen => ?_, fun s t slot hs hhalf hdue => ?_,
    fun s t slot seq p hs hp hseq hdue => ?_, fun s t slot hs hstate hcomplete => ?_, fun s t slot n rest hs hstate hnotices hdue => ?_,
    fun s t slot hs hstate hdue => ?_, fun s t hs => ?_, fun s t hs => ?_⟩
  · have hexec : exec (.openSession t port ipv6 addr udpPort b session nonce) s = execOpenSession t port ipv6 addr udpPort b session nonce s := rfl
    have hfresh : ((s.upon t).lan.nonces.filter (fun e => decide ((s.upon t).now ≤ e.2.2 + secU 600))).any
        (fun e => e.1 == u8 b 16 && e.2.1 == bytesAt b 24 32) = false := by
      rw [List.any_eq_false]
      intro e he
      rcases hnonce e (List.mem_filter.mp he).1 with hne | hne <;> simp [hne]
    have hcarries : (s.upon t).lanCarries port = true := hport
    have hslots (l : List (Nat × List Byte × Nat)) : ({ s.upon t with lan := { (s.upon t).lan with nonces := l } } : Chip).freeSlots = slot :: rest := hfree
    have hdrawn (l : List (Nat × List Byte × Nat)) : ({ s.upon t with lan := { (s.upon t).lan with nonces := l } } : Chip).drawOk session nonce = true := hdraw
    let nonces := (s.upon t).lan.nonces.filter (fun e => decide ((s.upon t).now ≤ e.2.2 + secU 600)) ++ [(u8 b 16, bytesAt b 24 32, (s.upon t).now)]
    let opened : Chip := { s.upon t with lan := { (s.upon t).lan with nonces := nonces } }
    refine yields_of_actMem_eq (d := (opened.halfOpen slot key port ipv6 addr udpPort b session nonce).emit
      (.openAck session (bytesAt b 24 32) nonce (min (u16 b 18) opened.dgramLimit) (u8 b 17))) hs hexec ?effOpen rfl ?postOpen
    case effOpen =>
      dsimp only
      rw [hcarries, hok, if_pos hkey, hentry]
      dsimp only
      rw [hfresh, Chip.openAnswer, if_neg (Nat.not_lt.mpr hpriv), hslots, hdrawn, if_neg (not_not.mpr hmac)]
      rfl
    case postOpen =>
      refine ⟨?_, rfl, List.mem_append_right _ (List.mem_singleton_self _), rfl⟩
      rw [Chip.session_emit, Chip.halfOpen, Chip.session_modSession]
      rfl
  · have hexec : exec (.sealed t port ipv6 addr udpPort b) s = execSealed t port ipv6 addr udpPort b s := rfl
    refine yields_of_eq (d := ((s.upon t).authFail port 3 2 (u32 b 4) addr).emit (.reject (u32 b 4) 0x1107)) hs hexec ?effReject rfl ?postReject
    case effReject =>
      have hcarries : (s.upon t).lanCarries port = true := hport
      have hfind : (List.range 16).find? (fun i => ((s.upon t).session i).state != .free && ((s.upon t).session i).id == u32 b 4) = none := hnone
      dsimp only
      rw [hcarries, hok, hfind]
      rfl
    case postReject =>
      have hcount : Reg.LAN_AUTH_FAIL_COUNT.key 0 ≠ Reg.LAN_STATUS_AUTH_FAIL_SEEN.key 0 := by decide
      refine ⟨rfl, Chip.isSet_mark _ _ rfl, ?_, ?_, ?_, rfl⟩
      · exact (Chip.fld_set_other _ _ _ _ _ _ hcount).trans ((s.upon t).fld_count Reg.LAN_AUTH_FAIL_COUNT 0 1)
      · have hevent := (((s.upon t).count Reg.LAN_AUTH_FAIL_COUNT 0 1).mark Reg.LAN_STATUS_AUTH_FAIL_SEEN).logged_event Ev.lanAuthFail
          [port + 16 * 3 + 256 * 2, u32 b 4, addr]
        exact hevent
      · refine Chip.sameRegs_of_subset ?_ (fun f hf => List.mem_reverse.mp hf)
        exact Chip.sameRegs_trans (Chip.sameRegs_set _ Reg.LAN_STATUS_AUTH_FAIL_SEEN 0 1 (by decide) (by decide))
          (Chip.sameRegs_set (s.upon t) Reg.LAN_AUTH_FAIL_COUNT 0 _ (by decide) (by decide))
  · have hexec : exec (.sealed t port ipv6 addr udpPort b) s = execSealed t port ipv6 addr udpPort b s := rfl
    have hlive : ((s.upon t).session slot).state ≠ .free := by
      have hfound := List.find?_some hfind
      simp only [Bool.and_eq_true, bne_iff_ne] at hfound
      exact hfound.1
    have hheard := (s.upon t).heard_accepted slot port ipv6 addr udpPort (u64 b 8) p hlive
    generalize htaken : (s.upon t).accepted slot port ipv6 addr udpPort (u64 b 8) p = d at hheard
    refine yields_of_act_eq (d := d) hs hexec ?effSealed ?postSealed
    case effSealed =>
      have hcarries : (s.upon t).lanCarries port = true := hport
      have hfind' : (List.range 16).find? (fun i => ((s.upon t).session i).state != .free && ((s.upon t).session i).id == u32 b 4) = some slot := hfind
      have hopen' : gcmOpen ((s.upon t).session slot).key (hostNonce b) (b.take 16) (b.drop 16) = some p := hopen
      have hshort : b.length ≤ ((s.upon t).session slot).maxDgram := hlen
      have hnew : ¬(u64 b 8 + 1024 < ((s.upon t).session slot).rxTop ∨ ((s.upon t).session slot).rxSeen.contains (u64 b 8) = true) := by
        rintro (hold | hdone)
        · exact absurd htop (Nat.not_le.mpr hold)
        · exact hseen (List.contains_iff_mem.mp hdone)
      dsimp only
      rw [hcarries, hok, hfind']
      dsimp only
      rw [hopen', if_neg (not_lt_of_ge hshort)]
      dsimp only
      rw [if_neg hnew]
      exact htaken
    case postSealed =>
      simp only [Chip.heard, Session.standing, Prod.mk.injEq] at hheard
      obtain ⟨⟨hstate, hlast, htop', hport', haddr, hudp⟩, hcount⟩ := hheard
      exact ⟨hstate, hlast, htop', hport', haddr, hudp, hcount⟩
  · have hexec : exec (.halfOpenTimeout t slot) s = execHalfOpenTimeout t slot s := rfl
    refine yields_of_eq hs hexec (if_pos ⟨hhalf, hdue⟩) rfl ⟨?_, fun i hi => (s.upon t).session_modSession_other slot i _ hi, rfl⟩
    rw [Chip.session_modSession]
  · have hexec : exec (.reassemblyTimeout t slot seq) s = execReassemblyTimeout t slot seq s := rfl
    have hany : ((s.upon t).session slot).partials.any (fun p => p.seq == seq && decide (p.since + secU 1 ≤ (s.upon t).now)) = true :=
      List.any_eq_true.mpr ⟨p, hp, Bool.and_eq_true_iff.mpr ⟨beq_iff_eq.mpr hseq, decide_eq_true hdue⟩⟩
    refine yields_of_eq hs hexec (if_pos hany) rfl ⟨?_, Chip.fld_count _ _ _ _, Chip.sameRegs_set _ _ _ _ (by decide) (by decide), rfl⟩
    have hdropped := (s.upon t).session_modSession slot (fun x => x.dropPartial seq)
    exact congrArg Session.partials hdropped
  · have hexec : exec (.ackTimer t slot) s = execAckTimer t slot s := rfl
    refine yields_of_eq hs hexec (if_pos ⟨hstate, hcomplete⟩) rfl ⟨rfl, ?_, rfl⟩
    have hsent := (s.upon t).session_modSession slot (fun x => { x with txCtr := x.txCtr + datagrams x.maxDgram 0 })
    have hcount := congrArg Session.txCtr hsent
    rw [datagrams_zero] at hcount
    exact hcount
  · have hexec : exec (.noticeResend t slot) s = execNoticeResend t slot s := rfl
    have hnext : ((s.upon t).session slot).notices = n :: rest := hnotices
    refine yields_of_eq (d := ((s.upon t).modSession slot (fun x =>
      { x with notices := { n with sentAt := max s.chip.now t, interval := min 640 (2 * n.interval) } :: rest })).sendMsg slot 3 n.code 0 n.seq n.body)
      hs hexec ?effNotice rfl ⟨rfl, ?_, rfl⟩
    case effNotice =>
      rw [hnext]
      exact if_pos ⟨hstate, hdue⟩
    · rw [Chip.sendMsg, Chip.session_emit, Chip.session_modSession, Chip.session_modSession]
  · have hexec : exec (.sessionIdleTimeout t slot) s = execSessionIdleTimeout t slot s := rfl
    have hfrees := (s.upon t).session_closeSession s.mem slot 2
    have hlogged := (s.upon t).logged_closeSession s.mem slot 2 hstate
    generalize hclosed : (s.upon t).closeSession s.mem slot 2 = d at hfrees hlogged
    exact yieldsMem_of_actMem_eq hs hexec ((if_pos ⟨hstate, hdue⟩).trans hclosed) ⟨hfrees, hlogged⟩
  · have hexec : exec (.closeAll t) s = execCloseAll t s := rfl
    have hfrees := (s.upon t).closeAll_frees s.mem
    generalize hclosed : (s.upon t).closeAll s.mem = d at hfrees
    refine yieldsMem_of_actMem hs hexec fun i hi => ?_
    rw [hclosed]
    exact hfrees i hi
  · have hexec : exec (.lanClrCnt t) s = execLanClrCnt t s := rfl
    obtain ⟨hsessions, hframe⟩ := (s.upon t).clrLan_spec
    have hcounters : ∀ f ∈ lanCounters, (s.upon t).clrLan.fld f 0 = 0 := fun f hf => ((s.upon t).fld_clrLan f hf).trans (lanCounters_reset f hf)
    generalize hcleared : (s.upon t).clrLan = d at hsessions hframe hcounters
    refine yields_of_eq hs hexec hcleared (congrArg Chip.now hframe) ⟨?_, ?_, ?_, ?_, ?_, ?_, ?_, hsessions, ?_⟩
    case refine_8 =>
      have hregs := congrArg Chip.regs hframe
      rw [hregs]
      exact hframe
    all_goals exact hcounters _ (by decide)

end Sys2Proof.Machine
end

section
/-! PROOFS. Statements about cleared counters that go too far: a bank beyond the reach of a field's number is another field, and a register table out of order is not
read as it is written. -/

namespace Sys2Proof.Machine

/-- Where a command leaves the module that keeps the clock at its instant. -/
theorem exec_of_act {i : Instr} {s : State} {t : Nat} {f : Chip → Chip} (hs : s.runs) (h : exec i s = act t s f) (hnow : (f (s.upon t)).now = max s.chip.now t) :
    exec i s = .next { s with chip := f (s.upon t) } := by
  rw [h, act_runs _ _ _ hs, Chip.with_now_eq _ hnow]

/-- What a command yields holds of the module it leaves. -/
theorem holds_of_yields {i : Instr} {s : State} {P : Chip → Prop} {d : Chip} (h : Yields i s P) (hexec : exec i s = .next { s with chip := d }) : P d := by
  obtain ⟨c, hc, hP⟩ := h
  rw [hexec] at hc
  injection hc with hstate
  injection hstate with _ _ hchip
  rwa [hchip]

/-! ## Banks without bound -/

/-- A module that runs and has counted one supply hold. -/
def oneHold : State := { State.reset with chip := ({ Chip.reset with run := .running } : Chip).set Reg.PWR_HOLDS_COUNT 0 1 }

/-- The number under which bank 0 of PWR.HOLDS is a bank of another field: the number of a bank is added to that of its field. -/
def holdsBank (f : Fld) : Nat := Reg.PWR_HOLDS_COUNT.key 0 - f.key 0

/-- A field that is listed alone, and is none of those cleared, keeps its value. -/
theorem Chip.fld_clearAll_listed (c : Chip) (f : Fld) (b : Nat) (fs : List Fld) (k v : Nat) (hregs : c.regs = [(k, v)]) (hk : f.key b = k)
    (hfs : ∀ g ∈ fs, k / 1048576 ≠ g.addr * 32 + g.lo) : (c.clearAll fs).fld f b = v := by
  have hkeep : (c.clearAll fs).regs = [(k, v)] := by
    rw [← hregs]
    refine List.filter_eq_self.mpr fun e he => ?_
    rw [hregs] at he
    rw [List.mem_singleton.mp he, Bool.not_eq_true', List.any_eq_false]
    exact fun g hg => mt of_decide_eq_true (hfs g hg)
  rw [Chip.fld, hkeep, hk, Tbl.get, if_pos rfl]

/-- A counter is not 0 in every bank of any number after counters have been cleared that PWR.HOLDS is none of. -/
theorem clearAll_oneHold_ne_zero (f : Fld) (fs : List Fld) (hf : f.key 0 ≤ Reg.PWR_HOLDS_COUNT.key 0)
    (hfs : ∀ g ∈ fs, Reg.PWR_HOLDS_COUNT.key 0 / 1048576 ≠ g.addr * 32 + g.lo) : ((oneHold.upon 0).clearAll fs).fld f (holdsBank f) ≠ 0 := by
  have hkey : f.key (holdsBank f) = Reg.PWR_HOLDS_COUNT.key 0 := by
    have hbank : f.key (holdsBank f) = f.key 0 + holdsBank f := by rw [Fld.key, Fld.key, Nat.add_zero]
    rw [hbank, holdsBank, Nat.add_sub_of_le hf]
  rw [Chip.fld_clearAll_listed _ f _ fs _ 1 rfl hkey hfs]
  exact one_ne_zero

theorem runs_oneHold : oneHold.runs := rfl

/-- Refutes O13: after LNE_CLR_CNT the statement has every counter 0 in every bank `b`, of whatever number; but the model adds the number of a bank to that of its
field, so that in a module that has counted one supply hold PWR.HOLDS, which LNE_CLR_CNT does not clear, is such a bank. -/
theorem not_spliceLaneAndDiagnosticCommandsComplete : ¬ Obligations.SpliceLaneAndDiagnosticCommandsComplete := by
  rintro ⟨-, -, -, -, -, -, -, -, -, -, -, -, -, -, -, -, h⟩
  have hexec : exec (.lneClrCnt 0) oneHold = act 0 oneHold (fun c => c.clearAll lneCounters) := rfl
  obtain ⟨hclear, -⟩ := holds_of_yields (h oneHold 0 runs_oneHold) (exec_of_act runs_oneHold hexec rfl)
  exact clearAll_oneHold_ne_zero Reg.LNE_L_LOCK_LOST_COUNT lneCounters (by decide) (by decide) (hclear _ (by decide) _)

/-- Refutes O15: after PTP_CLR_CNT the statement has every counter 0 in every bank `b`, of whatever number, as of O13. -/
theorem not_ptpCommandsComplete : ¬ Obligations.PtpCommandsComplete := by
  rintro ⟨-, -, -, -, -, -, -, -, -, -, -, -, -, -, h⟩
  have hexec : exec (.ptpClrCnt 0) oneHold = act 0 oneHold (fun c => c.clearAll ptpCounters) := rfl
  obtain ⟨hclear, -⟩ := holds_of_yields (h oneHold 0 runs_oneHold) (exec_of_act runs_oneHold hexec rfl)
  exact clearAll_oneHold_ne_zero Reg.PTP_CNT_SYNC_COUNT ptpCounters (by decide) (by decide) (hclear _ (by decide) _)

/-- Refutes O18: after SPL_CLR_CNT the statement has P_CELLS 0 in every bank `k`, of whatever number, as of O13. -/
theorem not_spliceLinkCommandsComplete : ¬ Obligations.SpliceLinkCommandsComplete := by
  rintro ⟨-, -, -, -, -, -, -, -, -, -, -, -, -, h⟩
  have hexec : exec (.splClrCnt 0) oneHold = act 0 oneHold (fun c => c.clrSpl) := rfl
  obtain ⟨hclear, -⟩ := holds_of_yields (h oneHold 0 runs_oneHold) (exec_of_act runs_oneHold hexec rfl)
  exact clearAll_oneHold_ne_zero Reg.SPL_P_CELLS_COUNT _ (by decide) (by decide) (hclear _).1

/-- Refutes O19: after FWA_CLR_CNT the statement has D_LOST 0 in every bank `k`, of whatever number, as of O13. -/
theorem not_twinAndFlowWatchCommandsComplete : ¬ Obligations.TwinAndFlowWatchCommandsComplete := by
  rintro ⟨-, -, -, -, -, -, -, -, -, -, -, -, h, -⟩
  have hexec : exec (.fwaClrCnt 0) oneHold = act 0 oneHold (fun c => c.clrFwa) := rfl
  obtain ⟨-, hclear, -⟩ := holds_of_yields (h oneHold 0 runs_oneHold) (exec_of_act runs_oneHold hexec rfl)
  exact clearAll_oneHold_ne_zero Reg.FWA_D_LOST_COUNT _ (by decide) (by decide) (hclear _).2

/-- Refutes O21: after CAP_CLR_CNT the statement has DRV_ERRORS 0 in every bank `k`, of whatever number, as of O13. -/
theorem not_recordingCommandsComplete : ¬ Obligations.RecordingCommandsComplete := by
  rintro ⟨-, -, -, -, -, -, -, -, -, -, h⟩
  have hexec : exec (.capClrCnt 0) oneHold = act 0 oneHold (fun c => c.clrCap) := rfl
  obtain ⟨hclear, -⟩ := holds_of_yields (h oneHold 0 runs_oneHold) (exec_of_act runs_oneHold hexec rfl)
  exact clearAll_oneHold_ne_zero Reg.CAP_DRV_ERRORS_COUNT _ (by decide) (by decide) (hclear _).1

/-! ## Register tables out of order -/

/-- A module that runs, whose register table lists the field `f` before the field `g` of a lower number. -/
def misordered (f g : Fld) : State := { State.reset with chip := { Chip.reset with run := .running, regs := [(f.key 0, 1), (g.key 0, 1)] } }

theorem runs_misordered (f g : Fld) : (misordered f g).runs := rfl

/-- A field behind one of a higher number is not found; it is once that one has been cleared. -/
theorem Chip.fld_clearAll_uncovered (c : Chip) (g : Fld) (fs : List Fld) (k v w : Nat) (hregs : c.regs = [(k, v), (g.key 0, w)]) (hlt : g.key 0 < k)
    (hf : fs.any (fun x => decide (k / 1048576 = x.addr * 32 + x.lo)) = true)
    (hg : fs.any (fun x => decide (g.key 0 / 1048576 = x.addr * 32 + x.lo)) = false) : c.fld g 0 = g.reset ∧ (c.clearAll fs).fld g 0 = w := by
  constructor
  · rw [Chip.fld, hregs, Tbl.get, if_neg (Nat.ne_of_lt hlt), if_pos hlt]
  · have hrest : (c.clearAll fs).regs = [(g.key 0, w)] := by
      simp only [Chip.clearAll, hregs, List.filter_cons, hf, hg, List.filter_nil]
      rfl
    rw [Chip.fld, hrest, Tbl.get, if_pos rfl]

/-- So the clearing of the one does not leave the other as it is. -/
theorem clearAll_misordered_ne (f g : Fld) (fs : List Fld) (hlt : g.key 0 < f.key 0) (hf : fs.any (fun x => decide (f.key 0 / 1048576 = x.addr * 32 + x.lo)) = true)
    (hg : fs.any (fun x => decide (g.key 0 / 1048576 = x.addr * 32 + x.lo)) = false) (hreset : g.reset = 0) :
    (((misordered f g).upon 0).clearAll fs).fld g 0 ≠ (misordered f g).chip.fld g 0 := by
  obtain ⟨hbefore, hafter⟩ := ((misordered f g).upon 0).fld_clearAll_uncovered g fs (f.key 0) 1 1 rfl hlt hf hg
  rw [hafter]
  exact fun h => one_ne_zero (h.trans (hbefore.trans hreset))

/-- Refutes O26: the statement has UPD_CLR_CNT leave every other field in every state, also in one whose register table is out of order, as no run of the model
makes it: there the clearing of UPD.CRC_FAIL uncovers a field that could not be read behind it. -/
theorem not_updateCommandsComplete : ¬ Obligations.UpdateCommandsComplete := by
  rintro ⟨-, -, -, -, -, -, -, -, -, -, -, -, h⟩
  let s := misordered Reg.UPD_CRC_FAIL_COUNT Reg.LOG_WIN_CURSOR_SEQ
  have hexec : exec (.updClrCnt 0) s = act 0 s (fun c => c.clrUpd) := rfl
  obtain ⟨-, hsame, -⟩ := holds_of_yields (h s 0 (runs_misordered _ _)) (exec_of_act (runs_misordered _ _) hexec rfl)
  exact clearAll_misordered_ne _ _ [Reg.UPD_CRC_FAIL_COUNT] (by decide) (by decide) (by decide) rfl (hsame Reg.LOG_WIN_CURSOR_SEQ 0 (by decide) (by decide) (by decide))

/-- Refutes O28: the statement has LOG_CLR_CNT leave every field that is none of its counters, in every state, as UPD_CLR_CNT in O26. -/
theorem not_recorderCommandsComplete : ¬ Obligations.RecorderCommandsComplete := by
  rintro ⟨-, -, -, -, -, -, -, h, -⟩
  let s := misordered Reg.LOG_FOLDED_COUNT Reg.LOG_SEQ_NEXT_SEQ
  have hexec : exec (.logClrCnt 0) s = act 0 s (fun c => c.clearAll logCounters) := rfl
  obtain ⟨-, hsame, -⟩ := holds_of_yields (h s 0 (runs_misordered _ _)) (exec_of_act (runs_misordered _ _) hexec rfl)
  exact clearAll_misordered_ne _ _ logCounters (by decide) (by decide) (by decide) rfl (hsame Reg.LOG_SEQ_NEXT_SEQ 0 (by decide) (by decide) (by decide))

end Sys2Proof.Machine
end

section
/-! PROOFS. Overruns, memory errors, warm restarts and device faults. -/

namespace Sys2Proof.Machine

/-! ## What a warm restart keeps of its own course while the processors stop -/

/-- The fields in which a warm restart shows its course. -/
def courseFlds : List Fld :=
  [Reg.XPT_STATUS_RESTART, Reg.FLT_STATUS_RESTART, Reg.FLT_STATUS_RESTART_SEEN, Reg.FLT_STATUS_HALTED, Reg.FLT_T_RESTART_US, Reg.FLT_WD_M1, Reg.FLT_WD_M2, Reg.FLT_WD_M3, Reg.FLT_WD_M4]

/-- A field that is none of these. -/
abbrev offCourse (f : Fld) : Prop := f.lo < 32 ∧ ∀ g ∈ courseFlds, g.addr ≠ f.addr ∨ g.lo ≠ f.lo

/-- Of the course of a restart nothing changes, and what has been handed to the recorder stays there. -/
structure Chip.KeepsCourse (d c : Chip) : Prop where
  handed : c.log.handed <+: d.log.handed
  restarts : d.flt.restarts = c.flt.restarts
  held : d.fab.held = c.fab.held
  flds : ∀ g ∈ courseFlds, d.fld g 0 = c.fld g 0

theorem Chip.KeepsCourse.refl (c : Chip) : c.KeepsCourse c := ⟨List.prefix_rfl, rfl, rfl, fun _ _ => rfl⟩

theorem Chip.KeepsCourse.trans {c d e : Chip} (h : c.KeepsCourse d) (h' : d.KeepsCourse e) : c.KeepsCourse e :=
  ⟨h'.handed.trans h.handed, h.restarts.trans h'.restarts, h.held.trans h'.held, fun g hg => (h.flds g hg).trans (h'.flds g hg)⟩

theorem Chip.KeepsCourse.logged {c d : Chip} (h : d.KeepsCourse c) {e : Ev} {payload : List Nat} (hc : c.logged e payload) : d.logged e payload := by
  obtain ⟨r, hr, hrest⟩ := hc
  exact ⟨r, h.handed.subset hr, hrest⟩

theorem Chip.keepsCourse_of_eq {c d : Chip} (hlog : d.log = c.log) (hflt : d.flt = c.flt) (hfab : d.fab = c.fab) (hregs : d.regs = c.regs) : d.KeepsCourse c := by
  refine ⟨?_, ?_, ?_, fun g _ => ?_⟩
  · rw [hlog]
  · rw [hflt]
  · rw [hfab]
  · rw [Chip.fld, Chip.fld, hregs]

theorem Chip.keepsCourse_foldl {α : Type} (f : Chip → α → Chip) (l : List α) (hf : ∀ c, ∀ a ∈ l, (f c a).KeepsCourse c) (c : Chip) : (l.foldl f c).KeepsCourse c :=
  List.foldl_keeps_mem (fun a : Chip => a.KeepsCourse c) f l (fun a x hx ha => (hf a x hx).trans ha) c (.refl c)

theorem Chip.keepsCourse_set (c : Chip) (f : Fld) (b v : Nat) (hf : offCourse f) (hb : b < 1048576) : (c.set f b v).KeepsCourse c := by
  have hcourse : ∀ g ∈ courseFlds, g.lo < 32 := by decide
  exact ⟨List.prefix_rfl, rfl, rfl, fun g hg => c.fld_set_ne f g b 0 v (hcourse g hg) hf.1 (by decide) hb (hf.2 g hg)⟩

theorem Chip.keepsCourse_event (c : Chip) (e : Ev) (payload : List Nat) : (c.event e payload).KeepsCourse c := ⟨List.prefix_append _ _, rfl, rfl, fun _ _ => rfl⟩

theorem Chip.keepsCourse_notice (c : Chip) (slot code : Nat) (body : List Byte) : (c.notice slot code body).KeepsCourse c := by
  have hsent (l : List Notice) (d : Chip) : (l.foldl (fun a n => a.sendMsg slot 3 n.code 0 n.seq n.body) d).KeepsCourse d :=
    Chip.keepsCourse_foldl (fun a (n : Notice) => a.sendMsg slot 3 n.code 0 n.seq n.body) l (fun _ _ _ => Chip.keepsCourse_of_eq rfl rfl rfl rfl) d
  have hmod (d : Chip) (f : Session → Session) : (d.modSession slot f).KeepsCourse d := Chip.keepsCourse_of_eq rfl rfl rfl rfl
  unfold Chip.notice
  dsimp only
  split_ifs
  · exact (Chip.keepsCourse_event _ _ _).trans ((Chip.keepsCourse_set _ Reg.LAN_STATUS_OVERFLOW_SEEN 0 1 (by decide) (by decide)).trans ((hsent _ _).trans (hmod _ _)))
  · exact (hsent _ _).trans (hmod _ _)
  · exact .refl c

theorem Chip.keepsCourse_opDone (c : Chip) (slot session reqSeq status : Nat) : (c.opDone slot session reqSeq status).KeepsCourse c := by
  unfold Chip.opDone Chip.noticeTo
  split_ifs
  · exact c.keepsCourse_notice _ _ _
  · exact .refl c

theorem Chip.keepsCourse_cancelAct (c : Chip) : c.cancelAct.KeepsCourse c := by
  unfold Chip.cancelAct
  split
  · split
    · exact (Chip.keepsCourse_opDone _ _ _ _ _).trans (Chip.keepsCourse_of_eq rfl rfl rfl rfl)
    · exact .refl c
  · exact .refl c

theorem Chip.keepsCourse_abandonSave (c : Chip) : c.abandonSave.KeepsCourse c := by
  unfold Chip.abandonSave
  split
  · exact .refl c
  · exact ⟨List.prefix_rfl, rfl, rfl, fun _ _ => rfl⟩

theorem Chip.keepsCourse_abandonLoad (c : Chip) (kind : Nat) : (c.abandonLoad kind).KeepsCourse c := by
  unfold Chip.abandonLoad
  dsimp only
  split_ifs
  · exact ⟨List.prefix_rfl, rfl, rfl, fun _ _ => rfl⟩
  · exact Chip.keepsCourse_of_eq rfl rfl rfl rfl
  · exact .refl c

theorem Chip.keepsCourse_resetMaster (c : Chip) (m : Tbl Byte) (master : Nat) (h : master < 9) : (c.resetMaster m master).1.KeepsCourse c := by
  have hbank : master < 1048576 := by omega
  have hfab (d : Chip) (fab : FabSt) (hheld : fab.held = d.fab.held) : ({ d with fab := fab } : Chip).KeepsCourse d := ⟨List.prefix_rfl, rfl, hheld, fun _ _ => rfl⟩
  have hquar (d : Chip) (v : Nat) : (d.set Reg.FAB_QUAR_MASTER 0 v).KeepsCourse d := d.keepsCourse_set _ _ _ (by decide) (by decide)
  have hpage (d : Chip) : (d.set Reg.FAB_FSWIN_BASE_PAGE master 0).KeepsCourse d := d.keepsCourse_set _ _ _ (by decide) hbank
  have hcount (d : Chip) (payload : List Nat) : ((d.nextFree.count Reg.FLT_FAB_RESETS_COUNT 0 1).event Ev.fabMasterReset payload).KeepsCourse d :=
    (Chip.keepsCourse_event _ _ _).trans ((Chip.keepsCourse_set _ Reg.FLT_FAB_RESETS_COUNT 0 _ (by decide) (by decide)).trans (Chip.keepsCourse_of_eq rfl rfl rfl rfl))
  unfold Chip.resetMaster
  dsimp only
  by_cases hmine : c.fab.txs.filter (fun x => x.master == master) = [] <;> by_cases hseven : master = 7
  · rw [if_pos hmine, if_pos hseven]
    exact (hquar _ _).trans (hfab c _ rfl)
  · rw [if_pos hmine, if_neg hseven]
    exact (hpage _).trans ((hquar _ _).trans (hfab c _ rfl))
  · rw [if_neg hmine, if_pos hseven]
    exact (hcount _ _).trans ((hquar _ _).trans (hfab c _ rfl))
  · rw [if_neg hmine, if_neg hseven]
    exact (hcount _ _).trans ((hpage _).trans ((hquar _ _).trans (hfab c _ rfl)))

theorem Chip.keepsCourse_stopJobs (c : Chip) (td : Nat) : (c.stopJobs td).KeepsCourse c := by
  have hmod (d : Chip) (f : Domain → Domain) : (d.modDom td f).KeepsCourse d := Chip.keepsCourse_of_eq rfl rfl rfl rfl
  have hunstage : (c.unstage td).KeepsCourse c := Chip.keepsCourse_of_eq rfl rfl rfl rfl
  have hopen (due : Bool) (f : Nat) :
      (if due = true then c.modDom td (fun x => { x with commit := some f }) else (c.unstage td).modDom td (fun x => { x with jobFrame := none })).KeepsCourse c := by
    split_ifs
    · exact hmod _ _
    · exact (hmod _ _).trans hunstage
  unfold Chip.stopJobs
  dsimp only
  refine (hmod _ _).trans ?_
  split
  · exact .refl c
  · split
    · exact .refl c
    · refine hopen _ _

theorem Chip.keepsCourse_closeSet (c : Chip) (i state : Nat) : (c.closeSet i state).KeepsCourse c := by
  have hcap (d : Chip) (cap : CapSt) : ({ d with cap := cap } : Chip).KeepsCourse d := Chip.keepsCourse_of_eq rfl rfl rfl rfl
  have hgive (n : Nat) : (c.giveGranules n).KeepsCourse c := c.keepsCourse_set _ _ _ (by decide) (by decide)
  unfold Chip.closeSet
  dsimp only
  split_ifs
  · exact (hcap _ _).trans ((hcap _ _).trans ((hcap _ _).trans (hgive _)))
  · exact (hcap _ _).trans ((hcap _ _).trans (hcap _ _))

theorem Chip.keepsCourse_interruptSets (c : Chip) (cause : Nat) : (c.interruptSets cause).KeepsCourse c := by
  refine Chip.keepsCourse_foldl _ _ (fun a i _ => ?_) c
  have hcap (d : Chip) (cap : CapSt) : ({ d with cap := cap } : Chip).KeepsCourse d := Chip.keepsCourse_of_eq rfl rfl rfl rfl
  exact (Chip.keepsCourse_event _ _ _).trans ((hcap _ _).trans ((Chip.keepsCourse_closeSet _ _ _).trans (hcap _ _)))

theorem Chip.keepsCourse_showConflicts (c : Chip) : c.showConflicts.KeepsCourse c :=
  (Chip.keepsCourse_set _ Reg.REFS_CONFLICT_PAIR_B 0 _ (by decide) (by decide)).trans
    ((Chip.keepsCourse_set _ Reg.REFS_CONFLICT_PAIR_A 0 _ (by decide) (by decide)).trans
      ((Chip.keepsCourse_set _ Reg.REFS_CONFLICT_PAIR_VALID 0 _ (by decide) (by decide)).trans
        (Chip.keepsCourse_set _ Reg.REFS_STATUS_CONFLICT 0 _ (by decide) (by decide))))

theorem Chip.keepsCourse_holdOver (c : Chip) (left cause : Nat) : (c.holdOver left cause).KeepsCourse c := by
  have hstate (v : Nat) : (c.set Reg.REFS_DPLL_STATE 0 v).KeepsCourse c := c.keepsCourse_set _ _ _ (by decide) (by decide)
  unfold Chip.holdOver
  split
  · exact (Chip.keepsCourse_event _ _ _).trans ((Chip.keepsCourse_set _ Reg.REFS_STATUS_HOLDOVER_SEEN 0 1 (by decide) (by decide)).trans
      ((Chip.keepsCourse_set _ Reg.REFS_HOLD_FREQ_FREQ 0 _ (by decide) (by decide)).trans (hstate _)))
  · exact (Chip.keepsCourse_event _ _ _).trans (hstate _)

theorem Chip.keepsCourse_refLose (c : Chip) (e : Nat) (h : e < 8) : (c.refLose e).KeepsCourse c := by
  have hbank : e < 1048576 := by omega
  have hset (d : Chip) (st cause : Nat) : (d.setRef e st cause).KeepsCourse d :=
    (Chip.keepsCourse_set _ Reg.REFS_E_STATE_CAUSE e _ (by decide) hbank).trans (Chip.keepsCourse_set _ Reg.REFS_E_STATE_STATE e _ (by decide) hbank)
  have hcount (d : Chip) : (d.count Reg.REFS_E_EVENTS_LOSSES e 1).KeepsCourse d := d.keepsCourse_set _ _ _ (by decide) hbank
  have href (d : Chip) (ref : RefSt) : ({ d with ref := ref } : Chip).KeepsCourse d := Chip.keepsCourse_of_eq rfl rfl rfl rfl
  have hleave (d : Chip) : (d.leavePairs e).KeepsCourse d := (Chip.keepsCourse_showConflicts _).trans (href d _)
  have hfreq (d : Chip) : (d.set Reg.REFS_E_OFF_MED_FREQ e 0x7FFFFFFF).KeepsCourse d := d.keepsCourse_set _ _ _ (by decide) hbank
  have hend (d : Chip) (p : Prop) [Decidable p] (hd : d.KeepsCourse c) : (if p then d.holdOver e 1 else d).KeepsCourse c := by
    split_ifs
    · exact (d.keepsCourse_holdOver _ _).trans hd
    · exact hd
  unfold Chip.refLose
  dsimp only
  split
  · refine hend _ _ ((hleave _).trans ((hfreq _).trans ((Chip.keepsCourse_event _ _ _).trans ((href _ _).trans ((hcount _).trans (hset c 1 1))))))
  · exact .refl c

theorem Chip.keepsCourse_refPoll (c : Chip) : c.refPoll.KeepsCourse c := by
  unfold Chip.refPoll
  refine Chip.keepsCourse_foldl _ _ (fun a e he => ?_) c
  split_ifs
  · exact a.keepsCourse_refLose e (List.mem_range.mp he)
  · exact .refl a

theorem Chip.keepsCourse_setPtp (c : Chip) (st : Nat) : (c.setPtp st).KeepsCourse c := by
  rw [Chip.setPtp]
  exact (Chip.keepsCourse_refPoll _).trans ((Chip.keepsCourse_set _ Reg.PTP_STATUS_JUMP_PEND 0 _ (by decide) (by decide)).trans
    (Chip.keepsCourse_set _ Reg.PTP_STATUS_STATE 0 _ (by decide) (by decide)))

theorem Chip.keepsCourse_modPtp (c : Chip) (f : PtpSt → PtpSt) : (c.modPtp f).KeepsCourse c := Chip.keepsCourse_of_eq rfl rfl rfl rfl

theorem Chip.keepsCourse_clearMeasures (c : Chip) : c.clearMeasures.KeepsCourse c := by
  rw [Chip.clearMeasures]
  exact (Chip.keepsCourse_set _ Reg.PTP_PATH_DELAY_NS 0 _ (by decide) (by decide)).trans
    ((Chip.keepsCourse_set _ Reg.PTP_OFFSET_NS 0 _ (by decide) (by decide)).trans (Chip.keepsCourse_modPtp _ _))

theorem Chip.keepsCourse_restartPtp (c : Chip) : c.restartPtp.KeepsCourse c := by
  rw [Chip.restartPtp, Chip.loseMaster]
  exact (Chip.keepsCourse_setPtp _ _).trans ((Chip.keepsCourse_modPtp _ _).trans ((Chip.keepsCourse_clearMeasures _).trans (c.keepsCourse_modPtp _)))

theorem Chip.keepsCourse_sendKept (c : Chip) : c.sendKept.KeepsCourse c := by
  refine (Chip.keepsCourse_foldl _ _ (fun a n _ => ?_) _).trans ⟨List.prefix_rfl, rfl, rfl, fun _ _ => rfl⟩
  unfold Chip.noticeTo
  split_ifs
  · exact a.keepsCourse_notice _ _ _
  · exact .refl a

/-- The resets of the four processors, each with what its transactions have written. -/
def Chip.coreResets (c : Chip) (m : Tbl Byte) : Chip × Tbl Byte := ([1, 2, 3, 4] : List Nat).foldl (fun (a : Chip × Tbl Byte) k => a.1.resetMaster a.2 k) (c, m)

theorem Chip.keepsCourse_coreResets (c : Chip) (m : Tbl Byte) : (c.coreResets m).1.KeepsCourse c := by
  refine List.foldl_keeps_mem (fun a : Chip × Tbl Byte => a.1.KeepsCourse c) _ _ (fun a k hk ha => ?_) _ (.refl c)
  have hbound : ∀ k ∈ ([1, 2, 3, 4] : List Nat), k < 9 := by decide
  exact (a.1.keepsCourse_resetMaster a.2 k (hbound k hk)).trans ha

/-- What stops besides the processors: the jobs, the captures, the references that PTP gives, loads, saves and activations. -/
def Chip.stopRest (c : Chip) : Chip :=
  let c1 := ([0, 1, 2, 3] : List Nat).foldl (fun a td => a.stopJobs td) c
  let c2 := (List.range 8).foldl (fun a e => if a.refType e = 7 then a.refLose e else a) (c1.interruptSets 2)
  (((c2.abandonLoad 1).abandonLoad 2).abandonSave).cancelAct

theorem Chip.keepsCourse_stopRest (c : Chip) : c.stopRest.KeepsCourse c := by
  have hrefs (d : Chip) : ((List.range 8).foldl (fun a e => if a.refType e = 7 then a.refLose e else a) d).KeepsCourse d := by
    refine Chip.keepsCourse_foldl _ _ (fun a e he => ?_) d
    split_ifs
    · exact a.keepsCourse_refLose e (List.mem_range.mp he)
    · exact .refl a
  have hjobs : (([0, 1, 2, 3] : List Nat).foldl (fun a td => a.stopJobs td) c).KeepsCourse c :=
    Chip.keepsCourse_foldl _ _ (fun a td _ => a.keepsCourse_stopJobs td) c
  rw [Chip.stopRest]
  exact (Chip.keepsCourse_cancelAct _).trans ((Chip.keepsCourse_abandonSave _).trans ((Chip.keepsCourse_abandonLoad _ 2).trans ((Chip.keepsCourse_abandonLoad _ 1).trans
    ((hrefs _).trans ((Chip.keepsCourse_interruptSets _ 2).trans hjobs)))))

theorem Chip.stopCores_eq (c : Chip) (m : Tbl Byte) : (c.stopCores m).1 =
    ({ (c.coreResets m).1 with fab := { (c.coreResets m).1.fab with held := dedup ((c.coreResets m).1.fab.held ++ [1, 2, 3, 4]) } } : Chip).stopRest := by
  rw [Chip.stopCores, Chip.resetCores, Chip.stopRest, Chip.coreResets]

/-- The processors stop: they are held, and the rest of the course is as it was. -/
theorem Chip.stopCores_spec (c : Chip) (m : Tbl Byte) : c.log.handed <+: (c.stopCores m).1.log.handed ∧ (c.stopCores m).1.flt.restarts = c.flt.restarts ∧
    (c.stopCores m).1.fab.held = dedup (c.fab.held ++ [1, 2, 3, 4]) ∧ ∀ g ∈ courseFlds, (c.stopCores m).1.fld g 0 = c.fld g 0 := by
  have hreset := c.keepsCourse_coreResets m
  rw [Chip.stopCores_eq]
  generalize (c.coreResets m).1 = d at hreset ⊢
  have hrest := ({ d with fab := { d.fab with held := dedup (d.fab.held ++ [1, 2, 3, 4]) } } : Chip).keepsCourse_stopRest
  generalize ({ d with fab := { d.fab with held := dedup (d.fab.held ++ [1, 2, 3, 4]) } } : Chip).stopRest = e at hrest ⊢
  obtain ⟨hhanded, hrestarts, hheld, hflds⟩ := hrest
  refine ⟨hreset.handed.trans hhanded, hrestarts.trans hreset.restarts, hheld.trans ?_, fun g hg => (hflds g hg).trans (hreset.flds g hg)⟩
  rw [← hreset.held]

/-! ## The start of a warm restart -/

/-- The restarts of the last ten minutes. -/
def Chip.recentRestarts (c : Chip) : List Nat := c.flt.restarts.filter (fun u => decide (c.now < u + secU 600))

/-- A warm restart begins: it is counted and shown, and recorded with its cause. -/
def Chip.restartShown (c : Chip) (cause processor : Nat) : Chip :=
  let c1 : Chip := { c with flt := { c.flt with restarts := c.recentRestarts ++ [c.now], startedAt := c.now } }
  let c2 := (((c1.set Reg.FLT_STATUS_RESTART 0 1).set Reg.XPT_STATUS_RESTART 0 1).mark Reg.FLT_STATUS_RESTART_SEEN).count Reg.FLT_RESTARTS_TOTAL 0 1
  (c2.event Ev.fltWarmRestart [cause + processor * 256, c.recentRestarts.length + 1]).faultIs Ev.fltWarmRestart 2

theorem Chip.beginRestart_eq (c : Chip) (m : Tbl Byte) (cause processor : Nat) (hhalted : c.halted = false) (hact : c.upd.act = none)
    (hlimit : c.recentRestarts.length < c.restartLimit) : c.beginRestart m cause processor = (c.restartShown cause processor).stopCores m := by
  unfold Chip.beginRestart
  rw [hhalted, hact, if_neg Bool.false_ne_true]
  dsimp only
  rw [if_neg Bool.false_ne_true]
  exact if_neg (Nat.not_le.mpr hlimit)

theorem Chip.fld_faultIs (c : Chip) (e : Ev) (cls : Nat) (g : Fld) (b : Nat) (hg : g.lo < 32) (hb : b < 1048576) (hne : g.addr ≠ Reg.FLT_LAST_CAUSE_CODE.addr) :
    (c.faultIs e cls).fld g b = c.fld g b := by
  rw [Chip.faultIs, Chip.fld_set_ne _ Reg.FLT_LAST_CAUSE_CLASS g 0 b _ hg (by decide) hb (by decide) (.inl hne),
    Chip.fld_set_ne _ Reg.FLT_LAST_CAUSE_BLOCK g 0 b _ hg (by decide) hb (by decide) (.inl hne),
    Chip.fld_set_ne _ Reg.FLT_LAST_CAUSE_CODE g 0 b _ hg (by decide) hb (by decide) (.inl hne)]

/-- The counters of the watchdogs are none of the fields that the start of a restart writes. -/
theorem wdField_apart : ∀ k, k < 4 → (wdField k).lo < 32 ∧ (wdField k).addr ≠ Reg.FLT_LAST_CAUSE_CODE.addr ∧ (wdField k).key 0 ≠ Reg.FLT_RESTARTS_TOTAL.key 0 ∧
    (wdField k).key 0 ≠ Reg.FLT_STATUS_RESTART_SEEN.key 0 ∧ (wdField k).key 0 ≠ Reg.XPT_STATUS_RESTART.key 0 ∧ (wdField k).key 0 ≠ Reg.FLT_STATUS_RESTART.key 0 := by
  decide

theorem Chip.fld_restartShown (c : Chip) (cause processor : Nat) :
    (c.restartShown cause processor).isSet Reg.XPT_STATUS_RESTART 0 = true ∧ (c.restartShown cause processor).isSet Reg.FLT_STATUS_RESTART 0 = true ∧
      (c.restartShown cause processor).isSet Reg.FLT_STATUS_RESTART_SEEN 0 = true ∧ ∀ k, k < 4 → (c.restartShown cause processor).fld (wdField k) 0 = c.fld (wdField k) 0 := by
  unfold Chip.isSet Chip.restartShown
  refine ⟨?_, ?_, ?_, fun k hk => ?_⟩
  · rw [Chip.fld_faultIs _ _ _ _ _ (by decide) (by decide) (by decide), Chip.event_fld, Chip.count_eq, Chip.mark_eq, Chip.fld_set_other _ _ _ _ _ _ (by decide),
      Chip.fld_set_other _ _ _ _ _ _ (by decide), Chip.fld_set]
    rfl
  · rw [Chip.fld_faultIs _ _ _ _ _ (by decide) (by decide) (by decide), Chip.event_fld, Chip.count_eq, Chip.mark_eq, Chip.fld_set_other _ _ _ _ _ _ (by decide),
      Chip.fld_set_other _ _ _ _ _ _ (by decide), Chip.fld_set_other _ _ _ _ _ _ (by decide), Chip.fld_set]
    rfl
  · rw [Chip.fld_faultIs _ _ _ _ _ (by decide) (by decide) (by decide), Chip.event_fld, Chip.count_eq, Chip.mark_eq, Chip.fld_set_other _ _ _ _ _ _ (by decide), Chip.fld_set]
    rfl
  · obtain ⟨hlo, hcause, htotal, hseen, hxpt, hflt⟩ := wdField_apart k hk
    rw [Chip.fld_faultIs _ _ _ _ _ hlo (by decide) hcause, Chip.event_fld, Chip.count_eq, Chip.mark_eq, Chip.fld_set_other _ _ _ _ _ _ htotal,
      Chip.fld_set_other _ _ _ _ _ _ hseen, Chip.fld_set_other _ _ _ _ _ _ hxpt, Chip.fld_set_other _ _ _ _ _ _ hflt]
    rfl

theorem mem_dedup {a : Nat} {l : List Nat} (h : a ∈ l) : a ∈ dedup l := by
  refine List.foldl_establishes (fun (x : Nat) (acc : List Nat) => x ∈ acc) _ (fun acc x => ?_) (fun acc x y hx => ?_) _ _ h
  · split_ifs with hin
    · exact List.contains_iff_mem.mp hin
    · exact List.mem_append_right _ (List.mem_singleton_self x)
  · split_ifs
    · exact hx
    · exact List.mem_append_left _ hx

/-- What a warm restart that begins shows, whatever the processors did. -/
theorem Chip.beginRestart_spec (c : Chip) (m : Tbl Byte) (cause processor : Nat) (hhalted : c.halted = false) (hact : c.upd.act = none)
    (hlimit : c.recentRestarts.length < c.restartLimit) :
    (c.beginRestart m cause processor).1.isSet Reg.XPT_STATUS_RESTART 0 = true ∧ (c.beginRestart m cause processor).1.isSet Reg.FLT_STATUS_RESTART 0 = true ∧
      (c.beginRestart m cause processor).1.isSet Reg.FLT_STATUS_RESTART_SEEN 0 = true ∧
      (c.beginRestart m cause processor).1.flt.restarts = c.recentRestarts ++ [c.now] ∧
      (∀ k, 1 ≤ k → k ≤ 4 → k ∈ (c.beginRestart m cause processor).1.fab.held) ∧
      (∀ k, k < 4 → (c.beginRestart m cause processor).1.fld (wdField k) 0 = c.fld (wdField k) 0) ∧
      (c.beginRestart m cause processor).1.logged Ev.fltWarmRestart [cause + processor * 256, c.recentRestarts.length + 1] := by
  obtain ⟨hhanded, hrestarts, hheld, hflds⟩ := (c.restartShown cause processor).stopCores_spec m
  rw [c.beginRestart_eq m cause processor hhalted hact hlimit]
  generalize ((c.restartShown cause processor).stopCores m).1 = d at hhanded hrestarts hheld hflds ⊢
  obtain ⟨hxpt, hflt, hseen, hwd⟩ := c.fld_restartShown cause processor
  have hcourse : ∀ k, k < 4 → wdField k ∈ courseFlds := by decide
  refine ⟨?_, ?_, ?_, hrestarts, fun k hlow hhigh => ?_, fun k hk => (hflds _ (hcourse k hk)).trans (hwd k hk), ?_⟩
  · rwa [Chip.isSet, hflds _ (by decide)]
  · rwa [Chip.isSet, hflds _ (by decide)]
  · rwa [Chip.isSet, hflds _ (by decide)]
  · rw [hheld]
    refine mem_dedup (List.mem_append_right _ ?_)
    interval_cases k <;> decide
  · exact ⟨_, hhanded.subset (List.mem_append_right _ (List.mem_singleton_self _)), rfl, rfl, rfl, rfl⟩

/-! ## The end of a warm restart -/

theorem Chip.flt_notice (c : Chip) (slot code : Nat) (body : List Byte) : (c.notice slot code body).flt = c.flt := by
  have hsent (l : List Notice) (d : Chip) : (l.foldl (fun a n => a.sendMsg slot 3 n.code 0 n.seq n.body) d).flt = d.flt :=
    List.foldl_keeps (fun a : Chip => a.flt = d.flt) (fun a (n : Notice) => a.sendMsg slot 3 n.code 0 n.seq n.body) (fun _ _ ha => ha) l d rfl
  unfold Chip.notice
  dsimp only
  split_ifs
  · exact hsent _ _
  · exact hsent _ _
  · rfl

theorem Chip.flt_opDone (c : Chip) (slot session reqSeq status : Nat) : (c.opDone slot session reqSeq status).flt = c.flt := by
  unfold Chip.opDone Chip.noticeTo
  split_ifs
  · exact c.flt_notice _ _ _
  · rfl

/-- The end of a warm restart shown, and the processors released. -/
def Chip.restartEnded (c : Chip) : Chip :=
  ((((c.set Reg.FLT_STATUS_RESTART 0 0).set Reg.XPT_STATUS_RESTART 0 0).set Reg.FLT_T_RESTART_US 0 ((c.now - c.flt.startedAt) / 27000)).event Ev.fltRestartDone
    [(c.now - c.flt.startedAt) / 27000]).releaseCores

/-- What follows the release: PTP, the players, and the messages kept. -/
def Chip.afterRestart (c : Chip) : Chip :=
  c.restartPtp.pausePlayers.sendKept.flt.abandoned.foldl (fun (a : Chip) q => a.opDone q.1 q.2.1 q.2.2 (statusOf 0x0201 wholeIndex))
    { c.restartPtp.pausePlayers.sendKept with flt := { c.restartPtp.pausePlayers.sendKept.flt with abandoned := [] } }

theorem Chip.afterRestart_spec (c : Chip) : c.afterRestart.KeepsCourse c ∧ c.afterRestart.flt.abandoned = [] := by
  have hpause (d : Chip) : d.pausePlayers.KeepsCourse d := Chip.keepsCourse_of_eq rfl rfl rfl rfl
  have hbefore : c.restartPtp.pausePlayers.sendKept.KeepsCourse c := (Chip.keepsCourse_sendKept _).trans ((hpause _).trans c.keepsCourse_restartPtp)
  unfold Chip.afterRestart
  generalize c.restartPtp.pausePlayers.sendKept = d at hbefore ⊢
  have hnone : ({ d with flt := { d.flt with abandoned := [] } } : Chip).KeepsCourse d := ⟨List.prefix_rfl, rfl, rfl, fun _ _ => rfl⟩
  constructor
  · exact (Chip.keepsCourse_foldl _ _ (fun a q _ => a.keepsCourse_opDone _ _ _ _) _).trans (hnone.trans hbefore)
  · refine List.foldl_keeps (fun a : Chip => a.flt.abandoned = []) _ (fun a q ha => ?_) _ _ rfl
    rw [Chip.flt_opDone, ha]

/-! ## Memory errors -/

/-- A memory error counted, shown and recorded. -/
def Chip.sramShown (c : Chip) (hit : SramHit) (part row offset : Nat) : Chip :=
  let a := (((c.count Reg.FLT_SRAM_UE_COUNT part 1).set Reg.FLT_SRAM_ADDR_OFFSET part offset).mark Reg.FLT_STATUS_UE_SEEN).event Ev.fltSramUe [part + row * 256, offset]
  if hitClass hit = 0 then a else a.faultIs Ev.fltSramUe (hitClass hit)

theorem Chip.now_sramShown (c : Chip) (hit : SramHit) (part row offset : Nat) : (c.sramShown hit part row offset).now = c.now := by
  rw [Chip.sramShown]
  split
  · simp only [Chip.event_now, Chip.mark_now, Chip.set_now, Chip.count_now]
  · simp only [Chip.faultIs, Chip.event_now, Chip.mark_now, Chip.set_now, Chip.count_now]

theorem Chip.keepsCourse_faultIs (c : Chip) (e : Ev) (cls : Nat) : (c.faultIs e cls).KeepsCourse c :=
  (Chip.keepsCourse_set _ Reg.FLT_LAST_CAUSE_CLASS 0 _ (by decide) (by decide)).trans
    ((Chip.keepsCourse_set _ Reg.FLT_LAST_CAUSE_BLOCK 0 _ (by decide) (by decide)).trans (Chip.keepsCourse_set _ Reg.FLT_LAST_CAUSE_CODE 0 _ (by decide) (by decide)))

theorem Chip.keepsCourse_sramShown (c : Chip) (hit : SramHit) (part row offset : Nat) (hpart : part < 5) : (c.sramShown hit part row offset).KeepsCourse c := by
  have hbank : part < 1048576 := by omega
  have hcount : (c.count Reg.FLT_SRAM_UE_COUNT part 1).KeepsCourse c := c.keepsCourse_set _ _ _ (by decide) hbank
  have haddr (d : Chip) : (d.set Reg.FLT_SRAM_ADDR_OFFSET part offset).KeepsCourse d := d.keepsCourse_set _ _ _ (by decide) hbank
  have hmark (d : Chip) : (d.mark Reg.FLT_STATUS_UE_SEEN).KeepsCourse d := d.keepsCourse_set _ _ _ (by decide) (by decide)
  have hshown := (Chip.keepsCourse_event _ Ev.fltSramUe [part + row * 256, offset]).trans ((hmark _).trans ((haddr _).trans hcount))
  unfold Chip.sramShown
  dsimp only
  split
  · exact hshown
  · exact (Chip.keepsCourse_faultIs _ _ _).trans hshown

theorem hitPlace_lt {hit : SramHit} {part row : Nat} (h : hitPlace hit = some (part, row)) : part < 5 := by
  cases hit <;> simp [hitPlace] at h <;> omega

/-- Of a packet, a ring or the watch of a source. -/
theorem hitClass_packet {hit : SramHit} {part row : Nat} (h : hitPlace hit = some (part, row)) (hwhere : part = 2 ∨ row = 6) : hitClass hit = 1 := by
  cases hit <;> simp [hitPlace] at h
  any_goals omega
  all_goals rfl

theorem Chip.sramShown_spec (c : Chip) (hit : SramHit) (part row offset : Nat) (hpart : part < 5) (hclass : hitClass hit = 1) :
    (c.sramShown hit part row offset).isSet Reg.FLT_STATUS_UE_SEEN 0 = true ∧
      (c.sramShown hit part row offset).fld Reg.FLT_SRAM_UE_COUNT part = min (c.fld Reg.FLT_SRAM_UE_COUNT part + 1) (2 ^ Reg.FLT_SRAM_UE_COUNT.width - 1) ∧
      (c.sramShown hit part row offset).fld Reg.FLT_LAST_CAUSE_CLASS 0 = 1 ∧ (c.sramShown hit part row offset).logged Ev.fltSramUe [part + row * 256, offset] := by
  have hbank : part < 1048576 := by omega
  rw [Chip.sramShown, hclass]
  refine ⟨?_, ?_, ?_, ?_⟩
  · rw [if_neg one_ne_zero, Chip.isSet, Chip.fld_faultIs _ _ _ _ _ (by decide) (by decide) (by decide), Chip.event_fld, Chip.fld_mark _ _ rfl]
    rfl
  · rw [if_neg one_ne_zero, Chip.fld_faultIs _ _ _ _ _ (by decide) hbank (by decide), Chip.event_fld, Chip.mark_eq,
      Chip.fld_set_ne _ Reg.FLT_STATUS_UE_SEEN _ 0 _ _ (by decide) (by decide) hbank (by decide) (by decide),
      Chip.fld_set_ne _ Reg.FLT_SRAM_ADDR_OFFSET _ part _ _ (by decide) (by decide) hbank hbank (by decide), Chip.fld_count]
  · rw [if_neg one_ne_zero]
    exact Chip.fld_set _ _ _ _
  · have hevent := (((c.count Reg.FLT_SRAM_UE_COUNT part 1).set Reg.FLT_SRAM_ADDR_OFFSET part offset).mark Reg.FLT_STATUS_UE_SEEN).logged_event Ev.fltSramUe
      [part + row * 256, offset]
    rw [if_neg one_ne_zero]
    exact hevent

/-- An error in a packet, a ring or the watch of a source changes no register and records nothing more. -/
theorem Chip.sramOutcome_packet (c : Chip) (m : Tbl Byte) (hit : SramHit) {part row : Nat} (h : hitPlace hit = some (part, row)) (hwhere : part = 2 ∨ row = 6) :
    ∃ d : Chip, c.sramOutcome m hit = (d, m) ∧ d.now = c.now ∧ d.regs = c.regs ∧ d.log = c.log ∧
      (∀ f i, hit = .ringPacket f i → ∀ p ∈ (d.rx f).ring, p.idx ≠ i) ∧ (∀ x, hit = .watch x → x ∈ d.fwa.rebound) := by
  cases hit with
  | rxPacket => exact ⟨c, rfl, rfl, rfl, rfl, fun f i hne => (SramHit.noConfusion hne), fun x hne => (SramHit.noConfusion hne)⟩
  | txFrame p b n => refine ⟨_, rfl, rfl, rfl, rfl, ?_, ?_⟩ <;> simp
  | ringPacket f i =>
    refine ⟨_, rfl, rfl, rfl, rfl, fun f' i' heq p hp => ?_, by simp⟩
    obtain ⟨rfl, rfl⟩ := SramHit.ringPacket.inj heq
    have hring := Tbl.get_upd RxFlow.reset c.net.rx f (fun x => { x with ring := x.ring.filter (fun p => p.idx != i) })
    have hp' : p ∈ (Tbl.get RxFlow.reset (c.modRx f (fun x => { x with ring := x.ring.filter (fun p => p.idx != i) })).net.rx f).ring := hp
    rw [Chip.modRx, hring] at hp'
    exact bne_iff_ne.mp (List.mem_filter.mp hp').2
  | watch x =>
    refine ⟨_, rfl, rfl, rfl, rfl, by simp, fun x' heq => ?_⟩
    obtain rfl := SramHit.watch.inj heq
    exact mem_dedup (List.mem_append_right _ (List.mem_singleton_self _))
  | _ => simp [hitPlace] at h <;> omega

/-! ## Overruns -/

/-- A bit set in a field shows there. -/
theorem Chip.bit_setBit (c : Chip) (f : Fld) (i : Nat) (hi : i < f.width) : bit ((c.setBit f i true).fld f 0) i = true := by
  rw [Chip.setBit, Chip.fld_set, bit_mod_two_pow _ hi]
  rw [if_pos rfl]
  split_ifs with hbit
  · exact hbit.symm
  · have hclear : (c.fld f 0).testBit i = false := by
      rw [← bit_eq_testBit]
      exact (Bool.not_eq_true _).mp fun h => hbit h.symm
    rw [bit_eq_testBit, Nat.add_comm, Nat.testBit_two_pow_add_eq, hclear]
    rfl

/-- The field that counts the overruns of a domain's jobs of a kind is not the one that shows them. -/
theorem Chip.jobOverrun_spec (c : Chip) (td job : Nat) (f : Fld) (frame late : Nat) (htd : td < 4) (hf : f.key 0 ≠ Reg.TICK_STATUS_OVERRUN.key 0) :
    (c.jobOverrun td job f frame late).fld f 0 = min (c.fld f 0 + 1) (2 ^ f.width - 1) ∧
      bit ((c.jobOverrun td job f frame late).fld Reg.TICK_STATUS_OVERRUN 0) td = true ∧
      (c.jobOverrun td job f frame late).logged Ev.tickOverrun [job * 16777216 + td, frame % 4294967296, min late 0xFFFFFFFF] := by
  refine ⟨?_, (c.count f 0 1).bit_setBit Reg.TICK_STATUS_OVERRUN td htd, Chip.logged_event _ _ _⟩
  rw [Chip.jobOverrun, Chip.event_fld, Chip.setBit, Chip.fld_set_other _ _ _ _ _ _ hf, Chip.fld_count]

theorem Chip.tick_jobOverrun (c : Chip) (td job : Nat) (f : Fld) (frame late : Nat) : (c.jobOverrun td job f frame late).tick = c.tick := rfl

theorem ovrTake_ne (td : Fin 4) : (Reg.TICK_TD_OVR_TAKE td).key 0 ≠ Reg.TICK_STATUS_OVERRUN.key 0 := by revert td; decide

theorem ovrSync_ne (td : Fin 4) : (Reg.TICK_TD_OVR_SYNC td).key 0 ≠ Reg.TICK_STATUS_OVERRUN.key 0 := by revert td; decide

theorem ovrCmp_ne (td : Fin 4) : (Reg.TICK_TD_OVR_CMP td).key 0 ≠ Reg.TICK_STATUS_OVERRUN.key 0 := by revert td; decide

theorem ovrFwa_ne (td : Fin 4) : (Reg.TICK_TD_OVR_FWA td).key 0 ≠ Reg.TICK_STATUS_OVERRUN.key 0 := by revert td; decide

/-- The deadline of a TAKE job closes it and unstages its domain. -/
def Chip.takeJobMissed (c : Chip) (td f late : Nat) : Chip :=
  ((c.unstage td).modDom td (fun x => { x with jobFrame := none, takeOvr := x.takeOvr + 1 })).jobOverrun td 1 (Reg.TICK_TD_OVR_TAKE td) f late

/-- The counters of the block. -/
def fltCounters : List Fld :=
  [Reg.FLT_RT_REPAIR_COUNT, Reg.FLT_RT_LOST_COUNT, Reg.FLT_FAB_RESETS_COUNT, Reg.FLT_SRAM_CE_COUNT, Reg.FLT_SRAM_UE_COUNT, Reg.FLT_WD_M1, Reg.FLT_WD_M2,
    Reg.FLT_WD_M3, Reg.FLT_WD_M4]

theorem fltCounters_reset : ∀ f ∈ fltCounters, f.reset = 0 := by decide

theorem wdField_ne_halted (core : Fin 4) : Reg.FLT_STATUS_HALTED.key 0 ≠ (wdField core).key 0 := by revert core; decide

theorem Chip.run_deviceFault (c : Chip) (m : Tbl Byte) (cause : Nat) : (c.deviceFault m cause).1.run = .inReset := by
  rw [Chip.deviceFault, Chip.inReset, Chip.resetFor_eq]

/-- The fields that the end of a restart writes. -/
theorem Chip.fld_restartEnded (c : Chip) : c.restartEnded.fld Reg.XPT_STATUS_RESTART 0 = 0 ∧ c.restartEnded.fld Reg.FLT_STATUS_RESTART 0 = 0 ∧
    c.restartEnded.fld Reg.FLT_T_RESTART_US 0 = (c.now - c.flt.startedAt) / 27000 % 2 ^ Reg.FLT_T_RESTART_US.width := by
  have hrelease (d : Chip) (f : Fld) : d.releaseCores.fld f 0 = d.fld f 0 := rfl
  rw [Chip.restartEnded]
  simp only [hrelease, Chip.event_fld]
  refine ⟨?_, ?_, Chip.fld_set _ _ _ _⟩
  · rw [Chip.fld_set_other _ _ _ _ _ _ (by decide), Chip.fld_set]
    rfl
  · rw [Chip.fld_set_other _ _ _ _ _ _ (by decide), Chip.fld_set_other _ _ _ _ _ _ (by decide), Chip.fld_set]
    rfl

theorem execRestartDone_eq (t : Nat) (s : State) : execRestartDone t s = act t s (fun c => if c.restarting then c.restartEnded.afterRestart else c) := by
  unfold execRestartDone Chip.afterRestart Chip.restartEnded
  rfl

theorem yields_of_actMem_eq_now {i : Instr} {s : State} {t : Nat} {f : Chip → Tbl Byte → Chip × Tbl Byte} {d : Chip} {P : Chip → Prop} (hs : s.runs)
    (h : exec i s = actMem t s f) (hd : f (s.upon t) s.mem = (d, s.mem)) (hP : P { d with now := max s.chip.now t }) : Yields i s P := by
  refine ⟨_, (h.trans (actMem_runs _ _ _ hs)).trans ?_, hP⟩
  rw [hd]

/-! ## The deadlines of the jobs -/

theorem yields_takeDeadline {s : State} {t : Nat} {td : Fin 4} {late f : Nat} (hs : s.runs) (hjob : (s.chip.dom td).jobFrame = some f) (hcommit : (s.chip.dom td).commit ≠ some f) (hlimit : (s.chip.dom td).takeOvr + 1 < s.chip.takeOvrLimit) :
    Yields (.jobDeadline t td 1 late) s (fun c => (c.dom td).jobFrame = none ∧ (c.dom td).takeOvr = (s.chip.dom td).takeOvr + 1 ∧
        (∀ q ∈ c.xpt.queue, c.dstTd q.dst = td.val → q.staged = false) ∧
        c.fld (Reg.TICK_TD_OVR_TAKE td) 0 = min (s.chip.fld (Reg.TICK_TD_OVR_TAKE td) 0 + 1) (2 ^ (Reg.TICK_TD_OVR_TAKE td).width - 1) ∧
        bit (c.fld Reg.TICK_STATUS_OVERRUN 0) td = true ∧ c.logged Ev.tickOverrun [16777216 + td, f % 4294967296, min late 0xFFFFFFFF]) := by
  have hexec : exec (.jobDeadline t td 1 late) s = execJobDeadline t td 1 late s := rfl
  refine yields_of_actMem_eq (d := (s.upon t).takeJobMissed td f late) hs hexec ?effTake rfl ?postTake
  case effTake =>
    have hjob' : ((s.upon t).dom td).jobFrame = some f := hjob
    have hlimit' : ¬(((s.upon t).takeJobMissed td f late).takeOvrLimit ≤ ((s.upon t).dom td).takeOvr + 1) := Nat.not_le.mpr hlimit
    rw [if_pos rfl, hjob']
    dsimp only
    have hcommit' : ((s.upon t).dom td).commit ≠ some f := hcommit
    rw [if_neg hcommit']
    exact if_neg hlimit'
  case postTake =>
    obtain ⟨hcount, hbit, hlogged⟩ := (((s.upon t).unstage td).modDom td (fun x => { x with jobFrame := none, takeOvr := x.takeOvr + 1 })).jobOverrun_spec td 1
      (Reg.TICK_TD_OVR_TAKE td) f late td.isLt (ovrTake_ne td)
    have hdom := ((s.upon t).unstage td).dom_modDom td (fun x => { x with jobFrame := none, takeOvr := x.takeOvr + 1 })
    refine ⟨congrArg Domain.jobFrame hdom, congrArg Domain.takeOvr hdom, fun q hq htd => ?_, hcount, hbit, hlogged⟩
    obtain ⟨q', -, rfl⟩ := List.mem_map.mp hq
    split_ifs at htd ⊢ with hmine
    · rfl
    · exact absurd htd hmine

theorem yields_syncDeadline {s : State} {t : Nat} {td : Fin 4} {late : Nat} (hs : s.runs) (hopen : (s.chip.dom td).syncOpen = true) :
    Yields (.jobDeadline t td 2 late) s (fun c => bit (c.fld Reg.TICK_STATUS_OVERRUN 0) td = true ∧
        c.logged Ev.tickOverrun [33554432 + td, (s.chip.dom td).frame % 4294967296, min late 0xFFFFFFFF]) := by
  have hexec : exec (.jobDeadline t td 2 late) s = execJobDeadline t td 2 late s := rfl
  have hopen' : ((s.upon t).dom td).syncOpen = true := hopen
  generalize hblocks : (((s.upon t).modDom td (fun x => { x with syncOpen := false })).syncAbandoned td).startBlocks td = c
  obtain ⟨-, hbit, hlogged⟩ := c.jobOverrun_spec td 2 (Reg.TICK_TD_OVR_SYNC td) (s.chip.dom td).frame late td.isLt (ovrSync_ne td)
  generalize hmissed : c.jobOverrun td 2 (Reg.TICK_TD_OVR_SYNC td) (s.chip.dom td).frame late = d at hbit hlogged
  refine yields_of_actMem_eq_now (d := d) hs hexec ?_ ⟨hbit, hlogged⟩
  rw [if_neg (by decide), if_pos ⟨rfl, hopen'⟩, ← hmissed, ← hblocks]
  rfl

theorem yields_composeDeadline {s : State} {t : Nat} {td : Fin 4} {late : Nat} (hs : s.runs) (hopen : (s.chip.dom td).cmpOpen = true) :
    Yields (.jobDeadline t td 3 late) s (fun c => (c.dom td).cmpOpen = false ∧ bit (c.fld Reg.TICK_STATUS_OVERRUN 0) td = true ∧
        c.fld (Reg.TICK_TD_OVR_CMP td) 0 = min (s.chip.fld (Reg.TICK_TD_OVR_CMP td) 0 + 1) (2 ^ (Reg.TICK_TD_OVR_CMP td).width - 1) ∧
        c.logged Ev.tickOverrun [50331648 + td, (s.chip.dom td).frame % 4294967296, min late 0xFFFFFFFF]) := by
  have hexec : exec (.jobDeadline t td 3 late) s = execJobDeadline t td 3 late s := rfl
  have hopen' : ((s.upon t).dom td).cmpOpen = true := hopen
  obtain ⟨hcount, hbit, hlogged⟩ := ((s.upon t).modDom td (fun x => { x with cmpOpen := false })).jobOverrun_spec td 3
    (Reg.TICK_TD_OVR_CMP td) (s.chip.dom td).frame late td.isLt (ovrCmp_ne td)
  have hdom := (s.upon t).dom_modDom td (fun x => { x with cmpOpen := false })
  refine yields_of_actMem_eq (d := ((s.upon t).modDom td (fun x => { x with cmpOpen := false })).jobOverrun td 3 (Reg.TICK_TD_OVR_CMP td) (s.chip.dom td).frame late)
    hs hexec ?effCmp rfl ⟨congrArg Domain.cmpOpen hdom, hbit, hcount, hlogged⟩
  case effCmp =>
    simp [hopen']
    rfl

theorem yields_checkDeadline {s : State} {t : Nat} {td : Fin 4} {late : Nat} (hs : s.runs) (hopen : (s.chip.dom td).fwaOpen = true) :
    Yields (.jobDeadline t td 5 late) s (fun c => (c.dom td).fwaOpen = false ∧ bit (c.fld Reg.TICK_STATUS_OVERRUN 0) td = true ∧
        c.fld (Reg.TICK_TD_OVR_FWA td) 0 = min (s.chip.fld (Reg.TICK_TD_OVR_FWA td) 0 + 1) (2 ^ (Reg.TICK_TD_OVR_FWA td).width - 1) ∧
        c.logged Ev.tickOverrun [83886080 + td, (s.chip.dom td).frame % 4294967296, min late 0xFFFFFFFF]) := by
  have hexec : exec (.jobDeadline t td 5 late) s = execJobDeadline t td 5 late s := rfl
  have hopen' : ((s.upon t).dom td).fwaOpen = true := hopen
  obtain ⟨hcount, hbit, hlogged⟩ := ((s.upon t).modDom td (fun x => { x with fwaOpen := false })).jobOverrun_spec td 5
    (Reg.TICK_TD_OVR_FWA td) (s.chip.dom td).frame late td.isLt (ovrFwa_ne td)
  have hdom := (s.upon t).dom_modDom td (fun x => { x with fwaOpen := false })
  refine yields_of_actMem_eq (d := ((s.upon t).modDom td (fun x => { x with fwaOpen := false })).jobOverrun td 5 (Reg.TICK_TD_OVR_FWA td) (s.chip.dom td).frame late)
    hs hexec ?effFwa rfl ⟨congrArg Domain.fwaOpen hdom, hbit, hcount, hlogged⟩
  case effFwa =>
    simp [hopen']
    rfl

/-- Settles O27, clause by clause: the deadlines of the jobs, memory errors, restarts by their causes, their end, the watchdog of the last processor, the counters. -/
theorem faultCommandsComplete : Obligations.FaultCommandsComplete := by
  refine ⟨fun _ _ _ _ _ => yields_takeDeadline, fun _ _ _ _ => yields_syncDeadline, fun _ _ _ _ => yields_composeDeadline, fun _ _ _ _ => yields_checkDeadline,
    ?_, ?_, ?_, ?_, ?_, ?_, ?_, ?_, ?_⟩
  · intro s t hit offset part row hs hplace hwhere
    have hexec : exec (.sramUncorrectableError t hit offset) s = execSramUncorrectableError t hit offset s := rfl
    have hshown := (s.upon t).sramShown_spec hit part row offset (hitPlace_lt hplace) (hitClass_packet hplace hwhere)
    obtain ⟨d, hd, hnow, hregs, hlog, hring, hwatch⟩ := ((s.upon t).sramShown hit part row offset).sramOutcome_packet s.mem hit hplace hwhere
    have hclock : ((s.upon t).sramShown hit part row offset).now = max s.chip.now t := (s.upon t).now_sramShown hit part row offset
    obtain ⟨hseen, hcount, hclass, hlogged⟩ := hshown
    refine yields_of_actMem_eq (d := d) hs hexec ?effSram (hnow.trans hclock) ⟨?_, ?_, ?_, ?_, hring, hwatch⟩
    case effSram =>
      rw [hplace]
      exact hd
    · rwa [Chip.isSet, Chip.fld, hregs]
    · rwa [Chip.fld, hregs]
    · rwa [Chip.fld, hregs]
    · rwa [Chip.logged, hlog]
  · intro s t p offset recent hs hhalted hact hlimit
    have hexec : exec (.sramUncorrectableError t (.core p) offset) s = execSramUncorrectableError t (.core p) offset s := rfl
    have hrun : ((s.upon t).sramShown (.core p) 4 10 offset).halted = (s.upon t).halted :=
      congrArg (· != 0) (((s.upon t).keepsCourse_sramShown (.core p) 4 10 offset (by decide)).flds Reg.FLT_STATUS_HALTED (by decide))
    have hspec := ((s.upon t).sramShown (.core p) 4 10 offset).beginRestart_spec s.mem 1 p (hrun.trans hhalted) hact hlimit
    generalize hbegun : ((s.upon t).sramShown (.core p) 4 10 offset).beginRestart s.mem 1 p = d at hspec
    obtain ⟨hxpt, -, -, -, -, -, hlogged⟩ := hspec
    exact yieldsMem_of_actMem_eq hs hexec hbegun ⟨hxpt, hlogged⟩
  · intro s t core recent hs hreleased hhalted hact hlimit
    have hexec : exec (.serviceCoreException t core) s = execServiceCoreException t core s := rfl
    have hspec := (s.upon t).beginRestart_spec s.mem 3 (core + 1) hhalted hact hlimit
    generalize hbegun : (s.upon t).beginRestart s.mem 3 (core + 1) = d at hspec
    obtain ⟨hxpt, hflt, hseen, hrestarts, hheld, -, hlogged⟩ := hspec
    exact yieldsMem_of_actMem_eq hs hexec ((if_pos hreleased).trans hbegun) ⟨hxpt, hflt, hseen, hrestarts, hheld, hlogged⟩
  · intro s t core recent hs hreleased hheld hhalted hact hlimit
    have hexec : exec (.serviceCoreWatchdog t core) s = execServiceCoreWatchdog t core s := rfl
    have hcounted : ((s.upon t).count (wdField core) 0 1).halted = false := by
      rw [← hhalted]
      exact congrArg (· != 0) (Chip.fld_set_other _ _ _ _ _ _ (wdField_ne_halted core))
    have hspec := ((s.upon t).count (wdField core) 0 1).beginRestart_spec s.mem 4 (core + 1) hcounted hact hlimit
    generalize hbegun : ((s.upon t).count (wdField core) 0 1).beginRestart s.mem 4 (core + 1) = d at hspec
    obtain ⟨hxpt, -, -, -, -, hwd, hlogged⟩ := hspec
    exact yieldsMem_of_actMem_eq hs hexec ((if_pos ⟨hreleased, hheld⟩).trans hbegun) ⟨hxpt, (hwd core core.isLt).trans ((s.upon t).fld_count _ _ _), hlogged⟩
  · intro s t recent hs hhalted hact hlimit
    have hexec : exec (.forceRestart t 0x7E57) s = execForceRestart t 0x7E57 s := rfl
    have hspec := (s.upon t).beginRestart_spec s.mem 6 0 hhalted hact hlimit
    generalize hbegun : (s.upon t).beginRestart s.mem 6 0 = d at hspec
    obtain ⟨hxpt, -, -, -, -, -, hlogged⟩ := hspec
    exact yieldsMem_of_actMem_eq hs hexec ((if_pos ⟨rfl, hhalted⟩).trans hbegun) ⟨hxpt, hlogged⟩
  · intro s t key hs hkey
    have hexec : exec (.forceRestart t key) s = execForceRestart t key s := rfl
    have heff : (s.upon t).forceRestart s.mem key = ((s.upon t).mark Reg.FLT_STATUS_CFG_REJECT, s.mem) := if_neg fun h => hkey h.1
    rw [hexec, execForceRestart, actMem_runs _ _ _ hs, heff]
    rfl
  · intro s t hs hrestarting
    have hexec : exec (.restartDone t) s = execRestartDone t s := rfl
    obtain ⟨hkeeps, habandoned⟩ := (s.upon t).restartEnded.afterRestart_spec
    obtain ⟨hxpt, hflt, htime⟩ := (s.upon t).fld_restartEnded
    generalize hdone : (s.upon t).restartEnded.afterRestart = d at hkeeps habandoned
    refine yields_of_act_eq (d := d) hs (hexec.trans (execRestartDone_eq t s)) ((if_pos hrestarting).trans hdone) ⟨?_, ?_, ?_, hkeeps.held, habandoned, ?_⟩
    · exact bne_eq_false_iff_eq.mpr ((hkeeps.flds _ (by decide)).trans hxpt)
    · exact bne_eq_false_iff_eq.mpr ((hkeeps.flds _ (by decide)).trans hflt)
    · exact (hkeeps.flds _ (by decide)).trans htime
    · exact hkeeps.logged (Chip.logged_event _ _ _)
  · intro s t hs
    have hexec : exec (.lamplighterWatchdog t) s = execLamplighterWatchdog t s := rfl
    have hreset := (s.upon t).run_deviceFault s.mem 1
    generalize hfault : (s.upon t).deviceFault s.mem 1 = d at hreset
    exact yieldsMem_of_actMem_eq hs hexec hfault hreset
  · intro s t hs
    have hexec : exec (.fltClrCnt t) s = execFltClrCnt t s := rfl
    have hclear (f : Fld) (hf : f ∈ fltCounters) (b : Nat) (hb : b < 1048576) : (s.upon t).clrFlt.fld f b = 0 :=
      ((s.upon t).fld_clearAll fltCounters f b hf hb).trans (fltCounters_reset f hf)
    have hwd : ∀ k, k < 4 → wdField k ∈ fltCounters := by decide
    refine yields_of_eq hs hexec rfl rfl ⟨hclear _ (by decide) _ (by decide), hclear _ (by decide) _ (by decide), hclear _ (by decide) _ (by decide), fun p hp => ?_,
      fun k hk => hclear _ (hwd k hk) _ (by decide), rfl⟩
    exact ⟨hclear _ (by decide) _ (by omega), hclear _ (by decide) _ (by omega)⟩

end Sys2Proof.Machine
end

section
/-! PROOFS. Requests of the session itself, queries, the register window and bulk reads and writes of bytes. -/

namespace Sys2Proof.Machine

/-- A request of a session in full service that may write the memories and passes the common checks, where its effect on the module is `e`. -/
theorem yieldsMem_of_request {i : Instr} {s : State} {t slot m need : Nat} {rec : Bool} {g : Chip → Tbl Byte → Chip × Tbl Byte} {f : Chip → Chip} {e : Chip}
    {m' : Tbl Byte} {P : Chip → Tbl Byte → Prop} (hs : s.serving slot m need) (h : exec i s = actMem t s g)
    (hg : g (s.upon t) s.mem = ((s.upon t).request slot m need rec true f, m')) (he : f (s.upon t) = e) (hnow : e.now = (s.upon t).now)
    (hP : ∀ d : Chip, d.AnswersOnly e slot → P d m') : YieldsMem i s P := by
  obtain ⟨hrun, hserves, hpriv, hphase, hstalled, hmirror⟩ := hs
  have hanswers := (s.upon t).request_answersOnly slot m need rec true f hserves (Chip.gateCode_none _ _ _ _ _ hpriv hphase hstalled) hmirror
  rw [he] at hanswers
  refine yieldsMem_of_eq hrun h hg ?_ (hP _ hanswers)
  rw [hanswers.eq_of_frame Chip.now fun _ _ _ _ => rfl, hnow]
  rfl

/-- A request whose effect is its answer alone. -/
theorem yields_of_answer {i : Instr} {s : State} {t slot m need : Nat} {rec : Bool} {g f : Chip → Chip} {status : Nat} {body : List Byte}
    (hs : s.serving slot m need) (h : exec i s = act t s g) (hg : g (s.upon t) = (s.upon t).request slot m need rec true f)
    (hf : f (s.upon t) = (s.upon t).respond slot m status body) : Yields i s (fun c => c.replied s.chip slot m status body ∧ c.regs = s.chip.regs) := by
  refine yields_of_request_at hs h hg ?_ fun d hd => ?_
  · rw [hf]
    rfl
  · rw [hf] at hd
    exact ⟨hd.replied (Chip.replied_respond rfl _ _ _), hd.eq_of_frame Chip.regs fun _ _ _ _ => rfl⟩

/-! ## The write of FST.SCRUB -/

theorem scrub_of (v : Nat) : Reg.FST_SCRUB_PERIOD_S.of v = v % 256 := congrArg (· % 256) (Nat.div_one v)

/-- A scrub period other than 0 is stored by a write to FST.SCRUB, which has no other effect. -/
theorem Chip.regWrite_scrub (c : Chip) (m : Tbl Byte) (master slot v : Nat) (hv : v % 256 ≠ 0) :
    c.regWrite m master slot Reg.FST_SCRUB_PERIOD_S.addr v = (c.set Reg.FST_SCRUB_PERIOD_S 0 (Reg.FST_SCRUB_PERIOD_S.of v), m) := by
  have hcommand : ∀ f ∈ commandFlds, f.addr ≠ Reg.FST_SCRUB_PERIOD_S.addr := by decide
  have hother : ∀ f ∈ judgedFlds.erase Reg.FST_SCRUB_PERIOD_S, f.addr ≠ Reg.FST_SCRUB_PERIOD_S.addr := by decide
  have hsel : selectBad Reg.FST_SCRUB_PERIOD_S.addr v = false := rfl
  have hupd : Reg.FST_SCRUB_PERIOD_S.addr / 65536 ≠ 0x6007 := by decide
  have hvalue : Reg.FST_SCRUB_PERIOD_S.of v ≠ 0 := by rwa [scrub_of]
  have hplain : c.writePlain Reg.FST_SCRUB_PERIOD_S.addr 0 v = c.set Reg.FST_SCRUB_PERIOD_S 0 (Reg.FST_SCRUB_PERIOD_S.of v) := rfl
  have hgood : c.regBad master Reg.FST_SCRUB_PERIOD_S.addr v 0 = false := by
    simp (disch := decide) [Chip.regBad, hsel, hupd, hvalue, Chip.badTick, Chip.badArb, Chip.badMac, Chip.badLne, Chip.badPtp, Chip.badFwa, Chip.badLog, Chip.badFab,
      List.range_succ, ne_addr_of_forall hother]
  have hselects : selects Reg.FST_SCRUB_PERIOD_S.addr = false := by decide
  rw [c.regWrite_of_plain m master slot _ 0 v rfl hgood hcommand, c.carryOut_of_noCommand master slot _ 0 v hcommand, hselects, if_neg Bool.false_ne_true, hplain]

theorem Chip.fld_scrub (c : Chip) (v : Nat) : (c.set Reg.FST_SCRUB_PERIOD_S 0 (Reg.FST_SCRUB_PERIOD_S.of v)).fld Reg.FST_SCRUB_PERIOD_S 0 = v % 256 := by
  rw [Chip.fld_set, scrub_of]
  exact Nat.mod_mod_of_dvd v (dvd_refl 256)

/-! ## One entry of the register window -/

theorem Chip.fabDecode_registers (c : Chip) {a : Nat} (hlow : 0x40000000 ≤ a) (hhigh : a < 0x400E0000) : c.fabDecode a = some (3, 0x400E0000) := by
  unfold Chip.fabDecode
  rw [if_neg (by omega), if_neg (by omega), if_neg (by omega), if_neg (by omega), if_neg (by omega), if_pos (by omega)]

/-- A register of the window's first region, read by M7 out of quarantine in time: the word shows what counters have gained. -/
theorem Chip.busBeat_regRead (c : Chip) (m : Tbl Byte) (slot a : Nat) (fact : BusFact) (halign : a % 4 = 0) (hlow : 0x40000000 ≤ a) (hhigh : a < 0x400E0000)
    (hquar : bit (c.fld Reg.FAB_QUAR_MASTER 0) 7 = false) (hlate : fact.late = false) :
    c.busBeat m 7 slot a none fact = ((((c.countWrap Reg.FAB_M_BEATS_COUNT 7 1).gainAll fact.gains).afterRead 7 slot a, m), 0,
      ((c.countWrap Reg.FAB_M_BEATS_COUNT 7 1).gainAll fact.gains).regWord 7 slot a) := by
  have haccess : c.fabAccess 7 a 4 false = .ok 3 := by
    have hreach : fabReaches 7 3 = true := by decide
    simp only [Chip.fabAccess, c.fabDecode_registers hlow hhigh, hquar, hreach]
    rw [if_neg Bool.false_ne_true, if_neg (by simp; omega), if_neg (by simp)]
  have hkind (d : Chip) : d.targetKind 3 false fact = 0 := by simp [Chip.targetKind, hlate]
  simp [Chip.busBeat, haccess, hkind, Chip.loadBeat, Chip.regRead]

/-- A scrub period written by M7 out of quarantine in time. -/
theorem Chip.busBeat_scrub (c : Chip) (m : Tbl Byte) (slot v : Nat) (fact : BusFact) (hv : v % 256 ≠ 0)
    (hquar : bit (c.fld Reg.FAB_QUAR_MASTER 0) 7 = false) (hlate : fact.late = false) :
    c.busBeat m 7 slot Reg.FST_SCRUB_PERIOD_S.addr (some v) fact =
      (((c.countWrap Reg.FAB_M_BEATS_COUNT 7 1).set Reg.FST_SCRUB_PERIOD_S 0 (Reg.FST_SCRUB_PERIOD_S.of v), m), 0, 0) := by
  have haccess : c.fabAccess 7 Reg.FST_SCRUB_PERIOD_S.addr 4 true = .ok 3 := by
    have hreach : fabReaches 7 3 = true := by decide
    simp only [Chip.fabAccess, c.fabDecode_registers (a := Reg.FST_SCRUB_PERIOD_S.addr) (by decide) (by decide), hquar, hreach]
    rw [if_neg Bool.false_ne_true, if_neg (by simp [Reg.FST_SCRUB_PERIOD_S]), if_neg (by simp)]
  have hkind (d : Chip) : d.targetKind 3 true fact = 0 := by simp [Chip.targetKind, hlate]
  simp [Chip.busBeat, haccess, hkind, Chip.storeBeat, Chip.regWrite_scrub _ _ _ _ _ hv]

/-! ## One entry answered -/

/-- What the register window answers after its one entry, which completes. -/
def Chip.windowAnswer (c before : Chip) (slot msgType : Nat) (out : List Byte) : Chip :=
  Chip.answerUnknown slot 256 ((c.done slot msgType out).mirrorOut before slot msgType)

/-- A request for one register whose access completes, in a module that stays in service, is answered with what it gives. -/
theorem Chip.window_one (c d : Chip) (m m' : Tbl Byte) (slot msgType : Nat) (e : WinEntry) (facts : List BusFact) (w : Nat) (hserves : c.serves slot = true)
    (hrun : c.run = .running) (hgate : c.gateCode slot msgType (windowNeed [e]) false true = none) (halign : e.1 % 4 = 0) (hdecode : (c.fabDecode e.1).isSome = true)
    (hbeat : c.busBeat m 7 slot e.1 e.2 (facts.headD ⟨false, false, false, none, []⟩) = ((d, m'), 0, w)) (hd : d.run = .running)
    (hopen : (d.session slot).state = .opened) :
    c.window m slot msgType [e] true facts = (d.windowAnswer c slot msgType (if e.2.isNone then beBytes 4 w else []), m') := by
  have hstate : (c.session slot).state = .opened := by
    simp only [Chip.serves, Bool.and_eq_true, beq_iff_eq] at hserves
    exact hserves.1.1
  have hgood : c.badEntry [e] = none := by
    simp [Chip.badEntry, List.findIdx?_cons, halign, Option.isSome_iff_ne_none.mp hdecode]
  have hentry : Chip.runEntries slot [e] facts 0 [] c m = ((d, m'), .ok (if e.2.isNone then beBytes 4 w else [])) := by
    rw [Chip.runEntries, if_pos ⟨hrun, hstate⟩, hbeat]
    simp [Chip.runEntries]
  rw [Chip.window, hserves, hgate]
  simp only [Option.isNone_none, Bool.and_self, if_true, Chip.runWindow, hgood, hentry]
  rw [if_pos ⟨hd, hopen⟩]
  rfl

theorem Chip.windowAnswer_spec (c before : Chip) (slot msgType : Nat) (out : List Byte) (h : (c.session slot).done = (before.session slot).done) :
    (c.windowAnswer before slot msgType out).replied before slot msgType (statusOf 0 wholeIndex) out ∧ (c.windowAnswer before slot msgType out).regs = c.regs := by
  have hanswers : (c.windowAnswer before slot msgType out).AnswersOnly (c.done slot msgType out) slot :=
    (Chip.answersOnly_answerUnknown _ _ _).trans (Chip.answersOnly_mirrorOut _ _ _ _)
  exact ⟨hanswers.replied (Chip.replied_respond h _ _ _), hanswers.eq_of_frame Chip.regs fun _ _ _ _ => rfl⟩

theorem Chip.now_windowAnswer (c before : Chip) (slot msgType : Nat) (out : List Byte) : (c.windowAnswer before slot msgType out).now = c.now := by
  have hanswers : (c.windowAnswer before slot msgType out).AnswersOnly (c.done slot msgType out) slot :=
    (Chip.answersOnly_answerUnknown _ _ _).trans (Chip.answersOnly_mirrorOut _ _ _ _)
  exact hanswers.eq_of_frame Chip.now fun _ _ _ _ => rfl

/-- The sessions, the clock and whether the module runs. -/
def Chip.front (c : Chip) : LanSt × Nat × RunState := (c.lan, c.now, c.run)

theorem Chip.front_gainAll (c : Chip) (l : List Gain) : (c.gainAll l).front = c.front := by
  refine List.foldl_keeps (fun a : Chip => a.front = c.front) _ (fun a g ha => ?_) _ _ rfl
  rw [← ha]
  cases g with
  | corrected part n => rfl
  | store n => rfl
  | prbs lane bits errors resyncs =>
    rw [Chip.gain]
    split_ifs <;> rfl

theorem Chip.front_afterRead (c : Chip) (master slot a : Nat) : (c.afterRead master slot a).front = c.front := by
  unfold Chip.afterRead
  split
  · rfl
  · split_ifs <;> rfl

theorem readEntries_one (a : Nat) (h : a < 4294967296) : readEntries (beBytes 4 a ++ beBytes 2 1 ++ beBytes 2 0) = [(a, none)] := by
  simp [readEntries, u32, u16, u8, beBytes, bit, List.range_succ]
  omega

theorem readBody_ok (a : Nat) : (decide ((beBytes 4 a ++ beBytes 2 1 ++ beBytes 2 0).length = 8) && within (u16 (beBytes 4 a ++ beBytes 2 1 ++ beBytes 2 0) 4) 1 64 &&
    decide (u16 (beBytes 4 a ++ beBytes 2 1 ++ beBytes 2 0) 6 ≤ 1)) = true := by
  simp [u16, u8, beBytes, within]

theorem writeBody_ok (a v : Nat) :
    (decide ((beBytes 2 1 ++ beBytes 2 0 ++ beBytes 4 a ++ beBytes 4 v).length = 4 + 8 * u16 (beBytes 2 1 ++ beBytes 2 0 ++ beBytes 4 a ++ beBytes 4 v) 0) &&
      within (u16 (beBytes 2 1 ++ beBytes 2 0 ++ beBytes 4 a ++ beBytes 4 v) 0) 1 64 && zeroAt (beBytes 2 1 ++ beBytes 2 0 ++ beBytes 4 a ++ beBytes 4 v) 2 2) = true := by
  simp [u16, u8, beBytes, within, zeroAt, bytesAt]

theorem writeEntries_one (a v : Nat) (ha : a < 4294967296) (hv : v < 4294967296) :
    writeEntries (beBytes 2 1 ++ beBytes 2 0 ++ beBytes 4 a ++ beBytes 4 v) = [(a, some v)] := by
  simp [writeEntries, u32, u16, u8, beBytes, List.range_succ]
  omega

/-- A query of its own kind, without reserved bytes, is answered. -/
theorem Chip.query_answered (c : Chip) (slot : Nat) (body : List Byte) (mine : Bool) (answer : Chip → List Byte) (hmine : mine = true) (hok : queryOk body = true)
    (hzero : zeroAt body 2 4 = true) : c.query slot body mine answer = c.request slot 0x0201 1 true true (fun c => c.done slot 0x0201 (answer c)) := by
  simp only [Chip.query, hmine, hok, hzero, if_true]

theorem Chip.eq_of_front {c d : Chip} (h : d.front = c.front) : d.lan = c.lan ∧ d.now = c.now ∧ d.run = c.run := by
  simp only [Chip.front, Prod.mk.injEq] at h
  exact h

/-- The session of a slot that is served is open, and stays so while the sessions do not change. -/
theorem Chip.opened_of_lan {c d : Chip} {slot : Nat} (h : c.serves slot = true) (hlan : d.lan = c.lan) : (d.session slot).state = .opened := by
  simp only [Chip.serves, Bool.and_eq_true, beq_iff_eq] at h
  rw [← h.1.1]
  unfold Chip.session
  rw [hlan]

theorem windowNeed_one {e : WinEntry} {n : Nat} (h : entryNeed e = n + 1) : windowNeed [e] = n + 1 := by
  simp [windowNeed, h]

theorem entryNeed_registers {a : Nat} {w : Option Nat} (hlow : 0x40000000 ≤ a) (hhigh : a < 0x400E0000) (hw : w.isNone = true) : entryNeed (a, w) = 0 + 1 := by
  rw [entryNeed, if_neg (by simp only; omega), if_pos hw]

theorem yields_of_mem {i : Instr} {s : State} {P : Chip → Prop} (h : YieldsMem i s (fun c m => P c ∧ m = s.mem)) : Yields i s P := by
  obtain ⟨c, m, hexec, hP, rfl⟩ := h
  exact ⟨c, hexec, hP⟩

/-- A request answered alone, of which the effect depends on the state that it meets. -/
theorem yieldsMem_of_window {i : Instr} {s : State} {t slot msgType : Nat} {g : Chip → Tbl Byte → Chip × Tbl Byte} {d : Chip} {out : List Byte} {P : Chip → Tbl Byte → Prop}
    (hs : s.runs) (h : exec i s = actMem t s g) (hg : g (s.upon t) s.mem = (d.windowAnswer (s.upon t) slot msgType out, s.mem))
    (hfront : d.front = (s.upon t).front) (hP : ∀ c : Chip, c.replied s.chip slot msgType (statusOf 0 wholeIndex) out → c.regs = d.regs → P c s.mem) :
    YieldsMem i s P := by
  obtain ⟨hlan, hnow, -⟩ := Chip.eq_of_front hfront
  have hdone : (d.session slot).done = ((s.upon t).session slot).done := by
    unfold Chip.session
    rw [hlan]
  obtain ⟨hreplied, hregs⟩ := d.windowAnswer_spec (s.upon t) slot msgType out hdone
  have hclock := (d.now_windowAnswer (s.upon t) slot msgType out).trans hnow
  exact yieldsMem_of_eq hs h hg hclock (hP _ hreplied hregs)

theorem headD_late (facts : List BusFact) (h : facts.all (fun f => !f.late) = true) : (facts.headD ⟨false, false, false, none, []⟩).late = false := by
  cases facts with
  | nil => rfl
  | cons f rest =>
    rw [List.all_cons, Bool.and_eq_true] at h
    exact (Bool.not_eq_true' _).mp h.1

/-- The answer to a bulk write to the frame store. -/
def Chip.storeWriteAnswer (c : Chip) (slot : Nat) (body : List Byte) : Chip :=
  if !(u64 body 8 % 64 == 0 && decide (u64 body 8 + (body.length - 16) ≤ storeSize)) then c.refuse slot 0x0801 0x1108 wholeIndex
  else if c.bulkOut then c.refuse slot 0x0801 0x1105 wholeIndex
  else c.done slot 0x0801 []

theorem Chip.storeWriteAnswer_done (c : Chip) (slot : Nat) (body : List Byte) (halign : u64 body 8 % 64 = 0) (hrange : u64 body 8 + (body.length - 16) ≤ storeSize)
    (hout : c.bulkOut = false) : c.storeWriteAnswer slot body = c.done slot 0x0801 [] := by
  simp [Chip.storeWriteAnswer, halign, hrange, hout]

/-- A bulk write to the frame store within its range, in a module in service, writes its bytes. -/
theorem exec_frameStoreWrite (s : State) (t : Nat) (slot : Fin 16) (body : List Byte) (hserves : s.chip.serves slot = true)
    (hgate : (s.upon t).gateCode slot 0x0801 3 false true = none) (hkind : u8 body 0 = 2) (hok : bulkWriteOk body = true) (halign : u64 body 8 % 64 = 0)
    (hrange : u64 body 8 + (body.length - 16) ≤ storeSize) (hout : s.chip.bulkOut = false) :
    ∃ g, exec (.frameStoreWrite t slot body) s = actMem t s g ∧
      g (s.upon t) s.mem = ((s.upon t).request slot 0x0801 3 false true (fun c => c.storeWriteAnswer slot body), memWrite s.mem (storeBase + u64 body 8) (body.drop 16)) := by
  have hserves' : (s.upon t).serves slot = true := hserves
  have hout' : (s.upon t).bulkOut = false := hout
  have hexec : exec (.frameStoreWrite t slot body) s = execFrameStoreWrite t slot body s := rfl
  refine ⟨_, hexec, ?_⟩
  simp only [hkind, ne_eq, not_true_eq_false, if_false, hok]
  refine Prod.ext rfl ?_
  simp [hserves', hout', hgate, halign, hrange]

/-- Settles O24, clause by clause: the session's own requests, the queries, the window and the transfers of bytes. -/
theorem sessionRequestsComplete : Obligations.SessionRequestsComplete := by
  refine ⟨?_, ?_, ?_, ?_, ?_, ?_, ?_, ?_, ?_, ?_, ?_, ?_, ?_, ?_⟩
  · intro s t slot hs
    have hexec : exec (.ping t slot []) s = execPing t slot [] s := rfl
    exact yields_of_answer hs hexec rfl rfl
  · intro s t slot hs
    have hexec : exec (.close t slot []) s = execClose t slot [] s := rfl
    obtain ⟨hrun, hserves, hpriv, hphase, hstalled, hmirror⟩ := hs
    have hgate : (s.upon t).gateCode slot 2 1 true (decide (([] : List Byte).length = 0)) = none := (s.upon t).gateCode_none slot 2 1 true hpriv hphase hstalled
    have hserves' : (s.upon t).serves slot = true := hserves
    have hanswers := (s.upon t).request_answersOnly slot 2 1 true (decide (([] : List Byte).length = 0)) (fun c => c.done slot 2 []) hserves' hgate hmirror
    have hreplied := hanswers.replied (Chip.replied_respond (c := s.upon t) (before := s.chip) rfl 2 (statusOf 0 wholeIndex) [])
    generalize hrequest : (s.upon t).request slot 2 1 true (decide (([] : List Byte).length = 0)) (fun c => c.done slot 2 []) = d at hanswers hreplied
    obtain ⟨hstate, hid⟩ : (d.session slot).state = .opened ∧ (d.session slot).id = (s.chip.session slot).id := by
      have hsession := hanswers.session
      simp only [Chip.done, Chip.respond, Chip.sendMsg, Chip.session_emit, Chip.session_modSession] at hsession
      have hopen := Chip.opened_of_lan (d := s.upon t) hserves rfl
      have hstate := congrArg Session.state hsession
      have hid := congrArg Session.id hsession
      exact ⟨hstate.trans hopen, hid⟩
    have hlan := d.lan_closeSession s.mem slot 1
    have hfrees := d.session_closeSession s.mem slot 1
    have hlogged := d.logged_closeSession s.mem slot 1 hstate
    generalize hclosed : d.closeSession s.mem slot 1 = e at hlan hfrees hlogged
    refine yieldsMem_of_actMem_eq hrun hexec (d := e.1) (m := e.2) ?effClose ⟨?_, hfrees, ?_⟩
    case effClose =>
      dsimp only
      rw [hserves', hgate, hrequest]
      exact hclosed
    · have hsession := d.session_modSession slot (fun x => { x with state := .free })
      have hresponses := congrArg Session.responses hsession
      rw [Chip.replied, Chip.answered]
      unfold Chip.session at hresponses ⊢
      dsimp only
      rw [hlan, hresponses]
      exact hreplied
    · rwa [hid] at hlogged
  · intro s t slot body hs hlen hzero
    have hexec : exec (.subscribe t slot body) s = execSubscribe t slot body s := rfl
    refine yields_of_request hs hexec (by rw [decide_eq_true hlen, hzero]; rfl) ?nowSub ?postSub
    case nowSub => rfl
    case postSub =>
      intro d hd
      have hset := (s.upon t).session_modSession slot (fun x => { x with mask := u32 body 0, minSev := u8 body 4 })
      have hsession := hd.session
      simp only [Chip.done, Chip.respond, Chip.sendMsg, Chip.session_emit, Chip.session_modSession] at hsession
      have hnumber := congrArg Session.done hset
      have hmask := congrArg Session.mask hsession
      have hsev := congrArg Session.minSev hsession
      refine ⟨hd.replied (Chip.replied_respond hnumber _ _ _), hmask, hsev, ?_⟩
      exact hd.eq_of_frame Chip.regs fun _ _ _ _ => rfl
  · intro s t slot body hs hkind hok hfirst hlast
    have hexec : exec (.queryRoutes t slot body) s = execQueryRoutes t slot body s := rfl
    refine yields_of_answer (rec := true) hs hexec (f := fun c => if u8 body 0 ≠ 1 then c.refuse slot 0x0201 0x1101 wholeIndex
      else if 1567 < u16 body 2 ∨ 1568 < u16 body 2 + u16 body 4 then c.refuse slot 0x0201 0x0202 wholeIndex
      else c.done slot 0x0201 ((List.range (u16 body 4)).flatMap (fun i => c.queryDst (u16 body 2 + i)))) ?_ ?_
    · rw [if_neg (by omega), hok]
    · rw [if_neg (not_not.mpr hkind), if_neg (by omega)]
      rfl
  · intro s t slot hs
    have hexec : exec (.queryIdentity t slot [2, 0, 0, 0, 0, 0, 0, 0]) s = execQueryIdentity t slot [2, 0, 0, 0, 0, 0, 0, 0] s := rfl
    obtain ⟨-, -, -, hphase, -⟩ := id hs
    have hphase' : (s.upon t).phase = 2 := hphase
    refine yields_of_answer hs hexec (Chip.query_answered _ _ _ _ _ rfl rfl rfl) ?_
    rw [hphase']
    rfl
  · intro s t slot hs
    have hexec : exec (.querySettings t slot [3, 0, 0, 0, 0, 0, 0, 0]) s = execQuerySettings t slot [3, 0, 0, 0, 0, 0, 0, 0] s := rfl
    exact yields_of_answer hs hexec (Chip.query_answered _ _ _ _ _ rfl rfl rfl) rfl
  · intro s t slot hs
    have hexec : exec (.querySessions t slot [4, 0, 0, 0, 0, 0, 0, 0]) s = execQuerySessions t slot [4, 0, 0, 0, 0, 0, 0, 0] s := rfl
    exact yields_of_answer hs hexec (Chip.query_answered _ _ _ _ _ rfl rfl rfl) rfl
  · intro s t slot a facts hs halign hlow hhigh hquar hlate
    have hexec : exec (.regRead t slot (beBytes 4 a ++ beBytes 2 1 ++ beBytes 2 0) facts) s =
      execRegRead t slot (beBytes 4 a ++ beBytes 2 1 ++ beBytes 2 0) facts s := rfl
    obtain ⟨hrun, hserves, hpriv, hphase, hstalled, -⟩ := hs
    let fact : BusFact := facts.headD ⟨false, false, false, none, []⟩
    let gained : Chip := ((s.upon t).countWrap Reg.FAB_M_BEATS_COUNT 7 1).gainAll fact.gains
    have hfront : (gained.afterRead 7 slot a).front = (s.upon t).front := (Chip.front_afterRead _ _ _ _).trans (Chip.front_gainAll _ _)
    obtain ⟨hlan, hnow, hrun'⟩ := Chip.eq_of_front hfront
    have hopen := Chip.opened_of_lan hserves hlan
    have hbeat := (s.upon t).busBeat_regRead s.mem slot a fact halign hlow hhigh hquar (headD_late facts hlate)
    have hneed : windowNeed [(a, none)] = 1 := windowNeed_one (entryNeed_registers hlow hhigh rfl)
    have hwindow := (s.upon t).window_one (gained.afterRead 7 slot a) s.mem s.mem slot 0x0301 (a, none) facts (gained.regWord 7 slot a) hserves hrun
      (Chip.gateCode_none _ _ _ _ _ (by rw [hneed]; exact hpriv) hphase hstalled) halign (by rw [Chip.fabDecode_registers _ hlow hhigh]; rfl) hbeat
      (hrun'.trans hrun) hopen
    refine yields_of_mem (yieldsMem_of_window hrun hexec ?_ hfront fun c hreplied _ => ⟨hreplied, rfl⟩)
    refine Eq.trans ?_ hwindow
    have hentry := readEntries_one a (by omega)
    have hbody := readBody_ok a
    rw [hbody, hentry]
  · intro s t slot v facts hs hv hquar hlate
    have hexec : exec (.regWrite t slot (beBytes 2 1 ++ beBytes 2 0 ++ beBytes 4 0x4002002C ++ beBytes 4 v.toNat) facts) s =
      execRegWrite t slot (beBytes 2 1 ++ beBytes 2 0 ++ beBytes 4 0x4002002C ++ beBytes 4 v.toNat) facts s := rfl
    obtain ⟨hrun, hserves, hpriv, hphase, hstalled, -⟩ := hs
    let stored : Chip := ((s.upon t).countWrap Reg.FAB_M_BEATS_COUNT 7 1).set Reg.FST_SCRUB_PERIOD_S 0 (Reg.FST_SCRUB_PERIOD_S.of v.toNat)
    have hlan : stored.lan = (s.upon t).lan := rfl
    have hopen := Chip.opened_of_lan hserves hlan
    have hbeat := (s.upon t).busBeat_scrub s.mem slot v.toNat (facts.headD ⟨false, false, false, none, []⟩) hv hquar (headD_late facts hlate)
    have halign : Reg.FST_SCRUB_PERIOD_S.addr % 4 = 0 := by decide
    have hdecode : ((s.upon t).fabDecode Reg.FST_SCRUB_PERIOD_S.addr).isSome = true := by
      rw [Chip.fabDecode_registers _ (by decide) (by decide)]
      rfl
    have hwindow := (s.upon t).window_one stored s.mem s.mem slot 0x0302 (Reg.FST_SCRUB_PERIOD_S.addr, some v.toNat) facts 0 hserves hrun
      (Chip.gateCode_none _ _ _ _ _ hpriv hphase hstalled) halign hdecode hbeat hrun hopen
    refine yieldsMem_of_window (d := stored) hrun hexec ?_ rfl fun c hreplied hregs => ⟨hreplied, rfl, ?_, ?_⟩
    · refine Eq.trans ?_ hwindow
      have hentry := writeEntries_one 0x4002002C v.toNat (by decide) v.isLt
      have hbody := writeBody_ok 0x4002002C v.toNat
      rw [hbody, hentry]
      rfl
    · rw [Chip.fld, hregs]
      exact Chip.fld_scrub _ _
    · have hsame : stored.sameRegs s.chip [Reg.FAB_M_BEATS_COUNT, Reg.FST_SCRUB_PERIOD_S] :=
        Chip.sameRegs_trans (Chip.sameRegs_set _ Reg.FST_SCRUB_PERIOD_S 0 _ (by decide) (by decide)) (Chip.sameRegs_set _ Reg.FAB_M_BEATS_COUNT 7 _ (by decide) (by decide))
      intro f b hf hb hne
      rw [Chip.fld, hregs]
      exact hsame f b hf hb fun g hg => hne g (List.mem_reverse.mp hg)
  · intro s t master slot v hs hv
    have hwrite := exec_registerWrite s t master slot 0x4002002C v (a := Reg.FST_SCRUB_PERIOD_S.addr) hs rfl rfl
    rw [Chip.regWrite_scrub _ _ _ _ _ hv] at hwrite
    exact ⟨_, hwrite, Chip.fld_scrub _ _, Chip.sameRegs_set _ _ _ _ (by decide) (by decide), rfl⟩
  · intro s t slot body hs hkind hok halign hrange hout
    have hlen : (body.drop 16).length = body.length - 16 := List.length_drop
    obtain ⟨-, hserves, hpriv, hphase, hstalled, -⟩ := id hs
    obtain ⟨g, hg, heff⟩ := exec_frameStoreWrite s t slot body hserves ((s.upon t).gateCode_none slot 0x0801 3 false hpriv hphase hstalled) hkind hok halign hrange hout
    have hanswer := (s.upon t).storeWriteAnswer_done slot body halign hrange hout
    refine yieldsMem_of_request hs hg heff hanswer rfl fun d hd => ?_
    refine ⟨hd.replied (Chip.replied_respond rfl _ _ _), rfl, hd.eq_of_frame Chip.regs fun _ _ _ _ => rfl, fun a ha => ?_⟩
    rw [← hlen] at ha
    exact get_memWrite_other s.mem _ _ a ha
  · intro s t slot body hs hkind hok halign hrange hout
    have hexec : exec (.frameStoreRead t slot body []) s = execFrameStoreRead t slot body [] s := rfl
    refine yields_of_answer (rec := false) hs hexec (f := fun c => if u64 body 8 % 64 ≠ 0 ∨ storeSize < u64 body 8 + u32 body 16 then c.refuse slot 0x0802 0x1108 wholeIndex
      else if c.bulkOut then c.refuse slot 0x0802 0x1105 wholeIndex else c.done slot 0x0802 (memRead s.mem (storeBase + u64 body 8) (u32 body 16))) ?_ ?_
    · rw [if_neg (not_not.mpr hkind), hok]
      rfl
    · have hout' : (s.upon t).bulkOut = false := hout
      rw [if_neg (by omega), hout']
      rfl
  · intro s t slot body hs hkind hok hring halign hrange hout
    have hexec : exec (.deepAnalyserRingRead t slot body) s = execDeepAnalyserRingRead t slot body s := rfl
    refine yields_of_answer (rec := false) hs hexec (f := fun c =>
      if 7 < u32 body 4 ∨ u64 body 8 % 16 ≠ 0 ∨ 134217728 < u64 body 8 + u32 body 16 then c.refuse slot 0x0802 0x1108 wholeIndex
      else if c.bulkOut then c.refuse slot 0x0802 0x1105 wholeIndex
      else c.done slot 0x0802 (memRead s.mem (storeBase + Config.ringBase (u32 body 4) % storeSize + u64 body 8) (u32 body 16))) ?_ ?_
    · rw [if_neg (not_not.mpr hkind), hok]
    · have hout' : (s.upon t).bulkOut = false := hout
      rw [if_neg (by omega), hout']
      rfl
  · intro s t slot body hs hkind hok hrange
    have hexec : exec (.flashRead t slot body) s = execFlashRead t slot body s := rfl
    refine yields_of_answer (rec := false) hs hexec (f := fun c =>
      if 0x10000000 < u64 body 8 + u32 body 16 ∨ (u64 body 8 < 0x0C100000 ∧ 0x0C000000 < u64 body 8 + u32 body 16) then c.refuse slot 0x0802 0x1108 wholeIndex
      else c.done slot 0x0802 (memRead s.mem (flashBase + u64 body 8) (u32 body 16))) ?_ ?_
    · rw [if_neg (not_not.mpr hkind), hok]
    · rw [if_neg (by omega)]
      rfl

end Sys2Proof.Machine
end

section
/-! PROOFS. CAPTURE requests: sets are armed, triggered, stopped and deleted, players and replays begin, the store is read. -/

namespace Sys2Proof.Machine

/-! ## A CAPTURE request that passes its checks -/

/-- It has its effect and is answered, and nothing else happens. -/
theorem Chip.capture_spec {s : State} {t slot need : Nat} {check : Chip → Option Nat} {f : Chip → Chip} {e : Chip} {status : Nat} (hs : s.serving slot 0x0601 need)
    (hcheck : check (s.upon t) = none)
    (he : f (s.upon t) = e.respond slot 0x0601 status []) (hlan : e.lan = s.chip.lan) :
    ((s.upon t).capture slot need true true check f).AnswersOnly e slot ∧ ((s.upon t).capture slot need true true check f).replied s.chip slot 0x0601 status [] := by
  obtain ⟨-, hserves, hpriv, hphase, hstalled, hmirror⟩ := hs
  have hanswers := (s.upon t).request_answersOnly slot 0x0601 need false true
    (fun c => match check c with | some code => c.refuse slot 0x0601 code wholeIndex | none => f c) hserves (Chip.gateCode_none _ _ _ _ _ hpriv hphase hstalled) hmirror
  rw [hcheck] at hanswers
  dsimp only at hanswers
  rw [he] at hanswers
  have hdone : (e.session slot).done = (s.chip.session slot).done := by
    unfold Chip.session
    rw [hlan]
  exact ⟨hanswers.trans (Chip.answersOnly_respond _ _ _ _ _), hanswers.replied (Chip.replied_respond hdone _ _ _)⟩

theorem yields_of_capture {i : Instr} {s : State} {t slot need : Nat} {mine lenOk : Bool} {check : Chip → Option Nat} {g f : Chip → Chip} {e : Chip}
    {status : Nat} {P : Chip → Prop} (hs : s.serving slot 0x0601 need) (h : exec i s = act t s g)
    (hg : g (s.upon t) = (s.upon t).capture slot need mine lenOk check f)
    (hmine : mine = true) (hlen : lenOk = true) (hcheck : check (s.upon t) = none)
    (he : f (s.upon t) = e.respond slot 0x0601 status []) (hlan : e.lan = s.chip.lan) (hnow : e.now = max s.chip.now t)
    (hP : ∀ d : Chip, d.replied s.chip slot 0x0601 status [] → d.AnswersOnly e slot → P d) : Yields i s P := by
  subst hmine hlen
  obtain ⟨hanswers, hreplied⟩ := Chip.capture_spec hs hcheck he hlan
  exact yields_of_eq hs.1 h hg ((hanswers.eq_of_frame Chip.now fun _ _ _ _ => rfl).trans hnow) (hP _ hreplied hanswers)

theorem yields_of_captureMem {i : Instr} {s : State} {t slot need : Nat} {mine lenOk : Bool} {check : Chip → Option Nat} {g : Chip → Tbl Byte → Chip × Tbl Byte}
    {f : Chip → Chip} {e : Chip} {status : Nat} {P : Chip → Prop} (hs : s.serving slot 0x0601 need) (h : exec i s = actMem t s g)
    (hg : g (s.upon t) s.mem = ((s.upon t).capture slot need mine lenOk check f, s.mem))
    (hmine : mine = true) (hlen : lenOk = true) (hcheck : check (s.upon t) = none)
    (he : f (s.upon t) = e.respond slot 0x0601 status []) (hlan : e.lan = s.chip.lan) (hnow : e.now = max s.chip.now t)
    (hP : ∀ d : Chip, d.replied s.chip slot 0x0601 status [] → d.AnswersOnly e slot → P d) : Yields i s P := by
  subst hmine hlen
  obtain ⟨hanswers, hreplied⟩ := Chip.capture_spec hs hcheck he hlan
  exact yields_of_actMem_eq hs.1 h hg ((hanswers.eq_of_frame Chip.now fun _ _ _ _ => rfl).trans hnow) (hP _ hreplied hanswers)

/-- What no answer touches: the capture store. -/
theorem Chip.AnswersOnly.cap {c d : Chip} {slot : Nat} (h : d.AnswersOnly c slot) : d.cap = c.cap := h.eq_of_frame Chip.cap fun _ _ _ _ => rfl

/-! ## Capture sets -/

@[simp] theorem Chip.capSet_modSet (c : Chip) (i : Nat) (f : CapSet → CapSet) : (c.modSet i f).capSet i = f (c.capSet i) := Tbl.get_upd _ _ _ _

theorem Chip.capSet_modSet_other (c : Chip) (i k : Nat) (f : CapSet → CapSet) (h : k ≠ i) : (c.modSet i f).capSet k = c.capSet k := Tbl.get_upd_other _ _ _ _ _ h

/-- What a request of a capture set asks about: the sessions and the clock, and of the set its state, its request and its end. -/
def Chip.setView (c : Chip) (i : Nat) : LanSt × Nat × Nat × List Byte × Nat := (c.lan, c.now, (c.capSet i).state, (c.capSet i).body, (c.capSet i).endAt)

theorem Chip.setView_modSet (c : Chip) (i : Nat) (f : CapSet → CapSet)
    (h : ((f (c.capSet i)).state, (f (c.capSet i)).body, (f (c.capSet i)).endAt) = ((c.capSet i).state, (c.capSet i).body, (c.capSet i).endAt)) :
    (c.modSet i f).setView i = c.setView i := by
  unfold Chip.setView
  rw [Chip.capSet_modSet]
  exact congrArg (fun p => (c.lan, c.now, p)) h

theorem Chip.setView_commitSet (c : Chip) (i : Nat) : (c.commitSet i).setView i = c.setView i :=
  c.setView_modSet i (fun x => { x with
    committedAt := c.uptime, chans := x.chans.map (fun (e : Nat × CapChan) => (e.1, { e.2 with kept := e.2.kept ++ e.2.fresh, fresh := [] })) }) rfl

theorem Chip.setView_snapshot (c : Chip) (i : Nat) : (c.snapshot i).setView i = c.setView i := by
  unfold Chip.snapshot
  refine List.foldl_keeps (fun a : Chip => a.setView i = c.setView i) _ (fun a _ ha => (a.setView_modSet i _ rfl).trans ha) _ _ ?_
  refine (Chip.setView_modSet _ i _ rfl).trans ?_
  refine List.foldl_keeps (fun a : Chip => a.setView i = c.setView i) (fun a w => a.ctl i Ev.capCtlLayout w) (fun a _ ha => ha) _ _ ?_
  exact List.foldl_keeps (fun a : Chip => a.setView i = c.setView i) (fun a w => a.ctl i Ev.capCtlSnapshot w) (fun a _ ha => ha) _ _ rfl

theorem Chip.setView_gapEvent (c : Chip) (i ch cause count : Nat) : (c.gapEvent i ch cause count).setView i = c.setView i := by
  unfold Chip.gapEvent
  dsimp only
  split
  · rfl
  · exact ((c.count Reg.CAP_K_GAPS_COUNT ch count).setView_modSet i _ rfl)

theorem Chip.setView_writeGap (c : Chip) (i ch : Nat) : (c.writeGap i ch).setView i = c.setView i := by
  unfold Chip.writeGap
  split
  · rfl
  · exact (Chip.setView_gapEvent _ i ch _ _).trans (c.setView_modSet i _ rfl)

theorem Chip.setView_trigger (c : Chip) (i cause t sec ns : Nat) (h : (c.capSet i).state = 1) :
    (c.trigger i cause t sec ns).setView i = (c.lan, c.now, 2, (c.capSet i).body, (c.capSet i).endAt) := by
  unfold Chip.trigger
  rw [if_pos h]
  unfold Chip.setView
  rw [Chip.capSet_modSet]
  rfl

theorem Chip.setView_closeSet (c : Chip) (i state : Nat) :
    (c.closeSet i state).setView i = (c.lan, c.now, state, (c.capSet i).body, (c.capSet i).endAt) := by
  unfold Chip.closeSet
  refine (Chip.setView_commitSet _ i).trans ?_
  unfold Chip.setView
  rw [Chip.capSet_modSet]
  dsimp only
  split <;> rfl

/-! ## What becomes of a set -/

/-- An armed set is ARMED, or TRIGGERED when it enables no cause, and holds its request. -/
theorem Chip.armSet_spec (c : Chip) (m : Tbl Byte) (b : List Byte) :
    (c.armSet m b).lan = c.lan ∧ (c.armSet m b).now = c.now ∧ ((c.armSet m b).capSet (u8 (b.drop 4) 0)).body = b.drop 4 ∧
      ((c.armSet m b).capSet (u8 (b.drop 4) 0)).state = if u8 (b.drop 4) 1 % 8 = 0 then 2 else 1 := by
  unfold Chip.armSet
  extract_lets d i rate chans blank blankChan x c1 c2
  have hview : c2.setView i = (c.lan, c.now, 1, d, 0) :=
    ((Chip.setView_commitSet _ i).trans (c1.setView_snapshot i)).trans (by
      show (c.lan, c.now, ((c.modSet i fun _ => x).capSet i).state, ((c.modSet i fun _ => x).capSet i).body, ((c.modSet i fun _ => x).capSet i).endAt) = _
      rw [Chip.capSet_modSet]
      rfl)
  generalize c2 = e at hview
  unfold Chip.setView at hview
  simp only [Prod.mk.injEq] at hview
  obtain ⟨hlan, hnow, hstate, hbody, -⟩ := hview
  split
  · have htrigger := e.setView_trigger i 0 c.uptime (secOf c.deviceQ) (nsOf c.deviceQ) hstate
    unfold Chip.setView at htrigger
    simp only [Prod.mk.injEq] at htrigger
    obtain ⟨hlan', hnow', hstate', hbody', -⟩ := htrigger
    exact ⟨hlan'.trans hlan, hnow'.trans hnow, hbody'.trans hbody, hstate'⟩
  · exact ⟨hlan, hnow, hbody, hstate⟩

/-- A set that completes keeps the instant of its end. -/
theorem Chip.completeSet_spec (c : Chip) (i to_ : Nat) :
    (c.completeSet i to_).lan = c.lan ∧ (c.completeSet i to_).now = c.now ∧ ((c.completeSet i to_).capSet i).state = 3 ∧
      ((c.completeSet i to_).capSet i).endAt = to_ := by
  unfold Chip.completeSet
  extract_lets x c1 start c2 c3
  have hgap : c1.setView i = c.setView i :=
    List.foldl_keeps (fun a : Chip => a.setView i = c.setView i) _ (fun a k ha => (a.setView_writeGap i k).trans ha) _ _ rfl
  have hmoved : c3.setView i = c2.setView i :=
    List.foldl_keeps (fun a : Chip => a.setView i = c2.setView i) _ (fun a k ha =>
      (Chip.setView_modSet (a.countWrap Reg.CAP_K_RECORDS_COUNT k (((a.capSet i).chan k).staged.filter (fun r => r.kind != 3)).length) i _ rfl).trans ha) _ _ rfl
  have hcut : c2.lan = c1.lan ∧ c2.now = c1.now ∧ (c2.capSet i).endAt = to_ := by
    refine ⟨rfl, rfl, ?_⟩
    exact congrArg CapSet.endAt (c1.capSet_modSet i _)
  generalize c3 = e at hmoved
  generalize c2 = e' at hmoved hcut
  generalize c1 = e'' at hgap hcut
  unfold Chip.setView at hgap hmoved
  simp only [Prod.mk.injEq] at hgap hmoved
  have hclose := e.setView_closeSet i 3
  unfold Chip.setView at hclose
  simp only [Prod.mk.injEq] at hclose
  obtain ⟨hlan, hnow, hstate, -, hend⟩ := hclose
  exact ⟨hlan.trans (hmoved.1.trans (hcut.1.trans hgap.1)), hnow.trans (hmoved.2.1.trans (hcut.2.1.trans hgap.2.1)), hstate,
    hend.trans (hmoved.2.2.2.2.trans hcut.2.2)⟩

theorem Chip.triggerNow_spec (c : Chip) (i cause : Nat) (h : (c.capSet i).state = 1) :
    (c.triggerNow i cause).lan = c.lan ∧ (c.triggerNow i cause).now = c.now ∧ ((c.triggerNow i cause).capSet i).state = 2 ∧
      ((c.triggerNow i cause).capSet i).cause = cause ∧ ((c.triggerNow i cause).capSet i).trig = some c.uptime ∧
      ∀ k, k ≠ i → (c.triggerNow i cause).capSet k = c.capSet k := by
  unfold Chip.triggerNow Chip.trigger
  rw [if_pos h, Chip.capSet_modSet]
  exact ⟨rfl, rfl, rfl, rfl, rfl, fun k hk => Chip.capSet_modSet_other _ _ _ _ hk⟩

theorem Tbl.get_del {α : Type} (d : α) (t : Tbl α) (k : Nat) : Tbl.get d (Tbl.del t k) k = d :=
  Tbl.get_ne_listed d _ k fun e he => by simpa [Tbl.del] using (List.mem_filter.mp he).2

/-! ## Players -/

@[simp] theorem Chip.player_modPlayer (c : Chip) (n : Nat) (f : Player → Player) : (c.modPlayer n f).player n = f (c.player n) := Tbl.get_upd _ _ _ _

theorem Chip.player_modPlayer_other (c : Chip) (n k : Nat) (f : Player → Player) (h : k ≠ n) : (c.modPlayer n f).player k = c.player k :=
  Tbl.get_upd_other _ _ _ _ _ h

/-- What a player loads of its set is a picture: its place stays. -/
theorem Player.place_load (p : Player) (x : CapSet) (i : Nat) :
    (p.load x i).state = p.state ∧ (p.load x i).set = p.set ∧ (p.load x i).ch = p.ch ∧ (p.load x i).start = p.start := by
  unfold Player.load
  split
  · exact ⟨rfl, rfl, rfl, rfl⟩
  · split
    · split <;> exact ⟨rfl, rfl, rfl, rfl⟩
    · split <;> exact ⟨rfl, rfl, rfl, rfl⟩

theorem Chip.setPlayer_frame (c : Chip) (n : Nat) (p : Player) :
    (c.setPlayer n p).lan = c.lan ∧ (c.setPlayer n p).now = c.now ∧ (c.setPlayer n p).cap = (c.modPlayer n fun _ => p).cap := by
  unfold Chip.setPlayer
  dsimp only
  split <;> exact ⟨rfl, rfl, rfl⟩

theorem Chip.player_setPlayer (c : Chip) (n : Nat) (p : Player) : (c.setPlayer n p).player n = p := by
  unfold Chip.player
  rw [(c.setPlayer_frame n p).2.2]
  exact c.player_modPlayer n _

theorem Chip.player_setPlayer_other (c : Chip) (n k : Nat) (p : Player) (h : k ≠ n) : (c.setPlayer n p).player k = c.player k := by
  unfold Chip.player
  rw [(c.setPlayer_frame n p).2.2]
  exact c.player_modPlayer_other n k _ h

/-- A request to a player in a state that allows it waits for the player's tick. -/
theorem yields_of_playerControl {i : Instr} {s : State} {t slot ctl what : Nat} {body : List Byte} {states : List Nat} {g : Chip → Chip}
    (hs : s.serving slot 0x0601 1) (h : exec i s = act t s g) (hg : g (s.upon t) = (s.upon t).playerControl slot body ctl what states)
    (hop : u8 body 0 = 7) (hctl : u8 body 5 = ctl) (hlen : body.length = 8) (hzero : zeroAt body 1 3 = true) (hzero' : zeroAt body 6 2 = true)
    (hn : u8 body 4 ≤ 31) (hready : s.chip.cap.ready = true) (hstate : states.contains (s.chip.player (u8 body 4)).state = true) :
    Yields i s (fun c => c.replied s.chip slot 0x0601 done [] ∧
      c.player (u8 body 4) = { s.chip.player (u8 body 4) with
        next := (s.chip.player (u8 body 4)).next ++ [(what, max s.chip.now t + msU 1, none)] }) := by
  refine yields_of_capture (e := (s.upon t).modPlayer (u8 body 4) (fun p => { p with next := p.next ++ [(what, (s.upon t).now + msU 1, none)] }))
    (status := done) hs h hg ?_ (decide_eq_true hlen) ?_ rfl rfl rfl fun d hd hanswers => ⟨hd, ?_⟩
  · rw [hop, hctl, beq_self_eq_true, beq_self_eq_true]
    rfl
  · have hplayer : (s.upon t).player (u8 body 4) = s.chip.player (u8 body 4) := rfl
    have hr : (s.upon t).cap.ready = true := hready
    simp only [firstCode, hplayer, hr, hstate, hzero, hzero', decide_eq_false (Nat.not_lt.mpr hn)]
    rfl
  · have hcap := congrArg CapSt.players hanswers.cap
    have hplayer := (s.upon t).player_modPlayer (u8 body 4) (fun p => { p with next := p.next ++ [(what, (s.upon t).now + msU 1, none)] })
    unfold Chip.player at hplayer ⊢
    rw [hcap, hplayer]
    rfl

/-- REPLAY before its answer: the counters of the replay start anew, its players are its own, and it begins with its first frame. -/
def Chip.replayBegun (c : Chip) (m : Tbl Byte) (slot i : Nat) : Chip :=
  let x := c.capSet i
  let cause := c.approxCause m x (Tbl.get [] c.cap.headers i)
  let c1 := c.clearAll [Reg.CAP_RP_FRAMES_COUNT, Reg.CAP_RP_MISMATCH_COUNT, Reg.CAP_RP_FIRST_INDEX, Reg.CAP_RP_UNCOMPARED_COUNT]
  let c2 := x.channels.foldl (fun a k => a.modPlayer k (fun _ => { Player.reset with state := 5, set := i, ch := k })) (c1.takeGranules x.granules)
  let c3 : Chip :=
    { c2 with cap := { c2.cap with replay := some { set := i, cause := cause, index := 0, notBefore := c.now, slot := slot, session := (c.session slot).id } } }
  ((c3.set Reg.CAP_RP_STATE_STATE 0 1).set Reg.CAP_RP_STATE_APPROX_CAUSE 0 cause).set Reg.CAP_RP_STATE_SET 0 i

theorem Chip.replayBegun_spec (c : Chip) (m : Tbl Byte) (slot i : Nat) :
    (c.replayBegun m slot i).lan = c.lan ∧ (c.replayBegun m slot i).now = c.now ∧ (c.replayBegun m slot i).cap.replay.map Replay.set = some i ∧
      (c.replayBegun m slot i).cap.replay.map Replay.index = some 0 ∧ (c.replayBegun m slot i).fld Reg.CAP_RP_STATE_STATE 0 = 1 ∧
      (c.replayBegun m slot i).fld Reg.CAP_RP_FRAMES_COUNT 0 = 0 := by
  unfold Chip.replayBegun
  extract_lets x cause c1 blank c2 store c3
  have hkeeps : c2.lan = c.lan ∧ c2.now = c.now ∧ c2.regs = (c1.takeGranules x.granules).regs :=
    List.foldl_keeps (fun a : Chip => a.lan = c.lan ∧ a.now = c.now ∧ a.regs = (c1.takeGranules x.granules).regs)
      (fun a k => a.modPlayer k (fun _ => { Player.reset with state := 5, set := i, ch := k })) (fun a k ha => ha) _ (c1.takeGranules x.granules)
      ⟨rfl, rfl, rfl⟩
  obtain ⟨hlan, hnow, hregs⟩ := hkeeps
  refine ⟨hlan, hnow, rfl, rfl, ?_, ?_⟩
  · rw [Chip.fld_set_other _ _ _ _ _ _ (by decide), Chip.fld_set_other _ _ _ _ _ _ (by decide), Chip.fld_set]
    rfl
  · rw [Chip.fld_set_other _ _ _ _ _ _ (by decide), Chip.fld_set_other _ _ _ _ _ _ (by decide), Chip.fld_set_other _ _ _ _ _ _ (by decide)]
    have hfld : c3.fld Reg.CAP_RP_FRAMES_COUNT 0 = (c1.takeGranules x.granules).fld Reg.CAP_RP_FRAMES_COUNT 0 :=
      congrArg (fun r => Tbl.get Reg.CAP_RP_FRAMES_COUNT.reset r (Reg.CAP_RP_FRAMES_COUNT.key 0)) hregs
    rw [hfld, Chip.takeGranules, Chip.fld_set_other _ _ _ _ _ _ (by decide), Chip.fld_clearAll _ _ _ _ (by decide) (by decide)]
    rfl

/-- Settles O20: each request through `capture`, with what its effect does to its set, its player, the store or the replay. -/
theorem captureRequestsComplete : Obligations.CaptureRequestsComplete := by
  refine ⟨?_, ?_, ?_, ?_, ?_, ?_, ?_, ?_, ?_, ?_, ?_⟩
  · intro s t slot body hs hop hmin hlen hcheck
    have hexec : exec (.arm t slot body) s = execArm t slot body s := rfl
    obtain ⟨hlan, hnow, hbody, hstate⟩ := (s.upon t).armSet_spec s.mem body
    refine yields_of_captureMem (e := (s.upon t).armSet s.mem body) (status := done) (f := fun c => (c.armSet s.mem body).done slot 0x0601 [])
      (check := fun c => c.checkArm body) hs hexec (congrArg (·, s.mem) (if_pos hop)) rfl ?_ hcheck rfl hlan hnow fun d hd hanswers => ⟨hd, ?_⟩
    · rw [decide_eq_true hmin, decide_eq_true hlen]
      rfl
    · unfold Chip.capSet at hbody hstate ⊢
      rw [hanswers.cap]
      exact ⟨hstate, hbody⟩
  · intro s t slot body i hs hop hlen hbad hready hstate hcause
    obtain ⟨hlan, hnow, hstate', hcause', htrig, hothers⟩ := (s.upon t).triggerNow_spec i 2 hstate
    refine yields_of_capture (e := (s.upon t).triggerNow i 2) (status := done) hs rfl rfl (beq_iff_eq.mpr hop) (decide_eq_true hlen) ?_ ?_ hlan hnow
      fun d hd hanswers => ⟨hd, ?_⟩
    · have hset : ((s.upon t).capSet (u8 body 4)).state = 1 := hstate
      have hr : (s.upon t).cap.ready = true := hready
      simp only [firstCode, hset, hr, hbad]
      rfl
    · have hset : ((s.upon t).capSet (u8 body 4)).state = 1 := hstate
      have hon : ((s.upon t).capSet (u8 body 4)).causeOn 1 = true := hcause
      dsimp only
      rw [if_pos hset, hon]
      rfl
    · unfold Chip.capSet at hstate' hcause' htrig hothers ⊢
      rw [hanswers.cap]
      exact ⟨hstate', hcause', htrig, hothers⟩
  · intro s t slot body i hs hop hlen hbad hready hlive hhold
    obtain ⟨hlan, hnow, hstate, hend⟩ := (s.upon t).completeSet_spec i (s.upon t).uptime
    refine yields_of_capture (e := (s.upon t).completeSet i (s.upon t).uptime) (status := done) hs rfl rfl (beq_iff_eq.mpr hop) (decide_eq_true hlen) ?_ ?_
      hlan hnow fun d hd hanswers => ⟨hd, ?_⟩
    · have hset : (s.upon t).capSet (u8 body 4) = s.chip.capSet i := rfl
      have hr : (s.upon t).cap.ready = true := hready
      simp only [firstCode, hset, hr, hbad, hlive]
      rfl
    · have hh : (s.upon t).cap.hold = false := hhold
      dsimp only
      rw [hh]
      rfl
    · unfold Chip.capSet at hstate hend ⊢
      rw [hanswers.cap]
      exact ⟨hstate, hend⟩
  · intro s t slot body i hs hop hlen hbad hready hstate hreplay hread
    refine yields_of_capture (status := done) hs rfl rfl (beq_iff_eq.mpr hop) (decide_eq_true hlen) ?_ rfl rfl rfl fun d hd hanswers => ⟨hd, ?_⟩
    · have hset : (s.upon t).capSet (u8 body 4) = s.chip.capSet i := rfl
      have hr : (s.upon t).cap.ready = true := hready
      have hp : (s.upon t).cap.replay = none := hreplay
      have hd : (s.upon t).setRead (u8 body 4) = false := hread
      rcases hstate with hstate | hstate
      · simp only [firstCode, hset, hr, hp, hd, hbad, hstate]
        rfl
      · simp only [firstCode, hset, hr, hp, hd, hbad, hstate]
        rfl
    · have hcap := hanswers.cap
      unfold Chip.capSet
      rw [hcap]
      exact ⟨Tbl.get_del _ _ _, Tbl.get_del _ _ _⟩
  · intro s t slot body hs hop hlen hzero hdrives hlive hplayers hreplay hformat
    refine yields_of_capture (status := started) hs rfl rfl (beq_iff_eq.mpr hop) (decide_eq_true hlen) ?_ rfl rfl rfl fun d hd hanswers => ⟨hd, ?_⟩
    · have hd : (s.upon t).enabledDrives ≠ [] := hdrives
      have hl : (s.upon t).liveSets = [] := hlive
      have hp : (s.upon t).cap.players.any (fun e => e.2.reads) = false := hplayers
      have hr : (s.upon t).cap.replay = none := hreplay
      have hf : (s.upon t).cap.format = none := hformat
      simp only [firstCode, hzero, beq_false_of_ne hd, hl, hp, hr, hf]
      rfl
    · rw [hanswers.cap]
      refine ⟨rfl, rfl, ?_, rfl⟩
      unfold Chip.isSet
      rw [hanswers.eq_of_frame (fun c => c.fld Reg.CAP_STATUS_STORE_READY 0) fun _ _ _ _ => rfl, Chip.fld_set]
      rfl
  · intro s t slot body n hs hop hlen hcheck
    generalize hp : Player.load { s.chip.player n with
      state := 1, set := u8 body 5, ch := u8 body 6, mode := u8 body 7, start := u32 body 8, index := u32 body 8, times := 0,
      next := [(1, (s.upon t).now + msU 1, some (u64 body 16, u32 body 12))] } (s.chip.capSet (u8 body 5)) (u32 body 8) = p
    have hplace := Player.place_load { s.chip.player n with
      state := 1, set := u8 body 5, ch := u8 body 6, mode := u8 body 7, start := u32 body 8, index := u32 body 8, times := 0,
      next := [(1, (s.upon t).now + msU 1, some (u64 body 16, u32 body 12))] } (s.chip.capSet (u8 body 5)) (u32 body 8)
    rw [hp] at hplace
    obtain ⟨hstate, hset, hch, hstart⟩ := hplace
    obtain ⟨hlan, hnow, -⟩ := (s.upon t).setPlayer_frame n p
    refine yields_of_capture (status := done)
      (e := ((s.upon t).setPlayer n p).takeGranules (stagingGranules ((s.chip.capSet (u8 body 5)).chan (u8 body 6)).rate)) hs rfl rfl (beq_iff_eq.mpr hop)
      (decide_eq_true hlen) hcheck ?_ hlan hnow fun d hd hanswers => ⟨hd, ?_⟩
    · rw [← hp]
      rfl
    · have hplayer (k : Nat) : d.player k = ((s.upon t).setPlayer n p).player k := by
        unfold Chip.player
        rw [hanswers.cap]
        rfl
      rw [hplayer, Chip.player_setPlayer]
      exact ⟨hstate, hset, hch, hstart, fun k hk => (hplayer k).trans (Chip.player_setPlayer_other _ _ _ _ hk)⟩
  · intro s t slot body n hs hop hctl hlen hzero hzero' hn hready hstate
    exact yields_of_playerControl hs rfl rfl hop hctl hlen hzero hzero' hn hready (by rw [hstate]; rfl)
  · intro s t slot body n hs hop hctl hlen hzero hzero' hn hready hstate
    exact yields_of_playerControl hs rfl rfl hop hctl hlen hzero hzero' hn hready (by rw [hstate]; rfl)
  · intro s t slot body n hs hop hctl hlen hzero hzero' hn hready hlow hhigh
    have hexec : exec (.stopPlayer t slot body) s = execStopPlayer t slot body s := rfl
    refine yields_of_playerControl (states := [1, 2, 3, 4]) hs hexec ?_ hop hctl hlen hzero hzero' hn hready ?_
    · rw [hop, hctl]
      rfl
    · generalize (s.chip.player (u8 body 4)).state = k at hlow hhigh
      interval_cases k <;> rfl
  · intro s t slot body i x hs hop hlen hbad hready hstate hreplay hbusy hgran hband
    have hexec : exec (.replay t slot body) s = execReplay t slot body s := rfl
    obtain ⟨hlan, hnow, hset, hindex, hrun, hframes⟩ := (s.upon t).replayBegun_spec s.mem slot i
    refine yields_of_captureMem (e := (s.upon t).replayBegun s.mem slot i) (status := started) hs hexec rfl (beq_iff_eq.mpr hop) (decide_eq_true hlen) ?_ rfl
      hlan hnow fun d hd hanswers => ⟨hd, ?_⟩
    · have hx : (s.upon t).capSet (u8 body 4) = x := rfl
      have hr : (s.upon t).cap.ready = true := hready
      have hp : (s.upon t).cap.replay = none := hreplay
      have hb : (x.channels.any (s.upon t).playerOn || (List.range 32).any (fun i => x.watched.contains (0x8000 + i) && (s.upon t).cmpOn i)) = false := hbusy
      have hg : ¬ (s.upon t).freeGranules < x.granules := Nat.not_lt.mpr hgran
      have hw : (s.upon t).bandwidthOk x.rates.sum = true := hband
      have hst : (x.state == 3 || x.state == 4) = true := by
        rcases hstate with h | h <;> rw [h] <;> rfl
      simp only [firstCode, hx, hr, hp, hb, hw, hbad, hst, decide_eq_false hg]
      rfl
    · rw [hanswers.cap, hanswers.eq_of_frame (fun c => c.fld Reg.CAP_RP_STATE_STATE 0) fun _ _ _ _ => rfl,
        hanswers.eq_of_frame (fun c => c.fld Reg.CAP_RP_FRAMES_COUNT 0) fun _ _ _ _ => rfl]
      exact ⟨hset, hindex, hrun, hframes⟩
  · intro s t slot body data hs hop hok hlink hoff hlen hpresent hrange
    have hexec : exec (.captureStoreRead t slot body data) s = execCaptureStoreRead t slot body data s := rfl
    have hinside : ¬(3 < u32 body 4 ∨ u64 body 8 % 4096 ≠ 0 ∨ u32 body 16 % 4096 ≠ 0 ∨ ((s.upon t).drive (u32 body 4)).present = false ∨
        1048576 + 268435456 * ((s.upon t).drive (u32 body 4)).extents < u64 body 8 + u32 body 16) := by
      have hp : ((s.upon t).drive (u32 body 4)).present = true := hpresent
      have hr : u64 body 8 + u32 body 16 ≤ 1048576 + 268435456 * ((s.upon t).drive (u32 body 4)).extents := hrange
      simp only [hp, hoff, hlen, not_or, ne_eq, not_true, not_false_iff, Bool.true_eq_false, true_and, not_lt]
      exact ⟨hlink, hr⟩
    refine yields_of_request_at hs hexec ((if_neg (not_not.mpr hop)).trans (by rw [hok])) ?_ fun d hd => ?_
    · dsimp only
      rw [if_neg hinside]
      rfl
    · dsimp only at hd
      rw [if_neg hinside] at hd
      exact ⟨hd.cap, hd.replied (Chip.replied_respond rfl _ _ _)⟩

end Sys2Proof.Machine
end

section
/-! PROOFS. SDI receivers: a group whose record names more links than there are lanes writes beyond its own fields. -/

namespace Sys2Proof.Machine

/-! ## Fields that stay 0 -/

theorem Chip.fld_set_zero (c : Chip) (f g : Fld) (b d : Nat) (hf : f.reset = 0) (hg : g.reset = 0) (h : g.key d = f.key b ∨ c.fld g d = 0) :
    (c.set f b 0).fld g d = 0 := by
  unfold Chip.fld Chip.set
  dsimp only
  rw [hf, hg, Nat.zero_mod, Tbl.get_put_if]
  split
  · rfl
  · next hne =>
    have hzero := h.resolve_left hne
    unfold Chip.fld at hzero
    rwa [hg] at hzero

/-! ## A group of 2^27 links -/

/-- A module that runs, with an SDI group at lane 0 whose record names 2^27 links, and a receiver that locked at the first instant. -/
def wideGroup : State :=
  { State.reset with
    chip :=
      { Chip.reset with
        run := .running, cfg := [(cfgKey tySdi 0, [0, 27])],
        lne := { Chip.reset.lne with lanes := [(152, { LaneSt.reset with lockAt := some 0 })] } } }

/-- What one link of a group shows of its receiver, as the module stood before. -/
def Chip.showLink (c a : Chip) (h n : Nat) : Chip :=
  let x := c.lane (sdiLane n)
  let l := sdiLane n
  (((a.set Reg.LNE_L_SDI_RX_LOCK l (flag (if n = h then c.groupLocked h else x.lock))).set Reg.LNE_L_SDI_RX_RATE l (if x.lock then x.family else 0)).set
    Reg.LNE_L_SDI_RX_FRACT l (flag x.fract)).set Reg.LNE_L_SDI_LINK l (match x.ident with | some i => i.2 | none => 0)

theorem Chip.showLocks_eq (c : Chip) (h : Nat) : c.showLocks h = (c.sdiGroup h).foldl (fun a n => c.showLink a h n) c := rfl

/-- An idle receiver shows zeros. -/
theorem Chip.showLink_idle (c a : Chip) (h n : Nat) (hn : n ≠ h) (hidle : c.lane (sdiLane n) = LaneSt.reset) :
    c.showLink a h n = (((a.set Reg.LNE_L_SDI_RX_LOCK (sdiLane n) 0).set Reg.LNE_L_SDI_RX_RATE (sdiLane n) 0).set Reg.LNE_L_SDI_RX_FRACT (sdiLane n) 0).set
      Reg.LNE_L_SDI_LINK (sdiLane n) 0 := by
  unfold Chip.showLink
  dsimp only
  rw [if_neg hn, hidle]
  rfl

/-- The offset of the first receiver is beyond the reach of the links' fields but for a link whose number is too high for them. -/
theorem Chip.offset_showLink (c a : Chip) (n : Nat) (hidle : ∀ n, n ≠ 0 → c.lane (sdiLane n) = LaneSt.reset)
    (h : n = 131072000 ∨ a.fld Reg.LNE_L_OFFSET_PPM 152 = 0) : (c.showLink a 0 n).fld Reg.LNE_L_OFFSET_PPM 152 = 0 := by
  by_cases hn : n = 0
  · subst hn
    have hzero := h.resolve_left (by decide)
    unfold Chip.showLink
    dsimp only
    rw [Chip.fld_set_other _ _ _ _ _ _ (by decide), Chip.fld_set_other _ _ _ _ _ _ (by decide), Chip.fld_set_other _ _ _ _ _ _ (by decide),
      Chip.fld_set_other _ _ _ _ _ _ (by decide), hzero]
  · rw [c.showLink_idle a 0 n hn (hidle n hn)]
    refine Chip.fld_set_zero _ _ _ _ _ rfl rfl (Or.inr (Chip.fld_set_zero _ _ _ _ _ rfl rfl (Or.inr (Chip.fld_set_zero _ _ _ _ _ rfl rfl (Or.inr
      (Chip.fld_set_zero _ _ _ _ _ rfl rfl ?_))))))
    exact h.imp_left fun hlast => by rw [hlast]; rfl

/-- With a group of 2^27 links the offset shown of the first receiver is what an idle link shows: 0. -/
theorem Chip.offset_showLocks (c : Chip) (hidle : ∀ n, n ≠ 0 → c.lane (sdiLane n) = LaneSt.reset) (hgroup : 131072000 ∈ c.sdiGroup 0) :
    (c.showLocks 0).fld Reg.LNE_L_OFFSET_PPM 152 = 0 := by
  rw [Chip.showLocks_eq]
  exact List.foldl_establishes (fun n (a : Chip) => n = 131072000 → a.fld Reg.LNE_L_OFFSET_PPM 152 = 0) (fun a n => c.showLink a 0 n)
    (fun a _ hn => c.offset_showLink a _ hidle (Or.inl hn)) (fun a _ k ha hn => c.offset_showLink a k hidle (Or.inr (ha hn))) (c.sdiGroup 0) c hgroup rfl

/-- That module when the rate of its first receiver has been measured and nothing has been shown of the group. -/
def rateShown : Chip :=
  ((wideGroup.upon 27000000).set Reg.LNE_L_OFFSET_PPM 152 (satSigned 32 1)).modLane 152 (fun x => { x with lockAt := none, fract := decide ((1 : Int) < -50000) })

theorem mem_sdiGroup_rateShown : 131072000 ∈ rateShown.sdiGroup 0 := by
  have hlinks : u8 (rateShown.record tySdi 0) 1 = 27 := rfl
  unfold Chip.sdiGroup
  rw [hlinks]
  exact List.mem_map.mpr ⟨131072000, List.mem_range.mpr (by norm_num), Nat.zero_add _⟩

theorem lane_rateShown (n : Nat) (hn : n ≠ 0) : rateShown.lane (sdiLane n) = LaneSt.reset := by
  have hlane : sdiLane n ≠ 152 := by
    unfold sdiLane
    omega
  unfold rateShown Chip.lane Chip.modLane
  rw [Tbl.get_upd_other _ _ _ _ _ hlane]
  refine Tbl.get_ne_listed _ _ _ fun e he => ?_
  rw [List.mem_singleton.mp he]
  exact hlane.symm

theorem runs_wideGroup : wideGroup.runs := rfl

theorem Chip.now_showLocks (c : Chip) (h : Nat) : (c.showLocks h).now = c.now :=
  List.foldl_keeps (fun a : Chip => a.now = c.now) (fun a n => c.showLink a h n) (fun _ _ ha => ha) (c.sdiGroup h) c rfl

/-- Where a command leaves the module, when its effect is known and keeps the clock at its instant. -/
theorem exec_of_eq {i : Instr} {s : State} {t : Nat} {f : Chip → Chip} {d : Chip} (hs : s.runs) (h : exec i s = act t s f) (hd : f (s.upon t) = d)
    (hnow : d.now = max s.chip.now t) : exec i s = .next { s with chip := d } := by
  subst hd
  exact exec_of_act hs h hnow

theorem exec_sdiRateMeasure_wideGroup : exec (.sdiRateMeasure 27000000 0 1) wideGroup = .next { wideGroup with chip := rateShown.showLocks 0 } := by
  have hexec : exec (.sdiRateMeasure 27000000 0 1) wideGroup = execSdiRateMeasure 27000000 0 1 wideGroup := rfl
  have hlock : ((wideGroup.upon 27000000).lane (sdiLane ((0 : Fin 64) : Nat))).lockAt = some 0 := rfl
  have hnow : (rateShown.showLocks 0).now = 27000000 := (rateShown.now_showLocks 0).trans rfl
  have hhead : rateShown.sdiHead 0 = some 0 := rfl
  have heffect : rateShown.showLane 0 = rateShown.showLocks 0 := by
    unfold Chip.showLane
    rw [hhead]
  have hlate : 0 + msU 1 ≤ (wideGroup.upon 27000000).now := Nat.le_of_eq rfl
  refine exec_of_eq runs_wideGroup hexec ?_ hnow
  dsimp only
  rw [hlock]
  dsimp only
  rw [if_pos hlate]
  exact heffect

/-- Refutes O12: SDI_RATE_MEASURE shows the offset and then the links of the group, and a group of 2^27 links writes over the offset. -/
theorem not_sdiAndEthernetLaneCommandsComplete : ¬ Obligations.SdiAndEthernetLaneCommandsComplete := by
  rintro ⟨-, -, -, h, -⟩
  have hyields := h wideGroup 27000000 0 1 0 runs_wideGroup rfl (Nat.le_of_eq rfl)
  have hzero := rateShown.offset_showLocks lane_rateShown mem_sdiGroup_rateShown
  have hexec := exec_sdiRateMeasure_wideGroup
  generalize rateShown.showLocks 0 = d at hexec hzero
  obtain ⟨-, -, hoffset, -⟩ := holds_of_yields hyields hexec
  have hshown : d.fld Reg.LNE_L_OFFSET_PPM 152 = 1 := hoffset
  exact absurd (hzero.symm.trans hshown) Nat.zero_ne_one

end Sys2Proof.Machine
end

section
/-! PROOFS. The Ethernet MACs: sends and their frames, pause, gates, links and time stamps. -/

namespace Sys2Proof.Machine

/-! ## One MAC among the others -/

@[simp] theorem Chip.mac_modMac (c : Chip) (k : Nat) (f : Mac → Mac) : (c.modMac k f).mac k = f (c.mac k) := Tbl.get_upd _ _ _ _

theorem Chip.mac_modMac_other (c : Chip) (k j : Nat) (f : Mac → Mac) (h : j ≠ k) : (c.modMac k f).mac j = c.mac j := Tbl.get_upd_other _ _ _ _ _ h

theorem Tbl.not_mem_del {α : Type} (t : Tbl α) (k : Nat) : k ∉ (Tbl.del t k).map Prod.fst := by
  intro h
  obtain ⟨e, he, hk⟩ := List.mem_map.mp h
  have hne := (List.mem_filter.mp he).2
  rw [hk] at hne
  simp at hne

/-! ## Frames in their queues -/

theorem length_insertFrame (x : TxFrame) (l : List TxFrame) : (insertFrame x l).length = l.length + 1 := by
  induction l with
  | nil => rfl
  | cons y l ih =>
    unfold insertFrame
    split
    · rfl
    · rw [List.length_cons, ih, List.length_cons]

theorem length_foldl_insertFrame (fs l : List TxFrame) : (fs.foldl (fun l x => insertFrame x l) l).length = l.length + fs.length := by
  induction fs generalizing l with
  | nil => rfl
  | cons x fs ih =>
    rw [List.foldl_cons, ih, length_insertFrame, List.length_cons]
    omega

/-- Frames given to a MAC: its next number stays, and where the link is up they join its queues. -/
theorem Chip.handFrames_spec (c : Chip) (k : Nat) (fs : List TxFrame) :
    ((c.handFrames k fs).mac k).sendNext = (c.mac k).sendNext ∧
      ((c.mac k).up = true → ((c.handFrames k fs).mac k).sends = (c.mac k).sends ∧
        ((c.handFrames k fs).mac k).frames.length = (c.mac k).frames.length + fs.length) ∧
      c.handFrames k fs = { c with net := (c.handFrames k fs).net, regs := (c.handFrames k fs).regs } := by
  unfold Chip.handFrames
  split
  · rw [Chip.mac_modMac]
    exact ⟨rfl, fun _ => ⟨rfl, length_foldl_insertFrame _ _⟩, rfl⟩
  · next hdown =>
    rw [Chip.mac_modMac]
    exact ⟨rfl, fun hup => absurd hup hdown, rfl⟩

/-- The stamp of a frame leaves what is sent. -/
theorem Chip.mac_stampFrame (c : Chip) (k g : Nat) :
    ((c.stampFrame k g).mac k).current = (c.mac k).current ∧ ((c.stampFrame k g).mac k).frames = (c.mac k).frames := by
  have hmac : (c.stampFrame k g).mac k = _ := c.mac_modMac k _
  rw [hmac]
  exact ⟨rfl, rfl⟩

theorem Chip.sent_putFrame (c : Chip) (k : Nat) (bad : Bool) (bytes : List Byte) :
    Out.frame (k / 8) (k % 8) (flag bad) (bytes ++ List.replicate (60 - bytes.length) 0) ∈ (c.putFrame k bad bytes).sent := by
  unfold Chip.putFrame Chip.emit
  exact List.mem_append_right _ (List.mem_singleton_self _)

theorem Chip.net_count64 (c : Chip) (lo hi : Fld) (b n : Nat) : (c.count64 lo hi b n).net = c.net := rfl

theorem Chip.mac_putFrame (c : Chip) (k : Nat) (bad : Bool) (bytes : List Byte) : (c.putFrame k bad bytes).mac k = c.mac k := by
  unfold Chip.putFrame Chip.mac
  dsimp only
  rw [Chip.emit_net, Chip.count_net, Chip.net_count64, Chip.countWrap_net]

/-- The frame in progress is the one started, it has left its queue, and it is sent. -/
theorem Chip.startFrameTx_spec (c : Chip) (k : Nat) (x : TxFrame) :
    ((c.startFrameTx k x).mac k).current = some (x.queue, x.send, x.bytes.length) ∧ ((c.startFrameTx k x).mac k).frames = (c.mac k).frames.erase x ∧
      ∃ bytes, Out.frame (k / 8) (k % 8) (flag x.bad) bytes ∈ (c.startFrameTx k x).sent := by
  unfold Chip.startFrameTx
  extract_lets bytes c1 c2 c3
  have htaken : (c1.mac k).current = some (x.queue, x.send, x.bytes.length) ∧ (c1.mac k).frames = (c.mac k).frames.erase x := by
    have hmac : c1.mac k = _ := c.mac_modMac k _
    rw [hmac]
    exact ⟨rfl, rfl⟩
  have hstamped : (c2.mac k).current = (c1.mac k).current ∧ (c2.mac k).frames = (c1.mac k).frames := by
    unfold c2
    split
    · exact c1.mac_stampFrame k _
    · exact ⟨rfl, rfl⟩
  have hkept : c3.mac k = c2.mac k := by
    unfold c3
    split <;> rfl
  have hput := c3.mac_putFrame k x.bad bytes
  rw [hput, hkept]
  exact ⟨hstamped.1.trans htaken.1, hstamped.2.trans htaken.2, _, c3.sent_putFrame k x.bad bytes⟩

/-! ## Links -/

theorem Chip.linkDown_spec (c : Chip) (p b : Nat) (hup : (c.mac (macKey p b)).up = true) :
    ((c.linkDown p b).mac (macKey p b)).up = false ∧ ((c.linkDown p b).mac (macKey p b)).frames = [] ∧
      ((c.linkDown p b).mac (macKey p b)).current = none ∧ (∀ e ∈ ((c.linkDown p b).mac (macKey p b)).sends, e.left = 0) ∧
      (c.linkDown p b).logged Ev.macLinkDown [p + b * 256 + c.macSpeed p * 4096] ∧
      c.linkDown p b = { c with net := (c.linkDown p b).net, regs := (c.linkDown p b).regs, log := (c.linkDown p b).log } := by
  unfold Chip.linkDown
  dsimp only
  rw [if_pos hup]
  have hdown := c.mac_modMac (macKey p b) (fun m => { m with up := false, pauseUntil := [], pauseSince := [], pausing := false })
  generalize hd : c.modMac (macKey p b) (fun m => { m with up := false, pauseUntil := [], pauseSince := [], pausing := false }) = d at hdown
  have hmac := (d.count Reg.MAC_TX_LINK_DISCARD_COUNT (macKey p b) (d.mac (macKey p b)).frames.length).mac_modMac (macKey p b) (fun m =>
    { m with
      frames := [], current := none,
      sends := m.sends.map (fun s => if 0 < s.left then { s with left := 0, code := max s.code 2 } else s) })
  have hgone : (d.discardFrames (macKey p b)).mac (macKey p b) = _ := hmac
  refine ⟨(congrArg Mac.up hgone).trans (congrArg Mac.up hdown), congrArg Mac.frames hgone, congrArg Mac.current hgone, fun e he => ?_,
    Chip.logged_event _ _ _, ?_⟩
  · have he' : e ∈ ((d.discardFrames (macKey p b)).mac (macKey p b)).sends := he
    rw [hgone] at he'
    obtain ⟨x, -, rfl⟩ := List.mem_map.mp he'
    split
    · rfl
    · next hnone => exact Nat.eq_zero_of_not_pos hnone
  · rw [← hd]
    rfl

theorem Chip.linkUp_spec (c : Chip) (p b : Nat) (hup : (c.mac (macKey p b)).up = false) :
    ((c.linkUp p b).mac (macKey p b)).up = true ∧ (c.linkUp p b).logged Ev.macLinkUp [p + b * 256 + c.macSpeed p * 4096] ∧
      c.linkUp p b = { c with net := (c.linkUp p b).net, regs := (c.linkUp p b).regs, log := (c.linkUp p b).log } := by
  unfold Chip.linkUp
  dsimp only
  rw [if_neg (by rw [hup]; exact Bool.false_ne_true)]
  exact ⟨congrArg Mac.up (c.mac_modMac (macKey p b) _), Chip.logged_event _ _ _, rfl⟩

theorem Chip.alignBreakout_spec (c : Chip) (p b : Nat) :
    c.alignBreakout p b = { c with lne := (c.alignBreakout p b).lne, regs := (c.alignBreakout p b).regs } := by
  unfold Chip.alignBreakout
  have hfold := List.foldl_keeps (fun a : Chip => a = { c with regs := a.regs })
    (fun a l => (a.set Reg.LNE_L_STATE_ALIGNED l 1).set Reg.LNE_L_STATE_CDR_LOCK l 1) (fun a l ha => by rw [ha]; rfl) (c.breakoutLanes p b) c rfl
  generalize (c.breakoutLanes p b).foldl (fun a l => (a.set Reg.LNE_L_STATE_ALIGNED l 1).set Reg.LNE_L_STATE_CDR_LOCK l 1) c = a at hfold
  rw [hfold]
  rfl

/-- The counters that MAC_CLR_CNT clears. -/
def macCounters : List Fld :=
  [Reg.MAC_RX_FRAMES_COUNT, Reg.MAC_RX_BYTES_LO_COUNT, Reg.MAC_RX_BYTES_HI_COUNT, Reg.MAC_RX_FCS_ERR_COUNT,
    Reg.MAC_RX_RUNT_COUNT, Reg.MAC_RX_OVERSIZE_COUNT, Reg.MAC_RX_FILTERED_COUNT, Reg.MAC_RX_DROP_COUNT, Reg.MAC_RX_PAUSE_COUNT,
    Reg.MAC_RX_MAC_CTRL_COUNT, Reg.MAC_TX_FRAMES_COUNT, Reg.MAC_TX_BYTES_LO_COUNT, Reg.MAC_TX_BYTES_HI_COUNT, Reg.MAC_TX_PAD_COUNT,
    Reg.MAC_TX_REFUSED_COUNT, Reg.MAC_TX_UNDERRUN_COUNT, Reg.MAC_TX_LINK_DISCARD_COUNT, Reg.MAC_PAUSE_EVENTS_PAUSE_WD,
    Reg.MAC_PAUSE_EVENTS_TX_PAUSE_SENT, Reg.MAC_TS_CAP_TAG_TS_LOST]

theorem macCounters_reset : ∀ f ∈ macCounters, f.reset = 0 := by decide

/-- Settles O11, each command by its effect on the MAC of its breakout. -/
theorem macCommandsComplete : Obligations.MacCommandsComplete := by
  refine ⟨?_, ?_, ?_, ?_, ?_, ?_, ?_, ?_, ?_, ?_, ?_, ?_, ?_, ?_⟩
  · intro s t port breakout req k largest hs hbreakout
    have hexec : exec (.send t port breakout req) s = execSend t port breakout req s := rfl
    by_cases hlong : s.chip.maxFrame port < req.template.length + largest + 4
    · refine yields_of_eq (d := ((s.upon t).count Reg.MAC_TX_REFUSED_COUNT k 1).modMac k (fun m => { m with
        sends := m.sends ++ [{ id := (s.chip.mac k).sendNext, tag := req.tag, left := 0, code := 1 }], sendNext := (s.chip.mac k).sendNext + 1 }))
        hs hexec ((if_pos hbreakout).trans (if_pos hlong)) rfl ?_
      rw [Chip.mac_modMac]
      exact ⟨rfl, fun _ => ⟨rfl, (s.upon t).fld_count _ _ _⟩, fun hfits => absurd hlong (Nat.not_lt.mpr hfits), rfl⟩
    · have hkept : ((s.upon t).modMac k (fun m => { m with
          sends := m.sends ++ [{ id := (s.chip.mac k).sendNext, tag := req.tag, left := (sendFrames req).length, code := 0 }],
          sendNext := (s.chip.mac k).sendNext + 1 })).mac k = _ := (s.upon t).mac_modMac k _
      generalize hnoted : (s.upon t).modMac k (fun m => { m with
          sends := m.sends ++ [{ id := (s.chip.mac k).sendNext, tag := req.tag, left := (sendFrames req).length, code := 0 }],
          sendNext := (s.chip.mac k).sendNext + 1 }) = d at hkept
      have hframe : d = { s.upon t with net := d.net } := by
        rw [← hnoted]
        rfl
      generalize hframes : (sendFrames req).map (fun b => (⟨if req.launch.isSome then 7 else req.queue, b, req.launch.map (fun l => qOf l.1 l.2),
        (s.chip.mac k).sendNext, req.tsTag, req.oneStep, false⟩ : TxFrame)) = fs
      have hcount : fs.length = (sendFrames req).length := by
        rw [← hframes, List.length_map]
      obtain ⟨hnext, hup, hgiven⟩ := d.handFrames_spec k fs
      rw [hkept] at hnext hup
      refine yields_of_eq (d := d.handFrames k fs) hs hexec ((if_pos hbreakout).trans ((if_neg hlong).trans ?_)) ?_
        ⟨hnext, fun hover => absurd hover hlong, fun _ hlink => ?_, ?_⟩
      · dsimp only
        rw [List.length_map, ← hframes, ← hnoted]
        rfl
      · rw [hgiven, hframe]
        rfl
      · obtain ⟨hsends, hqueued⟩ := hup hlink
        exact ⟨hsends, hqueued.trans (by rw [hcount]; rfl)⟩
      · rw [hgiven, hframe]
  · intro s t port breakout first x k hs hup hfirst
    have hexec : exec (.transmitFrameStart t port breakout first) s = execTransmitFrameStart t port breakout first s := rfl
    obtain ⟨hcurrent, hframes, bytes, hsent⟩ := (s.upon t).startFrameTx_spec k x
    have hup' : ((s.upon t).mac (macKey port breakout)).up = true := hup
    refine yields_of_act_eq (d := (s.upon t).startFrameTx k x) hs hexec ?_ ⟨hcurrent, hframes, List.any_eq_true.mpr ⟨_, hsent, ?_⟩⟩
    · dsimp only
      rw [if_pos hup']
      have hfirst' : ((([6, 5, 4, 3, 2, 1, 0] : List Nat).filterMap (fun q => ((s.upon t).mac (macKey port breakout)).frames.find? (fun x => x.queue == q))).find?
          ((s.upon t).mayStart port (macKey port breakout) first)) = some x := hfirst
      rw [hfirst']
    · simp
  · intro s t port breakout e k hs hended
    have hexec : exec (.sendCompletion t port breakout) s = execSendCompletion t port breakout s := rfl
    refine yields_of_eq (d := ((s.upon t).modMac k (fun m => { m with sends := m.sends.erase e })).emit (.completion port breakout e.tag e.code)) hs hexec ?_ rfl
      ⟨rfl, congrArg Mac.sends ((s.upon t).mac_modMac k _), fun j hj => (s.upon t).mac_modMac_other k j _ hj, rfl⟩
    have hended' : ((s.upon t).mac (macKey port breakout)).sends.find? (fun e => e.left == 0) = some e := hended
    dsimp only
    rw [hended']
  · intro s t port breakout q id n k th hs hcurrent hq
    have hexec : exec (.macTxUnderrun t port breakout) s = execMacTxUnderrun t port breakout s := rfl
    have hcurrent' : ((s.upon t).mac (macKey port breakout)).current = some (q, id, n) := hcurrent
    have hmac := ((s.upon t).set Reg.MAC_P_CFG_START_THRESH k th).mac_modMac k (fun m => { m with
      current := none, sends := m.sends.map (fun e => if e.id = id then { e with code := max e.code 3 } else e) })
    have hk : k < 1048576 := by
      unfold k macKey
      omega
    refine yields_of_eq (d := (((((s.upon t).set Reg.MAC_P_CFG_START_THRESH k th).modMac k (fun m => { m with
      current := none, sends := m.sends.map (fun e => if e.id = id then { e with code := max e.code 3 } else e) })).count Reg.MAC_TX_UNDERRUN_COUNT k 1).mark
        Reg.MAC_STATUS_UNDERRUN_SEEN).event Ev.macTxUnderrun [port + breakout * 256, th]) hs hexec ?_ rfl
      ⟨congrArg Mac.current hmac, ?_, ?_, Chip.isSet_mark _ _ rfl, Chip.logged_event _ _ _, fun e he hid => ?_, ?_, rfl⟩
    · dsimp only
      rw [hcurrent']
      exact if_neg hq
    · rw [Chip.event_fld, Chip.mark_eq, Chip.fld_set_ne _ _ _ _ _ _ (by decide) (by decide) hk (by decide) (by decide), Chip.count_eq,
        Chip.fld_set_ne _ _ _ _ _ _ (by decide) (by decide) hk hk (by decide)]
      exact Chip.fld_set _ _ _ _
    · rw [Chip.event_fld, Chip.mark_eq, Chip.fld_set_ne _ _ _ _ _ _ (by decide) (by decide) hk (by decide) (by decide), Chip.fld_count]
      have hfld := (s.upon t).fld_set_ne Reg.MAC_P_CFG_START_THRESH Reg.MAC_TX_UNDERRUN_COUNT k k th (by decide) (by decide) hk hk (by decide)
      exact congrArg (fun v => min (v + 1) (2 ^ Reg.MAC_TX_UNDERRUN_COUNT.width - 1)) hfld
    · have he' : e ∈ ((((s.upon t).set Reg.MAC_P_CFG_START_THRESH k th).modMac k (fun m => { m with
          current := none, sends := m.sends.map (fun e => if e.id = id then { e with code := max e.code 3 } else e) })).mac k).sends := he
      rw [hmac] at he'
      obtain ⟨x, -, rfl⟩ := List.mem_map.mp he'
      by_cases hx : x.id = id
      · rw [if_pos hx]
        exact Nat.le_max_right _ _
      · rw [if_neg hx] at hid
        exact absurd hid hx
    · intro f b hf hb hne
      have hother (g : Fld) (hg : g ∈ [Reg.MAC_P_CFG_START_THRESH, Reg.MAC_TX_UNDERRUN_COUNT, Reg.MAC_STATUS_UNDERRUN_SEEN]) := hne g hg
      rw [Chip.event_fld, Chip.mark_eq, Chip.fld_set_ne _ _ _ _ _ _ hf (by decide) hb (by decide) (hother _ (by decide)), Chip.count_eq,
        Chip.fld_set_ne _ _ _ _ _ _ hf (by decide) hb hk (hother _ (by decide))]
      exact Chip.fld_set_ne _ _ _ _ _ _ hf (by decide) hb hk (hother _ (by decide))
  · intro s t port breakout k hs hup
    have hexec : exec (.linkDown t port breakout) s = execLinkDown t port breakout s := rfl
    obtain ⟨hdown, hframes, hcurrent, hsends, hlogged, hframe⟩ := (s.upon t).linkDown_spec port breakout hup
    exact yields_of_eq hs hexec rfl (congrArg Chip.now hframe) ⟨hdown, hframes, hcurrent, hsends, hlogged, hframe⟩
  · intro s t port breakout hs hup hbreakout hon hready
    have hexec : exec (.linkUp t port breakout) s = execLinkUp t port breakout s := rfl
    have hall : (decide (breakout.val < (s.upon t).breakouts port) && (s.upon t).macOn port && (s.upon t).breakoutReady port breakout) = true := by
      have hon' : (s.upon t).macOn port = true := hon
      have hready' : (s.upon t).breakoutReady port breakout = true := hready
      have hbreakout' : breakout.val < (s.upon t).breakouts port := hbreakout
      rw [hon', hready', decide_eq_true hbreakout']
      rfl
    obtain ⟨hlink, hlogged, hframe⟩ := (s.upon t).linkUp_spec port breakout hup
    have haligned := ((s.upon t).linkUp port breakout).alignBreakout_spec port breakout
    generalize hraised : (s.upon t).linkUp port breakout = d at hlink hlogged hframe haligned
    generalize hdone : d.alignBreakout port breakout = e at haligned
    refine yields_of_eq (d := e) hs hexec ((if_pos hall).trans ?_) ?_ ⟨?_, ?_, ?_⟩
    · rw [hraised, hdone]
    · rw [haligned, hframe]
      rfl
    · rw [haligned]
      exact hlink
    · rw [haligned]
      exact hlogged
    · rw [haligned, hframe]
  · intro s t port breakout kind u k hs huntil hpast
    have hexec : exec (.pauseExpiry t port breakout kind) s = execPauseExpiry t port breakout kind s := rfl
    refine yields_of_eq (d := (s.upon t).modMac k (fun m => m.release kind)) hs hexec ?_ rfl ?_
    · have huntil' : Tbl.find ((s.upon t).mac (macKey port breakout)).pauseUntil kind = some u := huntil
      dsimp only
      rw [huntil']
      exact if_pos hpast
    · rw [Chip.mac_modMac]
      exact ⟨Tbl.not_mem_del _ _, Tbl.not_mem_del _ _, fun j hj => (s.upon t).mac_modMac_other k j _ hj, rfl⟩
  · intro s t port kind u k hs hhost hsince hlate
    have hexec : exec (.pauseWatchdog t port kind) s = execPauseWatchdog t port kind s := rfl
    have hsince' : Tbl.find ((s.upon t).mac (macKey port 0)).pauseSince kind = some u := hsince
    have hk : k < 1048576 := by
      unfold k macKey
      omega
    have hdue : (isHostPort port && decide (u + msU ((s.upon t).fld Reg.MAC_P_PAUSE_WD_MS (macKey port 0)) < (s.upon t).now)) = true := by
      rw [hhost]
      exact decide_eq_true hlate
    refine yields_of_eq (d := ((((s.upon t).modMac k (fun m => { m.release kind with ignoreUntil := Tbl.ins m.ignoreUntil kind ((s.upon t).now + msU 100) })).count
      Reg.MAC_PAUSE_EVENTS_PAUSE_WD k 1).mark Reg.MAC_STATUS_WD_SEEN).event Ev.macPauseWatchdog
        [port + (if kind.val = 8 then 0 else 65536 + kind * 1048576), ((s.upon t).now - u) / 27000000]) hs hexec ?_ rfl
      ⟨?_, ?_, Chip.isSet_mark _ _ rfl, Chip.logged_event _ _ _, rfl⟩
    · dsimp only
      rw [hsince']
      exact if_pos hdue
    · have hmac := (s.upon t).mac_modMac k (fun m => { m.release kind with ignoreUntil := Tbl.ins m.ignoreUntil kind ((s.upon t).now + msU 100) })
      have huntil := congrArg Mac.pauseUntil hmac
      intro hmem
      exact Tbl.not_mem_del _ _ (huntil ▸ hmem)
    · rw [Chip.event_fld, Chip.mark_eq, Chip.fld_set_ne _ _ _ _ _ _ (by decide) (by decide) hk (by decide) (by decide), Chip.fld_count]
      rfl
  · intro s t port kind u hs huntil hpast
    have hexec : exec (.pauseIgnoreEnd t port kind) s = execPauseIgnoreEnd t port kind s := rfl
    refine yields_of_eq hs hexec rfl rfl ⟨?_, rfl⟩
    have huntil' : Tbl.find ((s.upon t).mac (macKey port 0)).ignoreUntil kind = some u := huntil
    have hpast' : u ≤ (s.upon t).now := hpast
    rw [Chip.mac_modMac, huntil']
    dsimp only
    rw [if_pos hpast']
    exact Tbl.not_mem_del _ _
  · intro s t port fill hs hpausing hfill
    have hexec : exec (.pauseRepeat t port fill) s = execPauseRepeat t port fill s := rfl
    refine yields_of_eq (d := (s.upon t).sendPause port 0xFFFF) hs hexec (if_pos ⟨hpausing, hfill⟩) rfl ⟨?_, ?_, rfl⟩
    · exact (s.upon t).fld_count _ _ _
    · have hsent : (s.upon t).sent = [] := rfl
      simp [Chip.sendPause, Chip.emit, hsent]
  · intro s t p k hs hsel hhost
    have hexec : exec (.gclSwap t) s = execGclSwap t s := rfl
    have hnone : (s.upon t).noSel.contains Reg.MAC_PORT_SEL_PORT.addr = false := by simpa using hsel
    have hhost' : ¬ isHostPort ((s.upon t).fld Reg.MAC_PORT_SEL_PORT 0) = true := by
      rw [Bool.not_eq_true]
      exact hhost
    refine exec_of_eq hs hexec ?_ rfl
    unfold Chip.gclSwap
    dsimp only
    rw [hnone, if_neg Bool.false_ne_true, if_neg hhost']
    rfl
  · intro s t port breakout k hs hswap hok
    have hexec : exec (.gateScheduleSwap t port breakout) s = execGateScheduleSwap t port breakout s := rfl
    have hswap' : ((s.upon t).mac (macKey port breakout)).gateSwap = true := hswap
    have hok' : gatesOk ((s.upon t).mac (macKey port breakout)).gatesNew = true := hok
    exact exec_of_eq hs hexec ((if_pos hswap').trans (if_pos hok')) rfl
  · intro s t e r k hs hsel hstamps
    have hexec : exec (.tsCapTagRead t) s = execTsCapTagRead t s := rfl
    have hnone : (s.upon t).noSel.contains Reg.MAC_PORT_SEL_PORT.addr = false := by simpa using hsel
    have hstamps' : ((s.upon t).mac (macKey ((s.upon t).fld Reg.MAC_PORT_SEL_PORT 0) ((s.upon t).fld Reg.MAC_PORT_SEL_BREAKOUT 0))).stamps = e :: r := hstamps
    refine yields_of_eq (d := ((s.upon t).modMac k (fun m => { m with stamps := r })).emit (.value Reg.MAC_TS_CAP_TAG_TAG.addr
      (e.2.2 % 65536 + 65536 + (s.upon t).fld Reg.MAC_TS_CAP_TAG_TS_LOST k * 16777216))) hs hexec ?_ rfl
      ⟨congrArg Mac.stamps ((s.upon t).mac_modMac k _), rfl, rfl⟩
    unfold Chip.tsCapTagRead
    dsimp only
    rw [hnone, if_neg Bool.false_ne_true, hstamps']
    rfl
  · intro s t hs
    have hexec : exec (.macClrCnt t) s = execMacClrCnt t s := rfl
    have hclear (f : Fld) (hf : f ∈ macCounters) (b : Nat) (hb : b < 144) : (s.upon t).clrMac.fld f b = 0 :=
      ((s.upon t).fld_clearAll macCounters f b hf (by omega)).trans (macCounters_reset f hf)
    refine yields_of_eq hs hexec rfl rfl ⟨fun k hk => ?_, rfl⟩
    exact ⟨hclear _ (by decide) k hk, hclear _ (by decide) k hk, hclear _ (by decide) k hk, hclear _ (by decide) k hk, hclear _ (by decide) k hk,
      hclear _ (by decide) k hk, hclear _ (by decide) k hk, hclear _ (by decide) k hk⟩

end Sys2Proof.Machine
end

section
/-! PROOFS. Ticks and timing domains: what a tick and a switch point do besides leaves the domains alone. -/

namespace Sys2Proof.Machine

/-! ## The domains stay as they are: operations of a switch -/

theorem Chip.foldl_tick {α : Type} (f : Chip → α → Chip) (hf : ∀ a x, (f a x).tick = a.tick) (l : List α) (c : Chip) : (l.foldl f c).tick = c.tick :=
  List.foldl_keeps (fun a : Chip => a.tick = c.tick) f (fun a x ha => (hf a x).trans ha) l c rfl

/-- Each level in its turn. -/
theorem Chip.eachLevel_tick (c : Chip) (f : Chip → Nat → Chip) (hf : ∀ a l, (f a l).tick = a.tick) : (c.eachLevel f).tick = c.tick := by
  unfold Chip.eachLevel
  rw [hf, hf, hf]

@[simp] theorem Chip.serveLevel_tick (c : Chip) (d lvl s : Nat) (dev : Option Nat) : (c.serveLevel d lvl s dev).tick = c.tick := rfl

@[simp] theorem Chip.movePath_tick (c : Chip) (d lvl cause : Nat) (r : Route) (p : Path) : (c.movePath d lvl cause r p).tick = c.tick := by
  unfold Chip.movePath
  dsimp only
  split <;> rfl

theorem Chip.moveLevel_tick (c : Chip) (d lvl : Nat) : (c.moveLevel d lvl).tick = c.tick := by
  unfold Chip.moveLevel
  split
  · rfl
  · dsimp only
    split_ifs <;> simp

theorem Chip.modeFallback_tick (c : Chip) (d lvl : Nat) : (c.modeFallback d lvl).tick = c.tick := by
  unfold Chip.modeFallback
  split
  · rfl
  · dsimp only
    split <;> rfl

theorem Chip.judgeLevel_tick (c : Chip) (d lvl : Nat) : (c.judgeLevel d lvl).tick = c.tick := by
  unfold Chip.judgeLevel
  split
  · rfl
  · dsimp only
    split_ifs <;> rfl

@[simp] theorem Chip.ctlFor_tick (c : Chip) (p : CapSet → Bool) (e : Ev) (payload : List Nat) : (c.ctlFor p e payload).tick = c.tick :=
  Chip.foldl_tick _ (by exact fun _ _ => rfl) _ _

@[simp] theorem Chip.ctlTake_tick (c : Chip) (d src : Nat) (dev : Option Nat) (levels path cause : Nat) : (c.ctlTake d src dev levels path cause).tick = c.tick :=
  c.ctlFor_tick _ _ _

theorem Chip.fallbackEvent_tick (c : Chip) (d src mask : Nat) (cause : Cause) (st : LevelState) : (c.fallbackEvent d src mask cause st).tick = c.tick :=
  Chip.ctlTake_tick _ _ _ _ _ _ _

theorem Chip.fallbackEvents_tick (c : Chip) (d : Nat) (before : Dst) : (c.fallbackEvents d before).tick = c.tick := by
  unfold Chip.fallbackEvents
  extract_lets after go
  have hgo (a : Chip) (entered : Bool) : (go a entered).tick = a.tick := by
    unfold go
    dsimp only
    split
    · rfl
    · refine Chip.foldl_tick _ (fun b l => ?_) _ _
      rw [apply_ite Chip.tick, Chip.fallbackEvent_tick, ite_self]
  rw [hgo, hgo]

theorem Chip.dropRestored_tick (c : Chip) (d : Nat) : (c.dropRestored d).tick = c.tick := by
  unfold Chip.dropRestored
  dsimp only
  split <;> rfl

@[simp] theorem Chip.judge_tick (c : Chip) (d : Nat) : (c.judge d).tick = c.tick := by
  unfold Chip.judge
  rw [Chip.dropRestored_tick, Chip.fallbackEvents_tick, Chip.eachLevel_tick _ _ fun a l => a.judgeLevel_tick d l,
    Chip.eachLevel_tick _ _ fun a l => a.modeFallback_tick d l]

@[simp] theorem Chip.setAudSrc_tick (c : Chip) (p : Nat) (g : AudSig) : (c.setAudSrc p g).tick = c.tick := by
  unfold Chip.setAudSrc
  dsimp only
  split <;> rfl

theorem Chip.setAudLevel_tick (c : Chip) (p : Nat) (gain : Int) (mute invert : Bool) : (c.setAudLevel p gain mute invert).tick = c.tick := by
  unfold Chip.setAudLevel
  dsimp only
  split <;> rfl

@[simp] theorem Chip.takeFollow_tick (c : Chip) (k : Nat) : (c.takeFollow k).1.tick = c.tick := by
  unfold Chip.takeFollow
  split
  · rfl
  · split <;> rfl

theorem Chip.followAudio_tick (c : Chip) (d : Nat) : (c.followAudio d).tick = c.tick := by
  unfold Chip.followAudio
  refine (Chip.foldl_tick _ (fun a e => ?_) _ _).trans rfl
  split
  · simp
  · simp
  · split
    · simp
    · dsimp only
      split_ifs <;> simp

theorem Chip.applyRecord_tick (c : Chip) (r : List Byte) : (c.applyRecord r).tick = c.tick := by
  unfold Chip.applyRecord
  extract_lets p x lv c1
  have hsrc : c1.tick = c.tick := by
    unfold c1
    split <;> simp
  split
  · rw [Chip.setAudLevel_tick, hsrc]
  · exact hsrc

theorem Chip.audSwitch_tick (d before : Nat) (qs : List AudTake) (c : Chip) : (Chip.audSwitch d before qs c).tick = c.tick := by
  induction qs generalizing c with
  | nil => rfl
  | cons q rest ih =>
    unfold Chip.audSwitch
    dsimp only
    split_ifs
    · exact ih c
    · rw [ih]
      exact Chip.foldl_tick _ (fun a r => a.applyRecord_tick r) _ _
    · rfl

theorem Chip.notice_tick (c : Chip) (slot code : Nat) (body : List Byte) : (c.notice slot code body).tick = c.tick := by
  unfold Chip.notice
  extract_lets s s' c1 c2
  have hsent : c2.tick = c.tick := Chip.foldl_tick (fun (a : Chip) (n : Notice) => a.sendMsg slot 3 n.code 0 n.seq n.body) (fun _ _ => rfl) _ c1
  split_ifs
  · exact hsent
  · exact hsent
  · rfl

theorem Chip.noticeTo_tick (c : Chip) (slot session code : Nat) (body : List Byte) : (c.noticeTo slot session code body).tick = c.tick := by
  unfold Chip.noticeTo
  split
  · exact c.notice_tick _ _ _
  · rfl

@[simp] theorem Chip.noticeKept_tick (c : Chip) (slot session code : Nat) (body : List Byte) : (c.noticeKept slot session code body).tick = c.tick := by
  unfold Chip.noticeKept
  split
  · rfl
  · exact c.noticeTo_tick _ _ _ _

theorem Chip.sendApplied_tick (c : Chip) (q : Take) (td : Nat) (always : Bool) : (c.sendApplied q td always).tick = c.tick := by
  refine Chip.foldl_tick _ (fun a i => ?_) _ _
  split <;> simp

theorem Chip.modLayerOf_tick (c : Chip) (d : Nat) (f : Layer → Layer) : (c.modLayerOf d f).tick = c.tick := by
  unfold Chip.modLayerOf
  split <;> rfl

theorem Chip.applyTake_tick (c : Chip) (q : Take) : (c.applyTake q).tick = c.tick := by
  unfold Chip.applyTake
  extract_lets td c1 xpt c2 c3 always rest
  have hserved : c1.tick = c.tick := Chip.foldl_tick _ (by exact fun _ _ => rfl) _ _
  have hnoted : c3.tick = c.tick := by
    unfold c3
    rw [Chip.ctlTake_tick, Chip.modLayerOf_tick]
    exact hserved
  split_ifs
  · exact hnoted
  · exact hnoted
  · rw [Chip.sendApplied_tick, hnoted]

theorem Chip.applyStaged_tick (c : Chip) (d : Nat) : (c.applyStaged d).tick = c.tick := by
  unfold Chip.applyStaged
  extract_lets c1 wait
  rw [Chip.audSwitch_tick]
  refine Chip.foldl_tick _ (fun a q => ?_) _ _
  split
  · dsimp only
    split <;> simp only [Chip.followAudio_tick, Chip.applyTake_tick, Chip.audSwitch_tick]
  · rfl

theorem Chip.applyPilot_tick (c : Chip) (d : Nat) : (c.applyPilot d).tick = c.tick := by
  unfold Chip.applyPilot
  split
  · rfl
  · split
    · rfl
    · exact Chip.foldl_tick _ (by exact fun _ _ => rfl) _ _

theorem Chip.followIfChanged_tick (c before : Chip) (d : Nat) : (c.followIfChanged before d).tick = c.tick := by
  unfold Chip.followIfChanged
  split
  · rfl
  · exact c.followAudio_tick d

theorem Chip.judgeLoads_tick (c : Chip) : c.judgeLoads.tick = c.tick := by
  refine Chip.foldl_tick _ (fun a p => ?_) _ _
  split <;> rfl

theorem Chip.releaseImports_tick (c : Chip) : c.releaseImports.tick = c.tick := by
  unfold Chip.releaseImports
  dsimp only
  split
  · rfl
  · rw [Chip.judgeLoads_tick]
    exact Chip.foldl_tick _ (by exact fun _ _ => rfl) _ _

@[simp] theorem Chip.requestSwap_tick (c : Chip) : c.requestSwap.tick = c.tick := by
  unfold Chip.requestSwap
  split <;> rfl

@[simp] theorem Chip.settle_tick (c before : Chip) : (c.settle before).tick = c.tick := by
  have hpeaks : c.releaseImports.peaks.tick = c.tick := c.releaseImports_tick
  unfold Chip.settle Chip.swapIfChanged
  split
  · exact hpeaks
  · rw [Chip.requestSwap_tick, hpeaks]

/-- A switch leaves the domains as its commit leaves them. -/
theorem Chip.switch_tick (c : Chip) (d : Nat) : (c.switch d).tick = (c.commitFrame (c.dstTd d)).tick := by
  unfold Chip.switch
  extract_lets td c2 c3
  have hpilot : c2.tick = (c.commitFrame td).tick := Chip.applyPilot_tick _ d
  have hstaged : c3.tick = (c.commitFrame td).tick := by
    unfold c3
    split
    · rw [Chip.applyStaged_tick, hpilot]
    · exact hpilot
  rw [Chip.settle_tick, Chip.followIfChanged_tick, Chip.judge_tick, Chip.eachLevel_tick _ _ fun a l => a.moveLevel_tick d l, hstaged]

/-! ## The domains stay as they are: captures, sources and composers at a tick -/

@[simp] theorem Chip.ctl_tick (c : Chip) (set : Nat) (e : Ev) (payload : List Nat) : (c.ctl set e payload).tick = c.tick := rfl

@[simp] theorem Chip.snapshot_tick (c : Chip) (i : Nat) : (c.snapshot i).tick = c.tick := by
  unfold Chip.snapshot
  dsimp only
  rw [Chip.foldl_tick _ (by exact fun _ _ => rfl), Chip.modSet_tick, Chip.foldl_tick _ (by exact fun _ _ => rfl), Chip.foldl_tick _ (by exact fun _ _ => rfl),
    Chip.ctl_tick]

theorem Chip.capTick_tick (c : Chip) (td : Nat) : (c.capTick td).tick = c.tick := by
  refine Chip.foldl_tick _ (fun a i => ?_) _ _
  dsimp only
  split_ifs <;> simp

/-- The domains and the clock. -/
def Chip.times (c : Chip) : TickSt × Nat := (c.tick, c.now)

theorem Chip.foldl_times {α : Type} (f : Chip → α → Chip) (hf : ∀ a x, (f a x).times = a.times) (l : List α) (c : Chip) : (l.foldl f c).times = c.times :=
  List.foldl_keeps (fun a : Chip => a.times = c.times) f (fun a x ha => (hf a x).trans ha) l c rfl

theorem Chip.times_modSet (c : Chip) (i : Nat) (f : CapSet → CapSet) : (c.modSet i f).times = c.times := rfl

theorem Chip.times_gapEvent (c : Chip) (set ch cause count : Nat) : (c.gapEvent set ch cause count).times = c.times := by
  unfold Chip.gapEvent
  dsimp only
  split <;> rfl

theorem Chip.times_writeGap (c : Chip) (set ch : Nat) : (c.writeGap set ch).times = c.times := by
  unfold Chip.writeGap
  split
  · rfl
  · exact Chip.times_gapEvent _ _ _ _ _

theorem Chip.times_loseRecords (c : Chip) (set ch cause count at_ : Nat) : (c.loseRecords set ch cause count at_).times = c.times := by
  unfold Chip.loseRecords
  dsimp only
  rw [Chip.times_modSet]
  split
  · split
    · rfl
    · exact c.times_writeGap set ch
  · rfl

theorem Chip.times_stageRecord (c : Chip) (set ch : Nat) (r : CapRec) : (c.stageRecord set ch r).times = c.times := by
  unfold Chip.stageRecord
  dsimp only
  rw [apply_ite Chip.times, Chip.times_modSet, Chip.times_writeGap, Chip.times_loseRecords, ite_self]

theorem Chip.times_capFrameEnd (c : Chip) (td : Nat) : (c.capFrameEnd td).times = c.times := by
  unfold Chip.capFrameEnd
  extract_lets x whole mine c1 c2 gone
  have hwatch : c1.times = c.times := Chip.foldl_times _ (fun a i => Chip.foldl_times _ (by exact fun _ _ => rfl) _ _) _ _
  have hstaged : c2.times = c1.times := Chip.foldl_times _ (fun a i => Chip.foldl_times _ (fun b k => b.times_stageRecord i k _) _ _) _ _
  exact hstaged.trans hwatch

theorem Chip.times_endBlocks (c : Chip) (td : Nat) : (c.endBlocks td).times = c.times := by
  unfold Chip.endBlocks
  extract_lets n c1
  have hblocks : c1.times = c.times := by
    refine Chip.foldl_times _ (fun a k => ?_) _ _
    dsimp only
    have hslips (l : List Nat) (off : Nat) : (l.foldl (fun (b : Chip) p => b.count Reg.AUD_SRC_SLIP_COUNT p off) a).times = a.times :=
      Chip.foldl_times _ (by exact fun _ _ => rfl) _ _
    split
    · rfl
    · exact hslips _ _
  exact hblocks

theorem Chip.times_lineMisses (c : Chip) (td : Nat) : (c.lineMisses td).times = c.times := Chip.foldl_times _ (by exact fun _ _ => rfl) _ _

theorem Chip.measureLeads_tick (c : Chip) (td : Nat) (facts : List LeadFact) : (c.measureLeads td facts).tick = c.tick :=
  Chip.foldl_tick _ (by exact fun _ _ => rfl) _ _

theorem Chip.showTx_tick (c : Chip) (h : Nat) : (c.showTx h).tick = c.tick := Chip.foldl_tick _ (by exact fun _ _ => rfl) _ _

theorem Chip.tickTx_tick (c : Chip) (td : Nat) : (c.tickTx td).tick = c.tick := by
  refine Chip.foldl_tick _ (fun a h => ?_) _ _
  dsimp only
  split
  · exact a.showTx_tick h
  · rfl

theorem Chip.sendTick_tick (c : Chip) (td : Nat) : (c.sendTick td).tick = c.tick := by
  unfold Chip.sendTick
  split
  · exact Chip.foldl_tick _ (by exact fun _ _ => rfl) _ _
  · rfl

@[simp] theorem Chip.startFrame_tick (c : Chip) (s : Nat) : (c.startFrame s).tick = c.tick := by
  unfold Chip.startFrame
  dsimp only
  split
  · split <;> rfl
  · rfl

theorem Chip.watchFrame_tick (c : Chip) (s : Nat) (f : Format) (n : Nat) (missing : List Nat) : (c.watchFrame s f n missing).tick = c.tick := by
  unfold Chip.watchFrame
  split
  · rfl
  · refine Chip.foldl_tick _ (fun a p => ?_) _ _
    dsimp only
    split <;> rfl

theorem Chip.frameArrived_tick (c : Chip) (s : Nat) : (c.frameArrived s).tick = c.tick := rfl

theorem Chip.ctlArrival_tick (c : Chip) (s n missing : Nat) : (c.ctlArrival s n missing).tick = c.tick := c.ctlFor_tick _ _ _

theorem Chip.endFrame_tick (c : Chip) (s : Nat) (f : Format) : (c.endFrame s f).tick = c.tick := by
  unfold Chip.endFrame
  dsimp only
  split
  · split
    · rw [Chip.event_tick, Chip.count_tick, Chip.modSrc_tick, Chip.watchFrame_tick, Chip.modSync_tick]
    · rw [Chip.frameArrived_tick, Chip.watchFrame_tick, apply_ite Chip.tick, Chip.ctlArrival_tick, Chip.count_tick, ite_self]
      split <;> rfl
  · rfl

theorem Chip.writeStore_tick (c : Chip) (s line row : Nat) (samples : List Nat) (anc : List (List Nat)) : (c.writeStore s line row samples anc).tick = c.tick := by
  unfold Chip.writeStore
  dsimp only
  split
  · split <;> rfl
  · rw [Chip.count_tick, Chip.modSync_tick]
    split <;> rfl

theorem Chip.internalFrame_tick (c : Chip) (s : Nat) (f : Format) (lines : List (Nat × List Nat)) (anc : List (Nat × List Nat)) :
    (c.internalFrame s f lines anc).tick = c.tick := by
  unfold Chip.internalFrame
  dsimp only
  split
  · rw [Chip.endFrame_tick, Chip.foldl_tick _ fun a e => a.writeStore_tick _ _ _ _ _, Chip.startFrame_tick]
    exact Chip.foldl_tick _ (by exact fun _ _ => rfl) _ _
  · exact Chip.foldl_tick _ (by exact fun _ _ => rfl) _ _

@[simp] theorem Chip.showPlayer_tick (c : Chip) (n : Nat) (p : Player) : (c.showPlayer n p).tick = c.tick := by
  unfold Chip.showPlayer
  split
  · rfl
  · exact Chip.internalFrame_tick _ _ _ _ _

@[simp] theorem Chip.setPlayer_tick (c : Chip) (n : Nat) (p : Player) : (c.setPlayer n p).tick = c.tick := by
  unfold Chip.setPlayer
  dsimp only
  split <;> rfl

theorem Chip.playTick_tick (c : Chip) (late : List Nat) (n : Nat) : (c.playTick late n).tick = c.tick := by
  unfold Chip.playTick
  dsimp only
  split_ifs <;> simp

theorem Chip.playersTick_tick (c : Chip) (td : Nat) (late : List Nat) : (c.playersTick td late).tick = c.tick := by
  unfold Chip.playersTick
  split
  · refine Chip.foldl_tick _ (fun a n => ?_) _ _
    split
    · exact a.showPlayer_tick _ _
    · exact a.playTick_tick _ _
  · rfl

theorem Chip.genFrame_tick (c : Chip) (g td : Nat) : (c.genFrame g td).tick = c.tick := by
  unfold Chip.genFrame
  extract_lets x x1 x2
  split
  · rfl
  · split
    · rfl
    · exact Chip.internalFrame_tick _ _ _ _ _

theorem Chip.genTick_tick (c : Chip) (td : Nat) : (c.genTick td).tick = c.tick := by
  unfold Chip.genTick
  split
  · exact Chip.foldl_tick _ (fun a g => a.genFrame_tick g td) _ _
  · rfl

theorem Chip.startBlocks_tick (c : Chip) (td : Nat) : (c.startBlocks td).tick = c.tick := Chip.foldl_tick _ (by exact fun _ _ => rfl) _ _

theorem Chip.decideFrame_tick (c : Chip) (s td : Nat) : (c.decideFrame s td).tick = c.tick := by
  unfold Chip.decideFrame
  extract_lets y fresh c0 c1 d put
  have hfresh : c1.tick = c.tick := by
    unfold c1 c0
    split_ifs <;> rfl
  split
  · exact hfresh
  · dsimp only [put]
    rw [Chip.modSync_tick, apply_ite Chip.tick, apply_ite Chip.tick, Chip.count_tick, Chip.count_tick, hfresh, ite_self, ite_self]

theorem Chip.leaveAwait_tick (c : Chip) (td : Nat) : (c.leaveAwait td).tick = c.tick := by
  refine Chip.foldl_tick _ (fun a e => ?_) _ _
  dsimp only
  split
  · split
    · exact Chip.followAudio_tick _ _
    · rfl
  · rfl

theorem Chip.syncJob_tick (c : Chip) (td : Nat) : (c.syncJob td).tick = c.tick := by
  unfold Chip.syncJob
  dsimp only
  rw [Chip.leaveAwait_tick, Chip.foldl_tick _ fun a s => a.decideFrame_tick s td]

@[simp] theorem Chip.layerFill_tick (c : Chip) (cmp l : Nat) : (c.layerFill cmp l).tick = c.tick := rfl

theorem Chip.latchLayer_tick (c : Chip) (cmp l td : Nat) (j : JobLayer) : (c.latchLayer cmp l td j).tick = c.tick := by
  unfold Chip.latchLayer
  simp only [apply_ite Chip.tick, Chip.modLayer_tick, Chip.layerFill_tick, Chip.count_tick, Chip.event_tick, Chip.mark_tick, ite_self]

theorem Chip.latchOnly_tick (c : Chip) (cmp td : Nat) : (c.latchOnly cmp td).tick = c.tick := Chip.foldl_tick _ (fun a _ => a.latchLayer_tick _ _ _ _) _ _

theorem Chip.noteLevel_tick (c : Chip) (cmp l td : Nat) (j : JobLayer) : (c.noteLevel cmp l td j).tick = c.tick := by
  unfold Chip.noteLevel
  dsimp only
  rw [Chip.modLayer_tick]
  split_ifs <;> rfl

theorem Chip.ctlLayout_tick (c : Chip) (cmp : Nat) (body : List Byte) : (c.ctlLayout cmp body).tick = c.tick :=
  Chip.foldl_tick _ (fun a _ => a.ctlFor_tick _ _ _) _ _

theorem Chip.applyLayout_tick (c : Chip) (y : Layout) : (c.applyLayout y).tick = c.tick := by
  unfold Chip.applyLayout
  extract_lets c1 cmp c2 c3
  have hrecords : c1.tick = c.tick := Chip.foldl_tick _ (by exact fun _ _ => rfl) _ _
  have hshown : c3.tick = c.tick := (Chip.ctlLayout_tick _ _ _).trans hrecords
  split
  · exact (Chip.noticeKept_tick _ _ _ _ _).trans hshown
  · exact hshown

theorem Chip.swapLayouts_tick (cmp tick n : Nat) (c : Chip) : (Chip.swapLayouts cmp tick n c).tick = c.tick := by
  induction n generalizing c with
  | zero => rfl
  | succ n ih =>
    unfold Chip.swapLayouts
    split
    · rfl
    · split
      · rw [ih, Chip.applyLayout_tick]
      · rfl

theorem Chip.cmpJobOf_tick (c : Chip) (cmp td : Nat) : (c.cmpJobOf cmp td).tick = c.tick := by
  unfold Chip.cmpJobOf
  dsimp only
  rw [Chip.foldl_tick _ fun a _ => (Chip.latchLayer_tick _ _ _ _ _).trans (a.noteLevel_tick _ _ _ _), Chip.set_tick, Chip.swapLayouts_tick]

theorem Chip.cmpJob_tick (c : Chip) (td : Nat) : (c.cmpJob td).tick = c.tick := Chip.foldl_tick _ (fun a i => a.cmpJobOf_tick i td) _ _

theorem Chip.reserveFor_tick (c : Chip) (q : TakeAsk) (f : Option Remote) : (c.reserveFor q f).tick = c.tick := by
  unfold Chip.reserveFor
  split
  · rfl
  · dsimp only
    split
    · rfl
    · exact Chip.judgeLoads_tick _

theorem Chip.admitAll_tick (asks : List TakeAsk) (c d : Chip) (id : Nat) (nb : Option (Nat × Nat)) (notify : Bool) (slot session salvo : Nat) (held : Bool)
    (i : Nat) (fs : List Remote) (h : c.admitAll id nb notify slot session salvo held i fs asks = .ok d) : d.tick = c.tick := by
  induction asks generalizing c i fs with
  | nil =>
    unfold Chip.admitAll at h
    injection h with h
    rw [h]
  | cons q r ih =>
    unfold Chip.admitAll at h
    dsimp only at h
    split at h
    · contradiction
    · exact (ih _ _ _ h).trans (Chip.reserveFor_tick _ _ _)

theorem Chip.recheck_tick (c : Chip) (q : Take) (part : List Take) (facts : List Remote) : (c.recheck q part facts).tick = c.tick := by
  unfold Chip.recheck
  extract_lets asks mine without
  split
  · next hadmitted => exact (Chip.admitAll_tick _ _ _ _ _ _ _ _ _ _ _ _ hadmitted).trans rfl
  · exact Chip.noticeTo_tick _ _ _ _ _

theorem Chip.releaseDeferred_tick (td n : Nat) (skip : List Nat) (c : Chip) : (Chip.releaseDeferred td n skip c).tick = c.tick := by
  induction n generalizing skip c with
  | zero => rfl
  | succ n ih =>
    unfold Chip.releaseDeferred
    dsimp only
    split
    · rfl
    · rw [ih, Chip.recheck_tick]

/-! ## The pace of a domain: its frame and the instant of its tick -/

/-- The frame in progress and the instant of its tick. -/
def Chip.pace (c : Chip) (td : Nat) : Nat × Nat := ((c.dom td).frame, (c.dom td).tickAt)

theorem Chip.pace_of_tick {c d : Chip} (h : d.tick = c.tick) (td : Nat) : d.pace td = c.pace td := by
  unfold Chip.pace Chip.dom
  rw [h]

theorem Chip.pace_modDom (c : Chip) (k td : Nat) (f : Domain → Domain) (hf : ∀ x, ((f x).frame, (f x).tickAt) = (x.frame, x.tickAt)) :
    (c.modDom k f).pace td = c.pace td := by
  unfold Chip.pace
  by_cases h : td = k
  · rw [h, Chip.dom_modDom]
    exact hf _
  · rw [Chip.dom_modDom_other _ _ _ _ h]

theorem Chip.pace_switch (c : Chip) (d td : Nat) : (c.switch d).pace td = c.pace td := by
  rw [Chip.pace_of_tick (c.switch_tick d)]
  unfold Chip.commitFrame
  dsimp only
  split
  · exact c.pace_modDom _ _ _ fun _ => rfl
  · rfl

theorem Chip.pace_tickSwitches (c : Chip) (k td : Nat) : (c.tickSwitches k).pace td = c.pace td := by
  refine List.foldl_keeps (fun a : Chip => a.pace td = c.pace td) _ (fun a d ha => (a.pace_switch d td).trans ha) _ _ ?_
  split
  · rfl
  · exact Chip.pace_of_tick (Chip.releaseDeferred_tick _ _ _ c) td

theorem Chip.pace_openJobs (c : Chip) (k td : Nat) (syncInTime cmpInTime : Bool) : (c.openJobs k syncInTime cmpInTime).pace td = c.pace td := by
  unfold Chip.openJobs
  extract_lets c1 c2 c3
  have hsync : c2.tick = c1.tick := by
    unfold c2
    rw [apply_ite Chip.tick, Chip.startBlocks_tick, Chip.syncJob_tick, ite_self]
  have hcompose : c3.tick = c2.tick := by
    unfold c3
    rw [apply_ite Chip.tick, apply_ite Chip.tick, Chip.cmpJob_tick, Chip.foldl_tick _ fun a i => a.latchOnly_tick i k, ite_self, ite_self]
  refine (Chip.pace_modDom _ _ _ _ (by exact fun _ => rfl)).trans ?_
  rw [Chip.pace_of_tick hcompose, Chip.pace_of_tick hsync]
  exact c.pace_tickSwitches k td

theorem Chip.pace_showPhase (c : Chip) (k td : Nat) (phase : Option Int) : (c.showPhase k phase).pace td = c.pace td := by
  unfold Chip.showPhase
  extract_lets ns far was word c1 c2 limit bad c3
  have hphase : c2.pace td = c.pace td := by
    have hset : c2.tick = (c.modDom k (fun m => { m with phase := phase })).tick := by
      unfold c2
      split <;> rfl
    rw [Chip.pace_of_tick hset]
    exact c.pace_modDom _ _ _ fun _ => rfl
  split_ifs <;> exact hphase

theorem Chip.pace_judgeAlign (c : Chip) (k td : Nat) : (c.judgeAlign k).pace td = c.pace td := by
  unfold Chip.judgeAlign
  extract_lets m first auto
  have hauto : auto.pace td = c.pace td := c.pace_modDom _ _ _ fun _ => rfl
  split
  · exact c.pace_modDom _ _ _ fun _ => rfl
  · split
    · split_ifs
      · exact hauto
      · exact c.pace_modDom _ _ _ fun _ => rfl
      · exact c.pace_modDom k td (fun x => { x with due := none, pend := none }) fun _ => rfl
    · exact hauto

/-- A new frame begins with the tick. -/
theorem Chip.pace_beginFrame (c : Chip) (td : Nat) : (c.beginFrame td).pace td = (((c.dom td).frame + 1) % 2 ^ 48, c.now) := by
  unfold Chip.beginFrame
  extract_lets m rate c1 c2 pos
  have hout : c2.tick = c1.tick := by
    unfold c2
    split <;> rfl
  have hbegun : c2.pace td = (((c.dom td).frame + 1) % 2 ^ 48, c.now) := by
    rw [Chip.pace_of_tick hout]
    unfold Chip.pace c1
    rw [Chip.dom_modDom]
  split
  · exact hbegun
  · exact hbegun

theorem Chip.pace_watchTick (c : Chip) (td : Nat) : c.watchTick.pace td = c.pace td :=
  Chip.pace_modDom ({ c with fwa := { c.fwa with ticks := c.fwa.ticks + 1 } } : Chip) 0 td _ fun _ => rfl

/-- What a tick does in a module whose ticks run. -/
def Chip.frameTicked (c : Chip) (td : Fin 4) (leads : List LeadFact) (origin : Option Int) (late : List (Fin 32)) (syncInTime cmpInTime : Bool) : Chip :=
  let on := c.tdOn td
  let c1 := (((c.capFrameEnd td).endBlocks td).lineMisses td).beginFrame td
  let c2 := (c1.showPhase td (c1.tickPhase td origin)).judgeAlign td
  let c3 := ((if on then c2.measureLeads td leads else c2).tickTx td).sendTick td
  let c4 := if on then c3.openJobs td syncInTime cmpInTime else c3
  let c5 := (c4.genTick td).playersTick td (late.map Fin.val)
  (if td = 0 then c5.watchTick else c5).capTick td

theorem Chip.pace_frameTicked (c : Chip) (td : Fin 4) (leads : List LeadFact) (origin : Option Int) (late : List (Fin 32)) (syncInTime cmpInTime : Bool) :
    (c.frameTicked td leads origin late syncInTime cmpInTime).pace td = (((c.dom td).frame + 1) % 2 ^ 48, c.now) := by
  unfold Chip.frameTicked
  extract_lets on c1 c2 c3 c4 c5
  have hended : (((c.capFrameEnd td).endBlocks td).lineMisses td).times = c.times := by
    rw [Chip.times_lineMisses, Chip.times_endBlocks, Chip.times_capFrameEnd]
  have hbegun : c1.pace td = (((c.dom td).frame + 1) % 2 ^ 48, c.now) := by
    refine (Chip.pace_beginFrame _ td).trans ?_
    have htick : (((c.capFrameEnd td).endBlocks td).lineMisses td).tick = c.tick := congrArg Prod.fst hended
    have hnow : (((c.capFrameEnd td).endBlocks td).lineMisses td).now = c.now := congrArg Prod.snd hended
    unfold Chip.dom
    rw [htick, hnow]
  have haligned : c2.pace td = c1.pace td := (Chip.pace_judgeAlign _ _ _).trans (c1.pace_showPhase _ _ _)
  have hmeasured : c3.tick = c2.tick := by
    unfold c3
    rw [Chip.sendTick_tick, Chip.tickTx_tick, apply_ite Chip.tick, Chip.measureLeads_tick, ite_self]
  have hopened : c4.pace td = c3.pace td := by
    unfold c4
    split
    · exact c3.pace_openJobs _ _ _ _
    · rfl
  have hplayed : c5.tick = c4.tick := (Chip.playersTick_tick _ _ _).trans (c4.genTick_tick td)
  have hwatched : (if td = 0 then c5.watchTick else c5).pace td = c5.pace td := by
    split
    · exact c5.pace_watchTick _
    · rfl
  rw [Chip.pace_of_tick (Chip.capTick_tick _ _), hwatched, Chip.pace_of_tick hplayed, hopened, Chip.pace_of_tick hmeasured, haligned, hbegun]

/-! The frame whose job opens does not turn on the instant of the command. -/

theorem Chip.domainDsts_begin (c : Chip) (t td : Nat) : (c.begin t).domainDsts td = c.domainDsts td := by
  unfold Chip.domainDsts
  rfl

theorem Chip.switchAt_begin (c : Chip) (t d k : Nat) : (c.begin t).switchAt d k = c.switchAt d k := by
  unfold Chip.switchAt
  rfl

theorem Chip.earliestOffset_begin (c : Chip) (t td : Nat) : (c.begin t).earliestOffset td = c.earliestOffset td := by
  unfold Chip.earliestOffset
  rw [Chip.domainDsts_begin]
  rfl

theorem Chip.jobFrameOf_begin (c : Chip) (t td : Nat) : (c.begin t).jobFrameOf td = c.jobFrameOf td := by
  unfold Chip.jobFrameOf
  rw [Chip.earliestOffset_begin]
  cases c.earliestOffset td with
  | none => rfl
  | some off => rfl

/-- A job opened of a frame, with the takes that it stages. -/
def Chip.jobOpened (c : Chip) (td : Nat) (f : Nat × Nat) : Chip := (c.modDom td (fun m => { m with jobFrame := some f.1 })).stage td f.2

theorem Chip.jobOpened_spec (c : Chip) (td : Nat) (f : Nat × Nat) :
    ((c.jobOpened td f).dom td).jobFrame = some f.1 ∧ (c.jobOpened td f).now = c.now ∧
      c.jobOpened td f = { c with tick := (c.jobOpened td f).tick, xpt := { c.xpt with queue := (c.jobOpened td f).xpt.queue } } :=
  ⟨congrArg Domain.jobFrame (c.dom_modDom td (fun m => { m with jobFrame := some f.1 })), rfl, rfl⟩

/-- A switch point commits the frame in progress, where its job is open. -/
theorem Chip.commit_commitFrame (c : Chip) (td : Nat) (h : (c.dom td).jobFrame = some (c.dom td).frame) :
    ((c.commitFrame td).dom td).commit = some (c.dom td).frame := by
  unfold Chip.commitFrame
  dsimp only
  rw [if_pos h, Chip.dom_modDom]

/-! ## Sources and counters -/

theorem Chip.src_modSrc (c : Chip) (s : Nat) (f : Source → Source) : (c.modSrc s f).src s = f (c.src s) := Tbl.get_upd _ _ _ _

theorem Chip.src_modSrc_other (c : Chip) (s k : Nat) (f : Source → Source) (h : k ≠ s) : (c.modSrc s f).src k = c.src k := Tbl.get_upd_other _ _ _ _ _ h

/-- The counters that TICK_CLR_OVR clears. -/
def tickCounters : List Fld :=
  (List.range 4).flatMap (fun td => [Reg.TICK_TD_OVR_TAKE td, Reg.TICK_TD_OVR_SYNC td, Reg.TICK_TD_OVR_CMP td, Reg.TICK_TD_OVR_FWA td]) ++
    [Reg.TICK_SLOT_OVR_COUNT]

theorem tickCounters_reset : ∀ f ∈ tickCounters, f.reset = 0 := by decide

theorem tickCounters_domain : ∀ td, td < 4 → Reg.TICK_TD_OVR_TAKE td ∈ tickCounters ∧ Reg.TICK_TD_OVR_SYNC td ∈ tickCounters ∧
    Reg.TICK_TD_OVR_CMP td ∈ tickCounters ∧ Reg.TICK_TD_OVR_FWA td ∈ tickCounters := by decide

/-- The counters that XPT_CLR_CNT clears. -/
def xptCounters : List Fld := [Reg.XPT_REFUSED_COUNT, Reg.XPT_LINE_MISS_COUNT, Reg.XPT_ANC_DROP_COUNT]

theorem xptCounters_reset : ∀ f ∈ xptCounters, f.reset = 0 := by decide

/-- The peaks are other fields than the counters. -/
theorem xptCounters_apart (f : Fld) (hf : f ∈ xptCounters) (b : Nat) (hb : b < 2048) :
    f.key b ≠ Reg.XPT_SLOTS_PEAK.key 0 ∧ f.key b ≠ Reg.XPT_QUEUE_PEAK.key 0 := by
  have happart : ∀ g ∈ xptCounters, g.lo < 32 ∧ (g.addr ≠ Reg.XPT_SLOTS_PEAK.addr ∨ g.lo ≠ Reg.XPT_SLOTS_PEAK.lo) ∧
      (g.addr ≠ Reg.XPT_QUEUE_PEAK.addr ∨ g.lo ≠ Reg.XPT_QUEUE_PEAK.lo) := by decide
  obtain ⟨hlow, hslots, hqueue⟩ := happart f hf
  exact ⟨Fld.key_ne hlow (by decide) (by omega) (by decide) hslots, Fld.key_ne hlow (by decide) (by omega) (by decide) hqueue⟩

/-! ## Alignment -/

/-- A domain aligned: its frame lasts until the next phase origin. -/
def Chip.alignedTo (c : Chip) (td : Fin 4) (mark : Fin 5) (cause : Nat) (ph : Int) : Chip :=
  let m := c.dom td
  let p := framePeriod m.rate
  let e := ((-ph) % (p : Int)).toNat
  let next := m.tickAt + p + e
  let c1 := c.modDom td (fun x => { x with due := none, aligned := true, nextTick := next, arriving := true })
  let c2 := c1.event (if m.aligned then Ev.tickRealigned else Ev.tickAligned) [td.val + cause * 16777216, e / 27, m.frame]
  let c3 : Chip := if td = 0 then
      { c2 with tick := { c2.tick with seqNext := c.alignedPos next mark, stretch := (next - c.tick.sampleAt) % samplePeriod } }
    else c2
  c3.spliceAligned td

theorem Chip.restoreRoutes_frame (c : Chip) :
    c.restoreRoutes.tick = c.tick ∧ c.restoreRoutes.now = c.now ∧ c.restoreRoutes.log = c.log := by
  unfold Chip.restoreRoutes
  dsimp only
  split <;> exact ⟨rfl, rfl, rfl⟩

/-- The splice takes a new epoch when its domains are aligned: of ticks, the clock and the log nothing changes. -/
theorem Chip.spliceAligned_frame (c : Chip) (td : Nat) :
    (c.spliceAligned td).tick = c.tick ∧ (c.spliceAligned td).now = c.now ∧ (c.spliceAligned td).log = c.log := by
  unfold Chip.spliceAligned
  split
  · exact Chip.restoreRoutes_frame _
  · exact ⟨rfl, rfl, rfl⟩

theorem Chip.alignedTo_spec (c : Chip) (td : Fin 4) (mark : Fin 5) (cause : Nat) (ph : Int) :
    (c.alignedTo td mark cause ph).dom td = { c.dom td with
      due := none, aligned := true, arriving := true,
      nextTick := (c.dom td).tickAt + framePeriod (c.dom td).rate + ((-ph) % (framePeriod (c.dom td).rate : Int)).toNat } ∧
    (c.alignedTo td mark cause ph).now = c.now ∧
    (c.alignedTo td mark cause ph).logged (if (c.dom td).aligned then Ev.tickRealigned else Ev.tickAligned)
      [td.val + cause * 16777216, ((-ph) % (framePeriod (c.dom td).rate : Int)).toNat / 27, (c.dom td).frame] := by
  unfold Chip.alignedTo
  extract_lets m p e next c1 c2 ticks c3
  have hdom : c1.dom td = _ := c.dom_modDom td _
  have hlogged := c1.logged_event (if m.aligned then Ev.tickRealigned else Ev.tickAligned) [td.val + cause * 16777216, e / 27, m.frame]
  have hkept : c3.dom td = c1.dom td ∧ c3.now = c.now ∧ c3.log = c2.log := by
    unfold c3
    split <;> exact ⟨rfl, rfl, rfl⟩
  obtain ⟨htick, hnow, hlog⟩ := c3.spliceAligned_frame td
  refine ⟨?_, hnow.trans hkept.2.1, ?_⟩
  · unfold Chip.dom at hdom hkept ⊢
    rw [htick, hkept.1, hdom]
    rfl
  · unfold Chip.logged at hlogged ⊢
    rw [hlog, hkept.2.2]
    exact hlogged

/-- Settles O7: each command by its effect on the domain, the queue, the source or the counters it is for. -/
theorem timingCommandsComplete : Obligations.TimingCommandsComplete := by
  refine ⟨?_, ?_, ?_, ?_, ?_, ?_, ?_⟩
  · intro s t td leads origin late syncInTime cmpInTime hs hrunning
    have hexec : exec (.frameTick t td leads origin late syncInTime cmpInTime) s =
      act t s (fun c => if c.tick.running then c.frameTicked td leads origin late syncInTime cmpInTime else c) := rfl
    have hpace := (s.upon t).pace_frameTicked td leads origin late syncInTime cmpInTime
    generalize hticked : (s.upon t).frameTicked td leads origin late syncInTime cmpInTime = d at hpace
    exact yields_of_act_eq (d := d) hs hexec ((if_pos hrunning).trans hticked) ⟨congrArg Prod.fst hpace, congrArg Prod.snd hpace⟩
  · intro s t td mark cause ph hs hdue hphase
    have hexec : exec (.domainAlignment t td mark) s = execDomainAlignment t td mark s := rfl
    obtain ⟨hdom, hnow, hlogged⟩ := (s.upon t).alignedTo_spec td mark cause ph
    refine yields_of_eq (d := (s.upon t).alignedTo td mark cause ph) hs hexec ?_ hnow ⟨?_, ?_, hlogged⟩
    · have hdue' : ((s.upon t).dom td).due = some cause := hdue
      have hphase' : ((s.upon t).dom td).phase = some ph := hphase
      dsimp only
      rw [hdue', hphase']
      rfl
    · exact congrArg Domain.aligned hdom
    · exact congrArg Domain.nextTick hdom
  · intro s t td hs hrunning hon hsuspended
    have hexec : exec (.takeJobOpen t td) s = execTakeJobOpen t td s := rfl
    have hopen : ((s.upon t).tick.running && (s.upon t).tdOn td && !(s.upon t).suspended) = true := by
      have hon' : (s.upon t).tdOn td = true := hon
      have hsuspended' : (s.upon t).suspended = false := hsuspended
      have hrunning' : (s.upon t).tick.running = true := hrunning
      rw [hon', hsuspended', hrunning']
      rfl
    obtain ⟨hjob, hnow, hframe⟩ := (s.upon t).jobOpened_spec td ((s.upon t).jobFrameOf td)
    generalize hopened : (s.upon t).jobOpened td ((s.upon t).jobFrameOf td) = d at hjob hnow hframe
    rw [Chip.jobFrameOf_begin] at hjob
    exact yields_of_eq (d := d) hs hexec ((if_pos hopen).trans hopened) hnow ⟨hjob, hframe⟩
  · intro s t dst td hs htd hjob
    have hexec : exec (.switchPoint t dst td) s = execSwitchPoint t dst td s := rfl
    have hswitch : (s.upon t).switchIn dst td = (s.upon t).switch dst := if_pos htd
    have htick := (s.upon t).switch_tick dst
    have hcommit := (s.upon t).commit_commitFrame td hjob
    have htd' : (s.upon t).dstTd dst = td := htd.symm
    rw [htd'] at htick
    generalize hswitched : (s.upon t).switch dst = d at hswitch htick
    refine yields_of_act_eq (d := d) hs hexec hswitch ?_
    exact (congrArg (fun x : TickSt => (Tbl.get Domain.reset x.domains td).commit) htick).trans hcommit
  · intro s t src r hs hrate hbound hlost hlate
    have hexec : exec (.sourceLost t src) s = execSourceLost t src s := rfl
    refine yields_of_eq (d := (s.upon t).modSrc src (fun x => { x with lost := true, restore := 0 })) hs hexec ?_ rfl
      ⟨congrArg Source.lost ((s.upon t).src_modSrc src _), fun k hk => (s.upon t).src_modSrc_other src k _ hk, rfl⟩
    have hrate' : (s.upon t).srcRate src = some r := hrate
    have hdue : ((s.upon t).bound src && !((s.upon t).src src).lost &&
        decide (((s.upon t).src src).lastGood + (s.upon t).fld Reg.XPT_SRC_CFG_LOSS_FRAMES src * framePeriod r ≤ (s.upon t).now)) = true := by
      have hbound' : (s.upon t).bound src = true := hbound
      have hlost' : ((s.upon t).src src).lost = false := hlost
      rw [hbound', hlost']
      exact decide_eq_true hlate
    rw [hrate']
    exact if_pos hdue
  · intro s t hs
    have hexec : exec (.tickClrOvr t) s = execTickClrOvr t s := rfl
    have hclear (f : Fld) (hf : f ∈ tickCounters) : (s.upon t).clrTick.fld f 0 = 0 :=
      ((s.upon t).fld_clearAll tickCounters f 0 hf (by decide)).trans (tickCounters_reset f hf)
    refine yields_of_eq hs hexec rfl rfl ⟨fun td htd => ?_, hclear _ (by decide), rfl⟩
    obtain ⟨htake, hsync, hcmp, hfwa⟩ := tickCounters_domain td htd
    exact ⟨hclear _ htake, hclear _ hsync, hclear _ hcmp, hclear _ hfwa⟩
  · intro s t hs
    have hexec : exec (.xptClrCnt t) s = execXptClrCnt t s := rfl
    have hclear (f : Fld) (hf : f ∈ xptCounters) (b : Nat) (hb : b < 2048) :
        (s.upon t).clrXpt.fld f b = 0 := by
      unfold Chip.clrXpt
      have hne := xptCounters_apart f hf b hb
      rw [Chip.fld_set_other _ _ _ _ _ _ hne.1, Chip.fld_set_other _ _ _ _ _ _ hne.2]
      exact ((s.upon t).fld_clearAll _ f b hf (by omega)).trans (xptCounters_reset f hf)
    refine yields_of_eq hs hexec rfl rfl ⟨hclear _ (by decide) 0 (by decide), fun d hd => ⟨hclear _ (by decide) d hd, hclear _ (by decide) d hd⟩, ?_, ?_, rfl⟩
    · exact (Chip.fld_set_other _ _ _ _ _ _ (by decide)).trans (Chip.fld_set _ _ _ _)
    · exact Chip.fld_set _ _ _ _

end Sys2Proof.Machine
end
